-- ==== Sys2Proof/Word.lean ====
section
/-!
DEFINITION. Word.lean: the words of the DS24 register space (R16), bytes, and the index ranges of R11.
-/
namespace Sys2Proof

/-- A register is 32 bits wide (R16). -/
abbrev Word := BitVec 32

/-- A byte of a telegram, an image or a record (R14). -/
abbrev Byte := BitVec 8

/-- Doorway index d of R11. -/
abbrev DIx := Fin 24

/-- Axis or encoder channel a of R11: 0 leaf A, 1 leaf B, 2 step. -/
abbrev AIx := Fin 3

/-- Load channel k of R11. -/
abbrev KIx := Fin 6

/-- Input i of R11. -/
abbrev IIx := Fin 16

/-- Engine pair p of R11. -/
abbrev PIx := Fin 32

/-- Check-value unit u of R11. -/
abbrev UIx := Fin 64

/-- Field ASIC j (R308). -/
abbrev JIx := Fin 4

/-- CAN controller: 0 is CAN-A, 1 is CAN-B (R489). -/
abbrev CIx := Fin 2

/-- Source of a reset edge (R279): CREW_IN of a doorway, or RESET_REQ. -/
inductive ResetSrc where
  | crew (d : DIx)
  | request
deriving DecidableEq, Repr

/-- How a check-value unit and its primary check judge a frame (R406, R408): alike, or differently because the unit is faulty (its
known-answer test fails) or because the primary check is (the test passes). -/
inductive CheckFault where
  | agree
  | unitBad
  | primaryBad
deriving DecidableEq, Repr

/-- A network port (R477): the two consist ports and the service port. -/
inductive Port where
  | ecn0
  | ecn1
  | service
deriving DecidableEq, Repr

/-- A TRDP PD telegram as it arrives (R478–R484): its source, whether the header FCS holds, the major protocol version, whether it is of type
Pd, the header fields that the rules name, and the dataset. -/
structure PdTel where
  src : Word
  fcsOk : Bool
  major : Byte
  isPd : Bool
  comId : Word
  seq : Word
  etb : Word
  opTrn : Word
  len : Word
  data : List Byte
deriving DecidableEq, Repr

/-- A CAN frame (R490, R497). -/
structure CanFrame where
  id : BitVec 29
  ide : Bool
  rtr : Bool
  fdf : Bool
  brs : Bool
  esi : Bool
  dlc : BitVec 4
  data : List Byte
deriving DecidableEq, Repr

/-- A RAP item (R498, R499): OP, COUNT, ADDR and payload. -/
structure RapItem where
  op : Byte
  count : BitVec 16
  addr : Word
  data : List Byte
deriving DecidableEq, Repr

/-- What surrounds the first item of a RAP request telegram (R498): where it came from, SESSION, TAG, and the items that follow. -/
structure RapTel where
  port : Port
  ip : Word
  session : BitVec 16
  tag : BitVec 16
  rest : List RapItem
deriving DecidableEq, Repr

/-- The wake inputs of R515. -/
inductive WakeIn where
  | wake
  | handle
  | button
deriving DecidableEq, Repr

/-- The clock domains that relock without a restart (R521). -/
inductive ClkDom where
  | eng
  | net
  | can
deriving DecidableEq, Repr

/-- What a test at BOOT found failing (R414, R416): for Quickthorn the implementation, the trigger and whether the line asserted without an
injection. -/
inductive BootFail where
  | quickthorn (impl : Fin 2) (trig : Fin 5) (spurious : Bool)
  | enginePair (p : PIx)
  | evalSlot (n : PIx)
  | sysSlot (n : Fin 2)
  | sequencer (d : DIx)
  | dram (r : PIx)
  | dramSystem
  | ckptSlot (n : PIx)
  | cvu (u : UIx)
  | fieldAsic (j : JIx)
deriving DecidableEq, Repr

/-- All doorway indices in rising order. -/
def allD : List DIx := [0, 1, 2, 3, 4, 5, 6, 7, 8, 9, 10, 11, 12, 13, 14, 15, 16, 17, 18, 19, 20, 21, 22, 23]

/-- The three axes in rising order. -/
def allA : List AIx := [0, 1, 2]

/-- The six load channels in rising order. -/
def allK : List KIx := [0, 1, 2, 3, 4, 5]

/-- The sixteen inputs of a doorway in rising order. -/
def allI : List IIx := [0, 1, 2, 3, 4, 5, 6, 7, 8, 9, 10, 11, 12, 13, 14, 15]

/-- The engine pairs in rising order. -/
def allP : List PIx := [0, 1, 2, 3, 4, 5, 6, 7, 8, 9, 10, 11, 12, 13, 14, 15,
  16, 17, 18, 19, 20, 21, 22, 23, 24, 25, 26, 27, 28, 29, 30, 31]

/-- The field ASICs in rising order. -/
def allJ : List JIx := [0, 1, 2, 3]

end Sys2Proof
end

