-- ==== Sys2Proof/Syntax.lean ====
section
/-!
DEFINITION. Syntax.lean: the commands of the DS24, one constructor for each row of the opcode table. Operands are what the command brings from outside:
which doorway, axis, channel, pair or session it concerns, and the bytes, levels or measurements that arrive with it.
-/
namespace Sys2Proof

/-- The commands. -/
inductive Instr where
  /-- SEQUENCER_TICK (R28). The 1 kHz doorway sequencer tick evaluates every transition condition and takes at most one transition by
  the priorities of R29. -/
  | sequencerTick (d : DIx)
  /-- PROOF_PHASE_TIMEOUT (R282). A proof-stroke phase limit expires and the stroke fails with the phase's cause code. -/
  | proofPhaseTimeout (d : DIx)
  /-- SEAL_TIMEOUT (R35). The sealed-gap proof times out after 1.5 s or 3.0 s and the doorway goes to OPENING or HELD, writing 0x3001.
  -/
  | sealTimeout (d : DIx)
  /-- UNLOCK_TIMEOUT (R43). UNLOCK_TIMEOUT expires, PROVEN clears, the doorway goes to STEP_STOW and 0x3002 is written. -/
  | unlockTimeout (d : DIx)
  /-- LOCK_TIMEOUT (R43). LOCK_TIMEOUT expires, the doorway goes to HELD and 0x3002 is written. -/
  | lockTimeout (d : DIx)
  /-- STEP_DEPLOY_TIMEOUT (R43). The 1.2 s step-deploy limit expires, the doorway goes to STEP_STOW and 0x3003 is written. -/
  | stepDeployTimeout (d : DIx)
  /-- STOW_TIMEOUT (R43). STOW_TIMEOUT expires, the doorway goes to HELD and 0x3003 is written. -/
  | stowTimeout (d : DIx)
  /-- WARN_TIME_ELAPSED (R33). WARN_TIME elapses in WARNING and the doorway starts closing. -/
  | warnTimeElapsed (d : DIx)
  /-- AUTO_CLOSE_ELAPSED (R33). The AUTO_CLOSE time elapses in OPEN and raises a close demand. -/
  | autoCloseElapsed (d : DIx)
  /-- RETRY_DELAY_ELAPSED (R42). RETRY_DELAY elapses in HELD and, if a retry remains and a close demand is present, the doorway enters
  WARNING. -/
  | retryDelayElapsed (d : DIx)
  /-- OPEN_REQ (R47). A host write of SEQ_CMD.OPEN_REQ requests opening, taken or refused at the next tick. -/
  | openReq (d : DIx)
  /-- CLOSE_REQ (R42). A host write of SEQ_CMD.CLOSE_REQ raises a close demand, held pending in HELD. -/
  | closeReq (d : DIx)
  /-- PROOF_REQ (R45). A host write of SEQ_CMD.PROOF_REQ requests a proof stroke for the doorway. -/
  | proofReq (d : DIx) (net : Bool)
  /-- PROOF_ALL (R281). A write of TRN_CTL.PROOF_ALL requests a proof stroke for every UNPROVEN doorway. -/
  | proofAll (net : Bool)
  /-- PASSENGER_OPEN_INPUT (R346). A rising filtered edge on PASS_IN or CREW_OPEN_IN is an open request for the doorway. -/
  | passengerOpenInput (d : DIx)
  /-- RESET_EDGE (R280). A valid reset edge on CREW_IN or RESET_REQ acts on each doorway in scope and on loop and SO faults, writing
  0x310A. -/
  | resetEdge (src : ResetSrc)
  /-- RESET_INPUT_HELD_LONG (R278). A reset input active for more than 2,000 ms is ignored and HELD_LONG is set. -/
  | resetInputHeldLong (src : ResetSrc)
  /-- SYNC_SEND (R59). Every 20 ms the DS24 sends SYNC on each head link with time values and FRAME flag. -/
  | syncSend (d : DIx)
  /-- LINE_RECEIVED (R66). A LINE telegram is received, checked under R56 and stored as part of its frame. -/
  | lineReceived (d : DIx) (ok : Bool) (p : List Byte) (cf : CheckFault)
  /-- HELLO_RECEIVED (R72). A HELLO is received and the head identity is checked, writing 0x4104 on failure. -/
  | helloReceived (d : DIx) (ok : Bool) (src : BitVec 48) (p : List Byte)
  /-- HEAD_STATUS_RECEIVED (R61). A STATUS telegram is received, the path delay is measured and lock and fault bits updated. -/
  | headStatusReceived (d : DIx) (ok : Bool) (p : List Byte)
  /-- CFG_ACK_RECEIVED (R74). A CFG_ACK is received and CFG_OK is set when the result and digest match. -/
  | cfgAckReceived (d : DIx) (ok : Bool) (p : List Byte)
  /-- CAL_HDR_RECEIVED (R76). A CAL_HDR telegram with the calibration header is received. -/
  | calHdrReceived (d : DIx) (ok : Bool) (p : List Byte)
  /-- CAL_DATA_RECEIVED (R77). A CAL_DATA telegram is received; after the last one the record's digest is checked and accepted or
  refused with 0x4105. -/
  | calDataReceived (d : DIx) (ok : Bool) (p : List Byte)
  /-- FRAME_LINE_DEADLINE (R69). At T_START + 19.0 ms the frame is closed, late lines are counted missing and the frame is accepted or
  rejected. -/
  | frameLineDeadline (d : DIx)
  /-- DEPTH_FRAME_READY (R87). Depth computation of an accepted frame completes and the frame enters the pipeline stages. -/
  | depthFrameReady (d : DIx)
  /-- HEAD_PHY_LINK_LOSS (R78). The head PHY link goes down and a retrain starts. -/
  | headPhyLinkLoss (d : DIx)
  /-- HEAD_PHY_LINK_UP (R79). The head PHY link comes up and SYNC transmission starts. -/
  | headPhyLinkUp (d : DIx)
  /-- HEAD_RETRAIN_START (R78). A head-link retrain or bring-up starts with HEAD_CMD RESET or PHY training, writing 0x4101. -/
  | headRetrainStart (d : DIx) (cause : Fin 5)
  /-- HEAD_FRAMES_MISSING (R78). Five consecutive frame periods without an accepted frame start a head retrain. -/
  | headFramesMissing (d : DIx)
  /-- HEAD_STATUS_MISSING (R78). Five consecutive SYNCs without a valid STATUS start a head retrain. -/
  | headStatusMissing (d : DIx)
  /-- HEAD_RETRAIN (R78). A host write of HEAD_CTL.RETRAIN starts a head retrain. -/
  | headRetrain (d : DIx)
  /-- HEAD_RETRAIN_WINDOW_EXPIRED (R80). The 400 ms head window runs out; HEAD_FAULT is set as a standing fault and 0x4103 written. -/
  | headRetrainWindowExpired (d : DIx)
  /-- HEAD_BRINGUP_REPEAT (R80). Every 2 s after a failed bring-up a new head bring-up starts. -/
  | headBringupRepeat (d : DIx)
  /-- TILE_SIGNATURE_COMPARE (R137). At the end of the later copy's tile the Binder compares the two tile or list signatures of a
  stage. The other operands are what a fault makes of the two copies (R139), and the later copy's time. -/
  | tileSignatureCompare (p : PIx) (stage : Fin 8) (tile : Fin 300) (badU badR : Word) (skipU skipR ovfU ovfR words : Bool) (dur : BitVec 16)
  /-- BINDER_SELFTEST (R141). Once per frame each joined Binder runs its self-test and a failure is a SELFTEST mismatch. -/
  | binderSelftest (p : PIx) (pass : Bool)
  /-- STAGE_SKEW_TIMEOUT (R139). One copy does not complete a stage within 10 ms of the other and a SKEW mismatch arises. -/
  | stageSkewTimeout (p : PIx) (stage : Fin 8)
  /-- RESIDENT_IMAGE_LOADED (R143). The new pair's resident image load completes and it starts on the latest raw frame. -/
  | residentImageLoaded (p : PIx) (ok : Bool)
  /-- MIGRATION_TIMEOUT (R144). Step 5 is not reached within 80 ms and a fence request with 0x5302 NO_SPARE follows. -/
  | migrationTimeout (d : DIx)
  /-- GOLDEN_TEST_START (R145). Within 1 s of a migration the golden test starts on the vacated pair. -/
  | goldenTestStart (p : PIx)
  /-- GOLDEN_TEST_COMPLETE (R145). The golden test ends; the pair becomes SPARE or FAULTY and 0x4302 is written. -/
  | goldenTestComplete (p : PIx) (pass : Bool)
  /-- GOLDEN_TEST_PERIODIC (R146). Every 600 s each SPARE pair runs the golden test. -/
  | goldenTestPeriodic (p : PIx)
  /-- PAIR_SELFTEST (R146). A write of PAIR_CTL.SELFTEST starts a golden test on a SPARE pair, refused otherwise. -/
  | pairSelftest (p : PIx)
  /-- LOCAL_MEMORY_ECC_ERROR (R145). An uncorrectable engine local-memory error makes its pair FAULTY or SUSPECT. -/
  | localMemoryEccError (p : PIx)
  /-- PAIR_SPLIT (R148). A pair splits after publishing its first post-decision frame and its engines join the task pool, writing
  0x0301 after the last. -/
  | pairSplit (p : PIx)
  /-- COPPICE_REJOIN (R150). A host write of COPPICE_CTL.REJOIN starts a rejoin with trigger code 6. -/
  | coppiceRejoin
  /-- REJOIN_STEP_COMPLETE (R151). A rejoin step completes (tasks stopped, scrubbed, image copied, frame replayed) and the next step
  runs. -/
  | rejoinStepComplete (p : PIx) (ok : Bool)
  /-- REJOIN_COMPLETE (R151). Every pair is bound, spare or suspect; COPPICE clears and 0x0302 is written. -/
  | rejoinComplete
  /-- SEAL_SEAM_TASK (R155). Once per doorway per second the seal-seam task measures the seam openings and may write 0x0303; `ovf` says that an
  accumulator overflows (R149). -/
  | sealSeamTask (d : DIx) (ovf : Bool)
  /-- OCCUPANCY_TASK (R156). Once per doorway per second the occupancy task estimates AREA and COUNT; `ovf` as above. -/
  | occupancyTask (d : DIx) (ovf : Bool)
  /-- LEARN_START (R120). A write of TOPI_CTL.LEARN_START starts a learning run if allowed, writing 0x5205. -/
  | learnStart (d : DIx)
  /-- LEARN_ABORT (R123). A write of TOPI_CTL.LEARN_ABORT ends the run and writes 0x5203. -/
  | learnAbort (d : DIx)
  /-- DISCARD_PENDING (R124). A write of TOPI_CTL.DISCARD_PENDING discards the pending model and writes 0x5204. -/
  | discardPending (d : DIx)
  /-- MODEL_LEARNED (R122). The model build after eight accepted cycles completes; PENDING is set and 0x5201 written. -/
  | modelLearned (d : DIx)
  /-- ADAPTATION_PASS (R125). After 500 ms of CLOSED_LOCKED following a cycle the adaptive offsets are updated, possibly setting
  DRIFT. -/
  | adaptationPass (d : DIx)
  /-- DRIVE_FRAME (R164). Every 25 µs the motion logic processes each axis in fixed order and sends DRIVE_CMD. -/
  | driveFrame (d : DIx)
  /-- AT_REST_REACHED (R173). After REST_TIME idle within REST_WIN the axis sets AT_REST. -/
  | atRestReached (d : DIx) (a : AIx)
  /-- MOVE (R175). A write of AX_CMD.MOVE requests a host move to MOVE_TARGET, refused unless its conditions hold. -/
  | move (d : DIx) (a : AIx)
  /-- STOP (R172). A write of AX_CMD.STOP brings the axis to rest on the stop ramp. -/
  | stop (d : DIx) (a : AIx)
  /-- DRIVE_FB_RECEIVED (R185). A DRIVE_FB is received with currents, status and fault bits; `ok` says that its
  frame had a good FCS, no VLAN tag and EtherType 0x88B5. -/
  | driveFbReceived (d : DIx) (ok : Bool) (p : List Byte) (cf : CheckFault)
  /-- DRIVE_FEEDBACK_TIMEOUT (R187). Ten drive frames without valid DRIVE_FB drop the enables, stall the axes, write 0x4401 and start
  a retrain. -/
  | driveFeedbackTimeout (d : DIx)
  /-- DRIVE_PHY_LINK_LOSS (R187). The drive PHY link goes down and a drive retrain starts. -/
  | drivePhyLinkLoss (d : DIx)
  /-- DRIVE_RETRAIN (R188). A write of DRV_CTL.RETRAIN starts a drive-link retrain. -/
  | driveRetrain (d : DIx)
  /-- DRIVE_PHY_LINK_UP (R188). The drive PHY link comes up and DRIVE_CMD with BRIDGES 0 starts. -/
  | drivePhyLinkUp (d : DIx)
  /-- DRIVE_RETRAIN_WINDOW_EXPIRED (R190). The 5 ms drive window runs out and the doorway is fenced with 0x4403. -/
  | driveRetrainWindowExpired (d : DIx)
  /-- DRIVE_BRINGUP_REPEAT (R190). Every 1 s after a failed retrain a new drive bring-up starts. -/
  | driveBringupRepeat (d : DIx)
  /-- AUTH_CONFLICT_TIMEOUT (R190). AUTH_CONFLICT reported for more than 5 ms fences the doorway with 0x4407. -/
  | authConflictTimeout (d : DIx)
  /-- FAULT_CLEAR_INTERVAL_END (R190). At the end of the 5 ms clearing interval after a reset edge the DRIVE fence source is judged.
  -/
  | faultClearIntervalEnd (d : DIx)
  /-- DEN_TEST_PULSE (R192). Every 50 ms each high drive enable is pulsed off and its readback checked for stuck-on. -/
  | denTestPulse (d : DIx) (out : Fin 2) (on : Bool)
  /-- DEN_READBACK_TIMEOUT (R192). A stuck-off for 5 ms or pod disagreement for 10 ms persists and is a drive-enable fault. -/
  | denReadbackTimeout (d : DIx) (out : Fin 2) (on : Bool)
  /-- ENCODER_COUNT (R200). A filtered quadrature edge counts CNT up or down; A has read `va` in its last `na` samples and B `vb` in its last
  `nb` (R199). -/
  | encoderCount (d : DIx) (a : AIx) (va vb : Bool) (na nb : Nat)
  /-- INDEX_EVENT (R207). An index latches EXT and TICK and checks the index difference, writing 0x4502 on failure; Z has read `z`
  in its last `n` samples. -/
  | indexEvent (d : DIx) (a : AIx) (z : Bool) (n : Nat)
  /-- LINE_FAULT_SAMPLE (R203). Every 1 ms the line-fault detectors are sampled and LOSS is set after 16 active samples or an illegal-
  transition burst. -/
  | lineFaultSample (d : DIx) (a : AIx) (fa fb fz : Bool)
  /-- LOSS_CLEAR (R203). After 100 ms with no active detector LOSS clears. -/
  | lossClear (d : DIx) (a : AIx)
  /-- REFERENCE_MAKE_EDGE (R215). A usable make edge of the reference switch latches REF_CNT and references the axis or records
  REF_DEV. -/
  | referenceMakeEdge (d : DIx) (a : AIx)
  /-- SNAP (R211). A write of POS_CTL.SNAP takes a snapshot latch within one drive frame. -/
  | snap (d : DIx) (a : AIx)
  /-- FIELD_SCAN (R309). Every 100 µs each field ASIC exchanges scan frames, inputs are filtered and pose entries latched. -/
  | fieldScan (j : JIx) (fails : Nat) (valid down : Bool) (ins : List (BitVec 16)) (tls : BitVec 6) (lim : List (BitVec 6)) (pulse : Bool)
  /-- SAFETY_EVAL_CYCLE (R248). Each 0.5 ms evaluation cycle of a safety-evaluation slot evaluates obstacle sources, loop
  contributions and releases. -/
  | safetyEvalCycle (d : DIx)
  /-- SS1_TIMEOUT (R243). 120 ms after t0 STO is commanded whatever the speed. -/
  | ss1Timeout (d : DIx)
  /-- ADC_A_SEQUENCE (R329). Every 16 µs ADC-A converts its 16 channels, classifying edges and supplies. -/
  | adcASequence (j : JIx) (codes : List (BitVec 12)) (ovr : BitVec 16)
  /-- EDGE_FAULT (R230). An edge in a faulty class for 100 ms sets EDGEn_FAULT and writes 0x4701. -/
  | edgeFault (d : DIx) (n : Fin 2)
  /-- EDGE_FAULT_CLEAR (R230). After 1 s of NORMAL conversions EDGEn_FAULT clears. -/
  | edgeFaultClear (d : DIx) (n : Fin 2)
  /-- ADC_B_PASS (R332). Once per field scan ADC-B converts the 36 load-current mirrors. -/
  | adcBPass (j : JIx) (codes : List (BitVec 12)) (ovr : BitVec 36)
  /-- LOCK_CURRENT (R255). Lock current low or high for 20 ms sets LOCK_CUR and writes 0x3104. -/
  | lockCurrent (d : DIx)
  /-- LOCK_STUCK_ON (R255). More than 50 mA on a commanded-off lock channel for 10 ms fences the doorway and writes 0x3107. -/
  | lockStuckOn (d : DIx)
  /-- SWITCH_PLAUSIBILITY (R258). An implausible proving-switch condition for 50 ms sets PLAUS_ERR and writes 0x3106. -/
  | switchPlausibility (d : DIx)
  /-- TRAIN_LINE_CHANGE (R261). A filtered train-line input changes, updating zero speed, releases, orientation, depot or reset. -/
  | trainLineChange (levels : BitVec 12)
  /-- ZERO_SPEED_DISCREPANCY (R262). ZS_1 and ZS_2 differ for 500 ms, setting ZS_DISC and writing 0x3105. -/
  | zeroSpeedDiscrepancy
  /-- DEPOT_MODE_ACTIVE (R263). DEPOT held active for 1 s makes depot mode active. -/
  | depotModeActive
  /-- SIDE_MAP_STABLE (R265). MAP held for 1 s sets STABLE. -/
  | sideMapStable
  /-- SIDE_MAP_MISMATCH (R266). A mismatch row for 2 s sets MISMATCH and writes 0x3102. -/
  | sideMapMismatch
  /-- SIDE_MAP_MISMATCH_CLEAR (R266). A non-mismatch row held for 1 s clears MISMATCH. -/
  | sideMapMismatchClear
  /-- LOOP_TEST_PULSE (R273). In each 50 ms frame the loop and SO switches are pulsed and their readback checked. -/
  | loopTestPulse (w : Fin 12) (conducting : Bool)
  /-- LOOP_READBACK_TIMEOUT (R274). A stuck-off for 5 ms or an overcurrent for 1 ms persists and is a loop or SO output fault. -/
  | loopReadbackTimeout (o : Fin 6) (hs ls : Bool) (mA supply : Nat)
  /-- ISOLATION_DISCREPANCY (R283). ISO_IN and ISO_IN2 differ for 500 ms, setting ISO_DISC and writing 0x310B. -/
  | isolationDiscrepancy (d : DIx)
  /-- HANDLE_OPERATED (R293). The emergency handle becomes operated; SS1 starts, HANDLE_LOOP is set and the sequencer is told. -/
  | handleOperated (d : DIx)
  /-- HANDLE_DISCREPANCY (R292). Handle channels differ for 500 ms, setting HANDLE_DISC and writing 0x4901. -/
  | handleDiscrepancy (d : DIx)
  /-- TPS_PULSE_CHECK (R291). Each test-pulse source pulse is checked on its inputs for cross-shorts, writing 0x4902 or 0x4903. -/
  | tpsPulseCheck (d : DIx) (src : Fin 2) (ch : Fin 4) (shown : Bool)
  /-- GUARD_OPEN (R296). The guard opens and maintenance access, no action or a fence follows, writing 0x3901. -/
  | guardOpen (d : DIx)
  /-- GUARD_CLOSED (R297). The guard closes and maintenance access ends at the next tick. -/
  | guardClosed (d : DIx)
  /-- GUARD_FAULT (R295). Guard channels differ for 500 ms, setting GUARD_FAULT and writing 0x4903. -/
  | guardFault (d : DIx)
  /-- TWO_HAND_CHANGE (R299). A two-hand device is actuated or released and TH_OK is evaluated. -/
  | twoHandChange (d : DIx)
  /-- TWO_HAND_FAULT (R298). An inconsistent contact pair for 50 ms sets TH_FAULT and writes 0x4904. -/
  | twoHandFault (d : DIx) (dev : Fin 2)
  /-- OSSD_CHANGE (R301). An OSSD counts off or on and the curtain off state is evaluated. -/
  | ossdChange (d : DIx)
  /-- LC_DISCREPANCY (R301). OSSDs differ beyond LC_DISC and LC_FAULT is set with 0x4905. -/
  | lcDiscrepancy (d : DIx)
  /-- LC_TEST (R302). A write of PD_CTL.LC_TEST, or entry to OPEN or RUN, starts a Type 2 curtain test. -/
  | lcTest (d : DIx)
  /-- LC_TEST_RESPONSE_TIMEOUT (R302). OSSD1 fails to go off within LC_TEST_RESP or on within 200 ms and LC_FAULT is set. -/
  | lcTestResponseTimeout (d : DIx)
  /-- LC_TEST_OVERDUE (R302). 24 h of RUN without a passing test set LC_FAULT kind 4. -/
  | lcTestOverdue (d : DIx)
  /-- FIELD_SUPPLY_CHANGE (R314). VFIELD enters LOW or MISSING or returns to OK, writing 0x8A03. -/
  | fieldSupplyChange (d : DIx) (st : Fin 3)
  /-- ALIVE_LOST (R326). An ASIC without a valid alive pulse for 1 ms switches its outputs off and latches ALIVE_LOST. -/
  | aliveLost (j : JIx)
  /-- ASIC_REARM (R326). A downstream re-arm command after 10 ms of valid pulse re-arms the ASIC. -/
  | asicRearm (j : JIx)
  /-- THERMAL_SHUTDOWN (R319). A load channel reaches 160 °C and enters TSD or OFF_LATCHED, writing 0x8A06 or 0x8A01. -/
  | thermalShutdown (d : DIx) (k : KIx)
  /-- CHANNEL_COOLED (R319). A channel in TSD cools below 145 °C and restarts or goes to OFF or UV_OFF. -/
  | channelCooled (d : DIx) (k : KIx)
  /-- INRUSH_WINDOW_END (R318). INRUSH_WIN ends and the channel passes to ON at the lower limit. -/
  | inrushWindowEnd (d : DIx) (k : KIx)
  /-- CLAMP_END (R322). An inductive clamp ends and the channel enters LOCKED_CLAMP if the budget was reached, writing 0x8A02. -/
  | clampEnd (d : DIx) (k : KIx) (cur : List Nat)
  /-- CLEAR (R323). A write of CH_CTL.CLEAR clears a latched channel if allowed, writing 0x8A04, else sets REFUSED. -/
  | clear (d : DIx) (k : KIx)
  /-- LIMP_HOME_CHANGE (R327). Limp-home starts or ends in an ASIC and 0x8A05 is written. -/
  | limpHomeChange (j : JIx) (en : Bool)
  /-- IMAGE_VERIFY (R350). A write of CFG_CTL.VERIFY starts verification of the image in the load slot. -/
  | imageVerify (cf : CheckFault)
  /-- IMAGE_VERIFIED (R351). Verification completes; the image is refused with 0x5B02 or verified with 0x5B01 and becomes running,
  pending or keystore. -/
  | imageVerified
  /-- DISCARD (R355). A write of CFG_CTL.DISCARD removes a pending or waiting image and writes 0x5B08. -/
  | discard
  /-- COMMIT_PRESS (R354). A COMMIT press commits the armed confirmation, making an image waiting or running or confirming a model. -/
  | commitPress (ms : Nat)
  /-- CONFIRM_LAPSED (R354). 60 s pass without COMMIT and the arming lapses with 0x5B06. -/
  | confirmLapsed
  /-- STRUCTURAL_ACTIVATION (R509). When its conditions hold a waiting structural image is activated through CONFIG. -/
  | structuralActivation
  /-- EVAL_SLOT_FAULT (R378). A safety-evaluation slot mismatch or self-test failure fences the doorway and rebinds it, writing
  0x4C01. -/
  | evalSlotFault (d : DIx) (kind : Fin 3)
  /-- SLOT_MOVE_COMPLETE (R378). The new slot has loaded and checked the doorway's safety parameters. -/
  | slotMoveComplete (d : DIx) (ok : Bool)
  /-- DRAM_REGION_DEGRADED (R377). A region reaches 16 correctable errors in 24 h and 0x4C02 is written. -/
  | dramRegionDegraded (r : PIx)
  /-- DEFERRED_MOVE_START (R377). A pending DRAM or image move starts once the doorway is at rest in an allowed state. -/
  | deferredMoveStart (d : DIx)
  /-- DEFERRED_MOVE_COMPLETE (R375). A region or pool move completes and the new binding is in force. -/
  | deferredMoveComplete (d : DIx) (pool : Fin 8)
  /-- DRAM_UNCORRECTABLE (R401). An uncorrectable DRAM error takes the module to SAFE or marks a spare FAULTY, writing 0x4D02. -/
  | dramUncorrectable (addr : Word) (region : Fin 33) (scrub : Bool)
  /-- FABRIC_FAULT (R402). A fabric transfer failing twice takes the module to SAFE with 0x4D04. -/
  | fabricFault (port : Byte) (data : Bool)
  /-- CONFIG_SCRUB_PASS (R403). A scrub pass over a configuration region completes; a mismatch fences or enters SAFE and writes
  0x4D03. -/
  | configScrubPass (region : Fin 26) (ref val : Word) (us : BitVec 16) (kat : Bool)
  /-- SEQUENCER_MISMATCH (R404). A sequencer lockstep mismatch fences the doorway until BOOT and writes 0x4D08. -/
  | sequencerMismatch (d : DIx)
  /-- COMPARATOR_SELFTEST (R404). Every 10 ms each slot comparator is fed a differing bit and must flag it. -/
  | comparatorSelftest (slot : Fin 34) (flagged : Bool)
  /-- CVU_REBOUND (R408). The rebound unit passes its known-answer test and is enabled, writing 0x4D0C. -/
  | cvuRebound (u : UIx) (pass : Bool)
  /-- WATCHDOG_SERVICE (R409). The supervisor writes the next watchdog word, valid only between 2 ms and 8 ms. -/
  | watchdogService (right : Bool)
  /-- WATCHDOG_EXPIRY (R409). No valid watchdog service by 8 ms trips Quickthorn. -/
  | watchdogExpiry
  /-- QUICKTHORN_TRIP (R411). A Quickthorn trigger imposes SAFE, releases authority and holds the supervisor in reset. -/
  | quickthornTrip (bit : Fin 5) (byS byA : Bool)
  /-- ENG_CLOCK_LOSS (R391). Loss of the ENG clock takes the module to SAFE with cause 4 and writes 0x4D0D. -/
  | engClockLoss
  /-- CYCLE_DUE (R395). HOURS reaches 24 without a full cycle, setting CYCLE_DUE and writing 0x4D0B. -/
  | cycleDue (d : DIx)
  /-- RECOVERY_WINDOW_EXPIRED (R397). A recovery window's length runs out and it closes with its own rule's outcome. -/
  | recoveryWindowExpired (kind : Fin 8) (n : Fin 25)
  /-- PARTNER_RESTART_IN (R417). A 10–100 ms low pulse on RESTART_IN restarts the module with HOW 3. -/
  | partnerRestartIn (ms : Nat)
  /-- EPOCH_SEND (R426). Every 1 ms the module sends an EPOCH on both mirror lanes. -/
  | epochSend
  /-- EPOCH_RECEIVED (R427). An EPOCH is received and applied, ignored, or treated as a gap. -/
  | epochReceived (c0 c1 : List Byte) (cf : CheckFault)
  /-- RESYNC_REQ_RECEIVED (R428). A RESYNC_REQ is received and the authority freezes and sends a snapshot. -/
  | resyncReqReceived (c0 c1 : List Byte) (cf : CheckFault)
  /-- SNAP_RECEIVED (R428). A SNAP frame is received and buffered for the state phase. -/
  | snapReceived (c0 c1 : List Byte) (cf : CheckFault)
  /-- CONTENT_RECEIVED (R428). A CONTENT frame is received and written to flash. -/
  | contentReceived (c0 c1 : List Byte) (cf : CheckFault)
  /-- REC_FWD_RECEIVED (R424). A forwarded record is received and staged with the PARTNER flag. -/
  | recFwdReceived (c0 c1 : List Byte) (cf : CheckFault)
  /-- MIRROR_ACK_RECEIVED (R425). An ACK for a SNAP, CONTENT or REC_FWD frame is received. -/
  | mirrorAckReceived (c0 c1 : List Byte) (cf : CheckFault)
  /-- MIRROR_LOST (R425). No valid EPOCH for 3 ms loses the link and writes 0x6004. -/
  | mirrorLost
  /-- RESYNC_WINDOW_EXPIRED (R428). The 300 ms state phase runs out, a new one starts and 0x6005 is written. -/
  | resyncWindowExpired
  /-- CLAIM_AUTHORITY (R429). A claim condition holds and the module claims authority. -/
  | claimAuthority
  /-- BOTH_CLAIMED (R430). Both AUTH lines claimed for over 2 ms make slot B withdraw. -/
  | bothClaimed
  /-- TAKEOVER_WINDOW_EXPIRED (R434). At 20 ms after a claim unsettled doorways are fenced with source 2. -/
  | takeoverWindowExpired
  /-- TAKEOVER_INPUT_CHECK (R435). At 200 ms after a claim inputs are compared with the epoch and TAKEOVER_HOLD clears or 0x6007 is
  written. -/
  | takeoverInputCheck (d : DIx)
  /-- HANDOVER_REQ (R437). A REMOVE press or write of CTL.HANDOVER_REQ requests a handover, refused without a STANDBY partner. -/
  | handoverReq (remove : Bool) (ms : Nat)
  /-- CANCEL (R437). A write of CTL.CANCEL or a second press withdraws a waiting handover. -/
  | cancel
  /-- HANDOVER_START (R437). At the first tick with no motion or proof stroke the handover epoch with HANDOVER = 1 is sent. -/
  | handoverStart
  /-- RESYNC (R428). A write of CTL.RESYNC requests a state phase, refused with authority. -/
  | resync
  /-- PARTNER_RESTART (R440). A write of CTL.PARTNER_RESTART pulses RESTART_OUT and writes 0x6008. -/
  | partnerRestart
  /-- AUTO_PARTNER_RESTART (R440). After RESTART_WAIT without partner heartbeat an automatic restart pulse is sent. -/
  | autoPartnerRestart
  /-- SAFE_CAUSE_PAIR_CLEAR (R432). After 10 s of agreeing lines SAFE cause 9 clears. -/
  | safeCausePairClear
  /-- VARIANT_MISMATCH_CLEAR (R9). VARIANT_MISMATCH clears after 1 s without a valid partner epoch. -/
  | variantMismatchClear
  /-- RECORD_DEQUEUE (R452). The queue head takes its sequence number and moves to its page buffer once allowed. -/
  | recordDequeue
  /-- PAGE_BUFFER_TIMEOUT (R452). The first record of a page buffer has waited 1 s and the page is programmed. -/
  | pageBufferTimeout (i : Fin 4)
  /-- PAGE_PROGRAM_COMPLETE (R458). A page program ends and is read back, with torn pages restaged and 0x4F01 written. -/
  | pageProgramComplete (back : List Byte) (stable : BitVec 8) (cf : CheckFault)
  /-- BLOCK_ERASE_COMPLETE (R458). A block erase ends and the block becomes writable or retired. -/
  | blockEraseComplete (ok : Bool)
  /-- TIME_ANCHOR (R446). Periodically, or on first or stepped network time, 0xF001 is staged. -/
  | timeAnchor
  /-- RECORDER_READY (R460). The page index is built; READY is set and 0x0F01 written. -/
  | recorderReady
  /-- RESOLVE (R461). A write of SNAP_CTL.RESOLVE starts resolution of a snapshot list. -/
  | resolve (i : Fin 8)
  /-- SNAPSHOT_RESOLVED (R461). Snapshot resolution completes and DONE is set. -/
  | snapshotResolved (i : Fin 8)
  /-- SNAPSHOT_ENTRY_READ (R462). A read of a snapshot entry's word 0 fixes its content as record, GONE or ABSENT. -/
  | snapshotEntryRead (i : Fin 8) (j : Fin 8192)
  /-- EXPORT (R463). A write of SNAP_CTL.EXPORT switches to the 32-byte DS8 export, refused at level 0. -/
  | export_ (i : Fin 8) (on : Bool)
  /-- FORENSIC_ENTRY_READ (R464). A read of a forensic entry reads the slot twice and sets FOR_STATUS. -/
  | forensicEntryRead (i : Fin 8) (j : Fin 8192) (differ : Bool)
  /-- CHECKPOINT (R467). A write of REC_CTL.CHECKPOINT writes a checkpoint image of every doorway. -/
  | checkpoint (bad : Word)
  /-- SCRUB (R470). A write of REC_CTL.SCRUB or the 24 h interval starts a recorder scrub pass. -/
  | scrub (byWrite : Bool)
  /-- REFRESH (R471). A write of REC_CTL.REFRESH or a retention trigger starts a retention refresh. -/
  | refresh (byWrite : Bool)
  /-- AREA_REFRESH (R471). A retention refresh completes and 0xF003 is written. -/
  | areaRefresh
  /-- PD_TELEGRAM_RECEIVED (R479). A TRDP PD telegram is checked and accepted by its subscribed row, including SDTv2 checks. -/
  | pdTelegramReceived (p : Fin 2) (t : PdTel)
  /-- PD_ROW_TIMEOUT (R479). A subscribed row receives nothing for TIME ms, turns invalid and may write 0x4E03. -/
  | pdRowTimeout (r : Fin 64)
  /-- SDT_TIMEOUT (R484). An SDT row receives no passing telegram for TIMEOUT and turns invalid, writing 0x4E02. -/
  | sdtTimeout (n : Fin 16)
  /-- PD_PUBLISH (R483). Every TIME ms a publish row sends its telegram while the module holds authority. -/
  | pdPublish (k : Fin 16)
  /-- MD_REQUEST (R486). A TRDP Mr with MD_COMID carries a RAP request answered with an Mp. -/
  | mdRequest (p : Fin 2) (ip comId : Word) (b : List Byte)
  /-- CAN_FRAME_RECEIVED (R490). A CAN frame is filtered into a queue, a latest-value slot or discarded. -/
  | canFrameReceived (c : CIx) (f : CanFrame)
  /-- POP (R491). A write of RXQn_CTL.POP removes the oldest queue entry. -/
  | pop (c : CIx) (q : Fin 2)
  /-- SLOT_FHDR_READ (R492). A read of a slot's FHDR latches the entry and clears NEW. -/
  | slotFhdrRead (i : Fin 8) (c : CIx) (n : Fin 8)
  /-- REQ (R493). A write of TX_CTL.REQ requests transmission of a buffer. -/
  | req (c : CIx) (b : Fin 3)
  /-- ABORT (R493). A write of TX_CTL.ABORT removes a transmit request unless the frame is on the bus. -/
  | abort (c : CIx) (b : Fin 3)
  /-- CAN_TX_COMPLETE (R493). A requested frame is sent and DONE is set. -/
  | canTxComplete (c : CIx)
  /-- CAN_BUS_OFF (R494). The controller goes bus-off, stops and writes 0x4E01. -/
  | canBusOff (c : CIx)
  /-- RECOVER (R494). A write of CAN_CTL.RECOVER starts bus-off recovery. -/
  | recover (c : CIx)
  /-- CAN_RECOVERY_COMPLETE (R494). After 128 × 11 recessive bits the controller leaves bus-off. -/
  | canRecoveryComplete (c : CIx)
  /-- PANEL_STATUS_SEND (R496). Every 100 ms, or within 10 ms of a change, the panel status frame is sent. -/
  | panelStatusSend (c : CIx)
  /-- OPEN (R499). A RAP OPEN item opens a session bound to its port. -/
  | open_ (t : RapTel) (count : BitVec 16)
  /-- CLOSE (R499). A RAP CLOSE item closes the session. -/
  | close (t : RapTel) (count : BitVec 16)
  /-- READ (R503). A RAP READ item reads words, waiting for overlapping queued writes. -/
  | read (t : RapTel) (count : BitVec 16) (addr : Word)
  /-- WRITE (R502). A RAP WRITE item is checked and queued as a posted entry. -/
  | write (t : RapTel) (count : BitVec 16) (addr : Word) (data : List Byte)
  /-- SYNC (R499). A RAP SYNC item completes when the session's queue is empty. -/
  | sync (t : RapTel) (count : BitVec 16)
  /-- LOAD (R499). A RAP LOAD item queues image bytes for the load slot, discarding any pending image on first write. -/
  | load (t : RapTel) (count : BitVec 16) (ofs : Word) (data : List Byte)
  /-- CONFIRM (R354). A RAP CONFIRM item arms a confirmation or is refused with 0x5B05. -/
  | confirm (t : RapTel) (count : BitVec 16) (data : List Byte)
  /-- POSTED_WRITE_APPLY (R502). A queued write entry is applied, dropping RWL fields if CONFIG was left. -/
  | postedWriteApply (i : Fin 8)
  /-- RAP_SESSION_TIMEOUT (R501). A session closes after 30 s without a telegram, writing 0x0E02. -/
  | rapSessionTimeout (i : Fin 8)
  /-- REGISTER_WRITE (R17). A write to a register without its own row sets its fields by their access codes. -/
  | registerWrite (i : Fin 8) (addr value : Word)
  /-- RC_REGISTER_READ (R17). A read of an RC register returns its value and clears it. -/
  | rcRegisterRead (i : Fin 8) (addr : Word)
  /-- LOW_WORD_READ (R19). A read of a 64-bit counter's low word latches the high word for the session. -/
  | lowWordRead (i : Fin 8) (addr : Word)
  /-- ECN_LINK_CHANGE (R477). A network port link goes up or down, writing 0x0E01. -/
  | ecnLinkChange (p : Port) (up : Bool)
  /-- POWER_GOOD (R506). The main rail has been good for 50 ms and BOOT starts. -/
  | powerGood
  /-- BOOT_COMPLETE (R506). BOOT tests and image checks complete and the module enters CONFIG. -/
  | bootComplete (fails : List (BootFail × Bool))
  /-- CONFIG_EXIT (R507). Link conditions are met; the first role decision is made and PROVE starts. -/
  | configExit
  /-- PROVE_COMPLETE (R507). PROVE completes and the module enters RUN or SAFE with every doorway UNPROVEN. -/
  | proveComplete
  /-- MAIN_SUPPLY_LOSS (R511). VMAIN enters LOSS and the module runs on hold-up. -/
  | mainSupplyLoss (vmain : BitVec 16)
  /-- RIDE_THROUGH_END (R511). At 10 ms the ride-through ends with 0x7001 or a power-fail shutdown starts. -/
  | rideThroughEnd (vmain us low : BitVec 16)
  /-- SUPPLY_EXCURSION (R510). VMAIN in EXCURSION beyond 100 ms enters SAFE cause 8 and writes 0x7002. -/
  | supplyExcursion (vmain extreme : BitVec 16) (ms : BitVec 16)
  /-- SUPPLY_NORMAL_RESTORED (R510). VMAIN NORMAL for 1 s clears SAFE cause 8. -/
  | supplyNormalRestored (vmain ms : BitVec 16)
  /-- HOLDUP_MEASUREMENT (R512). At BOOT and every 24 h the hold-up bank is measured, writing 0x7008 if short. -/
  | holdupMeasurement (ms volts : BitVec 16)
  /-- KEEP_REQ (R514). A write of PWR_CTL.KEEP_REQ requests KEEP entry, refused unless allowed. -/
  | keepReq
  /-- AUTO_KEEP (R514). WAKE inactive for KEEP_DELAY starts automatic KEEP entry. -/
  | autoKeep
  /-- WAKE (R516). A filtered wake input latches PWR_WAKE and switches the main rail on. -/
  | wake (i : WakeIn) (active : Bool)
  /-- VKEEP_LOSS (R516). Loss of VKEEP in KEEP boots the module at once with HOW 1. -/
  | vkeepLoss
  /-- TEMPERATURE_SAMPLE (R523). Every 1 ms the junction sensors are read and the SHED level raised at once if a threshold is reached.
  -/
  | temperatureSample (x0 x1 x2 x3 x4 x5 x6 x7 board : BitVec 16)
  /-- SHED_LEVEL_EXIT (R524). After 10 s at or below a level's exit threshold the SHED level drops by one, writing 0x7006. -/
  | shedLevelExit
  /-- PLL_LOCK_LOSS (R521). A PLL loses lock or a SHED change needs a relock and the relock starts. -/
  | pllLockLoss (d : ClkDom)
  /-- CLOCK_RELOCK (R521). A relock ends, locked or failed, writing 0x7007. -/
  | clockRelock (d : ClkDom) (locked : Bool)
  /-- RELOCK_RETRY (R521). Every 100 ms after a failed relock the DS24 retries. -/
  | relockRetry (d : ClkDom)
  /-- BOTH_BUTTONS_HELD (R544). COMMIT and REMOVE held together for 50 ms count as no press. -/
  | bothButtonsHeld
  /-- MIRROR_LANE_FAULT (R425). One mirror lane delivers no valid frame for 3 ms while the other does, and LANE_FAULT is set. -/
  | mirrorLaneFault (lane : Fin 2)
  /-- ENG_CLOCK_RESTORED (R391). The ENG clock has been back in tolerance for 10 ms, a precondition for SAFE cause 4 to clear. -/
  | engClockRestored
  /-- KEEP_CRYSTAL_STOPPED (R517). The 32.768 kHz keep-alive crystal stops, the domain falls back to the internal RC and KEEP_RC is
  set. -/
  | keepCrystalStopped
  /-- HANDLE_DISCREPANCY_CLEAR (R292). On DS24-8 and DS24-16 HANDLE_DISC clears once both handle channels have agreed for 1 s. -/
  | handleDiscrepancyClear (d : DIx)
  /-- GUARD_FAULT_CLEAR (R295). GUARD_FAULT and a guard cross-short clear after both channels have read made and followed their pulses
  for 1 s. -/
  | guardFaultClear (d : DIx)
  /-- TWO_HAND_FAULT_CLEAR (R298). TH_FAULT clears when both devices have been released with consistent contacts for 1 s. -/
  | twoHandFaultClear (d : DIx)
  /-- CLAMP_WINDOW_BUCKET (R322). Every 62.5 ms the clamp integrator advances to the next bucket and zeroes it, ageing clamp energy
  out of the window. -/
  | clampWindowBucket (d : DIx) (k : KIx)
  /-- LIMP_HOME_INPUT_CHANGE (R327). A filtered LH_IN input changes while limp-home is active and the bound channel takes it as its
  command. -/
  | limpHomeInputChange (i : IIx) (level : Bool)
  /-- PARTNER_AUTH_LINE_CHANGE (R437). The partner's AUTH line changes, for example when the outgoing module sees the incoming claim
  and releases its own line during a handover. -/
  | partnerAuthLineChange (claimed : Bool)
  /-- PARTNER_PRESENCE_CHANGE (R440). The PRES pin shows the partner fitted or removed, updating PARTNER_PRESENT and starting the
  RESTART_WAIT count. -/
  | partnerPresenceChange (fitted : Bool)
  /-- DRAM_CORRECTABLE_ERROR (R401). A correctable DRAM error is corrected and counted against its region and in FLT_DRAM. -/
  | dramCorrectableError (r : Fin 33)
  /-- RECORDER_SCRUB_COMPLETE (R470). A recorder scrub pass over every non-erased slot and checkpoint image ends, resetting the
  REC_SCRUB hour count. -/
  | recorderScrubComplete (lost : List Nat) (badImg : Word)
  /-- MAIN_RAIL_OFF (R511). The hold-up is exhausted, or KEEP entry completes, and the main rail goes off, ending MOD.STATE. -/
  | mainRailOff
  /-- KEEP_ENTRY_TIMEOUT (R514). Five seconds after KEEP acceptance the main rail goes off and records still staged are latched as
  under supply loss. -/
  | keepEntryTimeout
  /-- WAKE_HOLD_ELAPSED (R516). The minimum 100 ms off time after KEEP entry ends and a held wake switches the main rail on. -/
  | wakeHoldElapsed
  /-- CAN_BUS_ERROR (R494). A CAN transmit or receive error updates TEC, REC, LEC and the error-active or error-passive state. -/
  | canBusError (c : CIx) (tx : Bool) (lec : Fin 7) (by_ : Fin 9)
deriving DecidableEq, Repr

end Sys2Proof
end

