-- ==== Sys2Proof/Decode.lean ====
section
/-!
DEFINITION. Decode.lean: words that spell commands. The opcode table gives no row any bits: a command of this block arrives as an event on a
pin, a link or a register, and its operands with it.
-/
namespace Sys2Proof

/-- The command that a word spells by the table's bits: none, as no row has bits. -/
def decodeTableWord (_nbits _w : Nat) : Option Instr := none

end Sys2Proof
end

