-- ==== Sys2Proof/Config.lean ====
section
/-!
DEFINITION. Config.lean: what the spec leaves to the implementation or to other standards: opaque constants without a body, so that no
proof can see a value.
-/
namespace Sys2Proof.Config

/-- Free values, one for each use of the counter of State (log entry 4). -/
opaque freeValue : Nat → BitVec 32

/-- The fixed internal sine table (R180, R232): sine of n × 2π / 1,024, in 1/32,768 (log entry 7). -/
opaque sine : Nat → Int

/-- The duty of R182 while VBUS reads 0, for the voltage asked for, µV (log entry 8). -/
opaque dutyAtZeroBus : Int → Int

/-- SHA-256 (R349, R350), and Ed25519 verification of a signature over a digest with a public key (log entry 9). -/
opaque sha256 : List Byte → List Byte
opaque ed25519 : List Byte → List Byte → List Byte → Bool

/-- The safety code of an SDTv2 safety data unit, for a SMI and an opTrnTopoCnt, over the data before it (R484, log entry 9). -/
opaque sdtSafetyCode : Nat → Nat → List Byte → Nat

/-! ## Depth and scene geometry (log entries 12 and 13)

Lengths in the coordinates of R92 are in 1/1,024 mm. -/

/-- How far the fixed-point phase of (I, Q) lies from the rounded arctangent (R84), in units of 2π/65,536; the model bounds it, and takes it
whole for (0, 0), where R82 states no angle (log entry 12). -/
opaque phaseDev : Int → Int → Int

/-- What a code of a slot of channel 15 of ADC-A says, in the unit of its register (R329 states no scale, log entry 11): slot, code. -/
opaque slotValue : Nat → Nat → Nat

/-- Lead of T_START over the 2 ms of R64 after the SYNC that announces it, ticks. -/
opaque frameLead : Nat

/-- Undistorted direction of a pixel for K1, K2 of R76 (x, y over the focal length, in 2⁻²⁴). -/
opaque undistort : Int → Int → Int → Int → Int × Int

/-- The pose that the 12 bytes of a keyframe hold (R93, R95), as components that interpolate linearly. -/
opaque keyPose : List Byte → List Int

/-- Range of a body along a ray, if the ray meets it (R93, R100): the bytes of its sheet, its pose, origin and direction of the ray in the
coordinates of R92, and the length of the direction; in depth units. -/
opaque render : List Byte → List Int → List Int → List Int → Nat → Option Nat

/-- Leading edge of a leaf at a height (R93, R97): the bytes of its polyline, its pose and z; x of the edge and y of its inner face there. -/
opaque leafEdge : List Byte → List Int → Int → Int × Int

/-- Learned travel of an axis, 0.01 mm (R93, R100), and the learned height of the vestibule floor (R156), from a model. -/
opaque travel : List Byte → Nat → Int × Int
opaque floorHeight : List Byte → Int

/-- What the accepted cycles of a learning run have fitted so far, in the layout of R95 (R121, R122): positions of the axes in 0.01 mm and depths
of each frame of the cycles, and of each frame of the deploy and stow strokes, none where a pixel is invalid. -/
opaque fitSoFar : List (List Int × List (Option Nat)) → List (List Int × List (Option Nat)) → List Byte

end Sys2Proof.Config
end

