-- ==== Sys2Proof/Machine/Fields.lean ====
section
/-!
DEFINITION. Machine/Fields.lean: the registers and fields of the DS24 by their manual names, one constant each: the byte address,
the lowest bit and the width. Written from the register and field tables of every chapter (R10, R46, R89, R127, R158-R160, R195,
R196, R222-R224, R250, R284, R285, R305, R313, R315, R325, R328, R364, R383, R418, R419, R441, R474, R475, R488, R497, R527, R528, R538)
and the bases of R540. `RP_` stands for the prefix PAIR and `NPD_` for NET where R537 asks for a prefix.
-/
namespace Sys2Proof.Machine

/-- A register field: byte address, lowest bit, width. A whole register has lowest bit 0 and width 32. -/
structure Fld where
  addr : Nat
  lo : Nat
  w : Nat
deriving DecidableEq, Repr

/-- Doorway window (R540). -/
abbrev dw (d : DIx) (o : Nat) : Nat := 0x10000 + d.val * 0x1000 + o

/-- Axis group of a doorway window (R540, AX). -/
abbrev ax (d : DIx) (a : AIx) (o : Nat) : Nat := 0x10000 + d.val * 0x1000 + 0x300 + a.val * 0x80 + o

/-- Encoder group of a doorway window (R540, EN). -/
abbrev en (d : DIx) (a : AIx) (o : Nat) : Nat := 0x10000 + d.val * 0x1000 + 0x500 + a.val * 0x40 + o

/-- Load-channel group of a doorway window (R540, CH). -/
abbrev ch (d : DIx) (k : KIx) (o : Nat) : Nat := 0x10000 + d.val * 0x1000 + 0xB00 + k.val * 0x10 + o

/-- Engine-pair window (R158, PR). -/
abbrev eng (p : PIx) (o : Nat) : Nat := 0xB000 + p.val * 0x80 + o

/-- Check-value unit window (R419, CU). -/
abbrev cvu (u : UIx) (o : Nat) : Nat := 0x9000 + u.val * 0x40 + o

/-- CAN controller window (R497, CN). -/
abbrev can (c : CIx) (o : Nat) : Nat := 0x8000 + c.val * 0x800 + o

namespace F

/-- SEQ (01_the_door_cycle.md, R46). -/
abbrev SEQ (d : DIx) : Fld := ⟨(dw d 0x0), 0, 32⟩
abbrev SEQ_STATE (d : DIx) : Fld := ⟨(dw d 0x0), 0, 8⟩
abbrev SEQ_PREV (d : DIx) : Fld := ⟨(dw d 0x0), 8, 8⟩
abbrev SEQ_CAUSE (d : DIx) : Fld := ⟨(dw d 0x0), 16, 8⟩
/-- SEQ_STATUS (01_the_door_cycle.md, R46). -/
abbrev SEQ_STATUS (d : DIx) : Fld := ⟨(dw d 0x4), 0, 32⟩
abbrev SEQ_STATUS_PROVEN (d : DIx) : Fld := ⟨(dw d 0x4), 0, 1⟩
abbrev SEQ_STATUS_RELEASE_OK (d : DIx) : Fld := ⟨(dw d 0x4), 1, 1⟩
abbrev SEQ_STATUS_PLATFORM (d : DIx) : Fld := ⟨(dw d 0x4), 2, 1⟩
abbrev SEQ_STATUS_LOOP_CONTRIB (d : DIx) : Fld := ⟨(dw d 0x4), 3, 1⟩
abbrev SEQ_STATUS_DEFERRED (d : DIx) : Fld := ⟨(dw d 0x4), 4, 1⟩
abbrev SEQ_STATUS_TAKEOVER_HOLD (d : DIx) : Fld := ⟨(dw d 0x4), 5, 1⟩
abbrev SEQ_STATUS_CREEP (d : DIx) : Fld := ⟨(dw d 0x4), 6, 1⟩
abbrev SEQ_STATUS_RETRY (d : DIx) : Fld := ⟨(dw d 0x4), 7, 3⟩
/-- SEQ_CMD (01_the_door_cycle.md, R46). -/
abbrev SEQ_CMD (d : DIx) : Fld := ⟨(dw d 0x8), 0, 32⟩
abbrev SEQ_CMD_OPEN_REQ (d : DIx) : Fld := ⟨(dw d 0x8), 0, 1⟩
abbrev SEQ_CMD_CLOSE_REQ (d : DIx) : Fld := ⟨(dw d 0x8), 1, 1⟩
abbrev SEQ_CMD_PROOF_REQ (d : DIx) : Fld := ⟨(dw d 0x8), 2, 1⟩
abbrev SEQ_CMD_REFUSED (d : DIx) : Fld := ⟨(dw d 0x8), 16, 1⟩
/-- SEQ_TIME (01_the_door_cycle.md, R46). -/
abbrev SEQ_TIME (d : DIx) : Fld := ⟨(dw d 0xC), 0, 32⟩
/-- SEQ_CFG (01_the_door_cycle.md, R46). -/
abbrev SEQ_CFG (d : DIx) : Fld := ⟨(dw d 0x10), 0, 32⟩
abbrev SEQ_CFG_AUTO_OPEN (d : DIx) : Fld := ⟨(dw d 0x10), 0, 1⟩
abbrev SEQ_CFG_SEAL_FAIL_REOPEN (d : DIx) : Fld := ⟨(dw d 0x10), 1, 1⟩
abbrev SEQ_CFG_REV_REOPEN (d : DIx) : Fld := ⟨(dw d 0x10), 2, 1⟩
abbrev SEQ_CFG_NOPLAT_ENF (d : DIx) : Fld := ⟨(dw d 0x10), 3, 1⟩
abbrev SEQ_CFG_CAR_SIDE (d : DIx) : Fld := ⟨(dw d 0x10), 4, 1⟩
abbrev SEQ_CFG_RETRY_MAX (d : DIx) : Fld := ⟨(dw d 0x10), 5, 3⟩
abbrev SEQ_CFG_REOPEN_ON_REQ (d : DIx) : Fld := ⟨(dw d 0x10), 8, 1⟩
/-- SEQ_TIMING (01_the_door_cycle.md, R46). -/
abbrev SEQ_TIMING (d : DIx) : Fld := ⟨(dw d 0x14), 0, 32⟩
abbrev SEQ_TIMING_WARN_TIME (d : DIx) : Fld := ⟨(dw d 0x14), 0, 8⟩
abbrev SEQ_TIMING_RETRY_DELAY (d : DIx) : Fld := ⟨(dw d 0x14), 8, 8⟩
abbrev SEQ_TIMING_AUTO_CLOSE (d : DIx) : Fld := ⟨(dw d 0x14), 16, 8⟩
/-- SEQ_LIMITS (01_the_door_cycle.md, R46). -/
abbrev SEQ_LIMITS (d : DIx) : Fld := ⟨(dw d 0x18), 0, 32⟩
abbrev SEQ_LIMITS_UNLOCK_TIMEOUT (d : DIx) : Fld := ⟨(dw d 0x18), 0, 8⟩
abbrev SEQ_LIMITS_LOCK_TIMEOUT (d : DIx) : Fld := ⟨(dw d 0x18), 8, 8⟩
abbrev SEQ_LIMITS_STOW_TIMEOUT (d : DIx) : Fld := ⟨(dw d 0x18), 16, 8⟩
abbrev SEQ_LIMITS_PROOF_DIST (d : DIx) : Fld := ⟨(dw d 0x18), 24, 8⟩
/-- SEQ_CYCLES_LO (01_the_door_cycle.md, R46). -/
abbrev SEQ_CYCLES_LO (d : DIx) : Fld := ⟨(dw d 0x1C), 0, 32⟩
/-- SEQ_CYCLES_HI (01_the_door_cycle.md, R46). -/
abbrev SEQ_CYCLES_HI (d : DIx) : Fld := ⟨(dw d 0x20), 0, 32⟩
/-- HEAD_CTL (02_depth_heads_and_raw_phase.md, R89). -/
abbrev HEAD_CTL (d : DIx) : Fld := ⟨(dw d 0x100), 0, 32⟩
abbrev HEAD_CTL_RETRAIN (d : DIx) : Fld := ⟨(dw d 0x100), 0, 1⟩
abbrev HEAD_CTL_ILLUM_INHIBIT (d : DIx) : Fld := ⟨(dw d 0x100), 1, 1⟩
abbrev HEAD_CTL_TEST_PATTERN (d : DIx) : Fld := ⟨(dw d 0x100), 2, 1⟩
/-- HEAD_STATUS (02_depth_heads_and_raw_phase.md, R89). -/
abbrev HEAD_STATUS (d : DIx) : Fld := ⟨(dw d 0x104), 0, 32⟩
abbrev HEAD_STATUS_LINK (d : DIx) : Fld := ⟨(dw d 0x104), 0, 2⟩
abbrev HEAD_STATUS_HELLO_OK (d : DIx) : Fld := ⟨(dw d 0x104), 2, 1⟩
abbrev HEAD_STATUS_CFG_OK (d : DIx) : Fld := ⟨(dw d 0x104), 3, 1⟩
abbrev HEAD_STATUS_SYNC_LOCK (d : DIx) : Fld := ⟨(dw d 0x104), 4, 1⟩
abbrev HEAD_STATUS_CAL_OK (d : DIx) : Fld := ⟨(dw d 0x104), 5, 1⟩
abbrev HEAD_STATUS_FOLLOW (d : DIx) : Fld := ⟨(dw d 0x104), 6, 1⟩
abbrev HEAD_STATUS_STALE (d : DIx) : Fld := ⟨(dw d 0x104), 7, 1⟩
abbrev HEAD_STATUS_HEAD_FAULT (d : DIx) : Fld := ⟨(dw d 0x104), 8, 1⟩
abbrev HEAD_STATUS_TEST_OK (d : DIx) : Fld := ⟨(dw d 0x104), 9, 1⟩
abbrev HEAD_STATUS_FAULT (d : DIx) : Fld := ⟨(dw d 0x104), 10, 6⟩
/-- HEAD_ID (02_depth_heads_and_raw_phase.md, R89). -/
abbrev HEAD_ID (d : DIx) : Fld := ⟨(dw d 0x108), 0, 32⟩
abbrev HEAD_ID_VENDOR (d : DIx) : Fld := ⟨(dw d 0x108), 0, 16⟩
abbrev HEAD_ID_MODEL (d : DIx) : Fld := ⟨(dw d 0x108), 16, 16⟩
/-- HEAD_SERIAL (02_depth_heads_and_raw_phase.md, R89). -/
abbrev HEAD_SERIAL (d : DIx) : Fld := ⟨(dw d 0x10C), 0, 32⟩
/-- HEAD_FW (02_depth_heads_and_raw_phase.md, R89). -/
abbrev HEAD_FW (d : DIx) : Fld := ⟨(dw d 0x110), 0, 32⟩
abbrev HEAD_FW_VERSION (d : DIx) : Fld := ⟨(dw d 0x110), 0, 16⟩
/-- HEAD_CALDIG (02_depth_heads_and_raw_phase.md, R89). -/
abbrev HEAD_CALDIG (d : DIx) : Fld := ⟨(dw d 0x114), 0, 32⟩
/-- HEAD_EXPECT (02_depth_heads_and_raw_phase.md, R89). -/
abbrev HEAD_EXPECT (d : DIx) : Fld := ⟨(dw d 0x118), 0, 32⟩
abbrev HEAD_EXPECT_VENDOR (d : DIx) : Fld := ⟨(dw d 0x118), 0, 16⟩
abbrev HEAD_EXPECT_MODEL (d : DIx) : Fld := ⟨(dw d 0x118), 16, 16⟩
/-- HEAD_EXPECT_SN (02_depth_heads_and_raw_phase.md, R89). -/
abbrev HEAD_EXPECT_SN (d : DIx) : Fld := ⟨(dw d 0x11C), 0, 32⟩
/-- EXPOSURE (02_depth_heads_and_raw_phase.md, R89). -/
abbrev EXPOSURE (d : DIx) : Fld := ⟨(dw d 0x120), 0, 32⟩
abbrev EXPOSURE_INT20 (d : DIx) : Fld := ⟨(dw d 0x120), 0, 10⟩
abbrev EXPOSURE_INT100 (d : DIx) : Fld := ⟨(dw d 0x120), 10, 10⟩
abbrev EXPOSURE_ILLUM (d : DIx) : Fld := ⟨(dw d 0x120), 20, 4⟩
/-- DEPTH_CFG (02_depth_heads_and_raw_phase.md, R89). -/
abbrev DEPTH_CFG (d : DIx) : Fld := ⟨(dw d 0x124), 0, 32⟩
abbrev DEPTH_CFG_AMP_MIN_20 (d : DIx) : Fld := ⟨(dw d 0x124), 0, 8⟩
abbrev DEPTH_CFG_AMP_MIN_100 (d : DIx) : Fld := ⟨(dw d 0x124), 8, 8⟩
abbrev DEPTH_CFG_UNWRAP_TOL (d : DIx) : Fld := ⟨(dw d 0x124), 16, 8⟩
abbrev DEPTH_CFG_LINE_MAX (d : DIx) : Fld := ⟨(dw d 0x124), 24, 8⟩
/-- DEPTH_CFG2 (02_depth_heads_and_raw_phase.md, R89). -/
abbrev DEPTH_CFG2 (d : DIx) : Fld := ⟨(dw d 0x128), 0, 32⟩
abbrev DEPTH_CFG2_MOT_TOL (d : DIx) : Fld := ⟨(dw d 0x128), 0, 8⟩
abbrev DEPTH_CFG2_FLY_TOL (d : DIx) : Fld := ⟨(dw d 0x128), 8, 8⟩
abbrev DEPTH_CFG2_AMB_MAX (d : DIx) : Fld := ⟨(dw d 0x128), 16, 12⟩
/-- FRAME (02_depth_heads_and_raw_phase.md, R89). -/
abbrev FRAME (d : DIx) : Fld := ⟨(dw d 0x12C), 0, 32⟩
/-- FRAME_TREF (02_depth_heads_and_raw_phase.md, R89). -/
abbrev FRAME_TREF (d : DIx) : Fld := ⟨(dw d 0x130), 0, 32⟩
/-- FRAME_AGE (02_depth_heads_and_raw_phase.md, R89). -/
abbrev FRAME_AGE (d : DIx) : Fld := ⟨(dw d 0x134), 0, 32⟩
/-- PATH_DELAY (02_depth_heads_and_raw_phase.md, R89). -/
abbrev PATH_DELAY (d : DIx) : Fld := ⟨(dw d 0x138), 0, 32⟩
/-- HEAD_TEMP (02_depth_heads_and_raw_phase.md, R89). -/
abbrev HEAD_TEMP (d : DIx) : Fld := ⟨(dw d 0x13C), 0, 32⟩
abbrev HEAD_TEMP_SENSOR (d : DIx) : Fld := ⟨(dw d 0x13C), 0, 16⟩
abbrev HEAD_TEMP_ILLUM (d : DIx) : Fld := ⟨(dw d 0x13C), 16, 16⟩
/-- ERR_CRC (02_depth_heads_and_raw_phase.md, R89). -/
abbrev ERR_CRC (d : DIx) : Fld := ⟨(dw d 0x140), 0, 32⟩
/-- ERR_LINES (02_depth_heads_and_raw_phase.md, R89). -/
abbrev ERR_LINES (d : DIx) : Fld := ⟨(dw d 0x144), 0, 32⟩
/-- ERR_FRAMES (02_depth_heads_and_raw_phase.md, R89). -/
abbrev ERR_FRAMES (d : DIx) : Fld := ⟨(dw d 0x148), 0, 32⟩
/-- RETRAINS (02_depth_heads_and_raw_phase.md, R89). -/
abbrev RETRAINS (d : DIx) : Fld := ⟨(dw d 0x14C), 0, 32⟩
/-- INVALID_PIX (02_depth_heads_and_raw_phase.md, R89). -/
abbrev INVALID_PIX (d : DIx) : Fld := ⟨(dw d 0x150), 0, 32⟩
abbrev INVALID_PIX_N (d : DIx) : Fld := ⟨(dw d 0x150), 0, 19⟩
/-- VERDICT (03_topiary_and_the_gap_verdict.md, R127). -/
abbrev VERDICT (d : DIx) : Fld := ⟨(dw d 0x200), 0, 32⟩
abbrev VERDICT_VERDICT (d : DIx) : Fld := ⟨(dw d 0x200), 0, 8⟩
abbrev VERDICT_ZONESET (d : DIx) : Fld := ⟨(dw d 0x200), 8, 4⟩
abbrev VERDICT_CAUSE (d : DIx) : Fld := ⟨(dw d 0x200), 16, 8⟩
abbrev VERDICT_FRAME_LO (d : DIx) : Fld := ⟨(dw d 0x200), 24, 8⟩
/-- VERDICT_TREF (03_topiary_and_the_gap_verdict.md, R127). -/
abbrev VERDICT_TREF (d : DIx) : Fld := ⟨(dw d 0x204), 0, 32⟩
/-- ZONES (03_topiary_and_the_gap_verdict.md, R127). -/
abbrev ZONES (d : DIx) : Fld := ⟨(dw d 0x208), 0, 32⟩
abbrev ZONES_GAP (d : DIx) : Fld := ⟨(dw d 0x208), 0, 2⟩
abbrev ZONES_SWEEP (d : DIx) : Fld := ⟨(dw d 0x208), 2, 2⟩
abbrev ZONES_THRESHOLD (d : DIx) : Fld := ⟨(dw d 0x208), 4, 2⟩
abbrev ZONES_SEAM (d : DIx) : Fld := ⟨(dw d 0x208), 6, 2⟩
abbrev ZONES_FG_PIX (d : DIx) : Fld := ⟨(dw d 0x208), 16, 16⟩
/-- THIN (03_topiary_and_the_gap_verdict.md, R127). -/
abbrev THIN (d : DIx) : Fld := ⟨(dw d 0x20C), 0, 32⟩
abbrev THIN_RIDGE_MAX (d : DIx) : Fld := ⟨(dw d 0x20C), 0, 16⟩
abbrev THIN_RIDGE_LEN (d : DIx) : Fld := ⟨(dw d 0x20C), 16, 8⟩
abbrev THIN_INV_PCT (d : DIx) : Fld := ⟨(dw d 0x20C), 24, 8⟩
/-- TOPI_STATUS (03_topiary_and_the_gap_verdict.md, R127). -/
abbrev TOPI_STATUS (d : DIx) : Fld := ⟨(dw d 0x210), 0, 32⟩
abbrev TOPI_STATUS_MODEL (d : DIx) : Fld := ⟨(dw d 0x210), 0, 2⟩
abbrev TOPI_STATUS_LEARNING (d : DIx) : Fld := ⟨(dw d 0x210), 2, 1⟩
abbrev TOPI_STATUS_PENDING (d : DIx) : Fld := ⟨(dw d 0x210), 3, 1⟩
abbrev TOPI_STATUS_DRIFT (d : DIx) : Fld := ⟨(dw d 0x210), 4, 1⟩
abbrev TOPI_STATUS_ACC_OVF (d : DIx) : Fld := ⟨(dw d 0x210), 5, 1⟩
abbrev TOPI_STATUS_LEARN_OK (d : DIx) : Fld := ⟨(dw d 0x210), 8, 4⟩
abbrev TOPI_STATUS_LEARN_TRY (d : DIx) : Fld := ⟨(dw d 0x210), 12, 5⟩
abbrev TOPI_STATUS_ADAPT_MAX (d : DIx) : Fld := ⟨(dw d 0x210), 24, 8⟩
/-- TOPI_CTL (03_topiary_and_the_gap_verdict.md, R127). -/
abbrev TOPI_CTL (d : DIx) : Fld := ⟨(dw d 0x214), 0, 32⟩
abbrev TOPI_CTL_LEARN_START (d : DIx) : Fld := ⟨(dw d 0x214), 0, 1⟩
abbrev TOPI_CTL_LEARN_ABORT (d : DIx) : Fld := ⟨(dw d 0x214), 1, 1⟩
abbrev TOPI_CTL_DISCARD_PENDING (d : DIx) : Fld := ⟨(dw d 0x214), 2, 1⟩
abbrev TOPI_CTL_WIN_PENDING (d : DIx) : Fld := ⟨(dw d 0x214), 3, 1⟩
/-- MODEL_DIGEST (03_topiary_and_the_gap_verdict.md, R127). -/
abbrev MODEL_DIGEST (d : DIx) : Fld := ⟨(dw d 0x218), 0, 32⟩
/-- PENDING_DIGEST (03_topiary_and_the_gap_verdict.md, R127). -/
abbrev PENDING_DIGEST (d : DIx) : Fld := ⟨(dw d 0x21C), 0, 32⟩
/-- ZONE_CFG (03_topiary_and_the_gap_verdict.md, R127). -/
abbrev ZONE_CFG (d : DIx) : Fld := ⟨(dw d 0x220), 0, 32⟩
abbrev ZONE_CFG_EDGE_MARGIN (d : DIx) : Fld := ⟨(dw d 0x220), 0, 8⟩
abbrev ZONE_CFG_SEAM_HALF (d : DIx) : Fld := ⟨(dw d 0x220), 8, 8⟩
abbrev ZONE_CFG_SWEEP_MIN (d : DIx) : Fld := ⟨(dw d 0x220), 16, 8⟩
/-- RES_CFG (03_topiary_and_the_gap_verdict.md, R127). -/
abbrev RES_CFG (d : DIx) : Fld := ⟨(dw d 0x224), 0, 32⟩
abbrev RES_CFG_RES_TOL (d : DIx) : Fld := ⟨(dw d 0x224), 0, 8⟩
abbrev RES_CFG_SEAM_TOL (d : DIx) : Fld := ⟨(dw d 0x224), 8, 8⟩
abbrev RES_CFG_K_SIGMA (d : DIx) : Fld := ⟨(dw d 0x224), 16, 8⟩
abbrev RES_CFG_MIN_PIX (d : DIx) : Fld := ⟨(dw d 0x224), 24, 8⟩
/-- THIN_CFG (03_topiary_and_the_gap_verdict.md, R127). -/
abbrev THIN_CFG (d : DIx) : Fld := ⟨(dw d 0x228), 0, 32⟩
abbrev THIN_CFG_RIDGE_MIN (d : DIx) : Fld := ⟨(dw d 0x228), 0, 8⟩
abbrev THIN_CFG_LEN_MIN (d : DIx) : Fld := ⟨(dw d 0x228), 8, 8⟩
abbrev THIN_CFG_INV_MAX (d : DIx) : Fld := ⟨(dw d 0x228), 16, 8⟩
abbrev THIN_CFG_INV_RUN (d : DIx) : Fld := ⟨(dw d 0x228), 24, 8⟩
/-- PROOF_CFG (03_topiary_and_the_gap_verdict.md, R127). -/
abbrev PROOF_CFG (d : DIx) : Fld := ⟨(dw d 0x22C), 0, 32⟩
abbrev PROOF_CFG_FSIG_TOL (d : DIx) : Fld := ⟨(dw d 0x22C), 0, 8⟩
abbrev PROOF_CFG_ABS_MAX (d : DIx) : Fld := ⟨(dw d 0x22C), 8, 8⟩
/-- PROOF (03_topiary_and_the_gap_verdict.md, R127). -/
abbrev PROOF (d : DIx) : Fld := ⟨(dw d 0x230), 0, 32⟩
abbrev PROOF_CONSEC (d : DIx) : Fld := ⟨(dw d 0x230), 0, 2⟩
abbrev PROOF_FSIG_OK (d : DIx) : Fld := ⟨(dw d 0x230), 2, 1⟩
abbrev PROOF_PASSED (d : DIx) : Fld := ⟨(dw d 0x230), 3, 1⟩
abbrev PROOF_PROOF_TIME (d : DIx) : Fld := ⟨(dw d 0x230), 16, 16⟩
/-- PLAT (03_topiary_and_the_gap_verdict.md, R127). -/
abbrev PLAT (d : DIx) : Fld := ⟨(dw d 0x234), 0, 32⟩
abbrev PLAT_GAP (d : DIx) : Fld := ⟨(dw d 0x234), 0, 16⟩
abbrev PLAT_VOFF (d : DIx) : Fld := ⟨(dw d 0x234), 16, 16⟩
/-- PLAT_STATUS (03_topiary_and_the_gap_verdict.md, R127). -/
abbrev PLAT_STATUS (d : DIx) : Fld := ⟨(dw d 0x238), 0, 32⟩
abbrev PLAT_STATUS_VALID (d : DIx) : Fld := ⟨(dw d 0x238), 0, 1⟩
abbrev PLAT_STATUS_NO_PLATFORM (d : DIx) : Fld := ⟨(dw d 0x238), 1, 1⟩
abbrev PLAT_STATUS_STILL (d : DIx) : Fld := ⟨(dw d 0x238), 2, 1⟩
abbrev PLAT_STATUS_LATCHED (d : DIx) : Fld := ⟨(dw d 0x238), 3, 1⟩
abbrev PLAT_STATUS_N_VALID (d : DIx) : Fld := ⟨(dw d 0x238), 4, 3⟩
/-- PLAT_LATCH (03_topiary_and_the_gap_verdict.md, R127). -/
abbrev PLAT_LATCH (d : DIx) : Fld := ⟨(dw d 0x23C), 0, 32⟩
/-- ACC_OVF_CNT (03_topiary_and_the_gap_verdict.md, R127). -/
abbrev ACC_OVF_CNT (d : DIx) : Fld := ⟨(dw d 0x240), 0, 32⟩
/-- PAIR_STATUS (04_engine_pairs_and_coppicing.md, R158). -/
abbrev PAIR_STATUS (p : PIx) : Fld := ⟨(eng p 0x0), 0, 32⟩
abbrev PAIR_STATUS_STATE (p : PIx) : Fld := ⟨(eng p 0x0), 0, 3⟩
abbrev PAIR_STATUS_DOORWAY (p : PIx) : Fld := ⟨(eng p 0x0), 3, 5⟩
abbrev PAIR_STATUS_ACC_OVF_U (p : PIx) : Fld := ⟨(eng p 0x0), 8, 1⟩
abbrev PAIR_STATUS_ACC_OVF_R (p : PIx) : Fld := ⟨(eng p 0x0), 9, 1⟩
abbrev PAIR_STATUS_BINDER_OK (p : PIx) : Fld := ⟨(eng p 0x0), 10, 1⟩
abbrev PAIR_STATUS_ECC_ERR (p : PIx) : Fld := ⟨(eng p 0x0), 11, 1⟩
abbrev PAIR_STATUS_TESTING (p : PIx) : Fld := ⟨(eng p 0x0), 12, 1⟩
/-- PAIR_CTL (04_engine_pairs_and_coppicing.md, R158). -/
abbrev PAIR_CTL (p : PIx) : Fld := ⟨(eng p 0x4), 0, 32⟩
abbrev PAIR_CTL_SELFTEST (p : PIx) : Fld := ⟨(eng p 0x4), 0, 1⟩
abbrev PAIR_CTL_SIG_SEL (p : PIx) : Fld := ⟨(eng p 0x4), 1, 3⟩
abbrev PAIR_CTL_REFUSED (p : PIx) : Fld := ⟨(eng p 0x4), 16, 1⟩
/-- MISMATCH (04_engine_pairs_and_coppicing.md, R158). -/
abbrev MISMATCH (p : PIx) : Fld := ⟨(eng p 0x8), 0, 32⟩
abbrev MISMATCH_STAGE (p : PIx) : Fld := ⟨(eng p 0x8), 0, 3⟩
abbrev MISMATCH_KIND (p : PIx) : Fld := ⟨(eng p 0x8), 3, 3⟩
abbrev MISMATCH_TILE (p : PIx) : Fld := ⟨(eng p 0x8), 8, 9⟩
abbrev MISMATCH_FRAME_LO (p : PIx) : Fld := ⟨(eng p 0x8), 24, 8⟩
/-- MISMATCH_CNT (04_engine_pairs_and_coppicing.md, R158). -/
abbrev MISMATCH_CNT (p : PIx) : Fld := ⟨(eng p 0xC), 0, 32⟩
/-- FRAMES_LO (04_engine_pairs_and_coppicing.md, R158). -/
abbrev FRAMES_LO (p : PIx) : Fld := ⟨(eng p 0x10), 0, 32⟩
/-- FRAMES_HI (04_engine_pairs_and_coppicing.md, R158). -/
abbrev FRAMES_HI (p : PIx) : Fld := ⟨(eng p 0x14), 0, 32⟩
/-- SIG_U (04_engine_pairs_and_coppicing.md, R158). -/
abbrev SIG_U (p : PIx) : Fld := ⟨(eng p 0x18), 0, 32⟩
/-- SIG_R (04_engine_pairs_and_coppicing.md, R158). -/
abbrev SIG_R (p : PIx) : Fld := ⟨(eng p 0x1C), 0, 32⟩
/-- TILE_MAX (04_engine_pairs_and_coppicing.md, R158). -/
abbrev TILE_MAX (p : PIx) : Fld := ⟨(eng p 0x20), 0, 32⟩
abbrev TILE_MAX_T (p : PIx) : Fld := ⟨(eng p 0x20), 0, 16⟩
/-- TASKS (04_engine_pairs_and_coppicing.md, R158). -/
abbrev TASKS (p : PIx) : Fld := ⟨(eng p 0x24), 0, 32⟩
abbrev TASKS_TASK_U (p : PIx) : Fld := ⟨(eng p 0x24), 0, 4⟩
abbrev TASKS_TASK_R (p : PIx) : Fld := ⟨(eng p 0x24), 4, 4⟩
abbrev TASKS_DONE (p : PIx) : Fld := ⟨(eng p 0x24), 16, 16⟩
/-- SELFTEST (04_engine_pairs_and_coppicing.md, R158). -/
abbrev SELFTEST (p : PIx) : Fld := ⟨(eng p 0x28), 0, 32⟩
abbrev SELFTEST_PASS (p : PIx) : Fld := ⟨(eng p 0x28), 0, 8⟩
abbrev SELFTEST_FAIL (p : PIx) : Fld := ⟨(eng p 0x28), 8, 8⟩
abbrev SELFTEST_LAST (p : PIx) : Fld := ⟨(eng p 0x28), 16, 1⟩
/-- COPPICE_CFG (04_engine_pairs_and_coppicing.md, R159). -/
abbrev COPPICE_CFG : Fld := ⟨0x1800, 0, 32⟩
abbrev COPPICE_CFG_EN : Fld := ⟨0x1800, 0, 1⟩
abbrev COPPICE_CFG_SEAM_EN : Fld := ⟨0x1800, 1, 1⟩
abbrev COPPICE_CFG_OCC_EN : Fld := ⟨0x1800, 2, 1⟩
abbrev COPPICE_CFG_HOLDOFF : Fld := ⟨0x1800, 8, 8⟩
abbrev COPPICE_CFG_SEAM_WARN : Fld := ⟨0x1800, 16, 8⟩
abbrev COPPICE_CFG_PERSON_AREA : Fld := ⟨0x1800, 24, 8⟩
/-- COPPICE_STATUS (04_engine_pairs_and_coppicing.md, R159). -/
abbrev COPPICE_STATUS : Fld := ⟨0x1804, 0, 32⟩
abbrev COPPICE_STATUS_ALLOWED : Fld := ⟨0x1804, 0, 1⟩
abbrev COPPICE_STATUS_SPLIT : Fld := ⟨0x1804, 1, 1⟩
abbrev COPPICE_STATUS_REJOINING : Fld := ⟨0x1804, 2, 1⟩
abbrev COPPICE_STATUS_BLOCK : Fld := ⟨0x1804, 8, 8⟩
abbrev COPPICE_STATUS_ENGINES : Fld := ⟨0x1804, 16, 8⟩
/-- COPPICE_CTL (04_engine_pairs_and_coppicing.md, R159). -/
abbrev COPPICE_CTL : Fld := ⟨0x1808, 0, 32⟩
abbrev COPPICE_CTL_REJOIN : Fld := ⟨0x1808, 0, 1⟩
abbrev COPPICE_CTL_INHIBIT : Fld := ⟨0x1808, 1, 1⟩
/-- REJOIN_LAST (04_engine_pairs_and_coppicing.md, R159). -/
abbrev REJOIN_LAST : Fld := ⟨0x180C, 0, 32⟩
abbrev REJOIN_LAST_TIME : Fld := ⟨0x180C, 0, 16⟩
abbrev REJOIN_LAST_TRIGGER : Fld := ⟨0x180C, 16, 8⟩
abbrev REJOIN_LAST_FAILED : Fld := ⟨0x180C, 24, 8⟩
/-- SPLITS (04_engine_pairs_and_coppicing.md, R159). -/
abbrev SPLITS : Fld := ⟨0x1810, 0, 32⟩
/-- SEAM_SUM (04_engine_pairs_and_coppicing.md, R160). -/
abbrev SEAM_SUM (d : DIx) : Fld := ⟨(dw d 0x250), 0, 32⟩
abbrev SEAM_SUM_MAX_OPEN (d : DIx) : Fld := ⟨(dw d 0x250), 0, 16⟩
abbrev SEAM_SUM_MAX_BAND (d : DIx) : Fld := ⟨(dw d 0x250), 16, 5⟩
abbrev SEAM_SUM_WARN (d : DIx) : Fld := ⟨(dw d 0x250), 21, 1⟩
abbrev SEAM_SUM_AGE (d : DIx) : Fld := ⟨(dw d 0x250), 22, 10⟩
/-- OCC (04_engine_pairs_and_coppicing.md, R160). -/
abbrev OCC (d : DIx) : Fld := ⟨(dw d 0x254), 0, 32⟩
abbrev OCC_AREA (d : DIx) : Fld := ⟨(dw d 0x254), 0, 16⟩
abbrev OCC_COUNT (d : DIx) : Fld := ⟨(dw d 0x254), 16, 8⟩
abbrev OCC_QUALITY (d : DIx) : Fld := ⟨(dw d 0x254), 24, 8⟩
/-- OCC_AGE (04_engine_pairs_and_coppicing.md, R160). -/
abbrev OCC_AGE (d : DIx) : Fld := ⟨(dw d 0x258), 0, 32⟩
abbrev OCC_AGE_AGE (d : DIx) : Fld := ⟨(dw d 0x258), 0, 16⟩
/-- AX_STATUS (05_leaf_and_step_motion.md, R195). -/
abbrev AX_STATUS (d : DIx) (a : AIx) : Fld := ⟨(ax d a 0x0), 0, 32⟩
abbrev AX_STATUS_ENABLED (d : DIx) (a : AIx) : Fld := ⟨(ax d a 0x0), 0, 1⟩
abbrev AX_STATUS_MOVING (d : DIx) (a : AIx) : Fld := ⟨(ax d a 0x0), 1, 1⟩
abbrev AX_STATUS_AT_REST (d : DIx) (a : AIx) : Fld := ⟨(ax d a 0x0), 2, 1⟩
abbrev AX_STATUS_STOPPING (d : DIx) (a : AIx) : Fld := ⟨(ax d a 0x0), 3, 1⟩
abbrev AX_STATUS_MODE (d : DIx) (a : AIx) : Fld := ⟨(ax d a 0x0), 4, 1⟩
abbrev AX_STATUS_REFERENCED (d : DIx) (a : AIx) : Fld := ⟨(ax d a 0x0), 5, 1⟩
abbrev AX_STATUS_VLIM_ACT (d : DIx) (a : AIx) : Fld := ⟨(ax d a 0x0), 6, 1⟩
abbrev AX_STATUS_STALL (d : DIx) (a : AIx) : Fld := ⟨(ax d a 0x0), 7, 1⟩
abbrev AX_STATUS_TGT_REJ (d : DIx) (a : AIx) : Fld := ⟨(ax d a 0x0), 8, 1⟩
abbrev AX_STATUS_ELEC (d : DIx) (a : AIx) : Fld := ⟨(ax d a 0x0), 16, 10⟩
/-- AX_CMD (05_leaf_and_step_motion.md, R195). -/
abbrev AX_CMD (d : DIx) (a : AIx) : Fld := ⟨(ax d a 0x4), 0, 32⟩
abbrev AX_CMD_MOVE (d : DIx) (a : AIx) : Fld := ⟨(ax d a 0x4), 0, 1⟩
abbrev AX_CMD_STOP (d : DIx) (a : AIx) : Fld := ⟨(ax d a 0x4), 1, 1⟩
abbrev AX_CMD_REFUSED (d : DIx) (a : AIx) : Fld := ⟨(ax d a 0x4), 16, 1⟩
/-- MOVE_TARGET (05_leaf_and_step_motion.md, R195). -/
abbrev MOVE_TARGET (d : DIx) (a : AIx) : Fld := ⟨(ax d a 0x8), 0, 32⟩
/-- TARGET (05_leaf_and_step_motion.md, R195). -/
abbrev TARGET (d : DIx) (a : AIx) : Fld := ⟨(ax d a 0xC), 0, 32⟩
/-- XCMD (05_leaf_and_step_motion.md, R195). -/
abbrev XCMD (d : DIx) (a : AIx) : Fld := ⟨(ax d a 0x10), 0, 32⟩
/-- SPEED (05_leaf_and_step_motion.md, R195). -/
abbrev SPEED (d : DIx) (a : AIx) : Fld := ⟨(ax d a 0x14), 0, 32⟩
abbrev SPEED_VCMD (d : DIx) (a : AIx) : Fld := ⟨(ax d a 0x14), 0, 16⟩
abbrev SPEED_VLIM (d : DIx) (a : AIx) : Fld := ⟨(ax d a 0x14), 16, 16⟩
/-- DEVIATION (05_leaf_and_step_motion.md, R195). -/
abbrev DEVIATION (d : DIx) (a : AIx) : Fld := ⟨(ax d a 0x18), 0, 32⟩
/-- IPHASE (05_leaf_and_step_motion.md, R195). -/
abbrev IPHASE (d : DIx) (a : AIx) : Fld := ⟨(ax d a 0x1C), 0, 32⟩
abbrev IPHASE_A (d : DIx) (a : AIx) : Fld := ⟨(ax d a 0x1C), 0, 16⟩
abbrev IPHASE_B (d : DIx) (a : AIx) : Fld := ⟨(ax d a 0x1C), 16, 16⟩
/-- PROF_V (05_leaf_and_step_motion.md, R195). -/
abbrev PROF_V (d : DIx) (a : AIx) : Fld := ⟨(ax d a 0x20), 0, 32⟩
abbrev PROF_V_VSTART (d : DIx) (a : AIx) : Fld := ⟨(ax d a 0x20), 0, 16⟩
abbrev PROF_V_VSTOP (d : DIx) (a : AIx) : Fld := ⟨(ax d a 0x20), 16, 16⟩
/-- PROF_V2 (05_leaf_and_step_motion.md, R195). -/
abbrev PROF_V2 (d : DIx) (a : AIx) : Fld := ⟨(ax d a 0x24), 0, 32⟩
abbrev PROF_V2_V1 (d : DIx) (a : AIx) : Fld := ⟨(ax d a 0x24), 0, 16⟩
abbrev PROF_V2_VMAX (d : DIx) (a : AIx) : Fld := ⟨(ax d a 0x24), 16, 16⟩
/-- PROF_A (05_leaf_and_step_motion.md, R195). -/
abbrev PROF_A (d : DIx) (a : AIx) : Fld := ⟨(ax d a 0x28), 0, 32⟩
abbrev PROF_A_A1 (d : DIx) (a : AIx) : Fld := ⟨(ax d a 0x28), 0, 16⟩
abbrev PROF_A_A2 (d : DIx) (a : AIx) : Fld := ⟨(ax d a 0x28), 16, 16⟩
/-- PROF_D (05_leaf_and_step_motion.md, R195). -/
abbrev PROF_D (d : DIx) (a : AIx) : Fld := ⟨(ax d a 0x2C), 0, 32⟩
abbrev PROF_D_D2 (d : DIx) (a : AIx) : Fld := ⟨(ax d a 0x2C), 0, 16⟩
abbrev PROF_D_D1 (d : DIx) (a : AIx) : Fld := ⟨(ax d a 0x2C), 16, 16⟩
/-- DRV_CFG (05_leaf_and_step_motion.md, R195). -/
abbrev DRV_CFG (d : DIx) (a : AIx) : Fld := ⟨(ax d a 0x30), 0, 32⟩
abbrev DRV_CFG_TABLE (d : DIx) (a : AIx) : Fld := ⟨(ax d a 0x30), 0, 3⟩
abbrev DRV_CFG_DIR_INV (d : DIx) (a : AIx) : Fld := ⟨(ax d a 0x30), 3, 1⟩
abbrev DRV_CFG_HOLD_DEC (d : DIx) (a : AIx) : Fld := ⟨(ax d a 0x30), 16, 16⟩
/-- SWITCH (05_leaf_and_step_motion.md, R195). -/
abbrev SWITCH (d : DIx) (a : AIx) : Fld := ⟨(ax d a 0x34), 0, 32⟩
abbrev SWITCH_VSWITCH (d : DIx) (a : AIx) : Fld := ⟨(ax d a 0x34), 0, 16⟩
abbrev SWITCH_VSW_HYST (d : DIx) (a : AIx) : Fld := ⟨(ax d a 0x34), 16, 16⟩
/-- CURRENT (05_leaf_and_step_motion.md, R195). -/
abbrev CURRENT (d : DIx) (a : AIx) : Fld := ⟨(ax d a 0x38), 0, 32⟩
abbrev CURRENT_IRUN (d : DIx) (a : AIx) : Fld := ⟨(ax d a 0x38), 0, 16⟩
abbrev CURRENT_IHOLD (d : DIx) (a : AIx) : Fld := ⟨(ax d a 0x38), 16, 16⟩
/-- MOTOR (05_leaf_and_step_motion.md, R195). -/
abbrev MOTOR (d : DIx) (a : AIx) : Fld := ⟨(ax d a 0x3C), 0, 32⟩
abbrev MOTOR_R_PH (d : DIx) (a : AIx) : Fld := ⟨(ax d a 0x3C), 0, 16⟩
abbrev MOTOR_L_PH (d : DIx) (a : AIx) : Fld := ⟨(ax d a 0x3C), 16, 16⟩
/-- GAIN (05_leaf_and_step_motion.md, R195). -/
abbrev GAIN (d : DIx) (a : AIx) : Fld := ⟨(ax d a 0x40), 0, 32⟩
abbrev GAIN_KP (d : DIx) (a : AIx) : Fld := ⟨(ax d a 0x40), 0, 16⟩
abbrev GAIN_KI (d : DIx) (a : AIx) : Fld := ⟨(ax d a 0x40), 16, 16⟩
/-- BEMF (05_leaf_and_step_motion.md, R195). -/
abbrev BEMF (d : DIx) (a : AIx) : Fld := ⟨(ax d a 0x44), 0, 32⟩
abbrev BEMF_KE (d : DIx) (a : AIx) : Fld := ⟨(ax d a 0x44), 0, 16⟩
/-- SCALE (05_leaf_and_step_motion.md, R195). -/
abbrev SCALE (d : DIx) (a : AIx) : Fld := ⟨(ax d a 0x48), 0, 32⟩
/-- TRAVEL (05_leaf_and_step_motion.md, R195). -/
abbrev TRAVEL (d : DIx) (a : AIx) : Fld := ⟨(ax d a 0x4C), 0, 32⟩
abbrev TRAVEL_TRAVEL_MAX (d : DIx) (a : AIx) : Fld := ⟨(ax d a 0x4C), 0, 16⟩
abbrev TRAVEL_DEV_WIN (d : DIx) (a : AIx) : Fld := ⟨(ax d a 0x4C), 16, 16⟩
/-- REST (05_leaf_and_step_motion.md, R195). -/
abbrev REST (d : DIx) (a : AIx) : Fld := ⟨(ax d a 0x50), 0, 32⟩
abbrev REST_REST_WIN (d : DIx) (a : AIx) : Fld := ⟨(ax d a 0x50), 0, 8⟩
abbrev REST_REST_TIME (d : DIx) (a : AIx) : Fld := ⟨(ax d a 0x50), 8, 8⟩
/-- COUNTS (05_leaf_and_step_motion.md, R195). -/
abbrev COUNTS (d : DIx) (a : AIx) : Fld := ⟨(ax d a 0x54), 0, 32⟩
abbrev COUNTS_TGT_REJ (d : DIx) (a : AIx) : Fld := ⟨(ax d a 0x54), 0, 16⟩
abbrev COUNTS_STALL (d : DIx) (a : AIx) : Fld := ⟨(ax d a 0x54), 16, 16⟩
/-- MOVE_ENERGY (05_leaf_and_step_motion.md, R195). -/
abbrev MOVE_ENERGY (d : DIx) (a : AIx) : Fld := ⟨(ax d a 0x58), 0, 32⟩
/-- DRV_STATUS (05_leaf_and_step_motion.md, R196). -/
abbrev DRV_STATUS (d : DIx) : Fld := ⟨(dw d 0x480), 0, 32⟩
abbrev DRV_STATUS_LINK (d : DIx) : Fld := ⟨(dw d 0x480), 0, 2⟩
abbrev DRV_STATUS_ID_OK (d : DIx) : Fld := ⟨(dw d 0x480), 2, 1⟩
abbrev DRV_STATUS_AUTH_CONFLICT (d : DIx) : Fld := ⟨(dw d 0x480), 3, 1⟩
abbrev DRV_STATUS_LINK_TO (d : DIx) : Fld := ⟨(dw d 0x480), 4, 1⟩
abbrev DRV_STATUS_TORQUE (d : DIx) : Fld := ⟨(dw d 0x480), 5, 1⟩
abbrev DRV_STATUS_STO_LOW (d : DIx) : Fld := ⟨(dw d 0x480), 6, 2⟩
abbrev DRV_STATUS_FAULT (d : DIx) : Fld := ⟨(dw d 0x480), 8, 8⟩
/-- DRV_CTL (05_leaf_and_step_motion.md, R196). -/
abbrev DRV_CTL (d : DIx) : Fld := ⟨(dw d 0x484), 0, 32⟩
abbrev DRV_CTL_RETRAIN (d : DIx) : Fld := ⟨(dw d 0x484), 0, 1⟩
/-- POD_ID (05_leaf_and_step_motion.md, R196). -/
abbrev POD_ID (d : DIx) : Fld := ⟨(dw d 0x488), 0, 32⟩
/-- POD_SERIAL (05_leaf_and_step_motion.md, R196). -/
abbrev POD_SERIAL (d : DIx) : Fld := ⟨(dw d 0x48C), 0, 32⟩
/-- POD_RATING (05_leaf_and_step_motion.md, R196). -/
abbrev POD_RATING (d : DIx) : Fld := ⟨(dw d 0x490), 0, 32⟩
/-- POD_EXPECT (05_leaf_and_step_motion.md, R196). -/
abbrev POD_EXPECT (d : DIx) : Fld := ⟨(dw d 0x494), 0, 32⟩
abbrev POD_EXPECT_VENDOR (d : DIx) : Fld := ⟨(dw d 0x494), 0, 16⟩
abbrev POD_EXPECT_MODEL (d : DIx) : Fld := ⟨(dw d 0x494), 16, 16⟩
/-- POD_MEAS (05_leaf_and_step_motion.md, R196). -/
abbrev POD_MEAS (d : DIx) : Fld := ⟨(dw d 0x498), 0, 32⟩
abbrev POD_MEAS_VBUS (d : DIx) : Fld := ⟨(dw d 0x498), 0, 16⟩
abbrev POD_MEAS_TBRIDGE (d : DIx) : Fld := ⟨(dw d 0x498), 16, 16⟩
/-- DRV_ERR (05_leaf_and_step_motion.md, R196). -/
abbrev DRV_ERR (d : DIx) : Fld := ⟨(dw d 0x49C), 0, 32⟩
abbrev DRV_ERR_CRC (d : DIx) : Fld := ⟨(dw d 0x49C), 0, 16⟩
abbrev DRV_ERR_MISS (d : DIx) : Fld := ⟨(dw d 0x49C), 16, 16⟩
/-- DEN_STATUS (05_leaf_and_step_motion.md, R196). -/
abbrev DEN_STATUS (d : DIx) : Fld := ⟨(dw d 0x4A0), 0, 32⟩
abbrev DEN_STATUS_DEN_A (d : DIx) : Fld := ⟨(dw d 0x4A0), 0, 1⟩
abbrev DEN_STATUS_DEN_B (d : DIx) : Fld := ⟨(dw d 0x4A0), 1, 1⟩
abbrev DEN_STATUS_RB_A (d : DIx) : Fld := ⟨(dw d 0x4A0), 2, 1⟩
abbrev DEN_STATUS_RB_B (d : DIx) : Fld := ⟨(dw d 0x4A0), 3, 1⟩
abbrev DEN_STATUS_STUCK_ON (d : DIx) : Fld := ⟨(dw d 0x4A0), 4, 1⟩
abbrev DEN_STATUS_STUCK_OFF (d : DIx) : Fld := ⟨(dw d 0x4A0), 5, 1⟩
/-- DRV_RETRAINS (05_leaf_and_step_motion.md, R196). -/
abbrev DRV_RETRAINS (d : DIx) : Fld := ⟨(dw d 0x4A4), 0, 32⟩
/-- POS_STATUS (06_position_feedback.md, R222). -/
abbrev POS_STATUS (d : DIx) (a : AIx) : Fld := ⟨(en d a 0x0), 0, 32⟩
abbrev POS_STATUS_LOSS (d : DIx) (a : AIx) : Fld := ⟨(en d a 0x0), 0, 1⟩
abbrev POS_STATUS_CNT_ERR (d : DIx) (a : AIx) : Fld := ⟨(en d a 0x0), 1, 1⟩
abbrev POS_STATUS_QUAD_ERR (d : DIx) (a : AIx) : Fld := ⟨(en d a 0x0), 2, 1⟩
abbrev POS_STATUS_DIR (d : DIx) (a : AIx) : Fld := ⟨(en d a 0x0), 3, 1⟩
abbrev POS_STATUS_DIR_CHG (d : DIx) (a : AIx) : Fld := ⟨(en d a 0x0), 4, 1⟩
abbrev POS_STATUS_STILL (d : DIx) (a : AIx) : Fld := ⟨(en d a 0x0), 5, 1⟩
abbrev POS_STATUS_IDX_VALID (d : DIx) (a : AIx) : Fld := ⟨(en d a 0x0), 6, 1⟩
abbrev POS_STATUS_REF_ERR (d : DIx) (a : AIx) : Fld := ⟨(en d a 0x0), 7, 1⟩
abbrev POS_STATUS_REF_MADE (d : DIx) (a : AIx) : Fld := ⟨(en d a 0x0), 8, 1⟩
abbrev POS_STATUS_LINE_FLT (d : DIx) (a : AIx) : Fld := ⟨(en d a 0x0), 9, 1⟩
/-- POS_CTL (06_position_feedback.md, R222). -/
abbrev POS_CTL (d : DIx) (a : AIx) : Fld := ⟨(en d a 0x4), 0, 32⟩
abbrev POS_CTL_SNAP (d : DIx) (a : AIx) : Fld := ⟨(en d a 0x4), 0, 1⟩
/-- CNT (06_position_feedback.md, R222). -/
abbrev CNT (d : DIx) (a : AIx) : Fld := ⟨(en d a 0x8), 0, 32⟩
/-- POS (06_position_feedback.md, R222). -/
abbrev POS (d : DIx) (a : AIx) : Fld := ⟨(en d a 0xC), 0, 32⟩
/-- MSPEED (06_position_feedback.md, R222). -/
abbrev MSPEED (d : DIx) (a : AIx) : Fld := ⟨(en d a 0x10), 0, 32⟩
/-- IDX_CNT (06_position_feedback.md, R222). -/
abbrev IDX_CNT (d : DIx) (a : AIx) : Fld := ⟨(en d a 0x14), 0, 32⟩
/-- IDX_TICK (06_position_feedback.md, R222). -/
abbrev IDX_TICK (d : DIx) (a : AIx) : Fld := ⟨(en d a 0x18), 0, 32⟩
/-- IDX_DIFF (06_position_feedback.md, R222). -/
abbrev IDX_DIFF (d : DIx) (a : AIx) : Fld := ⟨(en d a 0x1C), 0, 32⟩
/-- REF_CNT (06_position_feedback.md, R222). -/
abbrev REF_CNT (d : DIx) (a : AIx) : Fld := ⟨(en d a 0x20), 0, 32⟩
/-- REF_TICK (06_position_feedback.md, R222). -/
abbrev REF_TICK (d : DIx) (a : AIx) : Fld := ⟨(en d a 0x24), 0, 32⟩
/-- SNAP_CNT (06_position_feedback.md, R222). -/
abbrev SNAP_CNT (d : DIx) (a : AIx) : Fld := ⟨(en d a 0x28), 0, 32⟩
/-- SNAP_TICK (06_position_feedback.md, R222). -/
abbrev SNAP_TICK (d : DIx) (a : AIx) : Fld := ⟨(en d a 0x2C), 0, 32⟩
/-- ENC_CFG (06_position_feedback.md, R222). -/
abbrev ENC_CFG (d : DIx) (a : AIx) : Fld := ⟨(en d a 0x30), 0, 32⟩
abbrev ENC_CFG_FILT (d : DIx) (a : AIx) : Fld := ⟨(en d a 0x30), 0, 3⟩
abbrev ENC_CFG_ENC_INV (d : DIx) (a : AIx) : Fld := ⟨(en d a 0x30), 3, 1⟩
abbrev ENC_CFG_IDX_MODE (d : DIx) (a : AIx) : Fld := ⟨(en d a 0x30), 4, 2⟩
abbrev ENC_CFG_DIR_HYST (d : DIx) (a : AIx) : Fld := ⟨(en d a 0x30), 8, 8⟩
/-- ENC_SCALE (06_position_feedback.md, R222). -/
abbrev ENC_SCALE (d : DIx) (a : AIx) : Fld := ⟨(en d a 0x34), 0, 32⟩
/-- INDEX_CFG (06_position_feedback.md, R222). -/
abbrev INDEX_CFG (d : DIx) (a : AIx) : Fld := ⟨(en d a 0x38), 0, 32⟩
abbrev INDEX_CFG_INDEX_NOM (d : DIx) (a : AIx) : Fld := ⟨(en d a 0x38), 0, 24⟩
abbrev INDEX_CFG_INDEX_TOL (d : DIx) (a : AIx) : Fld := ⟨(en d a 0x38), 24, 8⟩
/-- REF_CFG (06_position_feedback.md, R222). -/
abbrev REF_CFG (d : DIx) (a : AIx) : Fld := ⟨(en d a 0x3C), 0, 32⟩
abbrev REF_CFG_REF_POS (d : DIx) (a : AIx) : Fld := ⟨(en d a 0x3C), 0, 16⟩
abbrev REF_CFG_REF_TOL (d : DIx) (a : AIx) : Fld := ⟨(en d a 0x3C), 16, 8⟩
abbrev REF_CFG_REF_IN (d : DIx) (a : AIx) : Fld := ⟨(en d a 0x3C), 24, 4⟩
/-- POS_ERR (06_position_feedback.md, R223). -/
abbrev POS_ERR (d : DIx) (n : Nat) : Fld := ⟨((dw d 0x5C0) + n * 4), 0, 32⟩
abbrev POS_ERR_QUAD (d : DIx) (n : Nat) : Fld := ⟨((dw d 0x5C0) + n * 4), 0, 16⟩
abbrev POS_ERR_IDX_ERR (d : DIx) (n : Nat) : Fld := ⟨((dw d 0x5C0) + n * 4), 16, 8⟩
abbrev POS_ERR_DIR_OPP (d : DIx) (n : Nat) : Fld := ⟨((dw d 0x5C0) + n * 4), 24, 8⟩
/-- REF_DEV (06_position_feedback.md, R223). -/
abbrev REF_DEV (d : DIx) (n : Nat) : Fld := ⟨((dw d 0x5CC) + n * 4), 0, 32⟩
/-- TB_LO (06_position_feedback.md, R224). -/
abbrev TB_LO : Fld := ⟨0xC000, 0, 32⟩
/-- TB_HI (06_position_feedback.md, R224). -/
abbrev TB_HI : Fld := ⟨0xC004, 0, 32⟩
/-- EMU_CFG (06_position_feedback.md, R224). -/
abbrev EMU_CFG (n : Nat) : Fld := ⟨(0xC100 + n * 16), 0, 32⟩
abbrev EMU_CFG_SRC (n : Nat) : Fld := ⟨(0xC100 + n * 16), 0, 7⟩
abbrev EMU_CFG_EN (n : Nat) : Fld := ⟨(0xC100 + n * 16), 7, 1⟩
abbrev EMU_CFG_Z_MODE (n : Nat) : Fld := ⟨(0xC100 + n * 16), 8, 2⟩
abbrev EMU_CFG_Z_PERIOD (n : Nat) : Fld := ⟨(0xC100 + n * 16), 16, 16⟩
/-- EMU_RES (06_position_feedback.md, R224). -/
abbrev EMU_RES (n : Nat) : Fld := ⟨(0xC104 + n * 16), 0, 32⟩
/-- EMU_STATUS (06_position_feedback.md, R224). -/
abbrev EMU_STATUS (n : Nat) : Fld := ⟨(0xC108 + n * 16), 0, 32⟩
abbrev EMU_STATUS_ACTIVE (n : Nat) : Fld := ⟨(0xC108 + n * 16), 0, 1⟩
abbrev EMU_STATUS_OVR (n : Nat) : Fld := ⟨(0xC108 + n * 16), 1, 1⟩
abbrev EMU_STATUS_BACKLOG (n : Nat) : Fld := ⟨(0xC108 + n * 16), 16, 16⟩
/-- EMU_CNT (06_position_feedback.md, R224). -/
abbrev EMU_CNT (n : Nat) : Fld := ⟨(0xC10C + n * 16), 0, 32⟩
/-- OBST_STATUS (07_obstacle_reaction.md, R250). -/
abbrev OBST_STATUS (d : DIx) : Fld := ⟨(dw d 0x600), 0, 32⟩
abbrev OBST_STATUS_EDGE0 (d : DIx) : Fld := ⟨(dw d 0x600), 0, 1⟩
abbrev OBST_STATUS_EDGE1 (d : DIx) : Fld := ⟨(dw d 0x600), 1, 1⟩
abbrev OBST_STATUS_FORCE0 (d : DIx) : Fld := ⟨(dw d 0x600), 2, 1⟩
abbrev OBST_STATUS_FORCE1 (d : DIx) : Fld := ⟨(dw d 0x600), 3, 1⟩
abbrev OBST_STATUS_LC (d : DIx) : Fld := ⟨(dw d 0x600), 4, 1⟩
abbrev OBST_STATUS_VERDICT (d : DIx) : Fld := ⟨(dw d 0x600), 5, 1⟩
abbrev OBST_STATUS_STALL (d : DIx) : Fld := ⟨(dw d 0x600), 6, 1⟩
abbrev OBST_STATUS_SS1 (d : DIx) : Fld := ⟨(dw d 0x600), 8, 3⟩
abbrev OBST_STATUS_EDGE_MUTED (d : DIx) : Fld := ⟨(dw d 0x600), 11, 1⟩
abbrev OBST_STATUS_LC_MUTED (d : DIx) : Fld := ⟨(dw d 0x600), 12, 1⟩
abbrev OBST_STATUS_SEEN (d : DIx) : Fld := ⟨(dw d 0x600), 16, 7⟩
abbrev OBST_STATUS_BREACH (d : DIx) : Fld := ⟨(dw d 0x600), 23, 1⟩
abbrev OBST_STATUS_EDGE0_FAULT (d : DIx) : Fld := ⟨(dw d 0x600), 24, 1⟩
abbrev OBST_STATUS_EDGE1_FAULT (d : DIx) : Fld := ⟨(dw d 0x600), 25, 1⟩
/-- OBST_CFG (07_obstacle_reaction.md, R250). -/
abbrev OBST_CFG (d : DIx) : Fld := ⟨(dw d 0x604), 0, 32⟩
abbrev OBST_CFG_EDGE0_EN (d : DIx) : Fld := ⟨(dw d 0x604), 0, 1⟩
abbrev OBST_CFG_EDGE1_EN (d : DIx) : Fld := ⟨(dw d 0x604), 1, 1⟩
abbrev OBST_CFG_EDGE0_KIND (d : DIx) : Fld := ⟨(dw d 0x604), 2, 1⟩
abbrev OBST_CFG_EDGE1_KIND (d : DIx) : Fld := ⟨(dw d 0x604), 3, 1⟩
abbrev OBST_CFG_LC_EN (d : DIx) : Fld := ⟨(dw d 0x604), 4, 1⟩
abbrev OBST_CFG_EDGE_FILT (d : DIx) : Fld := ⟨(dw d 0x604), 8, 8⟩
abbrev OBST_CFG_EDGE_MUTE_GAP (d : DIx) : Fld := ⟨(dw d 0x604), 16, 8⟩
abbrev OBST_CFG_LC_MUTE_GAP (d : DIx) : Fld := ⟨(dw d 0x604), 24, 8⟩
/-- EDGE_MEAS (07_obstacle_reaction.md, R250). -/
abbrev EDGE_MEAS (d : DIx) : Fld := ⟨(dw d 0x608), 0, 32⟩
abbrev EDGE_MEAS_CODE0 (d : DIx) : Fld := ⟨(dw d 0x608), 0, 12⟩
abbrev EDGE_MEAS_CLASS0 (d : DIx) : Fld := ⟨(dw d 0x608), 12, 3⟩
abbrev EDGE_MEAS_CODE1 (d : DIx) : Fld := ⟨(dw d 0x608), 16, 12⟩
abbrev EDGE_MEAS_CLASS1 (d : DIx) : Fld := ⟨(dw d 0x608), 28, 3⟩
/-- FORCE_CFG (07_obstacle_reaction.md, R250). -/
abbrev FORCE_CFG (d : DIx) : Fld := ⟨(dw d 0x60C), 0, 32⟩
abbrev FORCE_CFG_FORCE_CLOSE (d : DIx) : Fld := ⟨(dw d 0x60C), 0, 16⟩
abbrev FORCE_CFG_FORCE_OPEN (d : DIx) : Fld := ⟨(dw d 0x60C), 16, 16⟩
/-- FORCE_CFG2 (07_obstacle_reaction.md, R250). -/
abbrev FORCE_CFG2 (d : DIx) : Fld := ⟨(dw d 0x610), 0, 32⟩
abbrev FORCE_CFG2_FORCE_FILT (d : DIx) : Fld := ⟨(dw d 0x610), 0, 8⟩
abbrev FORCE_CFG2_FORCE_SEAL (d : DIx) : Fld := ⟨(dw d 0x610), 16, 16⟩
/-- FORCE_MODEL (07_obstacle_reaction.md, R250). -/
abbrev FORCE_MODEL (d : DIx) (n : Nat) : Fld := ⟨((dw d 0x614) + n * 8), 0, 32⟩
abbrev FORCE_MODEL_KF (d : DIx) (n : Nat) : Fld := ⟨((dw d 0x614) + n * 8), 0, 16⟩
abbrev FORCE_MODEL_M_EFF (d : DIx) (n : Nat) : Fld := ⟨((dw d 0x614) + n * 8), 16, 16⟩
/-- FORCE_MODEL2 (07_obstacle_reaction.md, R250). -/
abbrev FORCE_MODEL2 (d : DIx) (n : Nat) : Fld := ⟨((dw d 0x618) + n * 8), 0, 32⟩
abbrev FORCE_MODEL2_FRIC (d : DIx) (n : Nat) : Fld := ⟨((dw d 0x618) + n * 8), 0, 16⟩
abbrev FORCE_MODEL2_VISC (d : DIx) (n : Nat) : Fld := ⟨((dw d 0x618) + n * 8), 16, 16⟩
/-- STEP_FORCE (07_obstacle_reaction.md, R250). -/
abbrev STEP_FORCE (d : DIx) : Fld := ⟨(dw d 0x62C), 0, 32⟩
abbrev STEP_FORCE_STEP_FMAX (d : DIx) : Fld := ⟨(dw d 0x62C), 0, 16⟩
/-- SS1_CFG (07_obstacle_reaction.md, R250). -/
abbrev SS1_CFG (d : DIx) : Fld := ⟨(dw d 0x630), 0, 32⟩
abbrev SS1_CFG_SS1_MIN (d : DIx) : Fld := ⟨(dw d 0x630), 0, 16⟩
abbrev SS1_CFG_SS1_DEC (d : DIx) : Fld := ⟨(dw d 0x630), 16, 16⟩
/-- REV_CFG (07_obstacle_reaction.md, R250). -/
abbrev REV_CFG (d : DIx) : Fld := ⟨(dw d 0x634), 0, 32⟩
abbrev REV_CFG_REV_DIST (d : DIx) : Fld := ⟨(dw d 0x634), 0, 16⟩
/-- FORCE_NOW (07_obstacle_reaction.md, R250). -/
abbrev FORCE_NOW (d : DIx) : Fld := ⟨(dw d 0x638), 0, 32⟩
abbrev FORCE_NOW_FA (d : DIx) : Fld := ⟨(dw d 0x638), 0, 16⟩
abbrev FORCE_NOW_FB (d : DIx) : Fld := ⟨(dw d 0x638), 16, 16⟩
/-- FORCE_PEAK (07_obstacle_reaction.md, R250). -/
abbrev FORCE_PEAK (d : DIx) : Fld := ⟨(dw d 0x63C), 0, 32⟩
abbrev FORCE_PEAK_PA (d : DIx) : Fld := ⟨(dw d 0x63C), 0, 16⟩
abbrev FORCE_PEAK_PB (d : DIx) : Fld := ⟨(dw d 0x63C), 16, 16⟩
/-- SS1_LAST (07_obstacle_reaction.md, R250). -/
abbrev SS1_LAST (d : DIx) : Fld := ⟨(dw d 0x640), 0, 32⟩
abbrev SS1_LAST_DURATION (d : DIx) : Fld := ⟨(dw d 0x640), 0, 16⟩
abbrev SS1_LAST_END (d : DIx) : Fld := ⟨(dw d 0x640), 16, 4⟩
abbrev SS1_LAST_V0 (d : DIx) : Fld := ⟨(dw d 0x640), 20, 12⟩
/-- OBST_CNT (07_obstacle_reaction.md, R250). -/
abbrev OBST_CNT (d : DIx) : Fld := ⟨(dw d 0x644), 0, 32⟩
abbrev OBST_CNT_EDGE (d : DIx) : Fld := ⟨(dw d 0x644), 0, 8⟩
abbrev OBST_CNT_FORCE (d : DIx) : Fld := ⟨(dw d 0x644), 8, 8⟩
abbrev OBST_CNT_LC (d : DIx) : Fld := ⟨(dw d 0x644), 16, 8⟩
abbrev OBST_CNT_VERDICT (d : DIx) : Fld := ⟨(dw d 0x644), 24, 8⟩
/-- LOCK_STATUS (08_locks_and_the_door_loop.md, R284). -/
abbrev LOCK_STATUS (d : DIx) : Fld := ⟨(dw d 0x700), 0, 32⟩
abbrev LOCK_STATUS_CMD (d : DIx) : Fld := ⟨(dw d 0x700), 0, 1⟩
abbrev LOCK_STATUS_PERMIT (d : DIx) : Fld := ⟨(dw d 0x700), 1, 1⟩
abbrev LOCK_STATUS_ON (d : DIx) : Fld := ⟨(dw d 0x700), 2, 1⟩
abbrev LOCK_STATUS_LOCK_CUR (d : DIx) : Fld := ⟨(dw d 0x700), 3, 1⟩
abbrev LOCK_STATUS_STUCK_ON (d : DIx) : Fld := ⟨(dw d 0x700), 4, 1⟩
abbrev LOCK_STATUS_I_LOCK (d : DIx) : Fld := ⟨(dw d 0x700), 16, 16⟩
/-- LOCK_CFG (08_locks_and_the_door_loop.md, R284). -/
abbrev LOCK_CFG (d : DIx) : Fld := ⟨(dw d 0x704), 0, 32⟩
abbrev LOCK_CFG_LOCK_CH (d : DIx) : Fld := ⟨(dw d 0x704), 0, 3⟩
abbrev LOCK_CFG_LOCK_SETTLE (d : DIx) : Fld := ⟨(dw d 0x704), 8, 8⟩
abbrev LOCK_CFG_ILOCK_MIN (d : DIx) : Fld := ⟨(dw d 0x704), 16, 8⟩
abbrev LOCK_CFG_ILOCK_MAX (d : DIx) : Fld := ⟨(dw d 0x704), 24, 8⟩
/-- PROVE_IN (08_locks_and_the_door_loop.md, R284). -/
abbrev PROVE_IN (d : DIx) : Fld := ⟨(dw d 0x708), 0, 32⟩
abbrev PROVE_IN_CLOSED_A (d : DIx) : Fld := ⟨(dw d 0x708), 0, 4⟩
abbrev PROVE_IN_CLOSED_B (d : DIx) : Fld := ⟨(dw d 0x708), 4, 4⟩
abbrev PROVE_IN_LOCKED_A (d : DIx) : Fld := ⟨(dw d 0x708), 8, 4⟩
abbrev PROVE_IN_LOCKED_B (d : DIx) : Fld := ⟨(dw d 0x708), 12, 4⟩
abbrev PROVE_IN_STOWED (d : DIx) : Fld := ⟨(dw d 0x708), 16, 4⟩
/-- PROVE_IN2 (08_locks_and_the_door_loop.md, R284). -/
abbrev PROVE_IN2 (d : DIx) : Fld := ⟨(dw d 0x70C), 0, 32⟩
abbrev PROVE_IN2_ISO_IN (d : DIx) : Fld := ⟨(dw d 0x70C), 0, 5⟩
abbrev PROVE_IN2_ISO_IN2 (d : DIx) : Fld := ⟨(dw d 0x70C), 8, 5⟩
abbrev PROVE_IN2_CREW_IN (d : DIx) : Fld := ⟨(dw d 0x70C), 16, 5⟩
/-- PROVE_CFG (08_locks_and_the_door_loop.md, R284). -/
abbrev PROVE_CFG (d : DIx) : Fld := ⟨(dw d 0x710), 0, 32⟩
abbrev PROVE_CFG_PROVE_FILT (d : DIx) : Fld := ⟨(dw d 0x710), 0, 8⟩
abbrev PROVE_CFG_CLOSED_SW_POS (d : DIx) : Fld := ⟨(dw d 0x710), 8, 8⟩
abbrev PROVE_CFG_STOW_SW_POS (d : DIx) : Fld := ⟨(dw d 0x710), 16, 8⟩
abbrev PROVE_CFG_SW_TOL (d : DIx) : Fld := ⟨(dw d 0x710), 24, 8⟩
/-- PROVE_STATUS (08_locks_and_the_door_loop.md, R284). -/
abbrev PROVE_STATUS (d : DIx) : Fld := ⟨(dw d 0x714), 0, 32⟩
abbrev PROVE_STATUS_SW (d : DIx) : Fld := ⟨(dw d 0x714), 0, 5⟩
abbrev PROVE_STATUS_ISO (d : DIx) : Fld := ⟨(dw d 0x714), 5, 1⟩
abbrev PROVE_STATUS_CREW (d : DIx) : Fld := ⟨(dw d 0x714), 6, 1⟩
abbrev PROVE_STATUS_ALL_MADE (d : DIx) : Fld := ⟨(dw d 0x714), 7, 1⟩
abbrev PROVE_STATUS_SW_LOST (d : DIx) : Fld := ⟨(dw d 0x714), 8, 1⟩
abbrev PROVE_STATUS_PLAUS_ERR (d : DIx) : Fld := ⟨(dw d 0x714), 9, 1⟩
abbrev PROVE_STATUS_PLAUS_RULE (d : DIx) : Fld := ⟨(dw d 0x714), 10, 3⟩
abbrev PROVE_STATUS_ISO_DISC (d : DIx) : Fld := ⟨(dw d 0x714), 13, 1⟩
/-- STEP_CFG (08_locks_and_the_door_loop.md, R284). -/
abbrev STEP_CFG (d : DIx) : Fld := ⟨(dw d 0x718), 0, 32⟩
abbrev STEP_CFG_STEP_OVERLAP (d : DIx) : Fld := ⟨(dw d 0x718), 0, 8⟩
abbrev STEP_CFG_STEP_DEFAULT (d : DIx) : Fld := ⟨(dw d 0x718), 8, 8⟩
abbrev STEP_CFG_STEP_MAX (d : DIx) : Fld := ⟨(dw d 0x718), 16, 9⟩
abbrev STEP_CFG_VOFF_MAX (d : DIx) : Fld := ⟨(dw d 0x718), 25, 7⟩
/-- STEP_STATUS (08_locks_and_the_door_loop.md, R284). -/
abbrev STEP_STATUS (d : DIx) : Fld := ⟨(dw d 0x71C), 0, 32⟩
abbrev STEP_STATUS_TARGET (d : DIx) : Fld := ⟨(dw d 0x71C), 0, 16⟩
abbrev STEP_STATUS_SRC (d : DIx) : Fld := ⟨(dw d 0x71C), 16, 3⟩
/-- PROOF_LAST (08_locks_and_the_door_loop.md, R284). -/
abbrev PROOF_LAST (d : DIx) : Fld := ⟨(dw d 0x720), 0, 32⟩
abbrev PROOF_LAST_PASS (d : DIx) : Fld := ⟨(dw d 0x720), 0, 1⟩
abbrev PROOF_LAST_VALID (d : DIx) : Fld := ⟨(dw d 0x720), 1, 1⟩
abbrev PROOF_LAST_CAUSE (d : DIx) : Fld := ⟨(dw d 0x720), 8, 4⟩
abbrev PROOF_LAST_PHASE (d : DIx) : Fld := ⟨(dw d 0x720), 12, 4⟩
abbrev PROOF_LAST_DURATION (d : DIx) : Fld := ⟨(dw d 0x720), 16, 16⟩
/-- RESET_STATUS (08_locks_and_the_door_loop.md, R284). -/
abbrev RESET_STATUS (d : DIx) : Fld := ⟨(dw d 0x724), 0, 32⟩
abbrev RESET_STATUS_HIGH (d : DIx) : Fld := ⟨(dw d 0x724), 0, 1⟩
abbrev RESET_STATUS_HELD_LONG (d : DIx) : Fld := ⟨(dw d 0x724), 1, 1⟩
abbrev RESET_STATUS_LAST_SRC (d : DIx) : Fld := ⟨(dw d 0x724), 2, 2⟩
abbrev RESET_STATUS_LAST_RESULT (d : DIx) : Fld := ⟨(dw d 0x724), 4, 4⟩
abbrev RESET_STATUS_COUNT (d : DIx) : Fld := ⟨(dw d 0x724), 16, 16⟩
/-- TL_STATE (08_locks_and_the_door_loop.md, R285). -/
abbrev TL_STATE : Fld := ⟨0x6000, 0, 32⟩
abbrev TL_STATE_FILT : Fld := ⟨0x6000, 0, 12⟩
abbrev TL_STATE_RAW : Fld := ⟨0x6000, 16, 12⟩
/-- TRN_STATUS (08_locks_and_the_door_loop.md, R285). -/
abbrev TRN_STATUS : Fld := ⟨0x6004, 0, 32⟩
abbrev TRN_STATUS_ZS_VALID : Fld := ⟨0x6004, 0, 1⟩
abbrev TRN_STATUS_ZS_DISC : Fld := ⟨0x6004, 1, 1⟩
abbrev TRN_STATUS_DEPOT : Fld := ⟨0x6004, 2, 1⟩
abbrev TRN_STATUS_SIDE1_REL : Fld := ⟨0x6004, 3, 1⟩
abbrev TRN_STATUS_SIDE2_REL : Fld := ⟨0x6004, 4, 1⟩
abbrev TRN_STATUS_NET_REL_LEFT : Fld := ⟨0x6004, 5, 1⟩
abbrev TRN_STATUS_NET_REL_RIGHT : Fld := ⟨0x6004, 6, 1⟩
/-- SIDE_MAP (08_locks_and_the_door_loop.md, R285). -/
abbrev SIDE_MAP : Fld := ⟨0x6008, 0, 32⟩
abbrev SIDE_MAP_ORIENT : Fld := ⟨0x6008, 0, 2⟩
abbrev SIDE_MAP_NET : Fld := ⟨0x6008, 2, 2⟩
abbrev SIDE_MAP_MAP : Fld := ⟨0x6008, 4, 2⟩
abbrev SIDE_MAP_STABLE : Fld := ⟨0x6008, 6, 1⟩
abbrev SIDE_MAP_MISMATCH : Fld := ⟨0x6008, 7, 1⟩
/-- TRN_CFG (08_locks_and_the_door_loop.md, R285). -/
abbrev TRN_CFG : Fld := ⟨0x600C, 0, 32⟩
abbrev TRN_CFG_REL_SRC : Fld := ⟨0x600C, 0, 2⟩
abbrev TRN_CFG_NET_REQ : Fld := ⟨0x600C, 2, 1⟩
abbrev TRN_CFG_PROOF_CONC : Fld := ⟨0x600C, 8, 8⟩
/-- LOOP_CFG (08_locks_and_the_door_loop.md, R285). -/
abbrev LOOP_CFG : Fld := ⟨0x6010, 0, 32⟩
abbrev LOOP_CFG_TP_LEN : Fld := ⟨0x6010, 0, 10⟩
abbrev LOOP_CFG_LOOP1_EN : Fld := ⟨0x6010, 16, 1⟩
abbrev LOOP_CFG_LOOP2_EN : Fld := ⟨0x6010, 17, 1⟩
/-- LOOP1_MEMBERS (08_locks_and_the_door_loop.md, R285). -/
abbrev LOOP1_MEMBERS : Fld := ⟨0x6014, 0, 32⟩
abbrev LOOP1_MEMBERS_MASK : Fld := ⟨0x6014, 0, 24⟩
/-- LOOP2_MEMBERS (08_locks_and_the_door_loop.md, R285). -/
abbrev LOOP2_MEMBERS : Fld := ⟨0x6018, 0, 32⟩
abbrev LOOP2_MEMBERS_MASK : Fld := ⟨0x6018, 0, 24⟩
/-- LOOP_STATUS (08_locks_and_the_door_loop.md, R285). -/
abbrev LOOP_STATUS : Fld := ⟨0x601C, 0, 32⟩
abbrev LOOP_STATUS_L1_CLOSED : Fld := ⟨0x601C, 0, 1⟩
abbrev LOOP_STATUS_L1_HS_RB : Fld := ⟨0x601C, 1, 1⟩
abbrev LOOP_STATUS_L1_LS_RB : Fld := ⟨0x601C, 2, 1⟩
abbrev LOOP_STATUS_L1_FAULT : Fld := ⟨0x601C, 3, 1⟩
abbrev LOOP_STATUS_L1_KIND : Fld := ⟨0x601C, 4, 3⟩
abbrev LOOP_STATUS_L2 : Fld := ⟨0x601C, 8, 8⟩
abbrev LOOP_STATUS_L1_BLOCK : Fld := ⟨0x601C, 16, 5⟩
abbrev LOOP_STATUS_L2_BLOCK : Fld := ⟨0x601C, 24, 5⟩
abbrev LOOP_STATUS_L2_CLOSED : Fld := ⟨0x601C, 8, 1⟩
abbrev LOOP_STATUS_L2_HS_RB : Fld := ⟨0x601C, 9, 1⟩
abbrev LOOP_STATUS_L2_LS_RB : Fld := ⟨0x601C, 10, 1⟩
abbrev LOOP_STATUS_L2_FAULT : Fld := ⟨0x601C, 11, 1⟩
abbrev LOOP_STATUS_L2_KIND : Fld := ⟨0x601C, 12, 3⟩
/-- LOOP_CUR (08_locks_and_the_door_loop.md, R285). -/
abbrev LOOP_CUR : Fld := ⟨0x6020, 0, 32⟩
abbrev LOOP_CUR_LOOP1 : Fld := ⟨0x6020, 0, 16⟩
abbrev LOOP_CUR_LOOP2 : Fld := ⟨0x6020, 16, 16⟩
/-- LOOP_SUP (08_locks_and_the_door_loop.md, R285). -/
abbrev LOOP_SUP : Fld := ⟨0x6024, 0, 32⟩
abbrev LOOP_SUP_LOOP1 : Fld := ⟨0x6024, 0, 16⟩
abbrev LOOP_SUP_LOOP2 : Fld := ⟨0x6024, 16, 16⟩
/-- SO_CFG (08_locks_and_the_door_loop.md, R285). -/
abbrev SO_CFG : Fld := ⟨0x6028, 0, 32⟩
abbrev SO_CFG_SO0_SRC : Fld := ⟨0x6028, 0, 4⟩
abbrev SO_CFG_SO1_SRC : Fld := ⟨0x6028, 4, 4⟩
abbrev SO_CFG_SO2_SRC : Fld := ⟨0x6028, 8, 4⟩
abbrev SO_CFG_SO3_SRC : Fld := ⟨0x6028, 12, 4⟩
/-- SO_STATUS (08_locks_and_the_door_loop.md, R285). -/
abbrev SO_STATUS : Fld := ⟨0x602C, 0, 32⟩
abbrev SO_STATUS_ON : Fld := ⟨0x602C, 0, 4⟩
abbrev SO_STATUS_FAULT : Fld := ⟨0x602C, 4, 4⟩
/-- TRN_CTL (08_locks_and_the_door_loop.md, R285). -/
abbrev TRN_CTL : Fld := ⟨0x6030, 0, 32⟩
abbrev TRN_CTL_PROOF_ALL : Fld := ⟨0x6030, 0, 1⟩
/-- PD_STATUS (09_protective_device_evaluation.md, R305). -/
abbrev PD_STATUS (d : DIx) : Fld := ⟨(dw d 0x800), 0, 32⟩
abbrev PD_STATUS_H1 (d : DIx) : Fld := ⟨(dw d 0x800), 0, 1⟩
abbrev PD_STATUS_H2 (d : DIx) : Fld := ⟨(dw d 0x800), 1, 1⟩
abbrev PD_STATUS_HANDLE_OP (d : DIx) : Fld := ⟨(dw d 0x800), 2, 1⟩
abbrev PD_STATUS_HANDLE_DISC (d : DIx) : Fld := ⟨(dw d 0x800), 3, 1⟩
abbrev PD_STATUS_HANDLE_XS (d : DIx) : Fld := ⟨(dw d 0x800), 4, 1⟩
abbrev PD_STATUS_HANDLE_LOOP (d : DIx) : Fld := ⟨(dw d 0x800), 5, 1⟩
abbrev PD_STATUS_G1 (d : DIx) : Fld := ⟨(dw d 0x800), 6, 1⟩
abbrev PD_STATUS_G2 (d : DIx) : Fld := ⟨(dw d 0x800), 7, 1⟩
abbrev PD_STATUS_GUARD_OPEN (d : DIx) : Fld := ⟨(dw d 0x800), 8, 1⟩
abbrev PD_STATUS_GUARD_FAULT (d : DIx) : Fld := ⟨(dw d 0x800), 9, 1⟩
abbrev PD_STATUS_MAINT (d : DIx) : Fld := ⟨(dw d 0x800), 10, 1⟩
abbrev PD_STATUS_TH_A (d : DIx) : Fld := ⟨(dw d 0x800), 11, 1⟩
abbrev PD_STATUS_TH_B (d : DIx) : Fld := ⟨(dw d 0x800), 12, 1⟩
abbrev PD_STATUS_TH_OK (d : DIx) : Fld := ⟨(dw d 0x800), 13, 1⟩
abbrev PD_STATUS_TH_FAULT (d : DIx) : Fld := ⟨(dw d 0x800), 14, 1⟩
abbrev PD_STATUS_TH_SYNC_ERR (d : DIx) : Fld := ⟨(dw d 0x800), 15, 1⟩
abbrev PD_STATUS_OSSD1 (d : DIx) : Fld := ⟨(dw d 0x800), 16, 1⟩
abbrev PD_STATUS_OSSD2 (d : DIx) : Fld := ⟨(dw d 0x800), 17, 1⟩
abbrev PD_STATUS_LC_OFF (d : DIx) : Fld := ⟨(dw d 0x800), 18, 1⟩
abbrev PD_STATUS_LC_FAULT (d : DIx) : Fld := ⟨(dw d 0x800), 19, 1⟩
abbrev PD_STATUS_LC_TESTING (d : DIx) : Fld := ⟨(dw d 0x800), 20, 1⟩
abbrev PD_STATUS_LC_TEST_OK (d : DIx) : Fld := ⟨(dw d 0x800), 21, 1⟩
/-- PD_IN (09_protective_device_evaluation.md, R305). -/
abbrev PD_IN (d : DIx) : Fld := ⟨(dw d 0x804), 0, 32⟩
abbrev PD_IN_HANDLE1 (d : DIx) : Fld := ⟨(dw d 0x804), 0, 5⟩
abbrev PD_IN_HANDLE2 (d : DIx) : Fld := ⟨(dw d 0x804), 8, 5⟩
abbrev PD_IN_GUARD1 (d : DIx) : Fld := ⟨(dw d 0x804), 16, 5⟩
abbrev PD_IN_GUARD2 (d : DIx) : Fld := ⟨(dw d 0x804), 24, 5⟩
/-- PD_IN2 (09_protective_device_evaluation.md, R305). -/
abbrev PD_IN2 (d : DIx) : Fld := ⟨(dw d 0x808), 0, 32⟩
abbrev PD_IN2_TH1 (d : DIx) : Fld := ⟨(dw d 0x808), 0, 5⟩
abbrev PD_IN2_TH2 (d : DIx) : Fld := ⟨(dw d 0x808), 8, 5⟩
abbrev PD_IN2_TH3 (d : DIx) : Fld := ⟨(dw d 0x808), 16, 5⟩
abbrev PD_IN2_TH4 (d : DIx) : Fld := ⟨(dw d 0x808), 24, 5⟩
/-- PD_IN3 (09_protective_device_evaluation.md, R305). -/
abbrev PD_IN3 (d : DIx) : Fld := ⟨(dw d 0x80C), 0, 32⟩
abbrev PD_IN3_OSSD1_IN (d : DIx) : Fld := ⟨(dw d 0x80C), 0, 5⟩
abbrev PD_IN3_OSSD2_IN (d : DIx) : Fld := ⟨(dw d 0x80C), 8, 5⟩
abbrev PD_IN3_LC_TEST_CH (d : DIx) : Fld := ⟨(dw d 0x80C), 16, 3⟩
/-- PD_CFG (09_protective_device_evaluation.md, R305). -/
abbrev PD_CFG (d : DIx) : Fld := ⟨(dw d 0x810), 0, 32⟩
abbrev PD_CFG_HANDLE_FILT (d : DIx) : Fld := ⟨(dw d 0x810), 0, 8⟩
abbrev PD_CFG_GUARD_FILT (d : DIx) : Fld := ⟨(dw d 0x810), 8, 8⟩
abbrev PD_CFG_TH_FILT (d : DIx) : Fld := ⟨(dw d 0x810), 16, 8⟩
abbrev PD_CFG_GUARD_EN (d : DIx) : Fld := ⟨(dw d 0x810), 24, 1⟩
abbrev PD_CFG_GUARD_TPS (d : DIx) : Fld := ⟨(dw d 0x810), 25, 1⟩
abbrev PD_CFG_TH_EN (d : DIx) : Fld := ⟨(dw d 0x810), 26, 1⟩
abbrev PD_CFG_TH_MODE (d : DIx) : Fld := ⟨(dw d 0x810), 27, 1⟩
abbrev PD_CFG_TH_REQ (d : DIx) : Fld := ⟨(dw d 0x810), 28, 1⟩
/-- LC_CFG (09_protective_device_evaluation.md, R305). -/
abbrev LC_CFG (d : DIx) : Fld := ⟨(dw d 0x814), 0, 32⟩
abbrev LC_CFG_LC_TYPE (d : DIx) : Fld := ⟨(dw d 0x814), 0, 1⟩
abbrev LC_CFG_LC_FILT (d : DIx) : Fld := ⟨(dw d 0x814), 8, 8⟩
abbrev LC_CFG_LC_DISC (d : DIx) : Fld := ⟨(dw d 0x814), 16, 8⟩
abbrev LC_CFG_LC_TEST_RESP (d : DIx) : Fld := ⟨(dw d 0x814), 24, 8⟩
/-- PD_CTL (09_protective_device_evaluation.md, R305). -/
abbrev PD_CTL (d : DIx) : Fld := ⟨(dw d 0x818), 0, 32⟩
abbrev PD_CTL_LC_TEST (d : DIx) : Fld := ⟨(dw d 0x818), 0, 1⟩
/-- PD_CNT (09_protective_device_evaluation.md, R305). -/
abbrev PD_CNT (d : DIx) : Fld := ⟨(dw d 0x81C), 0, 32⟩
abbrev PD_CNT_HANDLE (d : DIx) : Fld := ⟨(dw d 0x81C), 0, 16⟩
abbrev PD_CNT_TH_STOP (d : DIx) : Fld := ⟨(dw d 0x81C), 16, 16⟩
/-- TL_CFG (10_field_inputs_and_load_channels.md, R313). -/
abbrev TL_CFG : Fld := ⟨0x6040, 0, 32⟩
abbrev TL_CFG_NOMV : Fld := ⟨0x6040, 0, 2⟩
/-- TL_FILT0 (10_field_inputs_and_load_channels.md, R313). -/
abbrev TL_FILT0 : Fld := ⟨0x6044, 0, 32⟩
/-- TL_FILT1 (10_field_inputs_and_load_channels.md, R313). -/
abbrev TL_FILT1 : Fld := ⟨0x6048, 0, 32⟩
/-- TL_FILT2 (10_field_inputs_and_load_channels.md, R313). -/
abbrev TL_FILT2 : Fld := ⟨0x604C, 0, 32⟩
/-- IN_STATE (10_field_inputs_and_load_channels.md, R315). -/
abbrev IN_STATE (d : DIx) : Fld := ⟨(dw d 0xA00), 0, 32⟩
abbrev IN_STATE_FILT (d : DIx) : Fld := ⟨(dw d 0xA00), 0, 16⟩
abbrev IN_STATE_RAW (d : DIx) : Fld := ⟨(dw d 0xA00), 16, 16⟩
/-- IN_EDGE (10_field_inputs_and_load_channels.md, R315). -/
abbrev IN_EDGE (d : DIx) : Fld := ⟨(dw d 0xA04), 0, 32⟩
abbrev IN_EDGE_RISE (d : DIx) : Fld := ⟨(dw d 0xA04), 0, 16⟩
abbrev IN_EDGE_FALL (d : DIx) : Fld := ⟨(dw d 0xA04), 16, 16⟩
/-- IN_FILT (10_field_inputs_and_load_channels.md, R315). -/
abbrev IN_FILT (d : DIx) (n : Nat) : Fld := ⟨((dw d 0xA08) + n * 4), 0, 32⟩
/-- FSUP (10_field_inputs_and_load_channels.md, R315). -/
abbrev FSUP (d : DIx) : Fld := ⟨(dw d 0xA18), 0, 32⟩
abbrev FSUP_VFIELD (d : DIx) : Fld := ⟨(dw d 0xA18), 0, 12⟩
abbrev FSUP_STATE (d : DIx) : Fld := ⟨(dw d 0xA18), 12, 2⟩
abbrev FSUP_STALE (d : DIx) : Fld := ⟨(dw d 0xA18), 14, 1⟩
abbrev FSUP_SEEN_LOW (d : DIx) : Fld := ⟨(dw d 0xA18), 15, 1⟩
abbrev FSUP_LOW_CNT (d : DIx) : Fld := ⟨(dw d 0xA18), 16, 8⟩
/-- CH_CFG (10_field_inputs_and_load_channels.md, R325). -/
abbrev CH_CFG (d : DIx) (k : KIx) : Fld := ⟨(ch d k 0x0), 0, 32⟩
abbrev CH_CFG_SRC (d : DIx) (k : KIx) : Fld := ⟨(ch d k 0x0), 0, 3⟩
abbrev CH_CFG_SIG (d : DIx) (k : KIx) : Fld := ⟨(ch d k 0x0), 3, 3⟩
abbrev CH_CFG_INRUSH_WIN (d : DIx) (k : KIx) : Fld := ⟨(ch d k 0x0), 8, 6⟩
/-- CH_CTL (10_field_inputs_and_load_channels.md, R325). -/
abbrev CH_CTL (d : DIx) (k : KIx) : Fld := ⟨(ch d k 0x4), 0, 32⟩
abbrev CH_CTL_ON (d : DIx) (k : KIx) : Fld := ⟨(ch d k 0x4), 0, 1⟩
abbrev CH_CTL_CLEAR (d : DIx) (k : KIx) : Fld := ⟨(ch d k 0x4), 1, 1⟩
abbrev CH_CTL_REFUSED (d : DIx) (k : KIx) : Fld := ⟨(ch d k 0x4), 16, 1⟩
/-- CH_STATUS (10_field_inputs_and_load_channels.md, R325). -/
abbrev CH_STATUS (d : DIx) (k : KIx) : Fld := ⟨(ch d k 0x8), 0, 32⟩
abbrev CH_STATUS_STATE (d : DIx) (k : KIx) : Fld := ⟨(ch d k 0x8), 0, 3⟩
abbrev CH_STATUS_LIMITING (d : DIx) (k : KIx) : Fld := ⟨(ch d k 0x8), 3, 1⟩
abbrev CH_STATUS_LIMP (d : DIx) (k : KIx) : Fld := ⟨(ch d k 0x8), 4, 1⟩
abbrev CH_STATUS_SC (d : DIx) (k : KIx) : Fld := ⟨(ch d k 0x8), 5, 1⟩
abbrev CH_STATUS_OT (d : DIx) (k : KIx) : Fld := ⟨(ch d k 0x8), 6, 1⟩
abbrev CH_STATUS_CLASS (d : DIx) (k : KIx) : Fld := ⟨(ch d k 0x8), 7, 2⟩
abbrev CH_STATUS_RESTARTS (d : DIx) (k : KIx) : Fld := ⟨(ch d k 0x8), 9, 3⟩
abbrev CH_STATUS_CMD (d : DIx) (k : KIx) : Fld := ⟨(ch d k 0x8), 12, 1⟩
abbrev CH_STATUS_TSD_CNT (d : DIx) (k : KIx) : Fld := ⟨(ch d k 0x8), 16, 16⟩
/-- CH_MEAS (10_field_inputs_and_load_channels.md, R325). -/
abbrev CH_MEAS (d : DIx) (k : KIx) : Fld := ⟨(ch d k 0xC), 0, 32⟩
abbrev CH_MEAS_I (d : DIx) (k : KIx) : Fld := ⟨(ch d k 0xC), 0, 16⟩
abbrev CH_MEAS_CLAMP (d : DIx) (k : KIx) : Fld := ⟨(ch d k 0xC), 16, 16⟩
/-- FIO_STATUS (10_field_inputs_and_load_channels.md, R328). -/
abbrev FIO_STATUS (n : Nat) : Fld := ⟨(0x6060 + n * 4), 0, 32⟩
abbrev FIO_STATUS_ALIVE_OK (n : Nat) : Fld := ⟨(0x6060 + n * 4), 0, 1⟩
abbrev FIO_STATUS_LINK_OK (n : Nat) : Fld := ⟨(0x6060 + n * 4), 1, 1⟩
abbrev FIO_STATUS_ALIVE_LOST (n : Nat) : Fld := ⟨(0x6060 + n * 4), 2, 1⟩
abbrev FIO_STATUS_LINK_FAULT (n : Nat) : Fld := ⟨(0x6060 + n * 4), 3, 1⟩
abbrev FIO_STATUS_REF_ERR (n : Nat) : Fld := ⟨(0x6060 + n * 4), 4, 1⟩
abbrev FIO_STATUS_LH_ACTIVE (n : Nat) : Fld := ⟨(0x6060 + n * 4), 5, 1⟩
abbrev FIO_STATUS_TEMP (n : Nat) : Fld := ⟨(0x6060 + n * 4), 8, 8⟩
/-- FIO_ERR (10_field_inputs_and_load_channels.md, R328). -/
abbrev FIO_ERR (n : Nat) : Fld := ⟨(0x6070 + n * 4), 0, 32⟩
abbrev FIO_ERR_LINK (n : Nat) : Fld := ⟨(0x6070 + n * 4), 0, 16⟩
abbrev FIO_ERR_OVR (n : Nat) : Fld := ⟨(0x6070 + n * 4), 16, 16⟩
/-- LH_CFG (10_field_inputs_and_load_channels.md, R328). -/
abbrev LH_CFG (n : Nat) : Fld := ⟨(0x6080 + n * 4), 0, 32⟩
abbrev LH_CFG_CH (n : Nat) : Fld := ⟨(0x6080 + n * 4), 0, 8⟩
/-- LH_STATUS (10_field_inputs_and_load_channels.md, R328). -/
abbrev LH_STATUS : Fld := ⟨0x60C0, 0, 32⟩
abbrev LH_STATUS_LH_IN : Fld := ⟨0x60C0, 0, 16⟩
abbrev LH_STATUS_LH_EN : Fld := ⟨0x60C0, 16, 1⟩
abbrev LH_STATUS_ACTIVE : Fld := ⟨0x60C0, 17, 1⟩
/-- CFG_STATUS (11_slovy_configuration_image.md, R364). -/
abbrev CFG_STATUS : Fld := ⟨0x2000, 0, 32⟩
abbrev CFG_STATUS_RUN_SLOT : Fld := ⟨0x2000, 0, 2⟩
abbrev CFG_STATUS_BOOT_FAIL : Fld := ⟨0x2000, 2, 1⟩
abbrev CFG_STATUS_KEYS_EMPTY : Fld := ⟨0x2000, 3, 1⟩
abbrev CFG_STATUS_LOAD : Fld := ⟨0x2000, 4, 3⟩
abbrev CFG_STATUS_LOAD_KIND : Fld := ⟨0x2000, 7, 1⟩
abbrev CFG_STATUS_PEND_CLASS : Fld := ⟨0x2000, 8, 2⟩
/-- CFG_CTL (11_slovy_configuration_image.md, R364). -/
abbrev CFG_CTL : Fld := ⟨0x2004, 0, 32⟩
abbrev CFG_CTL_VERIFY : Fld := ⟨0x2004, 0, 1⟩
abbrev CFG_CTL_DISCARD : Fld := ⟨0x2004, 1, 1⟩
/-- CFG_GEN (11_slovy_configuration_image.md, R364). -/
abbrev CFG_GEN : Fld := ⟨0x2008, 0, 32⟩
/-- CFG_CODE (11_slovy_configuration_image.md, R364). -/
abbrev CFG_CODE : Fld := ⟨0x200C, 0, 32⟩
/-- PEND_GEN (11_slovy_configuration_image.md, R364). -/
abbrev PEND_GEN : Fld := ⟨0x2010, 0, 32⟩
/-- PEND_CODE (11_slovy_configuration_image.md, R364). -/
abbrev PEND_CODE : Fld := ⟨0x2014, 0, 32⟩
/-- CFG_REFUSE (11_slovy_configuration_image.md, R364). -/
abbrev CFG_REFUSE : Fld := ⟨0x2018, 0, 32⟩
abbrev CFG_REFUSE_CHECK : Fld := ⟨0x2018, 0, 4⟩
abbrev CFG_REFUSE_SECTION : Fld := ⟨0x2018, 4, 4⟩
abbrev CFG_REFUSE_DETAIL : Fld := ⟨0x2018, 8, 24⟩
/-- BEHAVIOUR (11_slovy_configuration_image.md, R364). -/
abbrev BEHAVIOUR : Fld := ⟨0x201C, 0, 32⟩
abbrev BEHAVIOUR_IMAGE_LEVEL : Fld := ⟨0x201C, 0, 8⟩
abbrev BEHAVIOUR_STRAP : Fld := ⟨0x201C, 8, 1⟩
abbrev BEHAVIOUR_EFFECTIVE : Fld := ⟨0x201C, 9, 1⟩
/-- KEY_STATUS (11_slovy_configuration_image.md, R364). -/
abbrev KEY_STATUS : Fld := ⟨0x2020, 0, 32⟩
abbrev KEY_STATUS_ENROLLED : Fld := ⟨0x2020, 0, 4⟩
/-- KEYSTORE_GEN (11_slovy_configuration_image.md, R364). -/
abbrev KEYSTORE_GEN : Fld := ⟨0x2024, 0, 32⟩
/-- KEY_ID (11_slovy_configuration_image.md, R364). -/
abbrev KEY_ID (n : Nat) : Fld := ⟨(0x2028 + n * 4), 0, 32⟩
/-- ARM (11_slovy_configuration_image.md, R364). -/
abbrev ARM : Fld := ⟨0x2038, 0, 32⟩
abbrev ARM_TARGET : Fld := ⟨0x2038, 0, 2⟩
abbrev ARM_DOORWAY : Fld := ⟨0x2038, 8, 5⟩
abbrev ARM_REMAIN : Fld := ⟨0x2038, 16, 16⟩
/-- MSTORE (11_slovy_configuration_image.md, R364). -/
abbrev MSTORE : Fld := ⟨0x203C, 0, 32⟩
abbrev MSTORE_FREE : Fld := ⟨0x203C, 0, 12⟩
abbrev MSTORE_FAULT : Fld := ⟨0x203C, 12, 1⟩
/-- PLC_STATUS (12_placement.md, R383). -/
abbrev PLC_STATUS : Fld := ⟨0x1000, 0, 32⟩
abbrev PLC_STATUS_VALID : Fld := ⟨0x1000, 0, 1⟩
abbrev PLC_STATUS_PENDING : Fld := ⟨0x1000, 1, 1⟩
abbrev PLC_STATUS_SHORT : Fld := ⟨0x1000, 2, 1⟩
abbrev PLC_STATUS_HINT_UNMET : Fld := ⟨0x1000, 3, 1⟩
abbrev PLC_STATUS_PLACED : Fld := ⟨0x1000, 16, 10⟩
/-- PLC_DIGEST (12_placement.md, R383). -/
abbrev PLC_DIGEST : Fld := ⟨0x1004, 0, 32⟩
/-- PLC_CHANGES (12_placement.md, R383). -/
abbrev PLC_CHANGES : Fld := ⟨0x1008, 0, 32⟩
/-- PLC_LAST (12_placement.md, R383). -/
abbrev PLC_LAST : Fld := ⟨0x100C, 0, 32⟩
abbrev PLC_LAST_CAUSE : Fld := ⟨0x100C, 0, 4⟩
abbrev PLC_LAST_POOL : Fld := ⟨0x100C, 4, 4⟩
abbrev PLC_LAST_DOORWAY : Fld := ⟨0x100C, 8, 5⟩
abbrev PLC_LAST_OLD : Fld := ⟨0x100C, 16, 6⟩
abbrev PLC_LAST_NEW : Fld := ⟨0x100C, 24, 6⟩
/-- MAP_SEL (12_placement.md, R383). -/
abbrev MAP_SEL : Fld := ⟨0x1010, 0, 32⟩
abbrev MAP_SEL_F : Fld := ⟨0x1010, 0, 9⟩
/-- MAP_DATA (12_placement.md, R383). -/
abbrev MAP_DATA : Fld := ⟨0x1014, 0, 32⟩
abbrev MAP_DATA_POOL_A : Fld := ⟨0x1014, 0, 4⟩
abbrev MAP_DATA_INDEX_A : Fld := ⟨0x1014, 4, 6⟩
abbrev MAP_DATA_POOL_B : Fld := ⟨0x1014, 10, 4⟩
abbrev MAP_DATA_INDEX_B : Fld := ⟨0x1014, 14, 6⟩
abbrev MAP_DATA_PINNED : Fld := ⟨0x1014, 20, 1⟩
abbrev MAP_DATA_HINT_UNMET : Fld := ⟨0x1014, 21, 1⟩
abbrev MAP_DATA_UNPLACED : Fld := ⟨0x1014, 22, 1⟩
abbrev MAP_DATA_FIXED : Fld := ⟨0x1014, 23, 1⟩
abbrev MAP_DATA_TYPE : Fld := ⟨0x1014, 24, 8⟩
/-- POOL_STATUS (12_placement.md, R383). -/
abbrev POOL_STATUS (n : Nat) : Fld := ⟨(0x1020 + n * 4), 0, 32⟩
abbrev POOL_STATUS_PRESENT (n : Nat) : Fld := ⟨(0x1020 + n * 4), 0, 8⟩
abbrev POOL_STATUS_BOUND (n : Nat) : Fld := ⟨(0x1020 + n * 4), 8, 8⟩
abbrev POOL_STATUS_SPARE (n : Nat) : Fld := ⟨(0x1020 + n * 4), 16, 8⟩
abbrev POOL_STATUS_FAULTY (n : Nat) : Fld := ⟨(0x1020 + n * 4), 24, 8⟩
/-- PLC_DWY (12_placement.md, R383). -/
abbrev PLC_DWY (n : Nat) : Fld := ⟨(0x1040 + n * 4), 0, 32⟩
abbrev PLC_DWY_SES (n : Nat) : Fld := ⟨(0x1040 + n * 4), 0, 6⟩
abbrev PLC_DWY_ENG (n : Nat) : Fld := ⟨(0x1040 + n * 4), 8, 6⟩
abbrev PLC_DWY_DRAM (n : Nat) : Fld := ⟨(0x1040 + n * 4), 16, 6⟩
abbrev PLC_DWY_REC (n : Nat) : Fld := ⟨(0x1040 + n * 4), 24, 6⟩
abbrev PLC_DWY_MOVE_PENDING (n : Nat) : Fld := ⟨(0x1040 + n * 4), 30, 1⟩
/-- FAULT_SES (12_placement.md, R383). -/
abbrev FAULT_SES : Fld := ⟨0x10A0, 0, 32⟩
/-- FAULT_ENG (12_placement.md, R383). -/
abbrev FAULT_ENG : Fld := ⟨0x10A4, 0, 32⟩
/-- FAULT_DRAM (12_placement.md, R383). -/
abbrev FAULT_DRAM : Fld := ⟨0x10A8, 0, 32⟩
/-- DEGR_DRAM (12_placement.md, R383). -/
abbrev DEGR_DRAM : Fld := ⟨0x10AC, 0, 32⟩
/-- FAULT_REC (12_placement.md, R383). -/
abbrev FAULT_REC : Fld := ⟨0x10B0, 0, 32⟩
/-- FAULT_CVU_LO (12_placement.md, R383). -/
abbrev FAULT_CVU_LO : Fld := ⟨0x10B4, 0, 32⟩
/-- FAULT_CVU_HI (12_placement.md, R383). -/
abbrev FAULT_CVU_HI : Fld := ⟨0x10B8, 0, 32⟩
/-- FLT_STATUS (13_faults_and_recovery.md, R418). -/
abbrev FLT_STATUS : Fld := ⟨0x3000, 0, 32⟩
abbrev FLT_STATUS_SAFE : Fld := ⟨0x3000, 0, 1⟩
abbrev FLT_STATUS_ATTN : Fld := ⟨0x3000, 1, 1⟩
abbrev FLT_STATUS_CLEAR_OK : Fld := ⟨0x3000, 2, 1⟩
abbrev FLT_STATUS_SFG : Fld := ⟨0x3000, 3, 1⟩
abbrev FLT_STATUS_CYCLE_DUE : Fld := ⟨0x3000, 4, 1⟩
abbrev FLT_STATUS_FENCED : Fld := ⟨0x3000, 8, 5⟩
abbrev FLT_STATUS_WINDOWS : Fld := ⟨0x3000, 16, 5⟩
/-- FLT_SAFE (13_faults_and_recovery.md, R418). -/
abbrev FLT_SAFE : Fld := ⟨0x3004, 0, 32⟩
abbrev FLT_SAFE_PENDING : Fld := ⟨0x3004, 1, 9⟩
abbrev FLT_SAFE_FIRST : Fld := ⟨0x3004, 16, 8⟩
/-- FLT_WINDOWS (13_faults_and_recovery.md, R418). -/
abbrev FLT_WINDOWS : Fld := ⟨0x3008, 0, 32⟩
abbrev FLT_WINDOWS_OPEN : Fld := ⟨0x3008, 0, 8⟩
/-- FLT_QT (13_faults_and_recovery.md, R418). -/
abbrev FLT_QT : Fld := ⟨0x300C, 0, 32⟩
abbrev FLT_QT_S_PASS : Fld := ⟨0x300C, 0, 1⟩
abbrev FLT_QT_A_PASS : Fld := ⟨0x300C, 1, 1⟩
abbrev FLT_QT_TRIPPED : Fld := ⟨0x300C, 2, 1⟩
abbrev FLT_QT_CAUSE : Fld := ⟨0x300C, 8, 5⟩
abbrev FLT_QT_BY_S : Fld := ⟨0x300C, 16, 1⟩
abbrev FLT_QT_BY_A : Fld := ⟨0x300C, 17, 1⟩
abbrev FLT_QT_TRIPS : Fld := ⟨0x300C, 24, 8⟩
/-- FLT_RESTART (13_faults_and_recovery.md, R418). -/
abbrev FLT_RESTART : Fld := ⟨0x3010, 0, 32⟩
abbrev FLT_RESTART_HOW : Fld := ⟨0x3010, 0, 3⟩
abbrev FLT_RESTART_COUNT : Fld := ⟨0x3010, 16, 16⟩
/-- FLT_DRAM (13_faults_and_recovery.md, R418). -/
abbrev FLT_DRAM : Fld := ⟨0x3014, 0, 32⟩
abbrev FLT_DRAM_CORR : Fld := ⟨0x3014, 0, 16⟩
abbrev FLT_DRAM_UNCORR : Fld := ⟨0x3014, 16, 16⟩
/-- FLT_DRAM_ADDR (13_faults_and_recovery.md, R418). -/
abbrev FLT_DRAM_ADDR : Fld := ⟨0x3018, 0, 32⟩
/-- FLT_SCRUB (13_faults_and_recovery.md, R418). -/
abbrev FLT_SCRUB : Fld := ⟨0x301C, 0, 32⟩
abbrev FLT_SCRUB_REGION : Fld := ⟨0x301C, 0, 8⟩
abbrev FLT_SCRUB_LONGEST : Fld := ⟨0x301C, 16, 16⟩
/-- FLT_WDOG (13_faults_and_recovery.md, R418). -/
abbrev FLT_WDOG : Fld := ⟨0x3020, 0, 32⟩
abbrev FLT_WDOG_MARGIN : Fld := ⟨0x3020, 0, 16⟩
/-- FLT_CLK (13_faults_and_recovery.md, R418). -/
abbrev FLT_CLK : Fld := ⟨0x3024, 0, 32⟩
abbrev FLT_CLK_REF : Fld := ⟨0x3024, 0, 1⟩
abbrev FLT_CLK_CTL : Fld := ⟨0x3024, 1, 1⟩
abbrev FLT_CLK_ENG : Fld := ⟨0x3024, 2, 1⟩
abbrev FLT_CLK_DRV : Fld := ⟨0x3024, 3, 1⟩
abbrev FLT_CLK_FIO : Fld := ⟨0x3024, 4, 1⟩
/-- FLT_EVENTS (13_faults_and_recovery.md, R418). -/
abbrev FLT_EVENTS : Fld := ⟨0x3028, 0, 32⟩
/-- FLT_DWY (13_faults_and_recovery.md, R418). -/
abbrev FLT_DWY (n : Nat) : Fld := ⟨(0x3100 + n * 4), 0, 32⟩
abbrev FLT_DWY_WINDOW (n : Nat) : Fld := ⟨(0x3100 + n * 4), 0, 1⟩
abbrev FLT_DWY_STANDING (n : Nat) : Fld := ⟨(0x3100 + n * 4), 1, 1⟩
abbrev FLT_DWY_SEQ_FAULT (n : Nat) : Fld := ⟨(0x3100 + n * 4), 2, 1⟩
abbrev FLT_DWY_CYCLE_DUE (n : Nat) : Fld := ⟨(0x3100 + n * 4), 3, 1⟩
abbrev FLT_DWY_FIRST_SRC (n : Nat) : Fld := ⟨(0x3100 + n * 4), 4, 4⟩
abbrev FLT_DWY_FENCE_SET (n : Nat) : Fld := ⟨(0x3100 + n * 4), 8, 15⟩
abbrev FLT_DWY_HOURS (n : Nat) : Fld := ⟨(0x3100 + n * 4), 24, 8⟩
/-- CVU_CFG (13_faults_and_recovery.md, R419). -/
abbrev CVU_CFG (u : UIx) : Fld := ⟨(cvu u 0x0), 0, 32⟩
abbrev CVU_CFG_EN (u : UIx) : Fld := ⟨(cvu u 0x0), 0, 1⟩
abbrev CVU_CFG_STREAM (u : UIx) : Fld := ⟨(cvu u 0x0), 4, 4⟩
abbrev CVU_CFG_SEL (u : UIx) : Fld := ⟨(cvu u 0x0), 8, 5⟩
abbrev CVU_CFG_WIDTH (u : UIx) : Fld := ⟨(cvu u 0x0), 16, 6⟩
abbrev CVU_CFG_REFIN (u : UIx) : Fld := ⟨(cvu u 0x0), 24, 1⟩
abbrev CVU_CFG_REFOUT (u : UIx) : Fld := ⟨(cvu u 0x0), 25, 1⟩
/-- CVU_POLY (13_faults_and_recovery.md, R419). -/
abbrev CVU_POLY (u : UIx) : Fld := ⟨(cvu u 0x4), 0, 32⟩
/-- CVU_INIT (13_faults_and_recovery.md, R419). -/
abbrev CVU_INIT (u : UIx) : Fld := ⟨(cvu u 0x8), 0, 32⟩
/-- CVU_XOROUT (13_faults_and_recovery.md, R419). -/
abbrev CVU_XOROUT (u : UIx) : Fld := ⟨(cvu u 0xC), 0, 32⟩
/-- CVU_CHECK (13_faults_and_recovery.md, R419). -/
abbrev CVU_CHECK (u : UIx) : Fld := ⟨(cvu u 0x10), 0, 32⟩
/-- CVU_STATUS (13_faults_and_recovery.md, R419). -/
abbrev CVU_STATUS (u : UIx) : Fld := ⟨(cvu u 0x14), 0, 32⟩
abbrev CVU_STATUS_STATE (u : UIx) : Fld := ⟨(cvu u 0x14), 0, 2⟩
abbrev CVU_STATUS_PHYS (u : UIx) : Fld := ⟨(cvu u 0x14), 8, 6⟩
abbrev CVU_STATUS_KAT_OK (u : UIx) : Fld := ⟨(cvu u 0x14), 16, 1⟩
/-- CVU_VALUE (13_faults_and_recovery.md, R419). -/
abbrev CVU_VALUE (u : UIx) : Fld := ⟨(cvu u 0x18), 0, 32⟩
/-- CVU_COUNT (13_faults_and_recovery.md, R419). -/
abbrev CVU_COUNT (u : UIx) : Fld := ⟨(cvu u 0x1C), 0, 32⟩
/-- CVU_ERR (13_faults_and_recovery.md, R419). -/
abbrev CVU_ERR (u : UIx) : Fld := ⟨(cvu u 0x20), 0, 32⟩
abbrev CVU_ERR_REJECT (u : UIx) : Fld := ⟨(cvu u 0x20), 0, 16⟩
abbrev CVU_ERR_DISAGREE (u : UIx) : Fld := ⟨(cvu u 0x20), 16, 16⟩
/-- RP_STATUS (14_redundant_pair_and_live_insertion.md, R441). -/
abbrev RP_STATUS : Fld := ⟨0x4000, 0, 32⟩
abbrev RP_STATUS_ROLE : Fld := ⟨0x4000, 0, 2⟩
abbrev RP_STATUS_SLOT : Fld := ⟨0x4000, 2, 1⟩
abbrev RP_STATUS_AUTH : Fld := ⟨0x4000, 3, 1⟩
abbrev RP_STATUS_PARTNER_AUTH : Fld := ⟨0x4000, 4, 1⟩
abbrev RP_STATUS_HEARTBEAT : Fld := ⟨0x4000, 5, 1⟩
abbrev RP_STATUS_LINK_UP : Fld := ⟨0x4000, 6, 1⟩
abbrev RP_STATUS_LANE_FAULT : Fld := ⟨0x4000, 7, 1⟩
abbrev RP_STATUS_VARIANT_MISMATCH : Fld := ⟨0x4000, 8, 1⟩
abbrev RP_STATUS_SLOT_CONFLICT : Fld := ⟨0x4000, 9, 1⟩
abbrev RP_STATUS_AUTH_LINE : Fld := ⟨0x4000, 10, 1⟩
abbrev RP_STATUS_HANDOVER : Fld := ⟨0x4000, 11, 1⟩
abbrev RP_STATUS_SWAP_OK : Fld := ⟨0x4000, 12, 1⟩
abbrev RP_STATUS_RESYNCING : Fld := ⟨0x4000, 13, 1⟩
abbrev RP_STATUS_CONTENT : Fld := ⟨0x4000, 14, 1⟩
abbrev RP_STATUS_PARTNER_PRESENT : Fld := ⟨0x4000, 15, 1⟩
/-- RP_CTL (14_redundant_pair_and_live_insertion.md, R441). -/
abbrev RP_CTL : Fld := ⟨0x4004, 0, 32⟩
abbrev RP_CTL_HANDOVER_REQ : Fld := ⟨0x4004, 0, 1⟩
abbrev RP_CTL_CANCEL : Fld := ⟨0x4004, 1, 1⟩
abbrev RP_CTL_RESYNC : Fld := ⟨0x4004, 2, 1⟩
abbrev RP_CTL_PARTNER_RESTART : Fld := ⟨0x4004, 3, 1⟩
abbrev RP_CTL_REFUSED : Fld := ⟨0x4004, 16, 1⟩
/-- RP_CFG (14_redundant_pair_and_live_insertion.md, R441). -/
abbrev RP_CFG : Fld := ⟨0x4008, 0, 32⟩
abbrev RP_CFG_AUTO_RESTART : Fld := ⟨0x4008, 0, 1⟩
abbrev RP_CFG_RESTART_WAIT : Fld := ⟨0x4008, 8, 8⟩
/-- RP_MIRROR (14_redundant_pair_and_live_insertion.md, R441). -/
abbrev RP_MIRROR : Fld := ⟨0x400C, 0, 32⟩
/-- RP_MIRROR_ERR (14_redundant_pair_and_live_insertion.md, R441). -/
abbrev RP_MIRROR_ERR : Fld := ⟨0x4010, 0, 32⟩
abbrev RP_MIRROR_ERR_LANE0 : Fld := ⟨0x4010, 0, 16⟩
abbrev RP_MIRROR_ERR_LANE1 : Fld := ⟨0x4010, 16, 16⟩
/-- RP_TAKEOVER (14_redundant_pair_and_live_insertion.md, R441). -/
abbrev RP_TAKEOVER : Fld := ⟨0x4014, 0, 32⟩
abbrev RP_TAKEOVER_CAUSE : Fld := ⟨0x4014, 0, 4⟩
abbrev RP_TAKEOVER_HELD : Fld := ⟨0x4014, 8, 8⟩
abbrev RP_TAKEOVER_WINDOW : Fld := ⟨0x4014, 16, 16⟩
/-- RP_COUNTS (14_redundant_pair_and_live_insertion.md, R441). -/
abbrev RP_COUNTS : Fld := ⟨0x4018, 0, 32⟩
abbrev RP_COUNTS_CLAIMS : Fld := ⟨0x4018, 0, 8⟩
abbrev RP_COUNTS_HANDOVERS : Fld := ⟨0x4018, 8, 8⟩
abbrev RP_COUNTS_RESYNCS : Fld := ⟨0x4018, 16, 8⟩
abbrev RP_COUNTS_RESTARTS : Fld := ⟨0x4018, 24, 8⟩
/-- RP_PARTNER (14_redundant_pair_and_live_insertion.md, R441). -/
abbrev RP_PARTNER : Fld := ⟨0x401C, 0, 32⟩
abbrev RP_PARTNER_VARIANT : Fld := ⟨0x401C, 0, 8⟩
abbrev RP_PARTNER_ROLE : Fld := ⟨0x401C, 8, 2⟩
abbrev RP_PARTNER_STATE : Fld := ⟨0x401C, 10, 3⟩
abbrev RP_PARTNER_SLOT : Fld := ⟨0x401C, 13, 1⟩
abbrev RP_PARTNER_LIVE : Fld := ⟨0x401C, 14, 1⟩
/-- RP_SEQ_FENCE (14_redundant_pair_and_live_insertion.md, R441). -/
abbrev RP_SEQ_FENCE : Fld := ⟨0x4020, 0, 32⟩
/-- REC_STATUS (15_cycle_recorder.md, R474). -/
abbrev REC_STATUS : Fld := ⟨0x5000, 0, 32⟩
abbrev REC_STATUS_READY : Fld := ⟨0x5000, 0, 1⟩
abbrev REC_STATUS_STOPPED : Fld := ⟨0x5000, 1, 1⟩
abbrev REC_STATUS_STOP_CAUSE : Fld := ⟨0x5000, 2, 2⟩
abbrev REC_STATUS_MODE : Fld := ⟨0x5000, 4, 1⟩
abbrev REC_STATUS_F_STATE : Fld := ⟨0x5000, 5, 2⟩
abbrev REC_STATUS_REFRESHING : Fld := ⟨0x5000, 7, 1⟩
abbrev REC_STATUS_SCRUBBING : Fld := ⟨0x5000, 8, 1⟩
abbrev REC_STATUS_ROLLING : Fld := ⟨0x5000, 9, 1⟩
abbrev REC_STATUS_RETIRED : Fld := ⟨0x5000, 16, 8⟩
/-- REC_CFG (15_cycle_recorder.md, R474). -/
abbrev REC_CFG : Fld := ⟨0x5004, 0, 32⟩
abbrev REC_CFG_MODE : Fld := ⟨0x5004, 0, 1⟩
abbrev REC_CFG_ANCHOR_MIN : Fld := ⟨0x5004, 8, 6⟩
/-- REC_CTL (15_cycle_recorder.md, R474). -/
abbrev REC_CTL : Fld := ⟨0x5008, 0, 32⟩
abbrev REC_CTL_CHECKPOINT : Fld := ⟨0x5008, 0, 1⟩
abbrev REC_CTL_REFRESH : Fld := ⟨0x5008, 1, 1⟩
abbrev REC_CTL_SCRUB : Fld := ⟨0x5008, 2, 1⟩
abbrev REC_CTL_REFUSED : Fld := ⟨0x5008, 16, 1⟩
/-- REC_NEXT_LO (15_cycle_recorder.md, R474). -/
abbrev REC_NEXT_LO : Fld := ⟨0x500C, 0, 32⟩
/-- REC_NEXT_HI (15_cycle_recorder.md, R474). -/
abbrev REC_NEXT_HI : Fld := ⟨0x5010, 0, 32⟩
abbrev REC_NEXT_HI_HI : Fld := ⟨0x5010, 0, 16⟩
/-- REC_STAGE (15_cycle_recorder.md, R474). -/
abbrev REC_STAGE : Fld := ⟨0x5014, 0, 32⟩
abbrev REC_STAGE_FILL : Fld := ⟨0x5014, 0, 10⟩
abbrev REC_STAGE_MAX_FILL : Fld := ⟨0x5014, 16, 10⟩
/-- REC_LOST (15_cycle_recorder.md, R474). -/
abbrev REC_LOST : Fld := ⟨0x5018, 0, 32⟩
/-- REC_AREA (15_cycle_recorder.md, R474). -/
abbrev REC_AREA : Fld := ⟨0x501C, 0, 32⟩
abbrev REC_AREA_F_COUNT : Fld := ⟨0x501C, 0, 17⟩
abbrev REC_AREA_REFRESHES : Fld := ⟨0x501C, 24, 8⟩
/-- REC_ERR (15_cycle_recorder.md, R474). -/
abbrev REC_ERR : Fld := ⟨0x5020, 0, 32⟩
abbrev REC_ERR_PROG_FAIL : Fld := ⟨0x5020, 0, 16⟩
abbrev REC_ERR_SCRUB_ERR : Fld := ⟨0x5020, 16, 16⟩
/-- REC_SCRUB (15_cycle_recorder.md, R474). -/
abbrev REC_SCRUB : Fld := ⟨0x5024, 0, 32⟩
abbrev REC_SCRUB_HOURS : Fld := ⟨0x5024, 0, 16⟩
/-- SNAP_FIRST_LO (15_cycle_recorder.md, R474). -/
abbrev SNAP_FIRST_LO : Fld := ⟨0x5040, 0, 32⟩
/-- SNAP_FIRST_HI (15_cycle_recorder.md, R474). -/
abbrev SNAP_FIRST_HI : Fld := ⟨0x5044, 0, 32⟩
abbrev SNAP_FIRST_HI_HI : Fld := ⟨0x5044, 0, 16⟩
/-- SNAP_COUNT (15_cycle_recorder.md, R474). -/
abbrev SNAP_COUNT : Fld := ⟨0x5048, 0, 32⟩
abbrev SNAP_COUNT_N : Fld := ⟨0x5048, 0, 14⟩
/-- SNAP_CTL (15_cycle_recorder.md, R474). -/
abbrev SNAP_CTL : Fld := ⟨0x504C, 0, 32⟩
abbrev SNAP_CTL_RESOLVE : Fld := ⟨0x504C, 0, 1⟩
abbrev SNAP_CTL_EXPORT : Fld := ⟨0x504C, 1, 1⟩
abbrev SNAP_CTL_REFUSED : Fld := ⟨0x504C, 16, 1⟩
/-- SNAP_STATUS (15_cycle_recorder.md, R474). -/
abbrev SNAP_STATUS : Fld := ⟨0x5050, 0, 32⟩
abbrev SNAP_STATUS_DONE : Fld := ⟨0x5050, 0, 1⟩
abbrev SNAP_STATUS_FOUND : Fld := ⟨0x5050, 16, 14⟩
/-- FOR_BASE (15_cycle_recorder.md, R474). -/
abbrev FOR_BASE : Fld := ⟨0x5054, 0, 32⟩
abbrev FOR_BASE_SLOT : Fld := ⟨0x5054, 0, 22⟩
/-- FOR_STATUS (15_cycle_recorder.md, R474). -/
abbrev FOR_STATUS : Fld := ⟨0x5058, 0, 32⟩
abbrev FOR_STATUS_CLASS : Fld := ⟨0x5058, 0, 2⟩
abbrev FOR_STATUS_UNSTABLE : Fld := ⟨0x5058, 2, 1⟩
abbrev FOR_STATUS_AREA_F : Fld := ⟨0x5058, 3, 1⟩
abbrev FOR_STATUS_ERASING : Fld := ⟨0x5058, 4, 1⟩
abbrev FOR_STATUS_RETIRED : Fld := ⟨0x5058, 5, 1⟩
/-- HIST_SEL (15_cycle_recorder.md, R475). -/
abbrev HIST_SEL (d : DIx) : Fld := ⟨(dw d 0xC00), 0, 32⟩
abbrev HIST_SEL_H (d : DIx) : Fld := ⟨(dw d 0xC00), 0, 4⟩
/-- HIST_TOTAL (15_cycle_recorder.md, R475). -/
abbrev HIST_TOTAL (d : DIx) : Fld := ⟨(dw d 0xC04), 0, 32⟩
/-- EXT_MIN (15_cycle_recorder.md, R475). -/
abbrev EXT_MIN (d : DIx) : Fld := ⟨(dw d 0xC08), 0, 32⟩
/-- EXT_MIN_SEQ_LO (15_cycle_recorder.md, R475). -/
abbrev EXT_MIN_SEQ_LO (d : DIx) : Fld := ⟨(dw d 0xC0C), 0, 32⟩
/-- EXT_MIN_SEQ_HI (15_cycle_recorder.md, R475). -/
abbrev EXT_MIN_SEQ_HI (d : DIx) : Fld := ⟨(dw d 0xC10), 0, 32⟩
abbrev EXT_MIN_SEQ_HI_HI (d : DIx) : Fld := ⟨(dw d 0xC10), 0, 16⟩
/-- EXT_MAX (15_cycle_recorder.md, R475). -/
abbrev EXT_MAX (d : DIx) : Fld := ⟨(dw d 0xC14), 0, 32⟩
/-- EXT_MAX_SEQ_LO (15_cycle_recorder.md, R475). -/
abbrev EXT_MAX_SEQ_LO (d : DIx) : Fld := ⟨(dw d 0xC18), 0, 32⟩
/-- EXT_MAX_SEQ_HI (15_cycle_recorder.md, R475). -/
abbrev EXT_MAX_SEQ_HI (d : DIx) : Fld := ⟨(dw d 0xC1C), 0, 32⟩
abbrev EXT_MAX_SEQ_HI_HI (d : DIx) : Fld := ⟨(dw d 0xC1C), 0, 16⟩
/-- CKPT (15_cycle_recorder.md, R475). -/
abbrev CKPT (d : DIx) : Fld := ⟨(dw d 0xC20), 0, 32⟩
abbrev CKPT_N (d : DIx) : Fld := ⟨(dw d 0xC20), 0, 10⟩
/-- CKPT_SEQ_LO (15_cycle_recorder.md, R475). -/
abbrev CKPT_SEQ_LO (d : DIx) : Fld := ⟨(dw d 0xC24), 0, 32⟩
/-- CKPT_SEQ_HI (15_cycle_recorder.md, R475). -/
abbrev CKPT_SEQ_HI (d : DIx) : Fld := ⟨(dw d 0xC28), 0, 32⟩
abbrev CKPT_SEQ_HI_HI (d : DIx) : Fld := ⟨(dw d 0xC28), 0, 16⟩
/-- HIST_BIN (15_cycle_recorder.md, R475). -/
abbrev HIST_BIN (d : DIx) (n : Nat) : Fld := ⟨((dw d 0xC40) + n * 4), 0, 32⟩
/-- NET_STATUS (16_train_network_panel_bus_and_host_access.md, R488). -/
abbrev NET_STATUS : Fld := ⟨0x7000, 0, 32⟩
abbrev NET_STATUS_ECN0_LINK : Fld := ⟨0x7000, 0, 1⟩
abbrev NET_STATUS_ECN1_LINK : Fld := ⟨0x7000, 1, 1⟩
abbrev NET_STATUS_SVC_LINK : Fld := ⟨0x7000, 2, 1⟩
abbrev NET_STATUS_TIME_VALID : Fld := ⟨0x7000, 3, 1⟩
abbrev NET_STATUS_APPROACH : Fld := ⟨0x7000, 4, 1⟩
abbrev NET_STATUS_ORIENT : Fld := ⟨0x7000, 5, 2⟩
abbrev NET_STATUS_SDT_REL_LEFT : Fld := ⟨0x7000, 7, 1⟩
abbrev NET_STATUS_SDT_REL_RIGHT : Fld := ⟨0x7000, 8, 1⟩
/-- NET_CFG (16_train_network_panel_bus_and_host_access.md, R488). -/
abbrev NET_CFG : Fld := ⟨0x7004, 0, 32⟩
abbrev NET_CFG_CONSIST_WR : Fld := ⟨0x7004, 0, 1⟩
/-- ECN_IP (16_train_network_panel_bus_and_host_access.md, R488). -/
abbrev ECN_IP : Fld := ⟨0x7008, 0, 32⟩
/-- ECN_MASK (16_train_network_panel_bus_and_host_access.md, R488). -/
abbrev ECN_MASK : Fld := ⟨0x700C, 0, 32⟩
/-- SVC_IP (16_train_network_panel_bus_and_host_access.md, R488). -/
abbrev SVC_IP : Fld := ⟨0x7010, 0, 32⟩
/-- MD_COMID (16_train_network_panel_bus_and_host_access.md, R488). -/
abbrev MD_COMID : Fld := ⟨0x7014, 0, 32⟩
/-- RAP_SESS (16_train_network_panel_bus_and_host_access.md, R488). -/
abbrev RAP_SESS : Fld := ⟨0x7018, 0, 32⟩
abbrev RAP_SESS_OPEN : Fld := ⟨0x7018, 0, 4⟩
/-- RAP_ERR (16_train_network_panel_bus_and_host_access.md, R488). -/
abbrev RAP_ERR : Fld := ⟨0x701C, 0, 32⟩
abbrev RAP_ERR_ITEMS : Fld := ⟨0x701C, 0, 16⟩
abbrev RAP_ERR_DROPPED : Fld := ⟨0x701C, 16, 16⟩
/-- TOPO (16_train_network_panel_bus_and_host_access.md, R488). -/
abbrev TOPO : Fld := ⟨0x7020, 0, 32⟩
/-- SDT_CFG (16_train_network_panel_bus_and_host_access.md, R488). -/
abbrev SDT_CFG (n : Nat) : Fld := ⟨(0x7100 + n * 16), 0, 32⟩
abbrev SDT_CFG_ROW (n : Nat) : Fld := ⟨(0x7100 + n * 16), 0, 6⟩
abbrev SDT_CFG_FUNC (n : Nat) : Fld := ⟨(0x7100 + n * 16), 6, 2⟩
abbrev SDT_CFG_OFS (n : Nat) : Fld := ⟨(0x7100 + n * 16), 8, 8⟩
abbrev SDT_CFG_BIT (n : Nat) : Fld := ⟨(0x7100 + n * 16), 16, 3⟩
/-- SDT_SMI (16_train_network_panel_bus_and_host_access.md, R488). -/
abbrev SDT_SMI (n : Nat) : Fld := ⟨(0x7104 + n * 16), 0, 32⟩
/-- SDT_STATUS (16_train_network_panel_bus_and_host_access.md, R488). -/
abbrev SDT_STATUS (n : Nat) : Fld := ⟨(0x7108 + n * 16), 0, 32⟩
abbrev SDT_STATUS_VALID (n : Nat) : Fld := ⟨(0x7108 + n * 16), 0, 1⟩
abbrev SDT_STATUS_SET (n : Nat) : Fld := ⟨(0x7108 + n * 16), 1, 1⟩
abbrev SDT_STATUS_ERROR (n : Nat) : Fld := ⟨(0x7108 + n * 16), 2, 1⟩
abbrev SDT_STATUS_AGE (n : Nat) : Fld := ⟨(0x7108 + n * 16), 16, 16⟩
/-- SDT_ERR (16_train_network_panel_bus_and_host_access.md, R488). -/
abbrev SDT_ERR (n : Nat) : Fld := ⟨(0x710C + n * 16), 0, 32⟩
abbrev SDT_ERR_TIMEOUT (n : Nat) : Fld := ⟨(0x710C + n * 16), 0, 8⟩
abbrev SDT_ERR_CODE (n : Nat) : Fld := ⟨(0x710C + n * 16), 8, 8⟩
abbrev SDT_ERR_UDV (n : Nat) : Fld := ⟨(0x710C + n * 16), 16, 8⟩
abbrev SDT_ERR_COUNTER (n : Nat) : Fld := ⟨(0x710C + n * 16), 24, 8⟩
/-- PD_COMID (16_train_network_panel_bus_and_host_access.md, R488). -/
abbrev PD_COMID (n : Nat) : Fld := ⟨(0x7200 + n * 16), 0, 32⟩
/-- NPD_CFG (16_train_network_panel_bus_and_host_access.md, R488). -/
abbrev NPD_CFG (n : Nat) : Fld := ⟨(0x7204 + n * 16), 0, 32⟩
abbrev NPD_CFG_FUNC (n : Nat) : Fld := ⟨(0x7204 + n * 16), 0, 4⟩
abbrev NPD_CFG_OFS (n : Nat) : Fld := ⟨(0x7204 + n * 16), 4, 8⟩
abbrev NPD_CFG_BIT (n : Nat) : Fld := ⟨(0x7204 + n * 16), 12, 3⟩
abbrev NPD_CFG_LEN (n : Nat) : Fld := ⟨(0x7204 + n * 16), 16, 9⟩
/-- NPD_STATUS (16_train_network_panel_bus_and_host_access.md, R488). -/
abbrev NPD_STATUS (n : Nat) : Fld := ⟨(0x7208 + n * 16), 0, 32⟩
abbrev NPD_STATUS_VALID (n : Nat) : Fld := ⟨(0x7208 + n * 16), 0, 1⟩
abbrev NPD_STATUS_SEEN (n : Nat) : Fld := ⟨(0x7208 + n * 16), 1, 1⟩
abbrev NPD_STATUS_AGE (n : Nat) : Fld := ⟨(0x7208 + n * 16), 16, 16⟩
/-- PD_ERR (16_train_network_panel_bus_and_host_access.md, R488). -/
abbrev PD_ERR (n : Nat) : Fld := ⟨(0x720C + n * 16), 0, 32⟩
abbrev PD_ERR_TIMEOUT (n : Nat) : Fld := ⟨(0x720C + n * 16), 0, 8⟩
abbrev PD_ERR_SEQ_DUP (n : Nat) : Fld := ⟨(0x720C + n * 16), 8, 8⟩
abbrev PD_ERR_SEQ_GAP (n : Nat) : Fld := ⟨(0x720C + n * 16), 16, 8⟩
abbrev PD_ERR_FORMAT (n : Nat) : Fld := ⟨(0x720C + n * 16), 24, 8⟩
/-- PD_DATA (16_train_network_panel_bus_and_host_access.md, R488). -/
abbrev PD_DATA (n : Nat) (m : Nat) : Fld := ⟨((0x7800 + n * 32) + m * 4), 0, 32⟩
/-- CAN_CFG (16_train_network_panel_bus_and_host_access.md, R497). -/
abbrev CAN_CFG (c : CIx) : Fld := ⟨(can c 0x0), 0, 32⟩
abbrev CAN_CFG_EN (c : CIx) : Fld := ⟨(can c 0x0), 0, 1⟩
abbrev CAN_CFG_FD (c : CIx) : Fld := ⟨(can c 0x0), 1, 1⟩
abbrev CAN_CFG_TX_ORDER (c : CIx) : Fld := ⟨(can c 0x0), 2, 1⟩
abbrev CAN_CFG_BASE_ID (c : CIx) : Fld := ⟨(can c 0x0), 16, 11⟩
/-- NBT (16_train_network_panel_bus_and_host_access.md, R497). -/
abbrev NBT (c : CIx) : Fld := ⟨(can c 0x4), 0, 32⟩
abbrev NBT_NBRP (c : CIx) : Fld := ⟨(can c 0x4), 0, 8⟩
abbrev NBT_NTSEG1 (c : CIx) : Fld := ⟨(can c 0x4), 8, 8⟩
abbrev NBT_NTSEG2 (c : CIx) : Fld := ⟨(can c 0x4), 16, 7⟩
abbrev NBT_NSJW (c : CIx) : Fld := ⟨(can c 0x4), 24, 7⟩
/-- DBT (16_train_network_panel_bus_and_host_access.md, R497). -/
abbrev DBT (c : CIx) : Fld := ⟨(can c 0x8), 0, 32⟩
abbrev DBT_DBRP (c : CIx) : Fld := ⟨(can c 0x8), 0, 4⟩
abbrev DBT_DTSEG1 (c : CIx) : Fld := ⟨(can c 0x8), 8, 5⟩
abbrev DBT_DTSEG2 (c : CIx) : Fld := ⟨(can c 0x8), 16, 4⟩
abbrev DBT_DSJW (c : CIx) : Fld := ⟨(can c 0x8), 24, 4⟩
/-- TDC (16_train_network_panel_bus_and_host_access.md, R497). -/
abbrev TDC (c : CIx) : Fld := ⟨(can c 0xC), 0, 32⟩
abbrev TDC_TDCO (c : CIx) : Fld := ⟨(can c 0xC), 0, 7⟩
abbrev TDC_TDC_EN (c : CIx) : Fld := ⟨(can c 0xC), 7, 1⟩
/-- CAN_CTL (16_train_network_panel_bus_and_host_access.md, R497). -/
abbrev CAN_CTL (c : CIx) : Fld := ⟨(can c 0x10), 0, 32⟩
abbrev CAN_CTL_RECOVER (c : CIx) : Fld := ⟨(can c 0x10), 0, 1⟩
abbrev CAN_CTL_RESTRICT (c : CIx) : Fld := ⟨(can c 0x10), 1, 1⟩
/-- CAN_STATUS (16_train_network_panel_bus_and_host_access.md, R497). -/
abbrev CAN_STATUS (c : CIx) : Fld := ⟨(can c 0x14), 0, 32⟩
abbrev CAN_STATUS_STATE (c : CIx) : Fld := ⟨(can c 0x14), 0, 2⟩
abbrev CAN_STATUS_RESTRICTED (c : CIx) : Fld := ⟨(can c 0x14), 2, 1⟩
abbrev CAN_STATUS_TEC (c : CIx) : Fld := ⟨(can c 0x14), 8, 8⟩
abbrev CAN_STATUS_REC (c : CIx) : Fld := ⟨(can c 0x14), 16, 8⟩
abbrev CAN_STATUS_LEC (c : CIx) : Fld := ⟨(can c 0x14), 24, 3⟩
/-- CAN_ERR (16_train_network_panel_bus_and_host_access.md, R497). -/
abbrev CAN_ERR (c : CIx) : Fld := ⟨(can c 0x18), 0, 32⟩
abbrev CAN_ERR_BUS_OFF (c : CIx) : Fld := ⟨(can c 0x18), 0, 8⟩
abbrev CAN_ERR_RXQ_OVF (c : CIx) : Fld := ⟨(can c 0x18), 8, 8⟩
abbrev CAN_ERR_UNMATCHED (c : CIx) : Fld := ⟨(can c 0x18), 16, 8⟩
abbrev CAN_ERR_SLOT_LOST (c : CIx) : Fld := ⟨(can c 0x18), 24, 8⟩
/-- FLT_ID (16_train_network_panel_bus_and_host_access.md, R497). -/
abbrev FLT_ID (c : CIx) (n : Nat) : Fld := ⟨((can c 0x20) + n * 16), 0, 32⟩
abbrev FLT_ID_ID (c : CIx) (n : Nat) : Fld := ⟨((can c 0x20) + n * 16), 0, 29⟩
abbrev FLT_ID_IDE (c : CIx) (n : Nat) : Fld := ⟨((can c 0x20) + n * 16), 29, 1⟩
abbrev FLT_ID_EN (c : CIx) (n : Nat) : Fld := ⟨((can c 0x20) + n * 16), 30, 1⟩
/-- FLT_MASK (16_train_network_panel_bus_and_host_access.md, R497). -/
abbrev FLT_MASK (c : CIx) (n : Nat) : Fld := ⟨((can c 0x24) + n * 16), 0, 32⟩
abbrev FLT_MASK_MASK (c : CIx) (n : Nat) : Fld := ⟨((can c 0x24) + n * 16), 0, 29⟩
/-- FLT_TGT (16_train_network_panel_bus_and_host_access.md, R497). -/
abbrev FLT_TGT (c : CIx) (n : Nat) : Fld := ⟨((can c 0x28) + n * 16), 0, 32⟩
abbrev FLT_TGT_TARGET (c : CIx) (n : Nat) : Fld := ⟨((can c 0x28) + n * 16), 0, 4⟩
/-- RXQ0 (16_train_network_panel_bus_and_host_access.md, R497). -/
abbrev RXQ0 (c : CIx) (m : Nat) : Fld := ⟨((can c 0x200) + m * 4), 0, 32⟩
/-- RXQ1 (16_train_network_panel_bus_and_host_access.md, R497). -/
abbrev RXQ1 (c : CIx) (m : Nat) : Fld := ⟨((can c 0x280) + m * 4), 0, 32⟩
/-- RXQ0_CTL (16_train_network_panel_bus_and_host_access.md, R497). -/
abbrev RXQ0_CTL (c : CIx) : Fld := ⟨(can c 0x250), 0, 32⟩
abbrev RXQ0_CTL_POP (c : CIx) : Fld := ⟨(can c 0x250), 0, 1⟩
/-- RXQ1_CTL (16_train_network_panel_bus_and_host_access.md, R497). -/
abbrev RXQ1_CTL (c : CIx) : Fld := ⟨(can c 0x2D0), 0, 32⟩
abbrev RXQ1_CTL_POP (c : CIx) : Fld := ⟨(can c 0x2D0), 0, 1⟩
/-- RXQ0_STATUS (16_train_network_panel_bus_and_host_access.md, R497). -/
abbrev RXQ0_STATUS (c : CIx) : Fld := ⟨(can c 0x254), 0, 32⟩
abbrev RXQ0_STATUS_N (c : CIx) : Fld := ⟨(can c 0x254), 0, 5⟩
/-- RXQ1_STATUS (16_train_network_panel_bus_and_host_access.md, R497). -/
abbrev RXQ1_STATUS (c : CIx) : Fld := ⟨(can c 0x2D4), 0, 32⟩
abbrev RXQ1_STATUS_N (c : CIx) : Fld := ⟨(can c 0x2D4), 0, 5⟩
/-- SLOT (16_train_network_panel_bus_and_host_access.md, R497). -/
abbrev SLOT (c : CIx) (n : Nat) (m : Nat) : Fld := ⟨(((can c 0x300) + n * 80) + m * 4), 0, 32⟩
/-- TXB (16_train_network_panel_bus_and_host_access.md, R497). -/
abbrev TXB (c : CIx) (n : Nat) (m : Nat) : Fld := ⟨(((can c 0x600) + n * 80) + m * 4), 0, 32⟩
/-- TX_CTL (16_train_network_panel_bus_and_host_access.md, R497). -/
abbrev TX_CTL (c : CIx) : Fld := ⟨(can c 0x6F0), 0, 32⟩
abbrev TX_CTL_REQ (c : CIx) : Fld := ⟨(can c 0x6F0), 0, 3⟩
abbrev TX_CTL_ABORT (c : CIx) : Fld := ⟨(can c 0x6F0), 4, 3⟩
abbrev TX_CTL_DONE (c : CIx) : Fld := ⟨(can c 0x6F0), 8, 3⟩
abbrev TX_CTL_WR_BLOCKED (c : CIx) : Fld := ⟨(can c 0x6F0), 11, 1⟩
/-- PWR_STATUS (17_power_clocks_and_thermal.md, R528). -/
abbrev PWR_STATUS : Fld := ⟨0xA000, 0, 32⟩
abbrev PWR_STATUS_MAIN : Fld := ⟨0xA000, 0, 2⟩
abbrev PWR_STATUS_HOLDUP_OK : Fld := ⟨0xA000, 2, 1⟩
abbrev PWR_STATUS_KEEP_RC : Fld := ⟨0xA000, 3, 1⟩
abbrev PWR_STATUS_SHUTDOWN : Fld := ⟨0xA000, 4, 1⟩
abbrev PWR_STATUS_KEEP_ENTRY : Fld := ⟨0xA000, 5, 1⟩
abbrev PWR_STATUS_HOLDUP_MS : Fld := ⟨0xA000, 8, 8⟩
/-- PWR_CTL (17_power_clocks_and_thermal.md, R528). -/
abbrev PWR_CTL : Fld := ⟨0xA004, 0, 32⟩
abbrev PWR_CTL_KEEP_REQ : Fld := ⟨0xA004, 0, 1⟩
abbrev PWR_CTL_REFUSED : Fld := ⟨0xA004, 16, 1⟩
/-- PWR_CFG (17_power_clocks_and_thermal.md, R528). -/
abbrev PWR_CFG : Fld := ⟨0xA008, 0, 32⟩
abbrev PWR_CFG_KEEP_DELAY : Fld := ⟨0xA008, 0, 10⟩
abbrev PWR_CFG_WAKE_EN : Fld := ⟨0xA008, 16, 1⟩
abbrev PWR_CFG_HANDLE_WAKE_EN : Fld := ⟨0xA008, 17, 1⟩
abbrev PWR_CFG_BUTTON_WAKE_EN : Fld := ⟨0xA008, 18, 1⟩
/-- VMAIN (17_power_clocks_and_thermal.md, R528). -/
abbrev VMAIN : Fld := ⟨0xA00C, 0, 32⟩
abbrev VMAIN_V : Fld := ⟨0xA00C, 0, 16⟩
abbrev VMAIN_BANK : Fld := ⟨0xA00C, 16, 16⟩
/-- TEMP (17_power_clocks_and_thermal.md, R528). -/
abbrev TEMP : Fld := ⟨0xA010, 0, 32⟩
abbrev TEMP_JUNCTION : Fld := ⟨0xA010, 0, 16⟩
abbrev TEMP_BOARD : Fld := ⟨0xA010, 16, 16⟩
/-- TEMP_MAX (17_power_clocks_and_thermal.md, R528). -/
abbrev TEMP_MAX : Fld := ⟨0xA014, 0, 32⟩
abbrev TEMP_MAX_T : Fld := ⟨0xA014, 0, 16⟩
/-- SHED (17_power_clocks_and_thermal.md, R528). -/
abbrev SHED : Fld := ⟨0xA018, 0, 32⟩
abbrev SHED_LEVEL : Fld := ⟨0xA018, 0, 3⟩
abbrev SHED_SENSORS : Fld := ⟨0xA018, 8, 4⟩
abbrev SHED_SENSOR_FAULT : Fld := ⟨0xA018, 12, 1⟩
abbrev SHED_S2_CNT : Fld := ⟨0xA018, 24, 8⟩
/-- CLK_STATUS (17_power_clocks_and_thermal.md, R528). -/
abbrev CLK_STATUS : Fld := ⟨0xA01C, 0, 32⟩
abbrev CLK_STATUS_CTL_LOCK : Fld := ⟨0xA01C, 0, 1⟩
abbrev CLK_STATUS_ENG_LOCK : Fld := ⟨0xA01C, 1, 1⟩
abbrev CLK_STATUS_DRV_LOCK : Fld := ⟨0xA01C, 2, 1⟩
abbrev CLK_STATUS_NET_LOCK : Fld := ⟨0xA01C, 3, 1⟩
abbrev CLK_STATUS_CAN_LOCK : Fld := ⟨0xA01C, 4, 1⟩
abbrev CLK_STATUS_FIO_LOCK : Fld := ⟨0xA01C, 5, 1⟩
abbrev CLK_STATUS_ENG_BYPASS : Fld := ⟨0xA01C, 8, 1⟩
abbrev CLK_STATUS_ENG_HALF : Fld := ⟨0xA01C, 9, 1⟩
/-- PWR_RELOCKS (17_power_clocks_and_thermal.md, R528). -/
abbrev PWR_RELOCKS : Fld := ⟨0xA020, 0, 32⟩
abbrev PWR_RELOCKS_N : Fld := ⟨0xA020, 0, 16⟩
abbrev PWR_RELOCKS_FAILED : Fld := ⟨0xA020, 16, 8⟩
/-- PWR_WAKE (17_power_clocks_and_thermal.md, R528). -/
abbrev PWR_WAKE : Fld := ⟨0xA024, 0, 32⟩
abbrev PWR_WAKE_POWER_ON : Fld := ⟨0xA024, 0, 1⟩
abbrev PWR_WAKE_WAKE : Fld := ⟨0xA024, 1, 1⟩
abbrev PWR_WAKE_HANDLE : Fld := ⟨0xA024, 2, 1⟩
abbrev PWR_WAKE_BUTTON : Fld := ⟨0xA024, 3, 1⟩
abbrev PWR_WAKE_POWER_FAIL : Fld := ⟨0xA024, 4, 1⟩
/-- SUPPLY_EVT (17_power_clocks_and_thermal.md, R528). -/
abbrev SUPPLY_EVT : Fld := ⟨0xA028, 0, 32⟩
abbrev SUPPLY_EVT_DIPS : Fld := ⟨0xA028, 0, 8⟩
abbrev SUPPLY_EVT_EXCURSIONS : Fld := ⟨0xA028, 8, 8⟩
abbrev SUPPLY_EVT_LOWEST : Fld := ⟨0xA028, 16, 16⟩
/-- ID (18_address_map.md, R538). -/
abbrev ID : Fld := ⟨0x0, 0, 32⟩
abbrev ID_VENDOR : Fld := ⟨0x0, 24, 8⟩
abbrev ID_PART : Fld := ⟨0x0, 8, 16⟩
abbrev ID_VARIANT : Fld := ⟨0x0, 0, 8⟩
/-- MOD_STATE (18_address_map.md, R538). -/
abbrev MOD_STATE : Fld := ⟨0x4, 0, 32⟩
abbrev MOD_STATE_STATE : Fld := ⟨0x4, 0, 3⟩
abbrev MOD_STATE_COPPICE : Fld := ⟨0x4, 3, 1⟩
abbrev MOD_STATE_SHED : Fld := ⟨0x4, 4, 3⟩
/-- FW (18_address_map.md, R538). -/
abbrev FW : Fld := ⟨0x8, 0, 32⟩
abbrev FW_PATCH : Fld := ⟨0x8, 0, 8⟩
abbrev FW_MINOR : Fld := ⟨0x8, 8, 8⟩
abbrev FW_MAJOR : Fld := ⟨0x8, 16, 8⟩
/-- SERIAL (18_address_map.md, R538). -/
abbrev SERIAL : Fld := ⟨0xC, 0, 32⟩
/-- PANEL (18_address_map.md, R538). -/
abbrev PANEL : Fld := ⟨0x10, 0, 32⟩
abbrev PANEL_RUN : Fld := ⟨0x10, 0, 2⟩
abbrev PANEL_SAFE : Fld := ⟨0x10, 2, 2⟩
abbrev PANEL_ROLE : Fld := ⟨0x10, 4, 2⟩
abbrev PANEL_SWAP : Fld := ⟨0x10, 6, 2⟩
abbrev PANEL_DISP_SRC : Fld := ⟨0x10, 8, 3⟩
abbrev PANEL_SEP : Fld := ⟨0x10, 11, 1⟩
abbrev PANEL_COMMIT : Fld := ⟨0x10, 16, 1⟩
abbrev PANEL_REMOVE : Fld := ⟨0x10, 17, 1⟩
/-- DISP_LO (18_address_map.md, R538). -/
abbrev DISP_LO : Fld := ⟨0x14, 0, 32⟩
/-- DISP_HI (18_address_map.md, R538). -/
abbrev DISP_HI : Fld := ⟨0x18, 0, 32⟩

end F
end Sys2Proof.Machine
end

