-- ==== Sys2Proof/Machine/Store.lean ====
section
/-!
DEFINITION. Machine/Store.lean: sparse stores as sorted lists of key and value, in one canonical form: keys strictly rising, no entry
equal to what an unlisted key reads as. The register file, the recorder slots and the other sparse tables use it.
-/
namespace Sys2Proof.Machine

/-- What key `k` holds: its entry, else the default. -/
def Al.get {α : Type} (dflt : Nat → α) : List (Nat × α) → Nat → α
  | [], k => dflt k
  | (k', v) :: l, k => if k = k' then v else Al.get dflt l k

/-- The list without key `k`. -/
def Al.erase {α : Type} : List (Nat × α) → Nat → List (Nat × α)
  | [], _ => []
  | (k', v) :: l, k => if k = k' then Al.erase l k else (k', v) :: Al.erase l k

/-- The list with `k` holding `v`, at its sorted place. -/
def Al.insert {α : Type} : List (Nat × α) → Nat → α → List (Nat × α)
  | [], k, v => [(k, v)]
  | (k', v') :: l, k, v =>
    if k < k' then (k, v) :: (k', v') :: l
    else if k = k' then (k, v) :: l
    else (k', v') :: Al.insert l k v

/-- Write `v` at key `k`; writing what an unlisted key reads as removes the entry. -/
def Al.set {α : Type} [DecidableEq α] (dflt : Nat → α) (l : List (Nat × α)) (k : Nat) (v : α) : List (Nat × α) :=
  if v = dflt k then Al.erase l k else Al.insert l k v

/-- The canonical form, from a lower bound on the keys: `none` bounds nothing. -/
def Al.wfFrom {α : Type} [DecidableEq α] (dflt : Nat → α) : Option Nat → List (Nat × α) → Bool
  | _, [] => true
  | lo, (k, v) :: l => (match lo with | none => true | some b => decide (b < k)) && decide (v ≠ dflt k) && Al.wfFrom dflt (some k) l

/-- The canonical form of a store. -/
def Al.wf {α : Type} [DecidableEq α] (dflt : Nat → α) (l : List (Nat × α)) : Bool := Al.wfFrom dflt none l

/-- Element `i` of a list, or the default. -/
def nth {α : Type} (l : List α) (i : Nat) (dflt : α) : α := (l[i]?).getD dflt

/-- Replace element `i`; a list too short stays. -/
def setNth {α : Type} : List α → Nat → α → List α
  | [], _, _ => []
  | _ :: l, 0, v => v :: l
  | x :: l, i + 1, v => x :: setNth l i v

end Sys2Proof.Machine
end

