-- ==== Sys2Proof/Machine/Operands.lean ====
section
/-!
DEFINITION. Machine/Operands.lean: the operand forms of the commands: little-endian fields of byte strings (R14), the check values
of R15 and of the programmable check-value units (R405), signed readings of fields, and saturating arithmetic.
-/
namespace Sys2Proof.Machine

/-- Little-endian value of a byte string (R14). -/
def leNat : List Byte → Nat
  | [] => 0
  | b :: l => b.toNat + 256 * leNat l

/-- Big-endian value of a byte string (TRDP and SDTv2 keep network order, R14). -/
def beNat (l : List Byte) : Nat := l.foldl (fun a b => a * 256 + b.toNat) 0

/-- `n` little-endian bytes of a value. -/
def leBytes : Nat → Nat → List Byte
  | 0, _ => []
  | n + 1, v => BitVec.ofNat 8 v :: leBytes n (v / 256)

/-- `n` big-endian bytes of a value. -/
def beBytes (n v : Nat) : List Byte := (leBytes n v).reverse

/-- Little-endian field of `n` bytes at offset `o`; bytes past the end read 0. -/
def fieldAt (l : List Byte) (o n : Nat) : Nat := leNat ((l.drop o).take n)

/-- Big-endian field of `n` bytes at offset `o`. -/
def beFieldAt (l : List Byte) (o n : Nat) : Nat := beNat ((l.drop o).take n)

/-- Bits [lo + w - 1 : lo] of a value. -/
def bitsOf (v lo w : Nat) : Nat := v / 2 ^ lo % 2 ^ w

/-- One bit of a value. -/
def bitOf (v i : Nat) : Bool := v / 2 ^ i % 2 == 1

/-- Two's-complement reading of a `w`-bit value. -/
def signed (w v : Nat) : Int := if v % 2 ^ w ≥ 2 ^ (w - 1) then (v % 2 ^ w : Nat) - (2 ^ w : Nat) else (v % 2 ^ w : Nat)

/-- The `w`-bit two's-complement pattern of an integer. -/
def unsigned (w : Nat) (v : Int) : Nat := (v % (2 ^ w : Nat)).toNat

/-- Clamp an integer into a range. -/
def clampI (lo hi v : Int) : Int := if v < lo then lo else if v > hi then hi else v

/-- Saturating addition at `m`. -/
def satAdd (m a b : Nat) : Nat := min m (a + b)

/-- Integer division rounded to the nearest, a tie upwards (the rounding of ties is DESIGN CHOICE, log entry 6). -/
def roundDiv (n : Int) (d : Nat) : Int := if d = 0 then 0 else (2 * n + d) / (2 * d : Nat)

/-- Integer division towards zero. -/
def quot (n : Int) (d : Nat) : Int := Int.tdiv n d

/-- Insertion into a sorted list of integers. -/
def insertI (x : Int) : List Int → List Int
  | [] => [x]
  | y :: l => if x ≤ y then x :: y :: l else y :: insertI x l

/-- Median; the mean of the two middle values of an even count. -/
def median (l : List Int) : Int :=
  let s := l.foldr insertI []
  let n := s.length
  if n % 2 = 1 then nth s (n / 2) 0 else roundDiv (nth s (n / 2 - 1) 0 + nth s (n / 2) 0) 2

/-- Boolean as a bit. -/
def b2n (b : Bool) : Nat := if b then 1 else 0

/-- Reverse the low `w` bits of a value. -/
def reflect : Nat → Nat → Nat
  | 0, _ => 0
  | w + 1, v => (v % 2) * 2 ^ w + reflect w (v / 2)

/-- Eight shift steps of a check of `width` bits, most significant bit first. -/
def crcShift (width poly : Nat) : Nat → Nat → Nat
  | 0, r => r
  | k + 1, r =>
    let r' := (r * 2) % 2 ^ width
    crcShift width poly k (if r / 2 ^ (width - 1) % 2 = 1 then Nat.xor r' poly else r')

/-- A check value of `width` bits (8–32) over a byte string under the parameters of R405. -/
def crcOf (width poly init : Nat) (refin refout : Bool) (xorout : Nat) (bytes : List Byte) : Nat :=
  let r := bytes.foldl (fun r b =>
    let x := if refin then reflect 8 b.toNat else b.toNat
    crcShift width poly 8 (Nat.xor r (x * 2 ^ (width - 8) % 2 ^ width))) (init % 2 ^ width)
  Nat.xor (if refout then reflect width r else r) (xorout % 2 ^ width)

/-- CRC-32C (R15). -/
def crc32c (bytes : List Byte) : Nat := crcOf 32 0x1EDC6F41 0xFFFFFFFF true true 0xFFFFFFFF bytes

/-- Do the last four bytes hold the CRC-32C of the bytes before them (R56, R183, R425)? -/
def crcTail (l : List Byte) : Bool :=
  decide (4 ≤ l.length) && leNat (l.drop (l.length - 4)) == crc32c (l.take (l.length - 4))

/-- Bit i of a number made b. -/
def putBit (n i : Nat) (b : Bool) : Nat := if bitOf n i = b then n else if b then n + 2 ^ i else n - 2 ^ i

/-- A byte string cut or filled with 0x00 to n bytes. -/
def padTo (n : Nat) (l : List Byte) : List Byte := (l ++ List.replicate (n - l.length) 0).take n

/-- A byte string followed by its CRC-32C. -/
def withCrc (l : List Byte) : List Byte := l ++ leBytes 4 (crc32c l)

/-- An untagged Ethernet frame of a head or drive link (R55, R183), from its destination address to its payload; a payload below 46 bytes is
padded with 0x00 after its CRC. The FCS is the link layer's. -/
def ethFrame (dst src : Nat) (payload : List Byte) : List Byte :=
  beBytes 6 dst ++ beBytes 6 src ++ [0x88, 0xB5] ++ payload ++ List.replicate (46 - payload.length) 0

end Sys2Proof.Machine
end

