-- ==== Sys2Proof/Machine/RegTable.lean ====
section
/-!
DEFINITION. Machine/RegTable.lean: one row per register of the address map (R531, R541): offset, repetition, value at entry to
BOOT (R18) and the bits of each access code (R17). Bits of no mask are RO or RSV: a write leaves them. A register whose reset
column is "img" or a dash holds 0 at reset (DESIGN CHOICE, log entry 3).
-/
namespace Sys2Proof.Machine

/-- One row of the register tables. `stride` and `cnt` repeat it (`cnt` = 1 for a single register), `words` counts its 32-bit words. -/
structure RegDef where
  off : Nat
  stride : Nat
  cnt : Nat
  words : Nat
  reset : Nat
  rw : Nat := 0
  rwl : Nat := 0
  w1c : Nat := 0
  w1s : Nat := 0
  rc : Nat := 0
deriving DecidableEq, Repr

/-- Rows of the global registers. -/
def globalTab0 : List RegDef := [
  { off := 0x1800, stride := 4, cnt := 1, words := 1, reset := 0x0, rwl := 0xFFFFFF07 },  -- COPPICE_CFG
  { off := 0x1804, stride := 4, cnt := 1, words := 1, reset := 0x100 },  -- COPPICE_STATUS
  { off := 0x1808, stride := 4, cnt := 1, words := 1, reset := 0x0, rw := 0x2, w1s := 0x1 },  -- COPPICE_CTL
  { off := 0x180C, stride := 4, cnt := 1, words := 1, reset := 0x0 },  -- REJOIN_LAST
  { off := 0x1810, stride := 4, cnt := 1, words := 1, reset := 0x0 },  -- SPLITS
  { off := 0xC000, stride := 4, cnt := 1, words := 1, reset := 0x0 },  -- TB_LO
  { off := 0xC004, stride := 4, cnt := 1, words := 1, reset := 0x0 },  -- TB_HI
  { off := 0xC100, stride := 16, cnt := 8, words := 1, reset := 0x0, rwl := 0xFFFF03FF },  -- EMU_CFG
  { off := 0xC104, stride := 16, cnt := 8, words := 1, reset := 0x0, rwl := 0xFFFFFFFF },  -- EMU_RES
  { off := 0xC108, stride := 16, cnt := 8, words := 1, reset := 0x0, w1c := 0x2 },  -- EMU_STATUS
  { off := 0xC10C, stride := 16, cnt := 8, words := 1, reset := 0x0 },  -- EMU_CNT
  { off := 0x6000, stride := 4, cnt := 1, words := 1, reset := 0x0 },  -- TL_STATE
  { off := 0x6004, stride := 4, cnt := 1, words := 1, reset := 0x0 },  -- TRN_STATUS
  { off := 0x6008, stride := 4, cnt := 1, words := 1, reset := 0x0 },  -- SIDE_MAP
  { off := 0x600C, stride := 4, cnt := 1, words := 1, reset := 0x0, rwl := 0xFF07 },  -- TRN_CFG
  { off := 0x6010, stride := 4, cnt := 1, words := 1, reset := 0x0, rwl := 0x303FF },  -- LOOP_CFG
  { off := 0x6014, stride := 4, cnt := 1, words := 1, reset := 0x0, rwl := 0xFFFFFF },  -- LOOP1_MEMBERS
  { off := 0x6018, stride := 4, cnt := 1, words := 1, reset := 0x0, rwl := 0xFFFFFF },  -- LOOP2_MEMBERS
  { off := 0x601C, stride := 4, cnt := 1, words := 1, reset := 0x1F1F0000 },  -- LOOP_STATUS
  { off := 0x6020, stride := 4, cnt := 1, words := 1, reset := 0x0 },  -- LOOP_CUR
  { off := 0x6024, stride := 4, cnt := 1, words := 1, reset := 0x0 },  -- LOOP_SUP
  { off := 0x6028, stride := 4, cnt := 1, words := 1, reset := 0x0, rwl := 0xFFFF },  -- SO_CFG
  { off := 0x602C, stride := 4, cnt := 1, words := 1, reset := 0x0 },  -- SO_STATUS
  { off := 0x6030, stride := 4, cnt := 1, words := 1, reset := 0x0, w1s := 0x1 },  -- TRN_CTL
  { off := 0x6040, stride := 4, cnt := 1, words := 1, reset := 0x0, rwl := 0x3 },  -- TL_CFG
  { off := 0x6044, stride := 4, cnt := 1, words := 1, reset := 0x0, rwl := 0xFFFFFFFF },  -- TL_FILT0
  { off := 0x6048, stride := 4, cnt := 1, words := 1, reset := 0x0, rwl := 0xFFFFFFFF },  -- TL_FILT1
  { off := 0x604C, stride := 4, cnt := 1, words := 1, reset := 0x0, rwl := 0xFFFFFFFF },  -- TL_FILT2
  { off := 0x6060, stride := 4, cnt := 4, words := 1, reset := 0x0, w1c := 0xC },  -- FIO_STATUS
  { off := 0x6070, stride := 4, cnt := 4, words := 1, reset := 0x0, rc := 0xFFFFFFFF },  -- FIO_ERR
  { off := 0x6080, stride := 4, cnt := 16, words := 1, reset := 0x0, rwl := 0xFF },  -- LH_CFG
  { off := 0x60C0, stride := 4, cnt := 1, words := 1, reset := 0x0 },  -- LH_STATUS
  { off := 0x2000, stride := 4, cnt := 1, words := 1, reset := 0x0 },  -- CFG_STATUS
  { off := 0x2004, stride := 4, cnt := 1, words := 1, reset := 0x0, w1s := 0x3 },  -- CFG_CTL
  { off := 0x2008, stride := 4, cnt := 1, words := 1, reset := 0x0 },  -- CFG_GEN
  { off := 0x200C, stride := 4, cnt := 1, words := 1, reset := 0x0 },  -- CFG_CODE
  { off := 0x2010, stride := 4, cnt := 1, words := 1, reset := 0x0 },  -- PEND_GEN
  { off := 0x2014, stride := 4, cnt := 1, words := 1, reset := 0x0 },  -- PEND_CODE
  { off := 0x2018, stride := 4, cnt := 1, words := 1, reset := 0x0 },  -- CFG_REFUSE
  { off := 0x201C, stride := 4, cnt := 1, words := 1, reset := 0x0 }   -- BEHAVIOUR
]

/-- Rows of the global registers. -/
def globalTab1 : List RegDef := [
  { off := 0x2020, stride := 4, cnt := 1, words := 1, reset := 0x0 },  -- KEY_STATUS
  { off := 0x2024, stride := 4, cnt := 1, words := 1, reset := 0x0 },  -- KEYSTORE_GEN
  { off := 0x2028, stride := 4, cnt := 4, words := 1, reset := 0x0 },  -- KEY_ID
  { off := 0x2038, stride := 4, cnt := 1, words := 1, reset := 0x0 },  -- ARM
  { off := 0x203C, stride := 4, cnt := 1, words := 1, reset := 0x0 },  -- MSTORE
  { off := 0x1000, stride := 4, cnt := 1, words := 1, reset := 0x0 },  -- PLC_STATUS
  { off := 0x1004, stride := 4, cnt := 1, words := 1, reset := 0x0 },  -- PLC_DIGEST
  { off := 0x1008, stride := 4, cnt := 1, words := 1, reset := 0x0 },  -- PLC_CHANGES
  { off := 0x100C, stride := 4, cnt := 1, words := 1, reset := 0x0 },  -- PLC_LAST
  { off := 0x1010, stride := 4, cnt := 1, words := 1, reset := 0x0, rw := 0x1FF },  -- MAP_SEL
  { off := 0x1014, stride := 4, cnt := 1, words := 1, reset := 0x0 },  -- MAP_DATA
  { off := 0x1020, stride := 4, cnt := 5, words := 1, reset := 0x0 },  -- POOL_STATUS
  { off := 0x1040, stride := 4, cnt := 24, words := 1, reset := 0x3F3F3F3F },  -- PLC_DWY
  { off := 0x10A0, stride := 4, cnt := 1, words := 1, reset := 0x0 },  -- FAULT_SES
  { off := 0x10A4, stride := 4, cnt := 1, words := 1, reset := 0x0 },  -- FAULT_ENG
  { off := 0x10A8, stride := 4, cnt := 1, words := 1, reset := 0x0 },  -- FAULT_DRAM
  { off := 0x10AC, stride := 4, cnt := 1, words := 1, reset := 0x0 },  -- DEGR_DRAM
  { off := 0x10B0, stride := 4, cnt := 1, words := 1, reset := 0x0 },  -- FAULT_REC
  { off := 0x10B4, stride := 4, cnt := 1, words := 1, reset := 0x0 },  -- FAULT_CVU_LO
  { off := 0x10B8, stride := 4, cnt := 1, words := 1, reset := 0x0 },  -- FAULT_CVU_HI
  { off := 0x3000, stride := 4, cnt := 1, words := 1, reset := 0x0 },  -- FLT_STATUS
  { off := 0x3004, stride := 4, cnt := 1, words := 1, reset := 0x0 },  -- FLT_SAFE
  { off := 0x3008, stride := 4, cnt := 1, words := 1, reset := 0x0 },  -- FLT_WINDOWS
  { off := 0x300C, stride := 4, cnt := 1, words := 1, reset := 0x0 },  -- FLT_QT
  { off := 0x3010, stride := 4, cnt := 1, words := 1, reset := 0x0 },  -- FLT_RESTART
  { off := 0x3014, stride := 4, cnt := 1, words := 1, reset := 0x0 },  -- FLT_DRAM
  { off := 0x3018, stride := 4, cnt := 1, words := 1, reset := 0x0 },  -- FLT_DRAM_ADDR
  { off := 0x301C, stride := 4, cnt := 1, words := 1, reset := 0xFF },  -- FLT_SCRUB
  { off := 0x3020, stride := 4, cnt := 1, words := 1, reset := 0xFFFF },  -- FLT_WDOG
  { off := 0x3024, stride := 4, cnt := 1, words := 1, reset := 0x0 },  -- FLT_CLK
  { off := 0x3028, stride := 4, cnt := 1, words := 1, reset := 0x0 },  -- FLT_EVENTS
  { off := 0x3100, stride := 4, cnt := 24, words := 1, reset := 0x0 },  -- FLT_DWY
  { off := 0x4000, stride := 4, cnt := 1, words := 1, reset := 0x1 },  -- RP_STATUS
  { off := 0x4004, stride := 4, cnt := 1, words := 1, reset := 0x0, w1c := 0x10000, w1s := 0xF },  -- RP_CTL
  { off := 0x4008, stride := 4, cnt := 1, words := 1, reset := 0x0, rwl := 0xFF01 },  -- RP_CFG
  { off := 0x400C, stride := 4, cnt := 1, words := 1, reset := 0x0 },  -- RP_MIRROR
  { off := 0x4010, stride := 4, cnt := 1, words := 1, reset := 0x0, rc := 0xFFFFFFFF },  -- RP_MIRROR_ERR
  { off := 0x4014, stride := 4, cnt := 1, words := 1, reset := 0x0 },  -- RP_TAKEOVER
  { off := 0x4018, stride := 4, cnt := 1, words := 1, reset := 0x0 },  -- RP_COUNTS
  { off := 0x401C, stride := 4, cnt := 1, words := 1, reset := 0x0 }   -- RP_PARTNER
]

/-- Rows of the global registers. -/
def globalTab2 : List RegDef := [
  { off := 0x4020, stride := 4, cnt := 1, words := 1, reset := 0x0 },  -- RP_SEQ_FENCE
  { off := 0x5000, stride := 4, cnt := 1, words := 1, reset := 0x0 },  -- REC_STATUS
  { off := 0x5004, stride := 4, cnt := 1, words := 1, reset := 0x0, rwl := 0x3F01 },  -- REC_CFG
  { off := 0x5008, stride := 4, cnt := 1, words := 1, reset := 0x0, w1c := 0x10000, w1s := 0x7 },  -- REC_CTL
  { off := 0x500C, stride := 4, cnt := 1, words := 1, reset := 0x0 },  -- REC_NEXT_LO
  { off := 0x5010, stride := 4, cnt := 1, words := 1, reset := 0x0 },  -- REC_NEXT_HI
  { off := 0x5014, stride := 4, cnt := 1, words := 1, reset := 0x0 },  -- REC_STAGE
  { off := 0x5018, stride := 4, cnt := 1, words := 1, reset := 0x0 },  -- REC_LOST
  { off := 0x501C, stride := 4, cnt := 1, words := 1, reset := 0x0 },  -- REC_AREA
  { off := 0x5020, stride := 4, cnt := 1, words := 1, reset := 0x0, rc := 0xFFFFFFFF },  -- REC_ERR
  { off := 0x5024, stride := 4, cnt := 1, words := 1, reset := 0xFFFF },  -- REC_SCRUB
  { off := 0x5040, stride := 4, cnt := 1, words := 1, reset := 0x0, rw := 0xFFFFFFFF },  -- SNAP_FIRST_LO
  { off := 0x5044, stride := 4, cnt := 1, words := 1, reset := 0x0, rw := 0xFFFF },  -- SNAP_FIRST_HI
  { off := 0x5048, stride := 4, cnt := 1, words := 1, reset := 0x1, rw := 0x3FFF },  -- SNAP_COUNT
  { off := 0x504C, stride := 4, cnt := 1, words := 1, reset := 0x0, rw := 0x2, w1c := 0x10000, w1s := 0x1 },  -- SNAP_CTL
  { off := 0x5050, stride := 4, cnt := 1, words := 1, reset := 0x0 },  -- SNAP_STATUS
  { off := 0x5054, stride := 4, cnt := 1, words := 1, reset := 0x0, rw := 0x3FFFFF },  -- FOR_BASE
  { off := 0x5058, stride := 4, cnt := 1, words := 1, reset := 0x0 },  -- FOR_STATUS
  { off := 0x7000, stride := 4, cnt := 1, words := 1, reset := 0x0 },  -- NET_STATUS
  { off := 0x7004, stride := 4, cnt := 1, words := 1, reset := 0x0, rwl := 0x1 },  -- NET_CFG
  { off := 0x7008, stride := 4, cnt := 1, words := 1, reset := 0x0, rwl := 0xFFFFFFFF },  -- ECN_IP
  { off := 0x700C, stride := 4, cnt := 1, words := 1, reset := 0x0, rwl := 0xFFFFFFFF },  -- ECN_MASK
  { off := 0x7010, stride := 4, cnt := 1, words := 1, reset := 0x0, rwl := 0xFFFFFFFF },  -- SVC_IP
  { off := 0x7014, stride := 4, cnt := 1, words := 1, reset := 0x0, rwl := 0xFFFFFFFF },  -- MD_COMID
  { off := 0x7018, stride := 4, cnt := 1, words := 1, reset := 0x0 },  -- RAP_SESS
  { off := 0x701C, stride := 4, cnt := 1, words := 1, reset := 0x0, rc := 0xFFFFFFFF },  -- RAP_ERR
  { off := 0x7020, stride := 4, cnt := 1, words := 1, reset := 0x0 },  -- TOPO
  { off := 0x7100, stride := 16, cnt := 16, words := 1, reset := 0x0 },  -- SDT_CFG
  { off := 0x7104, stride := 16, cnt := 16, words := 1, reset := 0x0 },  -- SDT_SMI
  { off := 0x7108, stride := 16, cnt := 16, words := 1, reset := 0x0 },  -- SDT_STATUS
  { off := 0x710C, stride := 16, cnt := 16, words := 1, reset := 0x0, rc := 0xFFFFFFFF },  -- SDT_ERR
  { off := 0x7200, stride := 16, cnt := 80, words := 1, reset := 0x0 },  -- PD_COMID
  { off := 0x7204, stride := 16, cnt := 80, words := 1, reset := 0x0 },  -- NPD_CFG
  { off := 0x7208, stride := 16, cnt := 80, words := 1, reset := 0x0 },  -- NPD_STATUS
  { off := 0x720C, stride := 16, cnt := 80, words := 1, reset := 0x0, rc := 0xFFFFFFFF },  -- PD_ERR
  { off := 0x7800, stride := 32, cnt := 64, words := 8, reset := 0x0 },  -- PD_DATA
  { off := 0xA000, stride := 4, cnt := 1, words := 1, reset := 0x0 },  -- PWR_STATUS
  { off := 0xA004, stride := 4, cnt := 1, words := 1, reset := 0x0, w1c := 0x10000, w1s := 0x1 },  -- PWR_CTL
  { off := 0xA008, stride := 4, cnt := 1, words := 1, reset := 0x0, rwl := 0x703FF },  -- PWR_CFG
  { off := 0xA00C, stride := 4, cnt := 1, words := 1, reset := 0x0 }   -- VMAIN
]

/-- Rows of the global registers. -/
def globalTab3 : List RegDef := [
  { off := 0xA010, stride := 4, cnt := 1, words := 1, reset := 0x0 },  -- TEMP
  { off := 0xA014, stride := 4, cnt := 1, words := 1, reset := 0x8000 },  -- TEMP_MAX
  { off := 0xA018, stride := 4, cnt := 1, words := 1, reset := 0x0 },  -- SHED
  { off := 0xA01C, stride := 4, cnt := 1, words := 1, reset := 0x0 },  -- CLK_STATUS
  { off := 0xA020, stride := 4, cnt := 1, words := 1, reset := 0x0 },  -- PWR_RELOCKS
  { off := 0xA024, stride := 4, cnt := 1, words := 1, reset := 0x0 },  -- PWR_WAKE
  { off := 0xA028, stride := 4, cnt := 1, words := 1, reset := 0xFFFF0000, rc := 0xFFFFFFFF },  -- SUPPLY_EVT
  { off := 0x0, stride := 4, cnt := 1, words := 1, reset := 0x0 },  -- ID
  { off := 0x4, stride := 4, cnt := 1, words := 1, reset := 0x0 },  -- MOD_STATE
  { off := 0x8, stride := 4, cnt := 1, words := 1, reset := 0x0 },  -- FW
  { off := 0xC, stride := 4, cnt := 1, words := 1, reset := 0x0 },  -- SERIAL
  { off := 0x10, stride := 4, cnt := 1, words := 1, reset := 0x40 },  -- PANEL
  { off := 0x14, stride := 4, cnt := 1, words := 1, reset := 0x544F4F42 },  -- DISP_LO
  { off := 0x18, stride := 4, cnt := 1, words := 1, reset := 0x434E5953 }   -- DISP_HI
]

/-- All rows of this space. -/
def globalTab : List RegDef := globalTab0 ++ globalTab1 ++ globalTab2 ++ globalTab3

/-- Rows of the doorway-window registers. -/
def dwyTab0 : List RegDef := [
  { off := 0x0, stride := 4, cnt := 1, words := 1, reset := 0x0 },  -- SEQ
  { off := 0x4, stride := 4, cnt := 1, words := 1, reset := 0x0 },  -- SEQ_STATUS
  { off := 0x8, stride := 4, cnt := 1, words := 1, reset := 0x0, w1c := 0x10000, w1s := 0x7 },  -- SEQ_CMD
  { off := 0xC, stride := 4, cnt := 1, words := 1, reset := 0x0 },  -- SEQ_TIME
  { off := 0x10, stride := 4, cnt := 1, words := 1, reset := 0x0, rwl := 0x1FF },  -- SEQ_CFG
  { off := 0x14, stride := 4, cnt := 1, words := 1, reset := 0x0, rwl := 0xFFFFFF },  -- SEQ_TIMING
  { off := 0x18, stride := 4, cnt := 1, words := 1, reset := 0x0, rwl := 0xFFFFFFFF },  -- SEQ_LIMITS
  { off := 0x1C, stride := 4, cnt := 1, words := 1, reset := 0x0 },  -- SEQ_CYCLES_LO
  { off := 0x20, stride := 4, cnt := 1, words := 1, reset := 0x0 },  -- SEQ_CYCLES_HI
  { off := 0x100, stride := 4, cnt := 1, words := 1, reset := 0x0, rwl := 0x6, w1s := 0x1 },  -- HEAD_CTL
  { off := 0x104, stride := 4, cnt := 1, words := 1, reset := 0x80 },  -- HEAD_STATUS
  { off := 0x108, stride := 4, cnt := 1, words := 1, reset := 0x0 },  -- HEAD_ID
  { off := 0x10C, stride := 4, cnt := 1, words := 1, reset := 0x0 },  -- HEAD_SERIAL
  { off := 0x110, stride := 4, cnt := 1, words := 1, reset := 0x0 },  -- HEAD_FW
  { off := 0x114, stride := 4, cnt := 1, words := 1, reset := 0x0 },  -- HEAD_CALDIG
  { off := 0x118, stride := 4, cnt := 1, words := 1, reset := 0x0, rwl := 0xFFFFFFFF },  -- HEAD_EXPECT
  { off := 0x11C, stride := 4, cnt := 1, words := 1, reset := 0x0, rwl := 0xFFFFFFFF },  -- HEAD_EXPECT_SN
  { off := 0x120, stride := 4, cnt := 1, words := 1, reset := 0x0, rwl := 0xFFFFFF },  -- EXPOSURE
  { off := 0x124, stride := 4, cnt := 1, words := 1, reset := 0x0, rwl := 0xFFFFFFFF },  -- DEPTH_CFG
  { off := 0x128, stride := 4, cnt := 1, words := 1, reset := 0x0, rwl := 0xFFFFFFF },  -- DEPTH_CFG2
  { off := 0x12C, stride := 4, cnt := 1, words := 1, reset := 0x0 },  -- FRAME
  { off := 0x130, stride := 4, cnt := 1, words := 1, reset := 0x0 },  -- FRAME_TREF
  { off := 0x134, stride := 4, cnt := 1, words := 1, reset := 0xFFFF },  -- FRAME_AGE
  { off := 0x138, stride := 4, cnt := 1, words := 1, reset := 0x0 },  -- PATH_DELAY
  { off := 0x13C, stride := 4, cnt := 1, words := 1, reset := 0x0 },  -- HEAD_TEMP
  { off := 0x140, stride := 4, cnt := 1, words := 1, reset := 0x0, rc := 0xFFFFFFFF },  -- ERR_CRC
  { off := 0x144, stride := 4, cnt := 1, words := 1, reset := 0x0, rc := 0xFFFFFFFF },  -- ERR_LINES
  { off := 0x148, stride := 4, cnt := 1, words := 1, reset := 0x0, rc := 0xFFFFFFFF },  -- ERR_FRAMES
  { off := 0x14C, stride := 4, cnt := 1, words := 1, reset := 0x0 },  -- RETRAINS
  { off := 0x150, stride := 4, cnt := 1, words := 1, reset := 0x0 },  -- INVALID_PIX
  { off := 0x200, stride := 4, cnt := 1, words := 1, reset := 0x0 },  -- VERDICT
  { off := 0x204, stride := 4, cnt := 1, words := 1, reset := 0x0 },  -- VERDICT_TREF
  { off := 0x208, stride := 4, cnt := 1, words := 1, reset := 0x0 },  -- ZONES
  { off := 0x20C, stride := 4, cnt := 1, words := 1, reset := 0x0 },  -- THIN
  { off := 0x210, stride := 4, cnt := 1, words := 1, reset := 0x0, w1c := 0x20 },  -- TOPI_STATUS
  { off := 0x214, stride := 4, cnt := 1, words := 1, reset := 0x0, rw := 0x8, w1s := 0x7 },  -- TOPI_CTL
  { off := 0x218, stride := 4, cnt := 1, words := 1, reset := 0x0 },  -- MODEL_DIGEST
  { off := 0x21C, stride := 4, cnt := 1, words := 1, reset := 0x0 },  -- PENDING_DIGEST
  { off := 0x220, stride := 4, cnt := 1, words := 1, reset := 0x0, rwl := 0xFFFFFF },  -- ZONE_CFG
  { off := 0x224, stride := 4, cnt := 1, words := 1, reset := 0x0, rwl := 0xFFFFFFFF }   -- RES_CFG
]

/-- Rows of the doorway-window registers. -/
def dwyTab1 : List RegDef := [
  { off := 0x228, stride := 4, cnt := 1, words := 1, reset := 0x0, rwl := 0xFFFFFFFF },  -- THIN_CFG
  { off := 0x22C, stride := 4, cnt := 1, words := 1, reset := 0x0, rwl := 0xFFFF },  -- PROOF_CFG
  { off := 0x230, stride := 4, cnt := 1, words := 1, reset := 0x0 },  -- PROOF
  { off := 0x234, stride := 4, cnt := 1, words := 1, reset := 0x0 },  -- PLAT
  { off := 0x238, stride := 4, cnt := 1, words := 1, reset := 0x0 },  -- PLAT_STATUS
  { off := 0x23C, stride := 4, cnt := 1, words := 1, reset := 0x0 },  -- PLAT_LATCH
  { off := 0x240, stride := 4, cnt := 1, words := 1, reset := 0x0 },  -- ACC_OVF_CNT
  { off := 0x250, stride := 4, cnt := 1, words := 1, reset := 0x0 },  -- SEAM_SUM
  { off := 0x254, stride := 4, cnt := 1, words := 1, reset := 0x0 },  -- OCC
  { off := 0x258, stride := 4, cnt := 1, words := 1, reset := 0xFFFF },  -- OCC_AGE
  { off := 0x480, stride := 4, cnt := 1, words := 1, reset := 0x0 },  -- DRV_STATUS
  { off := 0x484, stride := 4, cnt := 1, words := 1, reset := 0x0, w1s := 0x1 },  -- DRV_CTL
  { off := 0x488, stride := 4, cnt := 1, words := 1, reset := 0x0 },  -- POD_ID
  { off := 0x48C, stride := 4, cnt := 1, words := 1, reset := 0x0 },  -- POD_SERIAL
  { off := 0x490, stride := 4, cnt := 1, words := 1, reset := 0x0 },  -- POD_RATING
  { off := 0x494, stride := 4, cnt := 1, words := 1, reset := 0x0, rwl := 0xFFFFFFFF },  -- POD_EXPECT
  { off := 0x498, stride := 4, cnt := 1, words := 1, reset := 0x0 },  -- POD_MEAS
  { off := 0x49C, stride := 4, cnt := 1, words := 1, reset := 0x0, rc := 0xFFFFFFFF },  -- DRV_ERR
  { off := 0x4A0, stride := 4, cnt := 1, words := 1, reset := 0x0, w1c := 0x30 },  -- DEN_STATUS
  { off := 0x4A4, stride := 4, cnt := 1, words := 1, reset := 0x0 },  -- DRV_RETRAINS
  { off := 0x5C0, stride := 4, cnt := 3, words := 1, reset := 0x0, rc := 0xFFFFFFFF },  -- POS_ERR
  { off := 0x5CC, stride := 4, cnt := 3, words := 1, reset := 0x0 },  -- REF_DEV
  { off := 0x600, stride := 4, cnt := 1, words := 1, reset := 0x0, w1c := 0xFF0000 },  -- OBST_STATUS
  { off := 0x604, stride := 4, cnt := 1, words := 1, reset := 0x0, rwl := 0xFFFFFF1F },  -- OBST_CFG
  { off := 0x608, stride := 4, cnt := 1, words := 1, reset := 0x0 },  -- EDGE_MEAS
  { off := 0x60C, stride := 4, cnt := 1, words := 1, reset := 0x0, rwl := 0xFFFFFFFF },  -- FORCE_CFG
  { off := 0x610, stride := 4, cnt := 1, words := 1, reset := 0x0, rwl := 0xFFFF00FF },  -- FORCE_CFG2
  { off := 0x614, stride := 8, cnt := 3, words := 1, reset := 0x0, rwl := 0xFFFFFFFF },  -- FORCE_MODEL
  { off := 0x618, stride := 8, cnt := 3, words := 1, reset := 0x0, rwl := 0xFFFFFFFF },  -- FORCE_MODEL2
  { off := 0x62C, stride := 4, cnt := 1, words := 1, reset := 0x0, rwl := 0xFFFF },  -- STEP_FORCE
  { off := 0x630, stride := 4, cnt := 1, words := 1, reset := 0x0, rwl := 0xFFFFFFFF },  -- SS1_CFG
  { off := 0x634, stride := 4, cnt := 1, words := 1, reset := 0x0, rwl := 0xFFFF },  -- REV_CFG
  { off := 0x638, stride := 4, cnt := 1, words := 1, reset := 0x0 },  -- FORCE_NOW
  { off := 0x63C, stride := 4, cnt := 1, words := 1, reset := 0x0 },  -- FORCE_PEAK
  { off := 0x640, stride := 4, cnt := 1, words := 1, reset := 0x0 },  -- SS1_LAST
  { off := 0x644, stride := 4, cnt := 1, words := 1, reset := 0x0 },  -- OBST_CNT
  { off := 0x700, stride := 4, cnt := 1, words := 1, reset := 0x0, w1c := 0x8 },  -- LOCK_STATUS
  { off := 0x704, stride := 4, cnt := 1, words := 1, reset := 0x0, rwl := 0xFFFFFF07 },  -- LOCK_CFG
  { off := 0x708, stride := 4, cnt := 1, words := 1, reset := 0x0, rwl := 0xFFFFF },  -- PROVE_IN
  { off := 0x70C, stride := 4, cnt := 1, words := 1, reset := 0x0, rwl := 0x1F1F1F }   -- PROVE_IN2
]

/-- Rows of the doorway-window registers. -/
def dwyTab2 : List RegDef := [
  { off := 0x710, stride := 4, cnt := 1, words := 1, reset := 0x0, rwl := 0xFFFFFFFF },  -- PROVE_CFG
  { off := 0x714, stride := 4, cnt := 1, words := 1, reset := 0x0 },  -- PROVE_STATUS
  { off := 0x718, stride := 4, cnt := 1, words := 1, reset := 0x0, rwl := 0xFFFFFFFF },  -- STEP_CFG
  { off := 0x71C, stride := 4, cnt := 1, words := 1, reset := 0x0 },  -- STEP_STATUS
  { off := 0x720, stride := 4, cnt := 1, words := 1, reset := 0x0 },  -- PROOF_LAST
  { off := 0x724, stride := 4, cnt := 1, words := 1, reset := 0x0 },  -- RESET_STATUS
  { off := 0x800, stride := 4, cnt := 1, words := 1, reset := 0x0, w1c := 0x8000 },  -- PD_STATUS
  { off := 0x804, stride := 4, cnt := 1, words := 1, reset := 0x0, rwl := 0x1F1F1F1F },  -- PD_IN
  { off := 0x808, stride := 4, cnt := 1, words := 1, reset := 0x0, rwl := 0x1F1F1F1F },  -- PD_IN2
  { off := 0x80C, stride := 4, cnt := 1, words := 1, reset := 0x0, rwl := 0x71F1F },  -- PD_IN3
  { off := 0x810, stride := 4, cnt := 1, words := 1, reset := 0x0, rwl := 0x1FFFFFFF },  -- PD_CFG
  { off := 0x814, stride := 4, cnt := 1, words := 1, reset := 0x0, rwl := 0xFFFFFF01 },  -- LC_CFG
  { off := 0x818, stride := 4, cnt := 1, words := 1, reset := 0x0, w1s := 0x1 },  -- PD_CTL
  { off := 0x81C, stride := 4, cnt := 1, words := 1, reset := 0x0 },  -- PD_CNT
  { off := 0xA00, stride := 4, cnt := 1, words := 1, reset := 0x0 },  -- IN_STATE
  { off := 0xA04, stride := 4, cnt := 1, words := 1, reset := 0x0, w1c := 0xFFFFFFFF },  -- IN_EDGE
  { off := 0xA08, stride := 4, cnt := 4, words := 1, reset := 0x0, rwl := 0xFFFFFFFF },  -- IN_FILT
  { off := 0xA18, stride := 4, cnt := 1, words := 1, reset := 0x0, w1c := 0x8000 },  -- FSUP
  { off := 0xC00, stride := 4, cnt := 1, words := 1, reset := 0x0, rw := 0xF },  -- HIST_SEL
  { off := 0xC04, stride := 4, cnt := 1, words := 1, reset := 0x0 },  -- HIST_TOTAL
  { off := 0xC08, stride := 4, cnt := 1, words := 1, reset := 0x0 },  -- EXT_MIN
  { off := 0xC0C, stride := 4, cnt := 1, words := 1, reset := 0x0 },  -- EXT_MIN_SEQ_LO
  { off := 0xC10, stride := 4, cnt := 1, words := 1, reset := 0x0 },  -- EXT_MIN_SEQ_HI
  { off := 0xC14, stride := 4, cnt := 1, words := 1, reset := 0x0 },  -- EXT_MAX
  { off := 0xC18, stride := 4, cnt := 1, words := 1, reset := 0x0 },  -- EXT_MAX_SEQ_LO
  { off := 0xC1C, stride := 4, cnt := 1, words := 1, reset := 0x0 },  -- EXT_MAX_SEQ_HI
  { off := 0xC20, stride := 4, cnt := 1, words := 1, reset := 0x0 },  -- CKPT
  { off := 0xC24, stride := 4, cnt := 1, words := 1, reset := 0x0 },  -- CKPT_SEQ_LO
  { off := 0xC28, stride := 4, cnt := 1, words := 1, reset := 0x0 },  -- CKPT_SEQ_HI
  { off := 0xC40, stride := 4, cnt := 32, words := 1, reset := 0x0 }   -- HIST_BIN
]

/-- All rows of this space. -/
def dwyTab : List RegDef := dwyTab0 ++ dwyTab1 ++ dwyTab2

/-- Rows of the axis (R195) registers. -/
def axTab : List RegDef := [
  { off := 0x0, stride := 4, cnt := 1, words := 1, reset := 0x0, w1c := 0x180 },  -- AX_STATUS
  { off := 0x4, stride := 4, cnt := 1, words := 1, reset := 0x0, w1c := 0x10000, w1s := 0x3 },  -- AX_CMD
  { off := 0x8, stride := 4, cnt := 1, words := 1, reset := 0x0, rw := 0xFFFFFFFF },  -- MOVE_TARGET
  { off := 0xC, stride := 4, cnt := 1, words := 1, reset := 0x0 },  -- TARGET
  { off := 0x10, stride := 4, cnt := 1, words := 1, reset := 0x0 },  -- XCMD
  { off := 0x14, stride := 4, cnt := 1, words := 1, reset := 0x0 },  -- SPEED
  { off := 0x18, stride := 4, cnt := 1, words := 1, reset := 0x0 },  -- DEVIATION
  { off := 0x1C, stride := 4, cnt := 1, words := 1, reset := 0x0 },  -- IPHASE
  { off := 0x20, stride := 4, cnt := 1, words := 1, reset := 0x0, rwl := 0xFFFFFFFF },  -- PROF_V
  { off := 0x24, stride := 4, cnt := 1, words := 1, reset := 0x0, rwl := 0xFFFFFFFF },  -- PROF_V2
  { off := 0x28, stride := 4, cnt := 1, words := 1, reset := 0x0, rwl := 0xFFFFFFFF },  -- PROF_A
  { off := 0x2C, stride := 4, cnt := 1, words := 1, reset := 0x0, rwl := 0xFFFFFFFF },  -- PROF_D
  { off := 0x30, stride := 4, cnt := 1, words := 1, reset := 0x0, rwl := 0xFFFF000F },  -- DRV_CFG
  { off := 0x34, stride := 4, cnt := 1, words := 1, reset := 0x0, rwl := 0xFFFFFFFF },  -- SWITCH
  { off := 0x38, stride := 4, cnt := 1, words := 1, reset := 0x0, rwl := 0xFFFFFFFF },  -- CURRENT
  { off := 0x3C, stride := 4, cnt := 1, words := 1, reset := 0x0, rwl := 0xFFFFFFFF },  -- MOTOR
  { off := 0x40, stride := 4, cnt := 1, words := 1, reset := 0x0, rwl := 0xFFFFFFFF },  -- GAIN
  { off := 0x44, stride := 4, cnt := 1, words := 1, reset := 0x0, rwl := 0xFFFF },  -- BEMF
  { off := 0x48, stride := 4, cnt := 1, words := 1, reset := 0x0, rwl := 0xFFFFFFFF },  -- SCALE
  { off := 0x4C, stride := 4, cnt := 1, words := 1, reset := 0x0, rwl := 0xFFFFFFFF },  -- TRAVEL
  { off := 0x50, stride := 4, cnt := 1, words := 1, reset := 0x0, rwl := 0xFFFF },  -- REST
  { off := 0x54, stride := 4, cnt := 1, words := 1, reset := 0x0 },  -- COUNTS
  { off := 0x58, stride := 4, cnt := 1, words := 1, reset := 0x0 }   -- MOVE_ENERGY
]

/-- Rows of the encoder-channel (R222) registers. -/
def enTab : List RegDef := [
  { off := 0x0, stride := 4, cnt := 1, words := 1, reset := 0x20, w1c := 0x94 },  -- POS_STATUS
  { off := 0x4, stride := 4, cnt := 1, words := 1, reset := 0x0, w1s := 0x1 },  -- POS_CTL
  { off := 0x8, stride := 4, cnt := 1, words := 1, reset := 0x0 },  -- CNT
  { off := 0xC, stride := 4, cnt := 1, words := 1, reset := 0x0 },  -- POS
  { off := 0x10, stride := 4, cnt := 1, words := 1, reset := 0x0 },  -- MSPEED
  { off := 0x14, stride := 4, cnt := 1, words := 1, reset := 0x0 },  -- IDX_CNT
  { off := 0x18, stride := 4, cnt := 1, words := 1, reset := 0x0 },  -- IDX_TICK
  { off := 0x1C, stride := 4, cnt := 1, words := 1, reset := 0x0 },  -- IDX_DIFF
  { off := 0x20, stride := 4, cnt := 1, words := 1, reset := 0x0 },  -- REF_CNT
  { off := 0x24, stride := 4, cnt := 1, words := 1, reset := 0x0 },  -- REF_TICK
  { off := 0x28, stride := 4, cnt := 1, words := 1, reset := 0x0 },  -- SNAP_CNT
  { off := 0x2C, stride := 4, cnt := 1, words := 1, reset := 0x0 },  -- SNAP_TICK
  { off := 0x30, stride := 4, cnt := 1, words := 1, reset := 0x0, rwl := 0xFF3F },  -- ENC_CFG
  { off := 0x34, stride := 4, cnt := 1, words := 1, reset := 0x0, rwl := 0xFFFFFFFF },  -- ENC_SCALE
  { off := 0x38, stride := 4, cnt := 1, words := 1, reset := 0x0, rwl := 0xFFFFFFFF },  -- INDEX_CFG
  { off := 0x3C, stride := 4, cnt := 1, words := 1, reset := 0x0, rwl := 0xFFFFFFF }   -- REF_CFG
]

/-- Rows of the load-channel (R325) registers. -/
def chTab : List RegDef := [
  { off := 0x0, stride := 4, cnt := 1, words := 1, reset := 0x0, rwl := 0x3F3F },  -- CH_CFG
  { off := 0x4, stride := 4, cnt := 1, words := 1, reset := 0x0, rw := 0x1, w1c := 0x10000, w1s := 0x2 },  -- CH_CTL
  { off := 0x8, stride := 4, cnt := 1, words := 1, reset := 0x0 },  -- CH_STATUS
  { off := 0xC, stride := 4, cnt := 1, words := 1, reset := 0x0 }   -- CH_MEAS
]

/-- Rows of the engine-pair (R158) registers. -/
def engTab : List RegDef := [
  { off := 0x0, stride := 4, cnt := 1, words := 1, reset := 0xF8, w1c := 0x300 },  -- PAIR_STATUS
  { off := 0x4, stride := 4, cnt := 1, words := 1, reset := 0xE, rw := 0xE, w1c := 0x10000, w1s := 0x1 },  -- PAIR_CTL
  { off := 0x8, stride := 4, cnt := 1, words := 1, reset := 0x0 },  -- MISMATCH
  { off := 0xC, stride := 4, cnt := 1, words := 1, reset := 0x0 },  -- MISMATCH_CNT
  { off := 0x10, stride := 4, cnt := 1, words := 1, reset := 0x0 },  -- FRAMES_LO
  { off := 0x14, stride := 4, cnt := 1, words := 1, reset := 0x0 },  -- FRAMES_HI
  { off := 0x18, stride := 4, cnt := 1, words := 1, reset := 0x0 },  -- SIG_U
  { off := 0x1C, stride := 4, cnt := 1, words := 1, reset := 0x0 },  -- SIG_R
  { off := 0x20, stride := 4, cnt := 1, words := 1, reset := 0x0 },  -- TILE_MAX
  { off := 0x24, stride := 4, cnt := 1, words := 1, reset := 0x0 },  -- TASKS
  { off := 0x28, stride := 4, cnt := 1, words := 1, reset := 0x0 }   -- SELFTEST
]

/-- Rows of the check-value-unit (R419) registers. -/
def cvuTab : List RegDef := [
  { off := 0x0, stride := 4, cnt := 1, words := 1, reset := 0x0, rwl := 0x33F1FF1 },  -- CVU_CFG
  { off := 0x4, stride := 4, cnt := 1, words := 1, reset := 0x0, rwl := 0xFFFFFFFF },  -- CVU_POLY
  { off := 0x8, stride := 4, cnt := 1, words := 1, reset := 0x0, rwl := 0xFFFFFFFF },  -- CVU_INIT
  { off := 0xC, stride := 4, cnt := 1, words := 1, reset := 0x0, rwl := 0xFFFFFFFF },  -- CVU_XOROUT
  { off := 0x10, stride := 4, cnt := 1, words := 1, reset := 0x0, rwl := 0xFFFFFFFF },  -- CVU_CHECK
  { off := 0x14, stride := 4, cnt := 1, words := 1, reset := 0x3F00 },  -- CVU_STATUS
  { off := 0x18, stride := 4, cnt := 1, words := 1, reset := 0x0 },  -- CVU_VALUE
  { off := 0x1C, stride := 4, cnt := 1, words := 1, reset := 0x0 },  -- CVU_COUNT
  { off := 0x20, stride := 4, cnt := 1, words := 1, reset := 0x0, rc := 0xFFFFFFFF }   -- CVU_ERR
]

/-- Rows of the CAN controller (R497) registers. -/
def canTab : List RegDef := [
  { off := 0x0, stride := 4, cnt := 1, words := 1, reset := 0x0, rwl := 0x7FF0007 },  -- CAN_CFG
  { off := 0x4, stride := 4, cnt := 1, words := 1, reset := 0x0, rwl := 0x7F7FFFFF },  -- NBT
  { off := 0x8, stride := 4, cnt := 1, words := 1, reset := 0x0, rwl := 0xF0F1F0F },  -- DBT
  { off := 0xC, stride := 4, cnt := 1, words := 1, reset := 0x0, rwl := 0xFF },  -- TDC
  { off := 0x10, stride := 4, cnt := 1, words := 1, reset := 0x0, rw := 0x2, w1s := 0x1 },  -- CAN_CTL
  { off := 0x14, stride := 4, cnt := 1, words := 1, reset := 0x3 },  -- CAN_STATUS
  { off := 0x18, stride := 4, cnt := 1, words := 1, reset := 0x0, rc := 0xFFFFFFFF },  -- CAN_ERR
  { off := 0x20, stride := 16, cnt := 16, words := 1, reset := 0x0, rwl := 0x7FFFFFFF },  -- FLT_ID
  { off := 0x24, stride := 16, cnt := 16, words := 1, reset := 0x0, rwl := 0x1FFFFFFF },  -- FLT_MASK
  { off := 0x28, stride := 16, cnt := 16, words := 1, reset := 0x0, rwl := 0xF },  -- FLT_TGT
  { off := 0x200, stride := 76, cnt := 1, words := 19, reset := 0x0 },  -- RXQ0
  { off := 0x280, stride := 76, cnt := 1, words := 19, reset := 0x0 },  -- RXQ1
  { off := 0x250, stride := 4, cnt := 1, words := 1, reset := 0x0, w1s := 0x1 },  -- RXQ0_CTL
  { off := 0x2D0, stride := 4, cnt := 1, words := 1, reset := 0x0, w1s := 0x1 },  -- RXQ1_CTL
  { off := 0x254, stride := 4, cnt := 1, words := 1, reset := 0x0 },  -- RXQ0_STATUS
  { off := 0x2D4, stride := 4, cnt := 1, words := 1, reset := 0x0 },  -- RXQ1_STATUS
  { off := 0x300, stride := 80, cnt := 8, words := 19, reset := 0x0 },  -- SLOT
  { off := 0x600, stride := 80, cnt := 3, words := 19, reset := 0x0, rw := 0xFFFFFFFF },  -- TXB
  { off := 0x6F0, stride := 4, cnt := 1, words := 1, reset := 0x0, w1c := 0xF00, w1s := 0x77 }   -- TX_CTL
]

end Sys2Proof.Machine
end

