-- ==== Sys2Proof/Machine/Types.lean ====
section
/-!
DEFINITION. Machine/Types.lean: the kinds of data that State holds beside the register file: records, images, placement, the recorder
flash, the pair, and the hidden timers, filters and histories that the rules give the machine.
-/
namespace Sys2Proof.Machine

/-- Ordering codes (R5). -/
inductive Variant where
  | ds24x8
  | ds24x16
  | ds24x24
deriving DecidableEq, Repr

/-- What is fixed at manufacture or strapped at the connector: the ordering code (R5), SLOT_ID (R421, true in slot B), the COMPAT strap
(R362, true when open), firmware version and serial number (R538). No command changes it. -/
structure Chip where
  variant : Variant
  slotB : Bool
  compat : Bool
  fw : Word
  serial : Word
deriving DecidableEq, Repr

/-! ## The recorder (chapter 15) -/

/-- A record before it has a number (R443): SEQ and CHECK are added when it leaves the queue and when it is programmed. -/
structure Rec where
  code : Nat
  dwy : Nat
  flags : Nat
  rep : Nat
  gen : Nat
  ws : List Nat
deriving DecidableEq, Repr

/-- Class of a flash slot (R459). -/
inductive SlotClass where
  | erased
  | committed
  | uncommitted
  | torn
deriving DecidableEq, Repr

/-- A page buffer (R452): records with their numbers, oldest first, and when the first entered. -/
structure PageBuf where
  recs : List (Nat × Rec) := []
  since : Nat := 0
deriving DecidableEq, Repr

/-- The page program under way (R452, R459). -/
structure PageProg where
  stream : Nat
  blk : Nat
  page : Nat
  areaF : Bool
  recs : List (Nat × Rec)
deriving DecidableEq, Repr

/-- A stream of records (R456, R457): its write block, the next page of it, and an erased block made ready (R458). -/
structure Stream where
  blk : Option Nat := none
  page : Nat := 0
  ready : Option Nat := none
deriving DecidableEq, Repr

/-- A block of the record area: first and last number in it (0 when empty), its severity, failed programs, and its marks (R456–R458). -/
structure Blk where
  first : Nat := 0
  last : Nat := 0
  sev : Nat := 0
  fails : Nat := 0
  retired : Bool := false
  areaF : Bool := false
  used : Bool := false
deriving DecidableEq, Repr

/-- The directory of R467, bytes 20–83 of a checkpoint image. -/
structure Dir where
  gen : Nat := 0
  mode : Nat := 0
  fState : Nat := 0
  refreshes : Nat := 0
  fCount : Nat := 0
  fBlocks : List Nat := []
  fTime : Nat := 0
  fHours : Nat := 0
  epochSeq : Nat := 0
deriving DecidableEq, Repr

/-- Histograms and extremes of a doorway (R465, R466): bins keyed 32 h + bin, totals keyed h, extremes keyed 2 h (lowest) and
2 h + 1 (highest) with the number of the record that set each. -/
structure Hist where
  bins : List (Nat × Nat) := []
  tot : List (Nat × Nat) := []
  ext : List (Nat × Option (Int × Nat)) := []
deriving DecidableEq, Repr

/-- A checkpoint image (R467) and where it lies (R468); one that does not read back as written is not valid (`bad`, R469). -/
structure CkImg where
  blk : Nat
  slot : Nat
  pos : Nat
  dwy : Nat
  roll : Bool
  no : Nat
  lastSeq : Nat
  dir : Dir
  hist : Hist
  bad : Bool := false
deriving DecidableEq, Repr

/-- A network time as a TIME row carries it (R446): seconds and nanoseconds, and its ComId. -/
structure NetTime where
  sec : Nat
  ns : Nat
  comId : Nat
deriving DecidableEq, Repr

/-- The recorder's own state: the staging queue (R450) with the losses not yet recorded (R453), page buffers and the program under way (R452),
the next number (R447), the flash slots written and those that the page index holds as torn (R459, R460, R470), blocks and streams
(R456–R458), the erase under way, the directory and the checkpoint images (R467, R468), what the keep-alive domain latched (R454), the last
anchor and the network time (R446), the generation whose 0x5B03 opens area F (R456), pages programmed since BOOT (R530), the run time at the last scrub pass (R470), a claim that waits for READY
(R436), a roll that is not complete with its block and whether that is erased (`roll`), found so at BOOT (`rollBoot`, R468), the blocks that a refresh
has copied and where to (R471), and whether the histograms are those of the partner's snapshot (`histTaken`, R473). `erasing` names the stream that waits
for the block, 4 a roll. -/
structure RecH where
  queue : List Rec := []
  lostN : Nat := 0
  lostFirst : Nat := 0
  lostLast : Nat := 0
  bufs : List PageBuf := [{}, {}, {}, {}]
  prog : Option PageProg := none
  next : Nat := 0
  slots : List (Nat × List Byte) := []
  tornIdx : List Nat := []
  blks : List (Nat × Blk) := []
  strms : List Stream := [{}, {}, {}, {}]
  erasing : Option (Nat × Nat) := none
  dir : Dir := {}
  ckBlk : Nat := 0
  ckImgs : List CkImg := []
  ckNo : Nat := 0
  ckSince : List (Nat × Nat) := []
  ckLast : List (Nat × Nat) := []
  roll : Option (Nat × Bool) := none
  rollBoot : Bool := false
  copies : List (Nat × Nat) := []
  histTaken : Bool := false
  keepLost : Nat := 0
  keepLostFirst : Nat := 0
  keepLostLast : Nat := 0
  numbersOut : Bool := false
  anchorTb : Nat := 0
  anchorSec : Nat := 0
  anchorNs : Nat := 0
  anchored : Bool := false
  net : Option NetTime := none
  netAt : Nat := 0
  fGen : Option Nat := none
  fHoursAt : Nat := 0
  scrubAt : Option Nat := none
  scrubRun : Nat := 0
  pages : Nat := 0
  claimMax : Option Nat := none
deriving DecidableEq, Repr

/-- How a snapshot entry was resolved (R461): the slot that held the number, or why none did. -/
inductive Resolved where
  | slot (s : Nat)
  | never
  | staged
  | uncommitted (s : Nat)
  | tornSlot (s : Nat)
deriving DecidableEq, Repr

/-! ## Image, configuration and placement (chapters 11 and 12) -/

/-- A function instance of STRUCT (R344). -/
structure Inst where
  f : Nat
  ty : Nat
  dwy : Nat
  unit : Nat
deriving DecidableEq, Repr

/-- A placement hint (R348). -/
structure Hint where
  f : Nat
  pool : Nat
  idx : Nat
deriving DecidableEq, Repr

/-- A sequence-table record (R346). -/
structure SeqRec where
  dwy : Nat
  passIn : Nat
  crewOpenIn : Nat
  sig : List Nat
deriving DecidableEq, Repr

/-- A binding of an instance to a resource (R369); index 0x3F is none. -/
structure Bind where
  f : Nat
  pool : Nat
  idx : Nat
  pinned : Bool
  unmet : Bool
deriving DecidableEq, Repr

/-- State of the load slot as the commit record names it (R336), and the states of a load in progress (R364, CFG_STATUS.LOAD). -/
inductive LoadState where
  | empty
  | receiving
  | verifying
  | refusedImg
  | pendingImg
  | waitingImg
deriving DecidableEq, Repr

/-- A key of the keystore (R358). -/
structure Key where
  enrolled : Bool := false
  pub : List Byte := []
  id : Nat := 0
deriving DecidableEq, Repr

/-- What an armed confirmation names (R353): TARGET 1 image, 2 keystore, 3 model, the doorway of a model and when it lapses. -/
structure Arm where
  target : Nat
  dwy : Nat
  code : Nat
  key : Nat
  until_ : Nat
deriving DecidableEq, Repr

/-- A copy of a record in the image flash: its write count, its content and the CRC-32C stored with it (R336, R360). -/
structure FlashCopy where
  count : Nat := 0
  data : List Byte := []
  crc : Nat := 0
deriving DecidableEq, Repr

/-- A model entry of the model store (R360): doorway, sequence number and KIND of its prefix, and the model. -/
structure MEntry where
  dwy : Nat
  seq : Nat
  kind : Nat
  data : List Byte
deriving DecidableEq, Repr

/-- Image flash and the running configuration: the two slots, the two copies of the keystore and of the commit record, and the model store with its
models and the two copies of each doorway's offsets (R335, R336, R360); what the copies in use say (R336, R358); the armed confirmation (R353); and what
configuration memory holds of the running image beside registers (R403). -/
structure ImgH where
  slotA : List Byte := []
  slotB : List Byte := []
  running : Option Bool := none
  commit : Option Bool := none
  runGen : Nat := 0
  load : LoadState := .empty
  loadKind : Nat := 0
  loadClass : Nat := 0
  keyGen : Nat := 0
  keys : List Key := [{}, {}, {}, {}]
  models : List MEntry := []
  offsets : List (Nat × FlashCopy × FlashCopy) := []
  arm : Option Arm := none
  level : Nat := 0
  decl : Nat := 0
  insts : List Inst := []
  hints : List Hint := []
  seqs : List SeqRec := []
  checked : Bool := false
  loaded : Bool := false
  genA : Nat := 0
  genB : Nat := 0
  codeA : Nat := 0
  codeB : Nat := 0
  com0 : FlashCopy := {}
  com1 : FlashCopy := {}
  key0 : FlashCopy := {}
  key1 : FlashCopy := {}
deriving DecidableEq, Repr

/-- A move that waits or runs (R375, R377, R379): its doorway, pool and target resource (0xFF: the highest spare when it starts), whether a
new image asks for it (R379) and pins its target (R373); once started, the resource it left. -/
structure Move where
  dwy : Nat
  pool : Nat
  target : Nat
  started : Bool := false
  old : Nat := 0xFF
  plan : Bool := false
  pin : Bool := false
deriving DecidableEq, Repr

/-- A spare that a doorway took after a fault, and in which millisecond (R376). -/
structure Pick where
  ms : Nat
  pool : Nat
  dwy : Nat
  res : Nat
deriving DecidableEq, Repr

/-- Placement state: bindings, the fault map (key pool × 64 + index, R368), moves that wait (R377, R379), and the correctable-error
times of each region (R377), whether the placement of R376 is to be computed at the end of the tick (`replaceDue`), and the spares taken last. -/
structure PlcH where
  binds : List Bind := []
  fm : List (Nat × Nat) := []
  moves : List Move := []
  dramErr : List (Nat × Nat) := []
  replaceDue : Bool := false
  picks : List Pick := []
deriving DecidableEq, Repr

/-! ## Faults (chapter 13) -/

/-- An open recovery window (R397): its bit, the doorway it belongs to (24 for none, 25 for every doorway) and when it opened. -/
structure Window where
  kind : Nat
  dwy : Nat
  opened : Nat
  loaded : Bool := false
deriving DecidableEq, Repr

/-- Module fault state beside the registers: open windows, the keep-alive latch of Quickthorn (R413), watchdog (R409), clean scrub
passes of each region since a mismatch (R403), SAFE bookkeeping. -/
structure FltH where
  windows : List Window := []
  qtBits : Nat := 0
  qtS : Bool := false
  qtA : Bool := false
  qtTrips : Nat := 0
  qtTripped : Bool := false
  restarts : Nat := 0
  wdogAt : Nat := 0
  wdogSeq : Nat := 0
  scrubOk : List (Nat × Nat) := []
  safeAt : Nat := 0
  safeCauses : Nat := 0
  engLostAt : Option Nat := none
  engBackAt : Option Nat := none
  engTested : List Nat := []
  cvuOld : List (Nat × Nat) := []
  dramSysBad : Bool := false
deriving DecidableEq, Repr

/-! ## Power, clocks and thermal behaviour (chapter 17) -/

/-- Power state beside the PWR registers. `lossAt` is the LOSS under way (R511) and `down` the LOSS whose shutdown has started; the keep-alive
domain (R515) holds `vkLost`, `powerFail` with its three words of 0x7003, `latch` and `enables` (bits of WakeIn), and `keepRc`; `keep` says that the module
is in KEEP, `railCmd` that a wake has switched the main rail on, `offAt` when the rail went off. `keepHow` is 1 or 2 from the acceptance of
KEEP entry at `keepAt`, with `keepN` records staged then; `keepStep` 1 says that its checkpoint is under way and 2 that 0x7004 is staged (R514). Temperatures and shedding: the last 16 readings, when the level was entered and since when the junction is at
or below its exit threshold (R523, R524), and the head rate that follows the relock (R525). Relocks of ENG, NET and CAN: start and cause,
and when the last failed with its cause (R521). `runFrom` and `runAcc` count the time in RUN, `holdAt` is that time at the last
measurement of the bank (R512). `stay` and `seqBad` are the failures that keep the module in CONFIG, or fence a doorway until BOOT (R404, R416), `scrubbed`
the regions whose first pass has matched (R507); `lhIn` are the filtered levels at LH_IN (R327); `bothC` and `bothR` suppress the presses of R544. -/
structure PwrH where
  lossAt : Option Nat := none
  down : Option Nat := none
  exc8 : Bool := false
  excSeen : Bool := false
  lines : Nat := 0
  wakeOff : Nat := 0
  vkLost : Bool := true
  powerFail : Bool := false
  pfPages : Nat := 0
  pfLatched : Nat := 0
  holdMs : Nat := 0
  latch : Nat := 0
  lhIn : Nat := 0
  enables : Nat := 0
  keepRc : Bool := false
  keep : Bool := false
  railCmd : Bool := false
  offAt : Nat := 0
  keepHow : Nat := 0
  keepAt : Nat := 0
  keepN : Nat := 0
  keepStep : Nat := 0
  temps : List Int := []
  shedAt : Nat := 0
  belowAt : Option Nat := none
  rate25 : Bool := false
  relock : List (Option (Nat × Nat)) := [none, none, none]
  failAt : List (Option (Nat × Nat)) := [none, none, none]
  holdAt : Option Nat := none
  runFrom : Nat := 0
  runAcc : Nat := 0
  stay : Bool := false
  seqBad : List Nat := []
  configAt : Nat := 0
  proveAt : Nat := 0
  scrubbed : List Nat := []
  bothC : Bool := false
  bothR : Bool := false
deriving DecidableEq, Repr

/-! ## Motion, position and obstacles (chapters 5, 6 and 7) -/

/-- What the profile generator of an axis is doing (R170, R172, R241). -/
inductive Gen where
  | idle
  | move
  | stopRamp
  | holdStop
  | ss1
deriving DecidableEq, Repr

/-- Motion state of an axis beside its registers. Position `x` and target `tgt` are in microsteps × 40,000² × 65,536 and speed `v` in
microsteps per second × 40,000 × 65,536, so that one drive frame adds `v` to `x` exactly (R165, R170). -/
structure AxH where
  x : Int := 0
  v : Nat := 0
  up : Bool := true
  tgt : Int := 0
  gen : Gen := .idle
  slow : Bool := false
  started : Bool := false
  host : Bool := false
  restN : Nat := 0
  devN : Nat := 0
  presented : Option Int := none
  hostPresented : Option Int := none
  acc : Int := 0
  iA : Int := 0
  iB : Int := 0
  refA : Int := 0
  refB : Int := 0
  integA : Int := 0
  integB : Int := 0
  lastA : Int := 0
  lastB : Int := 0
  dutyA : Int := 0
  dutyB : Int := 0
  energy : Int := 0
  fwin : List (Option Int) := []
  fpos : Option Int := none
  isOver : Bool := false
  ss1On : Bool := false
  v0 : Nat := 0
  breachN : Nat := 0
  oldTab : Option (List Byte) := none
deriving DecidableEq, Repr

/-- The plan of an axis at a tick (R97, R98): commanded position, target and speed in the units of `AxH`, what the generator is doing, its speeds
VSTOP, V1 and top, that of a move at one speed, its rates (R168), the rate of a hold stop or SS1, SCALE, and whether its sweep lies towards open. -/
structure PlanAx where
  x : Int
  tgt : Int
  v : Nat
  up : Bool
  gen : Gen
  slow : Bool
  vs : Nat
  v1 : Nat
  vtop : Nat
  vslow : Nat
  a1 : Nat
  a2 : Nat
  d1 : Nat
  d2 : Nat
  dstop : Nat
  scale : Nat
  out : Bool
deriving DecidableEq, Repr

/-- Encoder channel state beside its registers (R199–R216). Times are in ticks of the 160 MHz time base. -/
structure EncH where
  a : Bool := false
  b : Bool := false
  z : Bool := false
  ext : Int := 0
  cntPrev : Nat := 0
  origin : Int := 0
  extreme : Int := 0
  stamps : List Nat := []
  illegal : List Nat := []
  detN : Nat := 0
  quiet : Option Nat := none
  idxHave : Bool := false
  idxDown : Bool := false
  idxDirChg : Bool := false
  last : Option Nat := none
  refEdge : Option Nat := none
deriving DecidableEq, Repr

/-- A pose entry (R211): the tick of its scan and, for each channel, the TICK of the latch, the count, the speed and the fault flags LOSS and
CNT_ERR. -/
structure Pose where
  tick : Nat
  ticks : List Nat
  exts : List Int
  speeds : List Int
  bad : List Bool
deriving DecidableEq, Repr

/-- A reset edge that waits for the end of its clearing interval (R190, R280): when it was taken, its source (1 CREW_IN, 2 RESET_REQ), its T_high
in ms, and whether it has acted so far. -/
structure HeldEdge where
  at_ : Nat
  src : Nat
  ms : Nat
  acted : Bool
deriving DecidableEq, Repr

/-- Drive link and drive enables of a doorway beside its registers (R183–R192). `status` is the pod STATUS byte last received, `edges` the reset
edges that wait for the end of their clearing interval, `lastCmd` the last frame sent, `conflictTold` that 0x4407 was written for this conflict. `denN`
counts the test slots of this PROVE at which DEN_A and DEN_B were read back, the last at `denAt` (R507). -/
structure DrvH where
  fbMiss : Nat := 0
  fbNew : Bool := false
  count : Nat := 0
  clrFault : Bool := false
  bridges : Nat := 0
  trig : Nat := 0
  retrainOpen : Bool := false
  step : Nat := 0
  validN : Nat := 0
  okN : Nat := 0
  info : List (Option Nat) := [none, none, none, none]
  phyUp : Bool := false
  failedAt : Option Nat := none
  conflictAt : Option Nat := none
  edges : List HeldEdge := []
  vbus : Nat := 0
  onFailA : Nat := 0
  onFailB : Nat := 0
  denN : List Nat := [0, 0]
  denAt : List (Option Nat) := [none, none]
  podBad : Option Nat := none
  lastCmd : List Byte := []
  status : Nat := 0
  conflictTold : Bool := false
deriving DecidableEq, Repr

/-- One safety edge (R228–R230): since when its conversions count as activated, stay in a faulty class, or read NORMAL, and when
its conversions count again after a claim (R433). -/
structure EdgeH where
  actSince : Option Nat := none
  badSince : Option Nat := none
  normSince : Option Nat := none
  activated : Bool := false
  readyAt : Nat := 0
deriving DecidableEq, Repr

/-- Obstacle fusion and SS1 of a doorway beside its registers (R238–R245). -/
structure ObstH where
  edge0 : EdgeH := {}
  edge1 : EdgeH := {}
  cause : Option Nat := none
  t0 : Nat := 0
  t0Set : Bool := false
  state0 : Nat := 0
  posA0 : Int := 0
  posB0 : Int := 0
  recCause : Nat := 0
  warnSrc : Nat := 0
  warnN : Nat := 0
  warnOn : Bool := false
  twoHand : Bool := false
  sto : Bool := false
deriving DecidableEq, Repr

/-! ## The pair (chapter 14) -/

/-- Pair state beside the PAIR registers (chapter 14). `claim` commands the own AUTH line; `authPin` and `presPin` are the levels at the partner AUTH and PRES pins (R421); `partFreeSince` and `bothSince` time the lines
(R429, R430); `releasedAt` is when the own claim was last released (R430), `contentAt` when the last CONTENT frame came (R428); `epochAt`, `laneAt` and `hbAt` are the last valid epoch, frames of the lanes and heartbeat. `gen`, `ackGen` and `sentSeq`
belong to the epochs sent, `applied`, `last` and `heard` to those applied and received. `phase` is the resynchronisation: 1 content, 2 state
phase waiting for its snapshot, 3 counting epochs; `snap`, `bufEpochs`, `content` are what has come in, `snapReq` and the `sent` fields what
the holder owes the partner. The `ho` fields are the handover, `held` and `holdWait` the takeover, `fwd` the records sent to the partner and
not acknowledged. `out` holds the frames sent since the last EPOCH_SEND. -/
structure PairH where
  claim : Bool := false
  authPin : Bool := false
  presPin : Bool := false
  partFreeSince : Option Nat := none
  bothSince : Option Nat := none
  releasedAt : Option Nat := none
  contentAt : Option Nat := none
  hbAt : Option Nat := none
  hbEver : Bool := false
  epochAt : Option Nat := none
  laneAt : List (Option Nat) := [none, none]
  gen : Nat := 0
  ackGen : Nat := 0
  sentSeq : List (Nat × Nat) := []
  applied : Nat := 0
  last : List Byte := []
  heard : List Byte := []
  maxSeq : Nat := 0
  firstDone : Bool := false
  phase : Nat := 0
  resyncAt : Nat := 0
  resyncCause : Nat := 0
  nextCause : Nat := 3
  snapReq : Bool := false
  snapGen : Nat := 0
  snap : List (Nat × List Byte) := []
  bufEpochs : List (List Byte) := []
  consec : Nat := 0
  content : List (Nat × List Byte) := []
  sentImg : Option (Nat × Nat) := none
  sentKey : Option Nat := none
  sentItems : List (Nat × Nat) := []
  hoReq : Bool := false
  hoRun : Bool := false
  hoSrc : Nat := 0
  hoNow : Bool := false
  claimAt : Option Nat := none
  authFrom : Option Nat := none
  authHold : Bool := false
  held : List Nat := []
  holdWait : List Nat := []
  disagreed : List Nat := []
  epochIn : List Byte := []
  autoAt : Option Nat := none
  fittedAt : Option Nat := none
  restartPulse : Option Nat := none
  agreeSince : Option Nat := none
  fwd : List Rec := []
  fwdSent : Nat := 0
  fwdAcked : Nat := 0
  fwdTaken : Nat := 0
  out : List (List Byte) := []
  deltas : List (List Byte) := []
deriving DecidableEq, Repr

/-! ## Field inputs and load channels (chapter 10) -/

/-- One filtered input (R311): consecutive scans that differ from the filtered state, when the present level began, and whether a first
sample has been taken since BOOT (R560). -/
structure FiltH where
  n : Nat := 0
  on : Bool := false
  since : Option Nat := none
deriving DecidableEq, Repr

/-- A load channel beside its registers (R318–R323). `hot` says that the junction has not cooled below 145 °C since the last shutdown;
`buckets` are the sixteen clamp buckets in nJ, `bkt` the current one. `inrushAt` is the end of the last inrush window. -/
structure ChH where
  inrushAt : Nat := 0
  restarts : List Nat := []
  hot : Bool := false
  limp : Bool := false
  buckets : List Nat := [0, 0, 0, 0, 0, 0, 0, 0, 0, 0, 0, 0, 0, 0, 0, 0]
  bkt : Nat := 0
  settleN : Nat := 0
  last : Nat := 0
deriving DecidableEq, Repr

/-- The sequencer of a doorway beside its registers (R28–R45): when the state was entered, the edge of zero speed, the
latched platform condition of R268, requests that wait for a tick, stops that must end before a transition, and the proof stroke. -/
structure SeqH where
  entered : Nat := 0
  zsPrev : Bool := false
  openIn : Bool := false
  proofNet : Bool := false
  platLatch : Option Bool := none
  seenOpen : Bool := false
  presented : Bool := false
  relStop : Bool := false
  warnFrom : Nat := 0
  stowHeld : Bool := false
  obCause : Nat := 0
  inOpening : Bool := false
  lockFrom : Nat := 0
  phase : Nat := 0
  phaseFrom : Nat := 0
  strokeFrom : Nat := 0
  fail : Option Nat := none
  sealPath : Bool := false
  openEdge : Bool := false
  hourN : Nat := 0
deriving DecidableEq, Repr

/-- What a cycle has measured so far (R449); `none` is "not measured". -/
structure CycH where
  openFrom : Nat := 0
  openMs : Option Nat := none
  closeFrom : Nat := 0
  closeMs : Option Nat := none
  peakA : Option Nat := none
  peakB : Option Nat := none
  obst : List Nat := [0, 0, 0, 0]
  proofMs : Nat := 0
  retry : Nat := 0
  seals : Nat := 0
  plat : Nat := 0x80008000
  tgt : Nat := 0
  src : Nat := 0
  latched : Bool := false
  energy : Nat := 0
  judged : Nat := 0
  unknown : Nat := 0
  obstructed : Nat := 0
  unlockFrom : Nat := 0
  unlockMs : Option Nat := none
  lockFrom : Nat := 0
  lockMs : Option Nat := none
  deployFrom : Nat := 0
  deployMs : Option Nat := none
  stowFrom : Nat := 0
  stowMs : Option Nat := none
  refA : Option Int := none
  refB : Option Int := none
  shed : Nat := 0
  deferred : Bool := false
  creep : Bool := false
  hold : Bool := false
  platform : Bool := false
deriving DecidableEq, Repr

/-- Lock, proving and reset-edge timers of a doorway (R255, R258, R278, R283), the proving switches at the last
evaluation (R260), and whether CREW_IN has been sampled since BOOT (R560). -/
structure LockH where
  onSince : Option Nat := none
  lowSince : Option Nat := none
  highSince : Option Nat := none
  stuckSince : Option Nat := none
  plausSince : List (Option Nat) := [none, none, none, none, none, none, none, none]
  plausTold : List Bool := [false, false, false, false, false, false, false, false]
  isoDiff : Option Nat := none
  crewOff : Option Nat := none
  crewOn : Option Nat := none
  crewReady : Bool := false
  crewEdge : Option Nat := none
  crewSeen : Bool := false
  swSeen : Nat := 0
deriving DecidableEq, Repr

/-- Protective devices of a doorway (chapter 9): timers of the discrepancies, of the two-hand device and of the curtain test; `handleOld`
holds the handle's former PD_IN fields and HANDLE_FILT while an operated handle keeps them (R306), `lcPassAt` the run time of the last passed test (R302),
`xsAt` when input `ch` was last checked at a pulse of source `src`, at 2 ch + src (R291). -/
structure ProtH where
  hDiff : Option Nat := none
  hAgree : Option Nat := none
  gDiff : Option Nat := none
  gAgree : Option Nat := none
  gXs : Bool := false
  thADiff : Option Nat := none
  thBDiff : Option Nat := none
  thRelSince : Option Nat := none
  thAAt : Option Nat := none
  thBAt : Option Nat := none
  thReady : Bool := false
  lcDiff : Option Nat := none
  lcTestAt : Option Nat := none
  lcSeenOff : Bool := false
  lcKind : Nat := 0
  lcPassAt : Option Nat := none
  lcOffSince : Option Nat := none
  xsRuns : List Nat := [0, 0, 0, 0, 0, 0, 0, 0]
  xsAt : List (Option Nat) := [none, none, none, none, none, none, none, none]
  handleOld : Option (Nat × Nat × Nat) := none
  xsOkSince : Option Nat := none
  gXsOkSince : Option Nat := none
  handleEdge : Bool := false
deriving DecidableEq, Repr

/-- A field ASIC (R309, R326, R327, R329–R332): when its alive pulse became valid or was last valid, its limp-home level, the reference and
converter bookkeeping, and whether it has reported since the module's restart (`told`);
`deaf` counts scans in a row without a valid frame, and `owe` says that a 0x4A01 is due at the next valid one. -/
structure AsicH where
  pulseOk : Bool := false
  pulseSince : Nat := 0
  armed : Bool := false
  lostSince : Option Nat := none
  refBad : Nat := 0
  refGood : Option Nat := none
  seqN : Nat := 0
  settle : List Nat := [0, 0, 0, 0, 0, 0, 0, 0, 0, 0, 0, 0, 0, 0, 0, 0]
  carryA : Nat := 0
  carryB : Nat := 0
  linkFault : Bool := false
  deaf : Nat := 0
  owe : Bool := false
  lhEn : Bool := false
  told : Bool := true
deriving DecidableEq, Repr

/-- An emulated output beside its registers (R218, R219): the quadrature state of its lines, 0 where A and B are both high and counting upwards, the
Z line, whether Z is suppressed after an overrun, and the transitions of the present drive frame: tick from its start, quadrature state, Z. -/
structure EmuH where
  ph : Nat := 0
  z : Bool := false
  sup : Bool := false
  trans : List (Nat × Nat × Bool) := []
deriving DecidableEq, Repr

/-- Train lines, side mapping and the loop and safety outputs (R261–R276) beside the TRN registers: filtered train lines, timers, stuck-on
counts of the twelve switches and the present readback of each, when each was last tested (`slotAt`), at how many successive slots of this PROVE
(`slotN`), and the test frame now open (`frameN`), the
safety outputs' currents and the loop supplies as measured, since when the current of each output is above its limit (`overAt`), which ASICs have given a first sample (`tlSeen`), and the emulated outputs. -/
structure TrnH where
  tl : List FiltH := [{}, {}, {}, {}, {}, {}, {}, {}, {}, {}, {}, {}]
  zsDiff : Option Nat := none
  zsBothOff : Option Nat := none
  zsArm : Bool := false
  mapSince : Nat := 0
  misSince : Option Nat := none
  okSince : Option Nat := none
  rstOff : Option Nat := none
  rstOn : Option Nat := none
  rstReady : Bool := false
  stuck : List Nat := [0, 0, 0, 0, 0, 0, 0, 0, 0, 0, 0, 0]
  rb : List Bool := [false, false, false, false, false, false, false, false, false, false, false, false]
  slotAt : List (Option Nat) := [none, none, none, none, none, none, none, none, none, none, none, none]
  slotN : List Nat := [0, 0, 0, 0, 0, 0, 0, 0, 0, 0, 0, 0]
  frameN : Nat := 0
  soCur : List Nat := [0, 0, 0, 0]
  overAt : List (Option Nat) := [none, none, none, none, none, none]
  supply : List Nat := [0, 0, 0, 0, 0, 0]
  tlSeen : List Bool := [false, false]
  depotSince : Option Nat := none
  zsSince : Nat := 0
  rstEdge : Option Nat := none
  rstJudge : Option (Nat × Bool) := none
  sdtL : Bool := false
  sdtR : Bool := false
  soKind : List Nat := [0, 0, 0, 0]
  emu : Vector EmuH 8 := Vector.replicate 8 {}
deriving DecidableEq, Repr

/-! ## Topiary and the verdict (chapter 3) -/

/-- A platform result of a frame (R117): the tick of T_REF, and none for invalid, some none for no platform, some (gap, offset) in depth
units of 0.25 mm. -/
structure PlatRes where
  tref : Nat
  res : Option (Option (Int × Int))
deriving DecidableEq, Repr

/-- A learning run (R121, R122): 0 before the first closed position, 1 closed, 2 the open stroke, 3 the close stroke; what would make the cycle
unaccepted; when the last frame was judged; and the frames of the cycle, of the accepted cycles and of the strokes of the step, each with the axis positions in 0.01 mm at T_REF and the
depth of every pixel, none where it is invalid. -/
structure LearnH where
  stroke : Nat := 0
  badFrames : Nat := 0
  bad : Bool := false
  lastAt : Nat := 0
  cyc : List (List Int × List (Option Nat)) := []
  frames : List (List Int × List (Option Nat)) := []
  steps : List (List Int × List (Option Nat)) := []
deriving DecidableEq, Repr

/-- Topiary state of a doorway beside its registers: the two models as stored (R95), the zone sets of the last ticks (R98), the held
verdict's causes (R108), the proof (R113, R114), the platform results (R117), learning and adaptation (R120–R126); `offsNext` and `confirmKey` wait for the next frame boundary (R124, R125). -/
structure TopiH where
  model : List Byte := []
  pending : List Byte := []
  sets : List (Nat × Nat) := []
  causes : List Nat := []
  held : Bool := false
  sealAt : Nat := 0
  counted : Option Nat := none
  moved : Bool := false
  profA : List (Nat × Int) := []
  profB : List (Nat × Int) := []
  profLost : Bool := false
  closeRun : Bool := false
  holdA : List Int := []
  holdB : List Int := []
  fixed : Bool := false
  plats : List PlatRes := []
  learn : LearnH := {}
  adaptFrom : Option Nat := none
  adapted : Bool := true
  limitN : List (Nat × Nat) := []
  offs : List Int := []
  offsNext : Option (List Int) := none
  confirmKey : Option Nat := none
  plans : List (Nat × List PlanAx) := []
  resids : List (List (Option Int)) := []
deriving DecidableEq, Repr

/-! ## Heads, depth and engine pairs (chapters 2, 3 and 4) -/

/-- A frame under capture (R64–R66, R69): its T_START, the frame counter once a line names it, the lines received keyed
480 × sub-exposure + row, and when the last came. -/
structure Cap where
  start : Nat
  ctr : Option Nat := none
  lines : List (Nat × List Byte) := []
  lastAt : Nat := 0
deriving DecidableEq, Repr

/-- An accepted raw frame held in DRAM (R143): counter, T_REF as TICK and in the 64-bit time base, and its lines. -/
structure RawFrame where
  ctr : Nat
  tref : Nat
  trefTb : Nat
  lines : List (Nat × List Byte)
deriving DecidableEq, Repr

/-- The head link of a doorway beside its registers (R55–R80). `delays` are the kept path delays in 1/8 ns, newest first; `stale` says that no
frame has been accepted since the last trigger (R79 step 1); `closed` is the counter of the frame closed last since then, `closedAt` its T_START, `starts`
are the last two T_STARTs sent, and `faultAt` the last STATUS telegrams with a FAULT bit (R69); `txSync`, `txCfg` and `txCmd` are the last frames sent (R55). -/
structure HeadH where
  phyUp : Bool := false
  opening : Bool := false
  trig : Nat := 0
  step : Nat := 0
  failedAt : Option Nat := none
  seq : Nat := 0
  lastSync : Option Nat := none
  syncs : List (Nat × Nat) := []
  answered : Bool := true
  miss : Nat := 0
  alt : Bool := false
  delays : List Int := []
  caps : List Cap := []
  raws : List RawFrame := []
  prevCtr : Option Nat := none
  prevTref : Option Nat := none
  closed : Option Nat := none
  closedAt : Option Nat := none
  starts : List Nat := []
  faultAt : List Nat := []
  accAt : Nat := 0
  accN : Nat := 0
  lastT : Option Nat := none
  stale : Bool := true
  cfgSeq : Nat := 0
  cfgSent : Option Nat := none
  cfgAck : Bool := false
  cmdSeq : Nat := 0
  dst : Nat := 0xFFFFFFFFFFFF
  helloDig : Nat := 0
  cal : Option (List Byte) := none
  calHdr : List Byte := []
  calData : List (Nat × List Byte) := []
  calTry : Nat := 0
  txSync : List Byte := []
  txCfg : List Byte := []
  txCmd : List Byte := []
deriving DecidableEq, Repr

/-- One pixel of a depth frame (R86): depth word, amplitude M_100 and flags. -/
structure Pix where
  depth : Nat
  amp : Nat
  flags : Nat
deriving DecidableEq, Repr

/-- A depth frame in DRAM (R86). -/
structure DepthFrame where
  ctr : Nat
  tref : Nat
  trefTb : Nat
  pix : List Pix
  invalid : Nat
deriving DecidableEq, Repr

/-- What the stages S4–S7 give for a frame (R99, R106, R107, R117): zone results in the order GAP, SWEEP, THRESHOLD, SEAM as the register
codes them, statistics, the verdict word, the zone set, the causes that make the verdict UNKNOWN, those of its zones alone (R108), and the platform
result. -/
structure FrameRes where
  ctr : Nat
  tref : Nat
  trefTb : Nat
  zoneset : Nat
  zones : List Nat
  fgPix : Nat
  ridgeMax : Nat
  ridgeLen : Nat
  invPct : Nat
  word : Nat
  causes : List Nat
  zoneCauses : List Nat
  plat : Option (Option (Int × Int))
  resid : List (Option Int)
deriving DecidableEq, Repr

/-- What one copy of a frame has given to the Binder (R133–R137): its result, the signatures it forms, keyed 512 × stage + tile (S4, S6 and S7 use
tile 511), the tiles that its skip list leaves out, and the stages in which an accumulator saturated. The Binder holds them until the other
copy's come. -/
structure CopyOut where
  res : FrameRes
  sigs : List (Nat × Word) := []
  skips : List Nat := []
  ovf : List Nat := []
deriving DecidableEq, Repr

/-- What a pair's engines are for beside computing its doorway (R143, R145, R151). -/
inductive PairJob where
  | none
  | loading
  | running
  | golden
  | rejoin (step : Nat)
deriving DecidableEq, Repr

/-- An engine pair beside its registers: the frame it compares, as both copies have it, and when it entered, the signatures found equal so far, T_REF of the last frame done, signatures of the last published frame by stage, its
job and when that began, the pair it replaced, the bit of the next Binder self-test, when the next golden test falls due, the frames still to
replay in a rejoin, whether a golden test is owed, and whether a new map alone moves the doorway here. -/
structure EngH where
  cur : Option (CopyOut × CopyOut) := none
  curAt : Nat := 0
  sigs : List (Nat × (Word × Word)) := []
  lastSigs : List (Word × Word) := []
  doneT : Option Nat := none
  job : PairJob := .none
  jobAt : Nat := 0
  oldPair : Nat := 0xFF
  selfPos : Nat := 0
  testDue : Nat := 0
  replay : Nat := 0
  vacated : Bool := false
  upEcc : Bool := false
  late : Bool := false
  plan : Bool := false
deriving DecidableEq, Repr

/-! ## Train network, panel bus and host access (chapter 16) -/

/-- A row of the PD table beside its registers (R479, R483): when it last accepted or sent a telegram, whether it is valid, whether a telegram
has failed its format checks since, the last counter, and the last dataset. -/
structure PdRowH where
  at_ : Nat := 0
  valid : Bool := false
  seen : Bool := false
  fmt : Bool := false
  ctr : Nat := 0
  data : List Byte := []
deriving DecidableEq, Repr

/-- A row of the SDT table (R484): last pass, validity, the bit, the last valid safeSequCount, why telegrams have failed since, when the
safety code failed last, and consecutive passes since. -/
structure SdtH where
  at_ : Nat := 0
  valid : Bool := false
  set : Bool := false
  ssc : Option Nat := none
  why : Nat := 1
  failAt : Option Nat := none
  passes : Nat := 0
deriving DecidableEq, Repr

/-- Network state: the links as the PHYs report them (R477), the tables, the new etbTopoCnt and how often it was seen (R482), and the last
published telegram, which left on both consist ports: row, counter, destination and dataset (R477, R483). -/
structure NetH where
  links : List Bool := [false, false, false]
  rows : List PdRowH := List.replicate 80 {}
  sdt : List SdtH := List.replicate 16 {}
  topoNew : Nat := 0
  topoN : Nat := 0
  sent : Option (Nat × Nat × Nat × List Byte) := none
deriving DecidableEq, Repr

/-- A received frame as stored (R490, R492). -/
structure CanEnt where
  f : CanFrame
  filter : Nat
  tick : Nat
  new_ : Bool := false
  lost : Bool := false
deriving DecidableEq, Repr

/-- A CAN controller beside its registers (R490–R496): queues and slots, error counters, bus-off and its recovery, the buffer on the bus and
whether an abort waits for it, and the panel profile: status frames still to load, the last status, its counter and time, the request bit of
each identifier. `sent` is the last frame sent. -/
structure CanH where
  q0 : List CanEnt := []
  q1 : List CanEnt := []
  slots : List (Option CanEnt) := [none, none, none, none, none, none, none, none]
  tec : Nat := 0
  rec_ : Nat := 0
  lec : Nat := 0
  off : Bool := false
  recovering : Bool := false
  bus : Option Nat := none
  aborting : Bool := false
  panelQ : List CanFrame := []
  panelLast : List Byte := []
  panelCtr : Nat := 0
  panelAt : Option Nat := none
  reqBits : List (Option Bool) := List.replicate 24 none
  sent : Option CanFrame := none
deriving DecidableEq, Repr

/-- A posted entry (R502): its address, its words, and the bytes of a LOAD. -/
structure WEntry where
  addr : Nat
  words : List Nat := []
  load : Option (List Byte) := none
deriving DecidableEq, Repr

/-- A telegram whose items are not all done (R499, R501): its tag, the items left, the results so far, and whether it was repeated. -/
structure Flight where
  tag : Nat
  left : List RapItem
  res : List Byte := []
  n : Nat := 0
  twice : Bool := false
deriving DecidableEq, Repr

/-- A RAP session (R501): its port, peer and last telegram, its queue and telegrams under way, the last response, DEFERRED, and the registers
and latches kept for the session: the high words of R19, MAP_SEL, SNAP_* with the resolved list and the entries held, FOR_BASE, FOR_STATUS,
HIST_SEL with what it fixed, and the slot latches of R492. -/
structure Sess where
  open_ : Bool := false
  port : Port := .service
  ip : Nat := 0
  lastAt : Nat := 0
  queue : List WEntry := []
  flights : List Flight := []
  lastTag : Option Nat := none
  resp : List Byte := []
  dropped : Nat := 0
  dropAddr : Nat := 0
  hi : List (Nat × Nat) := []
  mapSel : Nat := 0
  snapLo : Nat := 0
  snapHi : Nat := 0
  snapCount : Nat := 1
  resolving : Bool := false
  export_ : Bool := false
  snapRefused : Bool := false
  snapDone : Bool := false
  snapFirst : Nat := 0
  list : List Resolved := []
  held : List (Nat × List Byte) := []
  forBase : Nat := 0
  forStatus : Nat := 0
  forHeld : List (Nat × List Byte) := []
  histSel : List (Nat × Nat) := []
  histFix : List (Nat × List Nat) := []
  slots : List (Nat × List Nat) := []
deriving DecidableEq, Repr

/-- RAP state: the eight sessions (R501), the words that the last read command returned, and the responses that the last command sent: the
ports they left on, peer and bytes. -/
structure RapH where
  sess : Vector Sess 8 := Vector.replicate 8 {}
  read : List Nat := []
  out : List (List Port × Nat × List Byte) := []
deriving DecidableEq, Repr

/-- Coppice operation (R147–R153): when the split was decided, when the last rejoin ended and started, its trigger, and the doorways that
have warned in this split. -/
structure CopH where
  decided : Option Nat := none
  role : Nat := 0
  rejoinAt : Option Nat := none
  trigger : Nat := 0
  failed : Nat := 0
  endAt : Option Nat := none
  zsOffSince : Option Nat := none
  warned : List Nat := []
  seamAt : List (Nat × Nat) := []
  occAt : List (Nat × Nat) := []
  turn : Nat := 0
deriving DecidableEq, Repr

end Sys2Proof.Machine
end

