-- ==== Sys2Proof/Machine/State.lean ====
section
/-!
DEFINITION. Machine/State.lean: the state of the DS24: the register file, keyed by address (R531, R541), the hidden state behind the
registers, and the queue of commands that wait. Plain data.
-/
namespace Sys2Proof.Machine

/-- Hidden state of one doorway, one part per chapter. -/
structure Dwy where
  ax : Vector AxH 3 := Vector.replicate 3 {}
  enc : Vector EncH 3 := Vector.replicate 3 {}
  poses : List Pose := []
  drv : DrvH := {}
  obst : ObstH := {}
  hist : Hist := {}
  seq : SeqH := {}
  cyc : CycH := {}
  lock : LockH := {}
  topi : TopiH := {}
  head : HeadH := {}
  depth : Option DepthFrame := none
  prot : ProtH := {}
  ch : Vector ChH 6 := Vector.replicate 6 {}
  ins : Vector FiltH 16 := Vector.replicate 16 {}
  fencePend : Bool := false
  fencedOnce : Bool := false
deriving DecidableEq, Repr

/-- The state of the module. -/
structure State where
  chip : Chip
  pending : List Instr := []
  now : Nat := 0
  tb0 : Nat := 0
  freeCtr : Nat := 0
  rail : Bool := false
  qtHeld : Bool := false
  regs : List (Nat × Word) := []
  imgPend : List (Nat × Word) := []
  dwys : Vector Dwy 24 := Vector.replicate 24 {}
  recd : RecH := {}
  img : ImgH := {}
  plc : PlcH := {}
  flt : FltH := {}
  pwr : PwrH := {}
  pair : PairH := {}
  trn : TrnH := {}
  asics : Vector AsicH 4 := Vector.replicate 4 {}
  engs : Vector EngH 32 := Vector.replicate 32 {}
  cop : CopH := {}
  net : NetH := {}
  can : Vector CanH 2 := Vector.replicate 2 {}
  rap : RapH := {}
deriving DecidableEq, Repr

/-- Reasons to stop with a fault: none. Every command of this block answers a next state (see the assumption log, entry 1). -/
inductive Fault where
deriving DecidableEq, Repr

/-- Reasons to refuse a command. -/
inductive Refusal where
  /-- Raised by an arm of `exec` that has no meaning yet; safe (the model goes no further). -/
  | notModelled (mnemonic : String)
deriving DecidableEq, Repr

/-- The machine right after reset: every register at its value at entry to BOOT (R18), the main rail off, the queue empty. The ordering
code is DS24-24X and the module sits in slot A (DESIGN CHOICE, log entry 2). -/
def State.reset : State := { chip := { variant := .ds24x24, slotB := false, compat := true, fw := 0, serial := 0 } }

end Sys2Proof.Machine
end

