-- ==== Sys2Proof/Machine/Regs.lean ====
section
/-!
DEFINITION. Machine/Regs.lean: reading and writing the register file by field, the address decode of R531–R533 and R540, and access to
the hidden state of a doorway, an axis and an encoder channel.
-/
namespace Sys2Proof.Machine

/-- Row of a table at offset `o`, if a register lies there. -/
def rowAt (tab : List RegDef) (o : Nat) : Option RegDef :=
  tab.find? (fun r => decide (r.off ≤ o) && decide ((o - r.off) / r.stride < r.cnt) && decide ((o - r.off) % r.stride < 4 * r.words))

/-- Every microstep register reads its table, RO (R176). -/
def mstepDef : RegDef := { off := 0, stride := 4, cnt := 1024, words := 1, reset := 0 }

/-- Which register lies at a byte address (R531, R540), if any. -/
def regDef (addr : Nat) : Option RegDef :=
  if addr % 4 ≠ 0 then none
  else if 0x10000 ≤ addr ∧ addr < 0x28000 then
    let o := (addr - 0x10000) % 0x1000
    if 0x300 ≤ o ∧ o < 0x480 then rowAt axTab ((o - 0x300) % 0x80)
    else if 0x500 ≤ o ∧ o < 0x5C0 then rowAt enTab ((o - 0x500) % 0x40)
    else if 0xB00 ≤ o ∧ o < 0xB60 then rowAt chTab ((o - 0xB00) % 0x10)
    else rowAt dwyTab o
  else if 0x30000 ≤ addr ∧ addr < 0x31000 then some mstepDef
  else if 0x8000 ≤ addr ∧ addr < 0x9000 then rowAt canTab ((addr - 0x8000) % 0x800)
  else if 0x9000 ≤ addr ∧ addr < 0xA000 then rowAt cvuTab ((addr - 0x9000) % 0x40)
  else if 0xB000 ≤ addr ∧ addr < 0xC000 then rowAt engTab ((addr - 0xB000) % 0x80)
  else rowAt globalTab addr

/-- CH_STATUS.CLASS, fixed by k (R316, R325): 0 L, 1 M, 2 H. -/
def chClass (k : Nat) : Nat := if k < 2 then 1 else if k < 5 then 0 else 2

/-- What a register reads at entry to BOOT (R18); "img" and dash registers read 0 (log entry 3), CH_STATUS its class (R316). -/
def resetWord (addr : Nat) : Word :=
  if 0x10000 ≤ addr ∧ addr < 0x28000 ∧ 0xB00 ≤ (addr - 0x10000) % 0x1000 ∧ (addr - 0x10000) % 0x1000 < 0xB60 ∧ addr % 0x10 = 8 then
    BitVec.ofNat 32 (chClass (((addr - 0x10000) % 0x1000 - 0xB00) / 0x10) * 0x80)
  else match regDef addr with
    | some r => BitVec.ofNat 32 r.reset
    | none => 0

/-- The register word stored at an address. -/
def State.reg (s : State) (addr : Nat) : Word := Al.get resetWord s.regs addr

/-- Store a register word. -/
def State.setReg (s : State) (addr : Nat) (v : Word) : State := { s with regs := Al.set resetWord s.regs addr v }

/-- Bring the waiting image values of an address range into force. -/
def State.applyRange (s : State) (lo hi : Nat) : State :=
  let inR : Nat × Word → Bool := fun p => decide (lo ≤ p.1) && decide (p.1 < hi)
  let take := s.imgPend.filter inR
  if take.isEmpty then s
  else
    let s := { s with imgPend := s.imgPend.filter (fun p => !inR p) }
    take.foldl (fun t p => t.setReg p.1 p.2) s

/-- Bits of a word. -/
def fldGet (x : Word) (lo w : Nat) : Nat := x.toNat / 2 ^ lo % 2 ^ w

/-- A word with bits replaced. -/
def fldSet (x : Word) (lo w v : Nat) : Word :=
  BitVec.ofNat 32 (x.toNat % 2 ^ lo + v % 2 ^ w * 2 ^ lo + x.toNat / 2 ^ (lo + w) * 2 ^ (lo + w))

/-- Read a field. -/
def State.rd (s : State) (f : Fld) : Nat := fldGet (s.reg f.addr) f.lo f.w

/-- Write a field. -/
def State.wr (s : State) (f : Fld) (v : Nat) : State := s.setReg f.addr (fldSet (s.reg f.addr) f.lo f.w v)

/-- Read a one-bit field. -/
def State.flag (s : State) (f : Fld) : Bool := s.rd f != 0

/-- Write a one-bit field. -/
def State.setF (s : State) (f : Fld) (b : Bool) : State := s.wr f (b2n b)

/-- Read a signed field. -/
def State.rdS (s : State) (f : Fld) : Int := signed f.w (s.rd f)

/-- Write a signed field. -/
def State.wrS (s : State) (f : Fld) (v : Int) : State := s.wr f (unsigned f.w v)

/-- Write a value saturated at the field's largest. -/
def State.wrSat (s : State) (f : Fld) (v : Nat) : State := s.wr f (min v (2 ^ f.w - 1))

/-- Add 1, saturating at the field's largest value. -/
def State.inc (s : State) (f : Fld) : State := s.wrSat f (s.rd f + 1)

/-- Add `n`, saturating. -/
def State.addSat (s : State) (f : Fld) (n : Nat) : State := s.wrSat f (s.rd f + n)

/-- Set one bit of a field. -/
def State.setBit (s : State) (f : Fld) (i : Nat) (b : Bool) : State :=
  s.wr f (putBit (s.rd f) i b)

/-- Apply a change when a condition holds. -/
def State.when (s : State) (c : Bool) (f : State → State) : State := if c then f s else s

/-- Hidden state of doorway d. -/
def State.dwy (s : State) (d : DIx) : Dwy := s.dwys[d.val]

/-- Change the hidden state of doorway d. -/
def State.modDwy (s : State) (d : DIx) (f : Dwy → Dwy) : State := { s with dwys := s.dwys.set d.val (f (s.dwy d)) }

/-- Hidden state of axis a. -/
def State.axis (s : State) (d : DIx) (a : AIx) : AxH := (s.dwy d).ax[a.val]

/-- Change the hidden state of axis a. -/
def State.modAx (s : State) (d : DIx) (a : AIx) (f : AxH → AxH) : State :=
  s.modDwy d (fun x => { x with ax := x.ax.set a.val (f x.ax[a.val]) })

/-- Hidden state of encoder channel a. -/
def State.enc (s : State) (d : DIx) (a : AIx) : EncH := (s.dwy d).enc[a.val]

/-- Change the hidden state of encoder channel a. -/
def State.modEnc (s : State) (d : DIx) (a : AIx) (f : EncH → EncH) : State :=
  s.modDwy d (fun x => { x with enc := x.enc.set a.val (f x.enc[a.val]) })

/-- Drive-link state. -/
def State.drv (s : State) (d : DIx) : DrvH := (s.dwy d).drv

/-- Change the drive-link state. -/
def State.modDrv (s : State) (d : DIx) (f : DrvH → DrvH) : State := s.modDwy d (fun x => { x with drv := f x.drv })

/-- Obstacle and SS1 state. -/
def State.obst (s : State) (d : DIx) : ObstH := (s.dwy d).obst

/-- Change the obstacle and SS1 state. -/
def State.modObst (s : State) (d : DIx) (f : ObstH → ObstH) : State := s.modDwy d (fun x => { x with obst := f x.obst })

/-- Sequencer state beside the registers. -/
def State.seq (s : State) (d : DIx) : SeqH := (s.dwy d).seq

/-- Change the sequencer state. -/
def State.modSeq (s : State) (d : DIx) (f : SeqH → SeqH) : State := s.modDwy d (fun x => { x with seq := f x.seq })

/-- Cycle measurements. -/
def State.cyc (s : State) (d : DIx) : CycH := (s.dwy d).cyc

/-- Change the cycle measurements. -/
def State.modCyc (s : State) (d : DIx) (f : CycH → CycH) : State := s.modDwy d (fun x => { x with cyc := f x.cyc })

/-- Lock and proving timers. -/
def State.lockH (s : State) (d : DIx) : LockH := (s.dwy d).lock

/-- Change the lock and proving timers. -/
def State.modLock (s : State) (d : DIx) (f : LockH → LockH) : State := s.modDwy d (fun x => { x with lock := f x.lock })

/-- Protective-device timers. -/
def State.prot (s : State) (d : DIx) : ProtH := (s.dwy d).prot

/-- Change the protective-device timers. -/
def State.modProt (s : State) (d : DIx) (f : ProtH → ProtH) : State := s.modDwy d (fun x => { x with prot := f x.prot })

/-- Topiary state. -/
def State.topi (s : State) (d : DIx) : TopiH := (s.dwy d).topi

/-- Change the Topiary state. -/
def State.modTopi (s : State) (d : DIx) (f : TopiH → TopiH) : State := s.modDwy d (fun x => { x with topi := f x.topi })

/-- Head-link state. -/
def State.head (s : State) (d : DIx) : HeadH := (s.dwy d).head

/-- Change the head-link state. -/
def State.modHead (s : State) (d : DIx) (f : HeadH → HeadH) : State := s.modDwy d (fun x => { x with head := f x.head })

/-- Hidden state of engine pair p. -/
def State.eng (s : State) (p : PIx) : EngH := s.engs[p.val]

/-- Change the hidden state of engine pair p. -/
def State.modEng (s : State) (p : PIx) (f : EngH → EngH) : State := { s with engs := s.engs.set p.val (f (s.eng p)) }

/-- Hidden state of load channel k. -/
def State.chan (s : State) (d : DIx) (k : KIx) : ChH := (s.dwy d).ch[k.val]

/-- Change the hidden state of load channel k. -/
def State.modCh (s : State) (d : DIx) (k : KIx) (f : ChH → ChH) : State :=
  s.modDwy d (fun x => { x with ch := x.ch.set k.val (f x.ch[k.val]) })

/-- Filter of input i. -/
def State.input (s : State) (d : DIx) (i : Nat) : FiltH := (s.dwy d).ins[i]?.getD {}

/-- Change the filter of input i. -/
def State.modIn (s : State) (d : DIx) (i : Nat) (f : FiltH → FiltH) : State :=
  s.modDwy d (fun x => { x with ins := x.ins.setIfInBounds i (f (x.ins[i]?.getD {})) })

/-- Field ASIC j. -/
def State.asic (s : State) (j : Nat) : AsicH := s.asics[j]?.getD {}

/-- Change field ASIC j. -/
def State.modAsic (s : State) (j : Nat) (f : AsicH → AsicH) : State := { s with asics := s.asics.setIfInBounds j (f (s.asics[j]?.getD {})) }

/-- Field ASIC of doorway d (R308). -/
def asicOf (d : DIx) : Nat := d.val / 6

/-- Milliseconds since a time, saturating at `m`. -/
def State.msSince (s : State) (t m : Nat) : Nat := min m ((s.now - t) / 160000)

/-- Doorways present on the ordering code (R5). -/
def State.nDwy (s : State) : Nat := match s.chip.variant with | .ds24x8 => 8 | .ds24x16 => 16 | .ds24x24 => 24

/-- Engine pairs, safety-evaluation slots and DRAM regions present (R5, R366). -/
def State.nPair (s : State) : Nat := match s.chip.variant with | .ds24x8 => 12 | .ds24x16 => 22 | .ds24x24 => 32

/-- Protective-device evaluation units exist on DS24-24X only (R5). -/
def State.hasPd (s : State) : Bool := s.chip.variant = .ds24x24

/-- GLB.ID.VARIANT (R10). -/
def Variant.code : Variant → Nat
  | .ds24x8 => 0x08
  | .ds24x16 => 0x10
  | .ds24x24 => 0x18

/-- A power-fail shutdown holds the logic in reset from 16 ms after its LOSS (R511). -/
def State.heldInReset (s : State) : Bool := match s.pwr.down with | some t => decide (t + 16 * 160000 ≤ s.now) | none => false

/-- The supervisor and the logic run: main rail on, no Quickthorn trip since, and no shutdown past its 16 ms (R411, R511). -/
def State.alive (s : State) : Bool := s.rail && !s.qtHeld && !s.heldInReset

/-- Doorway d is present (R5, R6). -/
def State.present (s : State) (d : DIx) : Bool := decide (d.val < s.nDwy)

/-- Doorway d is declared by the running image (R343). -/
def State.declared (s : State) (d : DIx) : Bool := s.present d && s.img.running.isSome && bitOf s.img.decl d.val

/-- Doorway d takes part: the logic runs and the doorway is declared (R343). -/
def State.on (s : State) (d : DIx) : Bool := s.alive && s.declared d

/-- Declared doorways in rising order. -/
def State.declaredList (s : State) : List DIx := allD.filter s.declared

/-- An effect on doorway d, when it takes part. -/
def State.onD (s : State) (d : DIx) (f : State → State) : State := if s.on d then f s else s

/-- A timer that runs while a condition holds. -/
def State.keep (s : State) (c : Bool) (t : Option Nat) : Option Nat :=
  if c then (match t with | some x => some x | none => some s.now) else none

/-- An effect of the module, when its logic runs. -/
def State.onM (s : State) (f : State → State) : State := if s.alive then f s else s

/-- The 160 MHz time base since BOOT (R224). -/
def State.tb (s : State) : Nat := s.now - s.tb0

/-- TICK: the low 32 bits of the time base. -/
def State.tick (s : State) : Nat := s.tb % 2 ^ 32

/-- Ticks of the time base in n microseconds. -/
def usT (n : Nat) : Nat := n * 160

/-- Ticks of the time base in n milliseconds. -/
def msT (n : Nat) : Nat := n * 160000

/-- Has `n` ticks passed since `t`? -/
def State.past (s : State) (t n : Nat) : Bool := decide (t + n ≤ s.now)

/-- MOD.STATE.STATE (R527). -/
def State.modState (s : State) : Nat := s.rd F.MOD_STATE_STATE

/-- Does the module hold authority: role SOLO or ACTIVE (R423)? -/
def State.hasAuth (s : State) : Bool := s.rd F.RP_STATUS_ROLE == 0 || s.rd F.RP_STATUS_ROLE == 3

/-- Zero speed is valid (R262). -/
def State.zeroSpeed (s : State) : Bool := s.flag F.TRN_STATUS_ZS_VALID

end Sys2Proof.Machine
end

