-- ==== Sys2Proof/Machine/Depth.lean ====
section
/-!
DEFINITION. Machine/Depth.lean: from raw phase to depth (R67, R82–R86): samples, the wrapped distances, unwrapping, the pixel flags and
the depth frame.
-/
namespace Sys2Proof.Machine

/-! ## The two copies (R132, R133, R135) -/

/-- The upright and the rotated copy of a frame (R133). -/
inductive Copy where
  | upright
  | rotated
deriving DecidableEq, Repr

/-- The elements of a reduction in the order of a copy: ascending index upright, descending rotated. -/
def Copy.red {α : Type} (k : Copy) (l : List α) : List α := match k with | .upright => l | .rotated => l.reverse

/-- Tile order of a copy: row-major upright, column-major rotated. -/
def Copy.tiles (k : Copy) : List Nat :=
  match k with
  | .upright => List.range 300
  | .rotated => (List.range 20).flatMap (fun c => (List.range 15).map (fun r => 20 * r + c))

/-- Walk of a copy inside a tile, as (row, column). -/
def Copy.walk (k : Copy) : List (Nat × Nat) :=
  match k with
  | .upright => (List.range 32).flatMap (fun r => (List.range 32).map (fun c => (r, c)))
  | .rotated => (List.range 32).flatMap (fun c => (List.range 32).map (fun r => (r, c)))

/-- Where a copy stores element (r, c) of a tile: the rotated one transposed. -/
def Copy.index (k : Copy) (r c : Nat) : Nat := match k with | .upright => 32 * r + c | .rotated => 32 * c + r

/-- Pixel (r, c) of a tile. -/
def tilePix (t r c : Nat) : Nat := 640 * (32 * (t / 20) + r) + 32 * (t % 20) + c

/-- A tile in the local memory of a copy: its walk fills ascending indices. -/
def Copy.fill {α : Type} (k : Copy) (t : Nat) (f : Nat → α) : List α := k.walk.map (fun x => f (tilePix t x.1 x.2))

/-- A stored tile as the signature walker reads it, row-major over the untransposed tile (R135). -/
def Copy.canon {α : Type} (k : Copy) (buf : List α) (dflt : α) : List α :=
  (List.range 32).flatMap (fun r => (List.range 32).map (fun c => nth buf (k.index r c) dflt))

/-- Signature of a tile whose elements have these bytes, plane after plane (R135). -/
def Copy.tileSig (k : Copy) (t : Nat) (planes : List (Nat → List Byte)) : Word :=
  BitVec.ofNat 32 (crc32c (planes.flatMap (fun f => (k.canon (k.fill t f) []).flatMap id)))

/-- An accumulator: it saturates at ±(2³⁹ − 1), and says whether it has (R112, R130). -/
def accSum (l : List Int) : Int × Bool :=
  l.foldl (fun a x =>
    let v := a.1 + x
    if 2 ^ 39 - 1 < v then (2 ^ 39 - 1, true) else if v < -(2 ^ 39 - 1) then (-(2 ^ 39 - 1), true) else (v, a.2)) (0, false)

/-! ## Samples -/

/-- Sample of column c in a LINE telegram (R67). -/
def sampleAt (line : List Byte) (c : Nat) : Nat :=
  let w := fieldAt line (16 + 3 * (c / 2)) 3
  if c % 2 = 0 then w % 4096 else w / 4096

/-- A line of a frame by sub-exposure and row. -/
def lineOf (lines : List (Nat × List Byte)) (sub row : Nat) : Option (List Byte) :=
  (lines.find? (fun x => x.1 == 480 * sub + row)).map (·.2)

/-- Some line of a sub-exposure. -/
def subLine (lines : List (Nat × List Byte)) (sub : Nat) : List Byte :=
  match lines.find? (fun x => x.1 / 480 == sub) with
  | some x => x.2
  | none => []

/-- STAMP, TEMP and INT_US of a line (R66). -/
def lineStamp (l : List Byte) : Nat := fieldAt l 8 4
def lineTemp (l : List Byte) : Int := signed 16 (fieldAt l 12 2)
def lineInt (l : List Byte) : Nat := fieldAt l 14 2

/-- What the depth of one pixel needs beside its samples: settings of R89, the calibration header (R76) and the temperatures. -/
structure DepthCfg where
  ampMin20 : Nat
  ampMin100 : Nat
  unwrapTol : Nat
  motTol : Nat
  flyTol : Nat
  ambMax : Nat
  cal : List Byte
  temp20 : Int
  temp100 : Int
deriving DecidableEq, Repr

/-- Bit of each flag (R85). -/
def flagBits (bs : List Bool) : Nat := bs.reverse.foldl (fun a b => 2 * a + b2n b) 0

/-- The invalidating flags: SAT, LOWAMP, UNWRAP, DEAD, LINE, AMBIENT (R85). -/
def invalidFlags (f : Nat) : Bool := bitOf f 0 || bitOf f 1 || bitOf f 2 || bitOf f 5 || bitOf f 6 || bitOf f 7

/-- Entry of a phase-offset map (R76): map 0 at 20 MHz, map 1 at 100 MHz. -/
def phiPix (cal : List Byte) (map px : Nat) : Int := signed 16 (fieldAt cal (64 + 614400 * map + 2 * px) 2)

/-- Calibrated phase in units of 2π/65,536 (R82, R84); KT is in 2π/2²⁰ per °C and the temperatures in 0.0625 °C. -/
def calPhase (phi phi0 : Nat) (pix kt t tCal : Int) : Nat :=
  unsigned 16 ((phi : Int) - phi0 - pix - roundDiv (kt * (t - tCal)) 256)

/-- Integer square root of a value below 2³². -/
def isqrt (n : Nat) : Nat := (List.range 16).reverse.foldl (fun r k => if (r + 2 ^ k) * (r + 2 ^ k) ≤ n then r + 2 ^ k else r) 0

/-- arctan (y / x) for y ≤ x, 0 < x, in 2⁻⁴⁸ rad, by Euler's series: 40 terms, of which each is at most half the one before. -/
def atanSeries (y x : Nat) : Nat :=
  let d := x * x + y * y
  let t0 := x * y * 2 ^ 48 / d
  ((List.range 40).foldl (fun (a : Nat × Nat) n =>
    let t := a.2 * (2 * n + 2) * (y * y) / ((2 * n + 3) * d)
    (a.1 + t, t)) (t0, t0)).1

/-- π in 2⁻⁴⁸ rad. -/
def pi48 : Nat := 884279719003555

/-- φ = atan2 (q, i) in [0, 2π), in 2⁻⁴⁸ rad (R82). -/
def atan2 (q i : Int) : Nat :=
  let x := i.natAbs
  let y := q.natAbs
  let a := if y ≤ x then atanSeries y x else pi48 / 2 - atanSeries x y
  if 0 ≤ i then (if 0 ≤ q then a else 2 * pi48 - a) else if 0 ≤ q then pi48 - a else pi48 + a

/-- Phase of (I, Q) in the fixed point of R84: the arctangent rounded to 2π/65,536 and an unknown deviation of at most 8 units, so that the range
at 100 MHz, with the rounding of the drift, stays within one depth unit (9 × 0.0229 mm). -/
def phaseOf (i q : Int) : Nat :=
  if i = 0 ∧ q = 0 then unsigned 16 (Config.phaseDev 0 0)
  else unsigned 16 (roundDiv (65536 * atan2 q i : Nat) (2 * pi48) + clampI (-8) 8 (Config.phaseDev i q))

/-- What four samples of one frequency give (R82): (2M)², the calibrated phase, the amplitude and ambient tests and the motion test (R85), and whether
an accumulator saturated. -/
structure Freq where
  m2 : Nat
  ph : Nat
  low : Bool
  mot : Bool
  amb : Bool
  ovf : Bool
deriving DecidableEq, Repr

/-- The quantities of frequency n (0 at 20 MHz, 1 at 100 MHz) for a pixel, none where one of its four lines is missing. -/
def freqOf (k : Copy) (c : DepthCfg) (n px : Nat) (smp : List (Option Nat)) : Option Freq :=
  match smp with
  | [some a0, some a1, some a2, some a3] =>
    let u := fun (o : Nat) => fieldAt c.cal o 2
    let i : Int := a0 - a2
    let q : Int := a3 - a1
    let sq := accSum (k.red [i * i, q * q])
    let all := accSum (k.red [(a0 : Int), (a1 : Int), (a2 : Int), (a3 : Int)])
    let m2 := sq.1.toNat
    let amp := if n = 0 then c.ampMin20 else c.ampMin100
    some { m2 := m2, ph := calPhase (phaseOf i q) (u (4 + 2 * n)) (phiPix c.cal n px) (signed 16 (u (8 + 2 * n)))
             (if n = 0 then c.temp20 else c.temp100) (signed 16 (u 2)),
           low := decide (m2 < 4 * amp * amp), mot := decide (4 * c.motTol < ((a0 + a2 : Int) - (a1 + a3)).natAbs),
           amb := decide ((4 * (c.ambMax + u (12 + 2 * n)) : Int) < all.1), ovf := sq.2 || all.2 }
  | _ => none

/-- Range of a pixel from its two phases in 0.25 mm / (65,536 × 10⁵), and its distance from the 20 MHz range (R82, R83). -/
def unwrap (p20 p100 : Nat) : Int × Nat :=
  let r20 : Int := p20 * 2997924580
  let r100 : Int := p100 * 599584916
  let u100 := 65536 * 599584916
  let r := r100 + clampI 0 4 (roundDiv (r20 - r100) u100) * u100
  (r, (r - r20).natAbs)

/-- Depth, amplitude and flags of one pixel, FLYING left out (R82, R83, R85). `smp` are its eight samples, none where the line is missing;
what the missing samples would have given sets no flag. -/
def pixel (k : Copy) (c : DepthCfg) (px : Nat) (smp : List (Option Nat)) : Pix :=
  let lo := freqOf k c 0 px (smp.take 4)
  let hi := freqOf k c 1 px (smp.drop 4)
  let den := 65536 * 100000
  let any := fun (g : Freq → Bool) => lo.any g || hi.any g
  let range := match lo, hi with | some a, some b => some (unwrap a.ph b.ph) | _, _ => none
  let dead := phiPix c.cal 0 px == -32768 || phiPix c.cal 1 px == -32768
  let f := flagBits [smp.any (· == some 0xFFF), any (·.low), range.any (fun r => decide (c.unwrapTol * 40 * den < r.2)), false, any (·.mot), dead,
    smp.any (· == none), any (·.amb)]
  { depth := match range with | some r => if invalidFlags f then 0 else max 1 (roundDiv r.1 den).toNat | none => 0,
    amp := match hi with | some b => isqrt (b.m2 / 4) | none => 0, flags := f }

/-- The pixel at a place of a row-major list of pixels. -/
def pixAt (ps : List Pix) (px : Nat) : Pix := nth ps px { depth := 0, amp := 0, flags := 64 }

/-- FLYING along one direction (R85): the valid neighbours among the two differ from the pixel by more than the tolerance, and where there
are two the pixel lies between them. -/
def flyingBetween (tol d : Nat) (ns : List Nat) : Bool :=
  match ns with
  | [] => false
  | [a] => decide (4 * tol < ((d : Int) - a).natAbs)
  | a :: b :: _ => decide (4 * tol < ((d : Int) - a).natAbs) && decide (4 * tol < ((d : Int) - b).natAbs) &&
      decide (((a : Int) - d) * ((b : Int) - d) < 0)

/-- The valid depths among some pixels. -/
def validDepths (ps : List Pix) (pxs : List Nat) : List Nat :=
  (pxs.filter (fun q => !invalidFlags (pixAt ps q).flags)).map (fun q => (pixAt ps q).depth)

/-- Is a pixel FLYING (R85)? Edge pixels compare with the neighbours they have. -/
def flying (tol : Nat) (ps : List Pix) (px : Nat) : Bool :=
  let p := pixAt ps px
  let row := px / 640
  let col := px % 640
  !invalidFlags p.flags &&
  (flyingBetween tol p.depth (validDepths ps ((if 0 < col then [px - 1] else []) ++ (if col < 639 then [px + 1] else []))) ||
   flyingBetween tol p.depth (validDepths ps ((if 0 < row then [px - 640] else []) ++ (if row < 479 then [px + 640] else []))))

/-- The depth settings of a doorway for a frame (R89). -/
def State.depthCfg (s : State) (d : DIx) (lines : List (Nat × List Byte)) : DepthCfg :=
  { ampMin20 := s.rd (F.DEPTH_CFG_AMP_MIN_20 d), ampMin100 := s.rd (F.DEPTH_CFG_AMP_MIN_100 d), unwrapTol := s.rd (F.DEPTH_CFG_UNWRAP_TOL d),
    motTol := s.rd (F.DEPTH_CFG2_MOT_TOL d), flyTol := s.rd (F.DEPTH_CFG2_FLY_TOL d), ambMax := s.rd (F.DEPTH_CFG2_AMB_MAX d),
    cal := match (s.head d).cal with | some c => c | none => [],
    temp20 := lineTemp (subLine lines 0), temp100 := lineTemp (subLine lines 4) }

/-- The eight samples of a pixel of a raw frame, none where the line is missing. -/
def RawFrame.samples (r : RawFrame) (px : Nat) : List (Option Nat) :=
  (List.range 8).map (fun sub => (lineOf r.lines sub (px / 640)).map (fun b => sampleAt b (px % 640)))

/-- Has an accumulator saturated in S0? -/
def depthOvf (k : Copy) (c : DepthCfg) (r : RawFrame) : Bool :=
  (List.range 307200).any (fun px => (freqOf k c 0 px ((r.samples px).take 4)).any (·.ovf) || (freqOf k c 1 px ((r.samples px).drop 4)).any (·.ovf))

/-- The depth frame that a copy computes from a raw frame (R82–R86, R132). -/
def depthFrame (k : Copy) (c : DepthCfg) (r : RawFrame) : DepthFrame :=
  let raw := (List.range 307200).map (fun px => pixel k c px (r.samples px))
  let ps := (List.range 307200).map (fun px =>
    let p := pixAt raw px
    if flying c.flyTol raw px then { p with flags := p.flags + 8 } else p)
  { ctr := r.ctr, tref := r.tref, trefTb := r.trefTb, pix := ps, invalid := ps.countP (fun p => invalidFlags p.flags) }

end Sys2Proof.Machine
end

