-- ==== Sys2Proof/Machine/Profile.lean ====
section
/-!
DEFINITION. Machine/Profile.lean: the profile generator of an axis, one drive frame at a time (R168–R172), on the plan of a tick; the drive
frame and the sweep zones (R97) both run it.
-/
namespace Sys2Proof.Machine

/-- Distance to come from speed u down to w at a rate, internal units; 0 when u ≤ w. -/
def rampDist (u w rate : Nat) : Nat := if u ≤ w ∨ rate = 0 then 0 else (u * u - w * w) / (2 * rate)

/-- Distance to come from v down to VSTOP, at D2 above V1 and D1 at or below it (R170). -/
def PlanAx.brake (p : PlanAx) (v : Nat) : Nat :=
  if p.v1 < v then rampDist v p.v1 p.d2 + rampDist p.v1 p.vs p.d1 else rampDist v p.vs p.d1

/-- Distance left to the target. -/
def PlanAx.rem (p : PlanAx) : Nat := ((if p.up then 1 else -1) * (p.tgt - p.x)).toNat

/-- Speed of a move after the next drive frame (R170); a move that runs at one speed follows VLIM as any other does (R171). -/
def PlanAx.moveV (p : PlanAx) : Nat :=
  if p.slow then
    if p.vslow < p.v then max p.vslow (p.v - (if p.v1 < p.v then p.d2 else p.d1))
    else min p.vslow (p.v + (if p.v < p.v1 then p.a1 else p.a2))
  else if p.rem ≤ p.brake p.v then max p.vs (p.v - (if p.v1 < p.v then p.d2 else p.d1))
  else if p.vtop < p.v then max p.vtop (p.v - (if p.v1 < p.v then p.d2 else p.d1))
  else if p.v < p.vtop then min p.vtop (p.v + (if p.v < p.v1 then p.a1 else p.a2))
  else p.v

/-- Speed of a stop ramp, a hold stop or SS1 after the next drive frame (R172, R241). -/
def PlanAx.stopV (p : PlanAx) : Nat :=
  p.v - (match p.gen with | .holdStop | .ss1 => p.dstop | _ => if p.v1 < p.v then p.d2 else p.d1)

/-- Position after a drive frame at a speed. -/
def PlanAx.at_ (p : PlanAx) (v : Nat) : Int := p.x + (if p.up then 1 else -1) * v

/-- Does a move arrive with that speed? -/
def PlanAx.arrives (p : PlanAx) (v : Nat) : Bool := decide ((if p.up then 1 else -1) * (p.tgt - p.at_ v) ≤ 0) || decide (v = 0)

/-- The plan one drive frame on. -/
def PlanAx.next (p : PlanAx) : PlanAx :=
  match p.gen with
  | .idle => p
  | .move => if p.arrives p.moveV then { p with x := p.tgt, v := 0, gen := .idle } else { p with x := p.at_ p.moveV, v := p.moveV }
  | _ => if p.stopV = 0 then { p with x := p.at_ p.stopV, v := 0, gen := .idle } else { p with x := p.at_ p.stopV, v := p.stopV }

/-- The plan after n drive frames. -/
def PlanAx.ahead : Nat → PlanAx → PlanAx
  | 0, p => p
  | n + 1, p => p.next.ahead n

/-- Commanded position of a plan in 0.01 mm (R165). -/
def PlanAx.pos (p : PlanAx) : Int := roundDiv (p.x * 100) (1600000000 * p.scale)

end Sys2Proof.Machine
end

