-- ==== Sys2Proof/Machine/Geometry.lean ====
section
/-!
DEFINITION. Machine/Geometry.lean: the scene of a doorway in the coordinates of R92: rays and points of pixels, poses of the bodies between their
keyframes (R93), the rendered bodies and their silhouettes (R100, R101, R103), and the zone volumes (R97). Lengths are in 1/1,024 mm. How the
model's bytes hold a keyframe, a sheet or a polyline is opaque in Config (log entry 13).
-/
namespace Sys2Proof.Machine

/-- A point or a direction (R92). -/
structure Vec where
  x : Int
  y : Int
  z : Int
deriving DecidableEq, Repr

/-- Millimetres in the unit of this file, and units in a depth unit. -/
def mm : Nat := 1024
def perDepth : Nat := 256

/-- One bit of a bitmap in the model, bit 0 of byte 0 first. -/
def modelBit (m : List Byte) (at_ i : Nat) : Bool := bitOf (fieldAt m (at_ + i / 8) 1) (i % 8)

/-- A signed 32-bit entry of the model. -/
def s32At (m : List Byte) (o : Nat) : Int := signed 32 (fieldAt m o 4)

/-- Clear width, portal height, leaf thickness and distance of the threshold inner edge of a model (R93, R95). -/
def clearWidth (m : List Byte) : Int := (fieldAt m 72 2 * mm : Nat)
def portalHeight (m : List Byte) : Int := (fieldAt m 74 2 * mm : Nat)
def leafThick (m : List Byte) : Int := (fieldAt m 76 2 * mm : Nat)
def innerEdge (m : List Byte) : Int := (fieldAt m 78 2 * mm : Nat)

/-! ## Rays and points (R76, R92) -/

/-- Integer square root of a value below 2⁶⁴. -/
def isqrt64 (n : Nat) : Nat := (List.range 32).reverse.foldl (fun r k => if (r + 2 ^ k) * (r + 2 ^ k) ≤ n then r + 2 ^ k else r) 0

/-- What a back-projection needs: the calibration record with the lens intrinsics, and the model with the head's pose. -/
structure View where
  cal : List Byte
  m : List Byte
deriving DecidableEq, Repr

/-- The head's position (R95). -/
def View.org (w : View) : Vec := { x := s32At w.m 60 * perDepth, y := s32At w.m 64 * perDepth, z := s32At w.m 68 * perDepth }

/-- Direction of the ray through image point (col, row), in 1/64 pixel, and its length, in 2⁻²⁴ of the focal axis: lens intrinsics, distortion, then
the head's rotation, row by row (log entry 149). -/
def View.dirAt (w : View) (col row : Int) : Vec × Nat :=
  let u := fun (o : Nat) => fieldAt w.cal o 4
  let k1 := s32At w.cal 32
  let k2 := s32At w.cal 36
  let x0 := roundDiv ((col - u 24) * 2 ^ 24) (u 16)
  let y0 := roundDiv ((row - u 28) * 2 ^ 24) (u 20)
  let h := if k1 = 0 ∧ k2 = 0 then (x0, y0) else Config.undistort k1 k2 x0 y0
  let r := fun (n : Nat) => roundDiv (s32At w.m (24 + 12 * n) * h.1 + s32At w.m (28 + 12 * n) * h.2 + s32At w.m (32 + 12 * n) * 2 ^ 24) (2 ^ 30)
  ({ x := r 0, y := r 1, z := r 2 }, isqrt64 (h.1 * h.1 + h.2 * h.2 + 2 ^ 48).toNat)

/-- The ray of a pixel. -/
def View.ray (w : View) (px : Nat) : Vec × Nat := w.dirAt (64 * (px % 640) : Nat) (64 * (px / 640) : Nat)

/-- The point at a range in depth units along a pixel's ray (R92). -/
def View.point (w : View) (px range : Nat) : Vec :=
  let r := w.ray px
  let go := fun (o v : Int) => o + roundDiv (v * (range * perDepth : Nat)) r.2
  { x := go w.org.x r.1.x, y := go w.org.y r.1.y, z := go w.org.z r.1.z }

/-- The stretch of a ray, counted in lengths of its direction × 2²⁴, on which one coordinate lies between two bounds; none where it never does. -/
def slab (o v lo hi : Int) : Option (Int × Int) :=
  if v = 0 then (if lo ≤ o ∧ o ≤ hi then some (0, 2 ^ 80) else none)
  else
    let a := quot ((lo - o) * 2 ^ 24 * (if v < 0 then -1 else 1)) v.natAbs
    let b := quot ((hi - o) * 2 ^ 24 * (if v < 0 then -1 else 1)) v.natAbs
    some (min a b, max a b)

/-- Does a pixel's ray meet a box? -/
def View.meets (w : View) (px : Nat) (lo hi : Vec) : Bool :=
  let r := (w.ray px).1
  match slab w.org.x r.x lo.x hi.x, slab w.org.y r.y lo.y hi.y, slab w.org.z r.z lo.z hi.z with
  | some a, some b, some c => decide (max 0 (max a.1 (max b.1 c.1)) ≤ min a.2 (min b.2 c.2))
  | _, _, _ => false

/-! ## Bodies (R93, R100) -/

/-- Keyframe k of axis a (R95). -/
def keyOf (m : List Byte) (a k : Nat) : List Int := Config.keyPose ((m.drop (0x100 + 12 * (65 * a + k))).take 12)

/-- Pose of the body of axis a at an axis position in 0.01 mm: 65 keyframes at equal steps over the learned travel, linear between them (R93); a
position beyond the travel has the pose of its end (log entry 149). -/
def poseOf (m : List Byte) (a : Nat) (pos : Int) : List Int :=
  let w := Config.travel m a
  let span := (w.2 - w.1).toNat
  if span = 0 then keyOf m a 0
  else
    let t := (clampI 0 span (pos - w.1)).toNat * 64
    let k := t / span
    let r := t % span
    if r = 0 then keyOf m a k else ((keyOf m a k).zip (keyOf m a (k + 1))).map (fun x => x.1 + roundDiv ((x.2 - x.1) * r) span)

/-- Poses of the three bodies for the axis positions of a frame. -/
def posesOf (m : List Byte) (axes : List Int) : List (List Int) := [0, 1, 2].map (fun a => poseOf m a (nth axes a 0))

/-- Range of body b along a pixel's ray. -/
def View.bodyRange (w : View) (poses : List (List Int)) (b px : Nat) : Option Nat :=
  let r := w.ray px
  Config.render ((w.m.drop (0x40600 + 16384 * b)).take 16384) (nth poses b []) [w.org.x, w.org.y, w.org.z] [r.1.x, r.1.y, r.1.z] r.2

/-- The nearest body along a pixel's ray and its range. -/
def View.bodyAt (w : View) (poses : List (List Int)) (px : Nat) : Option (Nat × Nat) :=
  [0, 1, 2].foldl (fun best b => match w.bodyRange poses b px, best with
    | some r, some x => if r < x.2 then some (b, r) else some x
    | some r, none => some (b, r)
    | none, x => x) none

/-- The pixels at most two rows and two columns from a pixel. -/
def within2 (px : Nat) : List Nat :=
  let r := px / 640
  let c := px % 640
  (List.range 5).flatMap (fun i => (List.range 5).filterMap (fun j =>
    if 2 ≤ r + i ∧ r + i < 482 ∧ 2 ≤ c + j ∧ c + j < 642 then some (640 * (r + i - 2) + (c + j - 2)) else none))

/-- Does a pixel lie within 2 pixels of the silhouette of a rendered body (R101)? The silhouette parts pixels that show different bodies, or a body
and the fixed scene. -/
def View.nearBody (w : View) (poses : List (List Int)) (px : Nat) : Bool :=
  (within2 px).any (fun q => (w.bodyAt poses q).map (·.1) != (w.bodyAt poses px).map (·.1))

/-- Does a pixel show a leaf? -/
def View.isLeaf (w : View) (poses : List (List Int)) (px : Nat) : Bool := match w.bodyAt poses px with | some x => decide (x.1 < 2) | none => false

/-- Does a pixel lie within 2 pixels of the silhouette of a rendered leaf (R103)? -/
def View.nearLeaf (w : View) (poses : List (List Int)) (px : Nat) : Bool := (within2 px).any (fun q => w.isLeaf poses q != w.isLeaf poses px)

/-! ## Zone volumes (R97) -/

/-- What the zone volumes of a frame depend on: the model, EDGE_MARGIN, SEAM_HALF and SWEEP_MIN in mm, the poses of the leaves at T_REF and 300 ms
later by the plan, and whether the sweep of each leaf lies towards open. -/
structure Zones where
  m : List Byte
  edge : Nat
  seam : Nat
  sweep : Nat
  now : List (List Int)
  ahead : List (List Int)
  out : List Bool
deriving DecidableEq, Repr

/-- Leading edge x and inner face y of leaf l at a height, for its pose now or ahead. -/
def Zones.leaf (g : Zones) (poses : List (List Int)) (l : Nat) (z : Int) : Int × Int :=
  Config.leafEdge ((g.m.drop (0x100 + 3 * 65 * 12 + 128 + 256 * l)).take 256) (nth poses l []) z

/-- Does a point lie between two bounds? -/
def between (lo x hi : Int) : Bool := decide (lo ≤ x) && decide (x ≤ hi)

/-- Does a point lie inside a rendered leaf: behind its leading edge, between its faces? Leaf A lies on the negative side of its edge. -/
def Zones.inLeaf (g : Zones) (p : Vec) (l : Nat) : Bool :=
  let e := g.leaf g.now l p.z
  (if l = 0 then decide (p.x ≤ e.1) else decide (e.1 ≤ p.x)) && between e.2 p.y (e.2 + leafThick g.m)

/-- Height of the leaf zones: 0 to portal height. -/
def Zones.high (g : Zones) (p : Vec) : Bool := between 0 p.z (portalHeight g.m)

/-- Is a point between the faces of the leaves, widened by a margin? -/
def Zones.faces (g : Zones) (p : Vec) (margin : Int) : Bool :=
  let a := (g.leaf g.now 0 p.z).2
  let b := (g.leaf g.now 1 p.z).2
  between (min a b - margin) p.y (max a b + leafThick g.m + margin)

/-- The sweep of leaf l, on the side that plan and zone set name: from its edge to its edge 300 ms later, at least SWEEP_MIN. Open is towards −x for
leaf A and towards +x for leaf B. -/
def Zones.inSweep (g : Zones) (p : Vec) (l : Nat) : Bool :=
  let e := g.leaf g.now l p.z
  let f := g.leaf g.ahead l p.z
  let least : Int := (g.sweep * mm : Nat)
  let open_ : Int := if l = 0 then -1 else 1
  let go : Int := if nth g.out l true then open_ else -open_
  let far := e.1 + go * max least (go * (f.1 - e.1))
  between (min e.1 far) p.x (max e.1 far) &&
  between (min e.2 f.2 - (g.edge * mm : Nat)) p.y (max e.2 f.2 + leafThick g.m + (g.edge * mm : Nat)) && g.high p

/-- Does a point lie in a zone (R97): 1 GAP, 2 SWEEP, 3 THRESHOLD, 4 SEAM? -/
def Zones.holds (g : Zones) (zone : Nat) (p : Vec) : Bool :=
  let em : Int := (g.edge * mm : Nat)
  let sh : Int := (g.seam * mm : Nat)
  match zone with
  | 1 => between ((g.leaf g.now 0 p.z).1 - em) p.x ((g.leaf g.now 1 p.z).1 + em) && g.faces p em && g.high p && !g.inLeaf p 0 && !g.inLeaf p 1
  | 2 => g.inSweep p 0 || g.inSweep p 1
  | 3 => decide (2 * p.x.natAbs ≤ clearWidth g.m) && between (-innerEdge g.m) p.y (350 * mm : Nat) && between (-(150 * mm : Nat)) p.z (150 * mm : Nat)
  | 4 => decide (p.x.natAbs ≤ sh) && g.faces p sh && g.high p && !g.inLeaf p 0 && !g.inLeaf p 1
  | _ => false

/-- The label of a point: the first of some zones that holds it, in the order of R97 (log entry 149); 0 for none. -/
def Zones.label (g : Zones) (zones : List Nat) (p : Vec) : Nat := match zones.find? (fun z => g.holds z p) with | some z => z | none => 0

/-- The PLATFORM zone (R97): its corners, and whether a point lies in it. -/
def platLo (m : List Byte) : Vec := { x := -(clearWidth m / 2 + (100 * mm : Nat)), y := 0, z := -(400 * mm : Nat) }
def platHi (m : List Byte) : Vec := { x := clearWidth m / 2 + (100 * mm : Nat), y := (600 * mm : Nat), z := (350 * mm : Nat) }
def inPlat (m : List Byte) (p : Vec) : Bool :=
  between (platLo m).x p.x (platHi m).x && between (platLo m).y p.y (platHi m).y && between (platLo m).z p.z (platHi m).z


/-- The positions of an axis over its learned travel, 0.01 mm. -/
def travelled (m : List Byte) (a : Nat) : List Int :=
  let w := Config.travel m a
  (List.range ((w.2 - w.1).toNat + 1)).map (fun (n : Nat) => w.1 + n)

/-- Does a point lie in a zone volume at some position of the leaves (R93)? The sweeps beside all positions of a leaf cover those of its moves. -/
def everZone (m : List Byte) (edge seam sweep : Nat) (p : Vec) : Bool :=
  inPlat m p || (travelled m 0).any (fun a => (travelled m 1).any (fun b => [true, false].any (fun out =>
    let now := [poseOf m 0 a, poseOf m 1 b]
    let g : Zones := { m := m, edge := edge, seam := seam, sweep := sweep, now := now, ahead := now, out := [out, out] }
    [1, 2, 3, 4].any (fun z => g.holds z p))))

/-- The pixels whose rays meet a zone volume at some position of the leaves, in ROI order (R93): a ray is followed in steps of a depth unit. -/
def View.region (w : View) (edge seam sweep : Nat) : List Nat :=
  (List.range 307200).filter (fun px => (List.range 65536).any (fun r => everZone w.m edge seam sweep (w.point px r)))

end Sys2Proof.Machine
end

