-- ==== Sys2Proof/Machine/Flags.lean ====
section
/-!
DEFINITION. Machine/Flags.lean: states and flags that other rules read: the sequencer codes of R12, the output columns of R34, the leaf
gap (R229), rest and positions (R166), the release (R268), the loop contribution (R259) and the standing flag (R399).
-/
namespace Sys2Proof.Machine

/-- The sequencer states of R12. -/
inductive SeqState where
  | unproven
  | closedLocked
  | released
  | stepDeploy
  | unlocking
  | opening
  | opened
  | warning
  | closing
  | sealing
  | locking
  | stepStow
  | obstructed
  | reversing
  | held
  | isolated
  | fenced
  | proofStroke
  | emergency
deriving DecidableEq, Repr

/-- Code of a state (R12). -/
def SeqState.code : SeqState → Nat
  | .unproven => 0x00
  | .closedLocked => 0x01
  | .released => 0x02
  | .stepDeploy => 0x03
  | .unlocking => 0x04
  | .opening => 0x05
  | .opened => 0x06
  | .warning => 0x07
  | .closing => 0x08
  | .sealing => 0x09
  | .locking => 0x0A
  | .stepStow => 0x0B
  | .obstructed => 0x0C
  | .reversing => 0x0D
  | .held => 0x0E
  | .isolated => 0x0F
  | .fenced => 0x10
  | .proofStroke => 0x11
  | .emergency => 0x12

/-- All states in the order of their codes. -/
def SeqState.all : List SeqState := [.unproven, .closedLocked, .released, .stepDeploy, .unlocking, .opening, .opened, .warning, .closing,
  .sealing, .locking, .stepStow, .obstructed, .reversing, .held, .isolated, .fenced, .proofStroke, .emergency]

/-- State of a code; a code past 0x12 is never reported (R12). -/
def SeqState.ofCode (n : Nat) : SeqState := nth SeqState.all n .unproven

/-- Sequencer state of doorway d. -/
def State.st (s : State) (d : DIx) : SeqState := SeqState.ofCode (s.rd (F.SEQ_STATE d))

/-- Drive-enable column of R34: the states marked High. OBSTRUCTED and EMERGENCY go low once SS1 ends. -/
def SeqState.denHigh : SeqState → Bool
  | .stepDeploy | .unlocking | .opening | .opened | .warning | .closing | .sealing | .locking | .stepStow | .reversing | .held
  | .proofStroke => true
  | _ => false

/-- States in which a stop may still be running before the enables go low (R34, R41, R44). -/
def SeqState.denAfterStop : SeqState → Bool
  | .obstructed | .emergency | .isolated => true
  | _ => false

/-- Lock column of R34, where the state itself commands the channel: some true on, some false off, none unchanged. -/
def SeqState.lockCmd : SeqState → Option Bool
  | .unlocking | .opening | .opened | .warning | .closing | .sealing => some true
  | .obstructed | .reversing | .held | .proofStroke => none
  | _ => some false

/-- Is zero speed needed to be read with the release still held? A shorthand: the side release of doorway d (R267, R268 condition 1). -/
def State.sideRel (s : State) (d : DIx) : Bool :=
  if s.flag (F.SEQ_CFG_CAR_SIDE d) then s.flag F.TRN_STATUS_SIDE2_REL else s.flag F.TRN_STATUS_SIDE1_REL

/-- Measured position of an axis, 0.01 mm (R206). -/
def State.pos (s : State) (d : DIx) (a : AIx) : Int := s.rdS (F.POS d a)

/-- Leaf gap: sum of the measured positions of the leaves, 0.01 mm (R229). -/
def State.leafGap (s : State) (d : DIx) : Int := s.pos d 0 + s.pos d 1

/-- An axis is at rest at position p, 0.01 mm (R166). -/
def State.atRestAt (s : State) (d : DIx) (a : AIx) (p : Int) : Bool :=
  s.flag (F.AX_STATUS_AT_REST d a) && decide ((s.pos d a - p).natAbs ≤ s.rd (F.REST_REST_WIN d a))

/-- TRAVEL_MAX in 0.01 mm (R165, R195). -/
def State.travelMax (s : State) (d : DIx) (a : AIx) : Int := (s.rd (F.TRAVEL_TRAVEL_MAX d a) * 10 : Nat)

/-- Both leaves at rest at the open position (R33, R166). -/
def State.leavesOpen (s : State) (d : DIx) : Bool := s.atRestAt d 0 (s.travelMax d 0) && s.atRestAt d 1 (s.travelMax d 1)

/-- Both leaves at rest at the closed position. -/
def State.leavesClosed (s : State) (d : DIx) : Bool := s.atRestAt d 0 0 && s.atRestAt d 1 0

/-- Is any axis of the doorway MOVING? -/
def State.anyMoving (s : State) (d : DIx) : Bool := allA.any (fun a => s.flag (F.AX_STATUS_MOVING d a))

/-- Is either leaf MOVING? -/
def State.leafMoving (s : State) (d : DIx) : Bool := s.flag (F.AX_STATUS_MOVING d 0) || s.flag (F.AX_STATUS_MOVING d 1)

/-- Are all three axes at rest (R377)? -/
def State.allAtRest (s : State) (d : DIx) : Bool := allA.all (fun a => !s.flag (F.AX_STATUS_MOVING d a))

/-- Proving switch n of PROVE_STATUS.SW made (R256): 0 CLOSED_A, 1 CLOSED_B, 2 LOCKED_A, 3 LOCKED_B, 4 STOWED. -/
def State.sw (s : State) (d : DIx) (n : Nat) : Bool := bitOf (s.rd (F.PROVE_STATUS_SW d)) n

/-- Both locked switches made. -/
def State.lockedMade (s : State) (d : DIx) : Bool := s.sw d 2 && s.sw d 3

/-- Both locked switches open. -/
def State.lockedOpen (s : State) (d : DIx) : Bool := !s.sw d 2 && !s.sw d 3

/-- Loop column of R34: does the state give Closed? -/
def State.stateClosed (s : State) (d : DIx) : Bool :=
  match s.st d with
  | .closedLocked => true
  | .released => s.flag (F.SEQ_STATUS_PROVEN d)
  | .isolated => s.flag (F.PROVE_STATUS_ISO d)
  | _ => false

/-- The doorway's contribution to the loop (R259). -/
def State.contribution (s : State) (d : DIx) : Bool :=
  let iso := s.st d == .isolated
  s.stateClosed d &&
  (if iso then s.flag (F.PROVE_STATUS_ISO d) else s.flag (F.PROVE_STATUS_ALL_MADE d)) &&
  (iso || (!s.flag (F.LOCK_STATUS_CMD d) && !s.flag (F.LOCK_STATUS_STUCK_ON d))) &&
  !s.flag (F.PROVE_STATUS_PLAUS_ERR d) && !s.flag (F.PROVE_STATUS_SW_LOST d)

/-- A standing fault of the doorway is present: HEAD_FAULT, an edge fault or a curtain fault (R399). -/
def State.standingNow (s : State) (d : DIx) : Bool :=
  s.flag (F.HEAD_STATUS_HEAD_FAULT d) || s.flag (F.OBST_STATUS_EDGE0_FAULT d) || s.flag (F.OBST_STATUS_EDGE1_FAULT d) ||
  s.flag (F.PD_STATUS_LC_FAULT d)

/-- Is any engine pair split (COPPICE of MOD.STATE)? -/
def State.coppiced (s : State) : Bool := s.flag F.MOD_STATE_COPPICE

/-- An image runs, and the module is in RUN (R506). -/
def State.inRun (s : State) : Bool := s.modState == 3

/-- Time in RUN since BOOT. -/
def State.runTime (s : State) : Nat := s.pwr.runAcc + (if s.inRun then s.now - s.pwr.runFrom else 0)

end Sys2Proof.Machine
end

