-- ==== Sys2Proof/Machine/Ops.lean ====
section
/-!
DEFINITION. Machine/Ops.lean: the shared operations: staging a record (R443, R450, R451), recovery windows and second faults (R397–R399),
the drive enables and SS1 (R191, R241–R244), load-channel commands (R317, R319), loop and safety outputs (R272, R276), fence requests
(R387), roles (R423) and module SAFE (R389).
-/
namespace Sys2Proof.Machine

/-! ## Records -/

/-- Codes of severity 3, critical, in the record tables. -/
def criticalCodes : List Nat := [0x0D01, 0x2703, 0x3004, 0x3101, 0x3103, 0x3105, 0x3107, 0x4103, 0x4303, 0x4403, 0x4404, 0x4406, 0x4407,
  0x4501, 0x4901, 0x4902, 0x4A01, 0x4A02, 0x4A03, 0x4B01, 0x4B02, 0x4C01, 0x4D01, 0x4D02, 0x4D03, 0x4D04, 0x4D05, 0x4D07, 0x4D08, 0x4D0D,
  0x4F02, 0x5302, 0x5C03, 0x6006, 0x7003, 0xF004]

/-- Codes of severity 2, warning. -/
def warningCodes : List Nat := [0x1003, 0x2401, 0x3001, 0x3002, 0x3003, 0x3006, 0x3102, 0x3104, 0x3106, 0x310B, 0x3901, 0x4101, 0x4104,
  0x4105, 0x4201, 0x4202, 0x4203, 0x4301, 0x4401, 0x4405, 0x4502, 0x4503, 0x4701, 0x4903, 0x4904, 0x4905, 0x4C02, 0x4C03, 0x4D06, 0x4D09,
  0x4D0A, 0x4E01, 0x4E02, 0x4F01, 0x5203, 0x5B02, 0x5B05, 0x5B07, 0x5C02, 0x6001, 0x6004, 0x6007, 0x6008, 0x7002, 0x7008, 0x8A01, 0x8A02,
  0x8A03, 0x8A05]

/-- Codes of severity 1, notice. -/
def noticeCodes : List Nat := [0x0303, 0x0D02, 0x0D03, 0x0E01, 0x0F01, 0x1002, 0x2501, 0x2701, 0x2901, 0x3005, 0x3109, 0x4102, 0x4302,
  0x4402, 0x4D0B, 0x4D0C, 0x4E03, 0x5201, 0x5202, 0x5204, 0x5205, 0x5301, 0x5B01, 0x5B03, 0x5B06, 0x5B08, 0x5E01, 0x6002, 0x6005, 0x7001,
  0x7004, 0x7005, 0x8501, 0x8A04, 0xF003]

/-- Severity of a record code (the record tables of every chapter). 0x7006, 0x7007 and 0x8A03 have a severity of their own, given where
they are staged. -/
def sevOf (code : Nat) : Nat :=
  if criticalCodes.contains code then 3 else if warningCodes.contains code then 2 else if noticeCodes.contains code then 1 else 0

/-- Byte 8 of a system record (R443). -/
def sysRec : Nat := 0xFF

/-- Entries of the staging queue in use (R450): the records that wait, and those sent to the partner and not acknowledged yet (R424). -/
def State.stagedN (s : State) : Nat := s.recd.queue.length + s.pair.fwd.length

/-- Show the fill of the staging queue (R474, REC_STAGE). -/
def State.showFill (s : State) : State :=
  let n := s.stagedN
  (s.wr F.REC_STAGE_FILL n).when (decide (s.rd F.REC_STAGE_MAX_FILL < n)) (fun t => t.wr F.REC_STAGE_MAX_FILL n)

/-- Does a new record merge into a staged one (R451)? -/
def Rec.mergesInto (new old : Rec) : Bool :=
  let c := new.code / 0x1000
  (c == 2 || c == 3 || c == 4 || c == 7 || c == 8) && new.code != 0x3108 && new.code != 0x2702 && new.code == old.code &&
  new.dwy == old.dwy && new.flags == old.flags && new.gen == old.gen && nth new.ws 0 0 == nth old.ws 0 0 && decide (old.rep < 65535)

/-- One more occurrence of a record. -/
def Rec.again (r : Rec) : Rec := { r with rep := r.rep + 1 }

/-- Change the last element of a list. -/
def modLast {α : Type} (f : α → α) : List α → List α
  | [] => []
  | [x] => [f x]
  | x :: y :: l => x :: modLast f (y :: l)

/-- Index of the page buffer whose last record has the highest number, if any buffer holds a record (R451). -/
def newestBuf (bufs : List PageBuf) : Option Nat :=
  (List.range bufs.length).foldl (fun best i =>
    match (nth bufs i {}).recs.getLast? with
    | none => best
    | some (q, _) => match best with
      | none => some i
      | some b => match (nth bufs b {}).recs.getLast? with
        | none => some i
        | some (q', _) => if q' < q then some i else some b) none

/-- A record that finds no entry is lost, and counted (R450, R453). -/
def State.loseRec (s : State) (r : Rec) : State :=
  let h := s.recd
  ({ s with recd := { h with lostN := h.lostN + 1, lostFirst := if h.lostN = 0 then r.code else h.lostFirst, lostLast := r.code } } : State).inc F.REC_LOST

/-- A record takes an entry of the staging queue where it finds one it may take (R450). -/
def State.takeEntry (s : State) (r : Rec) : State :=
  if s.stagedN < (if r.code / 0x1000 = 1 then 512 else 488) then ({ s with recd := { s.recd with queue := s.recd.queue ++ [r] } } : State).showFill
  else s.loseRec r

/-- The record of a page buffer that a new record may merge into while the queue is empty (R451): a module without authority has none (R424). -/
def State.lastBuffered (s : State) : Option (Nat × Rec) :=
  if s.hasAuth then (newestBuf s.recd.bufs).bind (fun i => ((nth s.recd.bufs i {}).recs.getLast?).map (fun x => (i, x.2))) else none

/-- Stage a record on the queue: merge it (R451), take an entry (R450) or lose it (R450, R453). With authority a stopped recorder loses it (R472). -/
def State.enqueue (s : State) (r : Rec) : State :=
  let h := s.recd
  if s.flag F.REC_STATUS_STOPPED && s.hasAuth then s.inc F.REC_LOST
  else match h.queue.getLast? with
  | some t => if r.mergesInto t then { s with recd := { h with queue := modLast Rec.again h.queue } } else s.takeEntry r
  | none =>
    match s.lastBuffered with
    | some (i, t) =>
      if r.mergesInto t then
        { s with recd := { h with bufs := setNth h.bufs i { (nth h.bufs i {}) with recs := modLast (fun x => (x.1, x.2.again)) (nth h.bufs i {}).recs } } }
      else s.takeEntry r
    | none => s.takeEntry r

/-- Records go back to the head of the staging queue (R424, R433, R458). DEDUCED (log entry 182): where the queue then holds more than its 512 entries,
the newest records are lost. -/
def State.restage (s : State) (rs : List Rec) : State :=
  let q := rs ++ s.recd.queue
  let room := 512 - s.pair.fwd.length
  let s := ({ s with recd := { s.recd with queue := q.take room } } : State).showFill
  (q.drop room).foldl State.loseRec s

/-- Write a record: it is staged. From there the recorder takes it with authority, and the mirror link without (R424). A shutdown writes no record
while it runs (R530). -/
def State.stageRec (s : State) (r : Rec) : State :=
  if s.flag F.PWR_STATUS_SHUTDOWN then s else s.enqueue r

/-- Write a record of a given severity; `ws` are the parameter words from W0, missing words are 0. -/
def State.stageSev (s : State) (sev code dwy : Nat) (ws : List Nat) : State :=
  s.stageRec { code := code, dwy := dwy, flags := sev, rep := 1, gen := s.img.runGen, ws := ws.map (· % 2 ^ 32) }

/-- Write a record of a code. -/
def State.stage (s : State) (code dwy : Nat) (ws : List Nat) : State := s.stageSev (sevOf code) code dwy ws

/-! ## Recovery windows (R397) -/

/-- A window belongs to a doorway when it is the doorway's own or belongs to every doorway. -/
def Window.ofDwy (w : Window) (d : Nat) : Bool := w.dwy == d || w.dwy == 25

/-- Show the open windows in FLT_WINDOWS, FLT_STATUS.WINDOWS and FLT_DWY.WINDOW. -/
def State.showWindows (s : State) : State :=
  let ws := s.flt.windows
  let bits := (List.range 8).foldl (fun a k => if ws.any (fun w => w.kind == k) then a + 2 ^ k else a) 0
  let s := (s.wr F.FLT_WINDOWS_OPEN bits).wrSat F.FLT_STATUS_WINDOWS ws.length
  allD.foldl (fun t d => t.setF (F.FLT_DWY_WINDOW d.val) (t.present d && ws.any (fun w => w.ofDwy d.val))) s

/-- Open a recovery window for a doorway number, 24 for none and 25 for every doorway. -/
def State.openWin (s : State) (kind d : Nat) : State :=
  if s.flt.windows.any (fun w => w.kind == kind && w.dwy == d) then s
  else ({ s with flt := { s.flt with windows := s.flt.windows ++ [{ kind := kind, dwy := d, opened := s.now }] } } : State).showWindows

/-- Close a recovery window. -/
def State.closeWin (s : State) (kind d : Nat) : State :=
  ({ s with flt := { s.flt with windows := s.flt.windows.filter (fun w => !(w.kind == kind && w.dwy == d)) } } : State).showWindows

/-- The window of a kind for a doorway number, if open. -/
def State.winOf (s : State) (kind d : Nat) : Option Window := s.flt.windows.find? (fun w => w.kind == kind && w.dwy == d)

/-- Is a window of this kind open for this doorway number? -/
def State.winOpen (s : State) (kind d : Nat) : Bool := (s.winOf kind d).isSome

/-- Mark the resource of a window as loaded (R400). -/
def State.winLoaded (s : State) (kind d : Nat) : State :=
  { s with flt := { s.flt with windows := s.flt.windows.map (fun w => if w.kind == kind && w.dwy == d then { w with loaded := true } else w) } }

/-- Length of a recovery window, ms (R397). -/
def winLen (kind : Nat) : Nat := nth [80, 5, 400, 20, 300, 10, 80, 10] kind 0

/-! ## Load channels (R316–R319, R327) -/

/-- Signal n of doorway d (R347). -/
def State.signal (s : State) (d : DIx) (n : Nat) : Bool :=
  match s.img.seqs.find? (fun r => r.dwy == d.val) with
  | none => false
  | some r =>
    let g := nth r.sig n 0
    bitOf g (s.st d).code && (!bitOf g 19 || decide (s.tb % 160000000 < 80000000))

/-- KEEP entry or a shutdown commands every output off, as module SAFE does (R511, R514). -/
def State.outputsOff (s : State) : Bool := s.flag F.PWR_STATUS_KEEP_ENTRY || s.flag F.PWR_STATUS_SHUTDOWN

/-- The effective command of a load channel, after SRC, module state, authority and limp-home (R317, R327, R422, R511). -/
def State.chCommand (s : State) (d : DIx) (k : KIx) : Bool :=
  if (s.chan d k).limp then s.flag (F.CH_STATUS_CMD d k)
  else if !s.inRun || s.outputsOff || !s.alive || !s.hasAuth || !s.declared d then false
  else match s.rd (F.CH_CFG_SRC d k) with
    | 1 => s.flag (F.CH_CTL_ON d k)
    | 2 => s.rd (F.LOCK_CFG_LOCK_CH d) == k.val && s.flag (F.LOCK_STATUS_CMD d) && s.flag (F.LOCK_STATUS_PERMIT d)
    | 3 => s.signal d (s.rd (F.CH_CFG_SIG d k))
    | 4 => s.rd (F.PD_IN3_LC_TEST_CH d) == k.val && s.flag (F.PD_STATUS_LC_TESTING d) && (s.prot d).lcKind == 1
    | _ => false

/-- Channel states of R319. -/
def chOff : Nat := 0
def chInrush : Nat := 1
def chOn : Nat := 2
def chTsd : Nat := 3
def chLatched : Nat := 4
def chUv : Nat := 5
def chLocked : Nat := 6
def chAliveOff : Nat := 7

/-- Put a channel in a state; entry to INRUSH opens an inrush window (R318); LOCK_STATUS.ON follows the lock channel. -/
def State.setCh (s : State) (d : DIx) (k : KIx) (st : Nat) : State :=
  let was := s.rd (F.CH_STATUS_STATE d k)
  let s := s.wr (F.CH_STATUS_STATE d k) st
  let s := if st = chInrush ∧ was ≠ chInrush then s.modCh d k (fun c => { c with inrushAt := s.now + msT (s.rd (F.CH_CFG_INRUSH_WIN d k)) }) else s
  let s := s.when (st != chInrush && st != chOn) (fun t => t.setF (F.CH_STATUS_LIMITING d k) false)
  s.when (s.rd (F.LOCK_CFG_LOCK_CH d) == k.val && s.rd (F.CH_CFG_SRC d k) == 2) (fun t =>
    let on := st == chInrush || st == chOn
    let t := t.setF (F.LOCK_STATUS_ON d) on
    t.modLock d (fun l => { l with onSince := if on then (match l.onSince with | some x => some x | none => some t.now) else none }))

/-- Is the doorway's supply OK (R314)? -/
def State.supplyOk (s : State) (d : DIx) : Bool := s.rd (F.FSUP_STATE d) == 0

/-- Evaluate a channel: its command, its supply and the alive state of its ASIC, in the order of R321. It switches on only with its junction cooled by
15 K since its last shutdown (R318). -/
def State.evalCh (s : State) (d : DIx) (k : KIx) : State :=
  let cmd := s.chCommand d k
  let s := s.setF (F.CH_STATUS_CMD d k) cmd
  let st := s.rd (F.CH_STATUS_STATE d k)
  let armed := (s.asic (asicOf d)).armed
  if st = chLatched ∨ st = chLocked then s
  else if !armed && !(s.chan d k).limp then s.when (st != chAliveOff) (fun t => t.setCh d k chAliveOff)
  else if st = chAliveOff then s.setCh d k chOff
  else if st = chTsd then s
  else if !cmd then s.when (st != chOff) (fun t => t.setCh d k chOff)
  else if !s.supplyOk d then s.when (st != chUv) (fun t => t.setCh d k chUv)
  else s.when ((st == chOff || st == chUv) && !(s.chan d k).hot) (fun t => t.setCh d k chInrush)

/-- Evaluate every channel of a doorway. -/
def State.evalChans (s : State) (d : DIx) : State := allK.foldl (fun t k => t.evalCh d k) s

/-- LH_CFG takes its new values once limp-home is inactive in the ASICs of the old and of the new channel (R333). -/
def State.applyLimp (s : State) : State :=
  if s.imgPend.isEmpty then s
  else (List.range 16).foldl (fun t i =>
    let addr := 0x6080 + 4 * i
    let free : Nat → Bool := fun g => decide (144 ≤ g) || !t.flag (F.FIO_STATUS_LH_ACTIVE (g / 36))
    match t.imgPend.find? (fun p => p.1 == addr) with
    | some p => if free (t.rd (F.LH_CFG_CH i)) && free (p.2.toNat % 256) then t.applyRange addr (addr + 1) else t
    | none => t) s

/-! ## Drive enables, torque and SS1 -/

/-- Are the drive enables of the doorway commanded high? -/
def State.denHigh (s : State) (d : DIx) : Bool := s.flag (F.DEN_STATUS_DEN_A d) || s.flag (F.DEN_STATUS_DEN_B d)

/-- Stop the generator of an axis where it is: speed 0, the target is the commanded position. -/
def State.haltAxis (s : State) (d : DIx) (a : AIx) : State :=
  let s := s.modAx d a (fun x => { x with gen := .idle, v := 0, tgt := x.x, host := false, restN := 0, presented := none })
  let s := (s.setF (F.AX_STATUS_MOVING d a) false).setF (F.AX_STATUS_STOPPING d a) false
  (s.wrS (F.SPEED_VCMD d a) 0).wr (F.TARGET d a) (s.rd (F.XCMD d a))

/-- Remove torque: DEN_A and DEN_B low, BRIDGES 0, every generator stopped (R191, R243). -/
def State.denOff (s : State) (d : DIx) : State :=
  if !s.denHigh d && (s.drv d).bridges == 0 then s
  else
    let s := (s.setF (F.DEN_STATUS_DEN_A d) false).setF (F.DEN_STATUS_DEN_B d) false
    let s := s.modDrv d (fun x => { x with bridges := 0 })
    allA.foldl (fun t a => ((t.setF (F.AX_STATUS_ENABLED d a) false).setF (F.AX_STATUS_AT_REST d a) false).haltAxis d a) s

/-- May the drive enables be driven high: LINK 3 and authority (R191)? -/
def State.denAllowed (s : State) (d : DIx) : Bool := s.rd (F.DRV_STATUS_LINK d) == 3 && s.hasAuth && s.alive && !s.outputsOff && (s.asic (asicOf d)).armed

/-- Drive the enables high (R191); the SS1 phase returns to 0 (R250). -/
def State.denOn (s : State) (d : DIx) : State :=
  if !s.denAllowed d || s.flag (F.DEN_STATUS_DEN_A d) then s
  else
    let s := (s.setF (F.DEN_STATUS_DEN_A d) true).setF (F.DEN_STATUS_DEN_B d) true
    let s := (s.modDrv d (fun x => { x with bridges := 7, onFailA := 0, onFailB := 0 })).wr (F.OBST_STATUS_SS1 d) 0
    let s := s.modObst d (fun o => { o with sto := false, cause := none })
    allA.foldl (fun t a => (t.setF (F.AX_STATUS_ENABLED d a) true).modAx d a (fun x => { x with restN := 0, devN := 0 })) s

/-- Command STO (R243): record the end of SS1 and remove torque. `phase` is OBST_STATUS.SS1, `fin` SS1_LAST.END. The OBSTACLE record
belongs to an SS1 that passed a cause of R239 (R252); TWO_HAND_STOP to one that a two-hand device started (R300). -/
def State.sto (s : State) (d : DIx) (phase fin : Nat) : State :=
  let o := s.obst d
  let v0 := allA.foldl (fun m a => max m ((s.axis d a).v0)) 0
  let s := (s.wrSat (F.SS1_LAST_DURATION d) ((s.now - o.t0) / 16000)).wr (F.SS1_LAST_END d) fin
  let s := (s.wrSat (F.SS1_LAST_V0 d) (v0 / 10)).wr (F.OBST_STATUS_SS1 d) phase
  let s := s.denOff d
  let s := s.modObst d (fun x => { x with sto := true, twoHand := false })
  let s := match o.cause with
    | none => s
    | some c => s.stage 0x2701 d.val [s.rd (F.OBST_STATUS_SEEN d), c, o.state0, unsigned 32 o.posA0, unsigned 32 o.posB0,
        (s.reg (F.FORCE_PEAK d).addr).toNat, (s.reg (F.SS1_LAST d).addr).toNat, unsigned 32 (s.leafGap d)]
  s.when o.twoHand (fun t => t.stage 0x2901 d.val [o.recCause, unsigned 32 (t.pos d (if o.recCause = 0 then 0 else if o.recCause = 1 then 1 else 2)),
    t.rd (F.PD_STATUS_TH_FAULT d)])

/-- Start SS1 on every moving axis (R241), or command STO at once where SS1 cannot act (R244) or no axis moves (R243). An SS1 that
already runs, or has ended in STO with the enables still low, goes on (R243). -/
def State.ss1Start (s : State) (d : DIx) (cause : Option Nat) (twoHand : Bool) (ax : Nat) : State :=
  if s.rd (F.OBST_STATUS_SS1 d) ≠ 0 then s
  else
    let moving := allA.filter (fun a => s.flag (F.AX_STATUS_MOVING d a))
    let s := s.modObst d (fun o => { o with
      cause := cause, t0 := s.now, t0Set := moving.isEmpty, state0 := (s.st d).code, posA0 := s.pos d 0, posB0 := s.pos d 1,
      sto := false, twoHand := twoHand, recCause := ax })
    let s := allA.foldl (fun t a => t.modAx d a (fun x => { x with v0 := 0, ss1On := false, breachN := 0 })) s
    let s := moving.foldl (fun t a => t.modAx d a (fun x => { x with v0 := (t.rdS (F.MSPEED d a)).natAbs })) s
    if moving.any (fun a => !s.flag (F.AX_STATUS_ENABLED d a)) || s.rd (F.DRV_STATUS_LINK d) < 3 then s.sto d 4 4
    else if moving.isEmpty then s.sto d 2 1
    else
      let s := s.wr (F.OBST_STATUS_SS1 d) 1
      moving.foldl (fun t a => (t.modAx d a (fun x => { x with gen := .ss1, ss1On := true, host := false })).setF (F.AX_STATUS_STOPPING d a) true) s

/-- Torque removed by anything but SS1 itself: a running SS1 ends with END 4 (R243). -/
def State.torqueOff (s : State) (d : DIx) : State := if s.rd (F.OBST_STATUS_SS1 d) = 1 then s.sto d 4 4 else s.denOff d

/-- Bring an axis to rest on a ramp (R172): the stop ramp, or the hold stop at HOLD_DEC. -/
def State.stopAxis (s : State) (d : DIx) (a : AIx) (g : Gen) : State :=
  if s.flag (F.AX_STATUS_MOVING d a) && (s.axis d a).gen != .ss1 then
    (s.modAx d a (fun x => { x with gen := g, presented := none, hostPresented := none })).setF (F.AX_STATUS_STOPPING d a) true
  else s

/-- Stop ramp of both leaves. -/
def State.stopLeaves (s : State) (d : DIx) : State := (s.stopAxis d 0 .stopRamp).stopAxis d 1 .stopRamp

/-- Present a target to an axis, taken or rejected in the next drive frame (R174). -/
def State.present_ (s : State) (d : DIx) (a : AIx) (t : Int) : State := s.modAx d a (fun x => { x with presented := some t })

/-! ## Loop and safety outputs (R272, R276) -/

/-- Lowest-index member doorway that contributes open, 0x1F when none does. A doorway that is not declared is never a member (R343). -/
def State.loopBlock (s : State) (members : Nat) : Nat :=
  match allD.find? (fun d => bitOf members d.val && s.declared d && !s.flag (F.SEQ_STATUS_LOOP_CONTRIB d)) with
  | some d => d.val
  | none => 0x1F

/-- Does the emergency-handle evaluation of a member hold the loop open (R272, R293)? -/
def State.handleLoop (s : State) (members : Nat) : Bool :=
  allD.any (fun d => bitOf members d.val && s.declared d && s.flag (F.PD_STATUS_HANDLE_LOOP d))

/-- Command a loop (R272): write 0x3108 at every change. -/
def State.setLoop (s : State) (n : Nat) (closed : Bool) (block : Nat) : State :=
  if n = 1 then
    let was := s.flag F.LOOP_STATUS_L1_CLOSED
    let s := (s.wr F.LOOP_STATUS_L1_BLOCK block).setF F.LOOP_STATUS_L1_CLOSED closed
    s.when (was != closed) (fun t => t.stage 0x3108 sysRec [1, b2n closed, block])
  else
    let was := bitOf (s.rd F.LOOP_STATUS_L2) 0
    let s := (s.wr F.LOOP_STATUS_L2_BLOCK block).wr F.LOOP_STATUS_L2 (s.rd F.LOOP_STATUS_L2 / 2 * 2 + b2n closed)
    s.when (was != closed) (fun t => t.stage 0x3108 sysRec [2, b2n closed, block])

/-- The source of an SO output (R276). -/
def State.soSource (s : State) (src : Nat) : Bool :=
  match src with
  | 1 => s.flag F.LOOP_STATUS_L1_CLOSED
  | 2 => bitOf (s.rd F.LOOP_STATUS_L2) 0
  | 3 => s.flag F.TRN_STATUS_SIDE1_REL
  | 4 => s.flag F.TRN_STATUS_SIDE2_REL
  | 5 => s.declaredList.all (fun d => s.st d == .closedLocked && s.flag (F.SEQ_STATUS_PROVEN d))
  | 6 => s.declaredList.all (fun d => s.st d != .emergency)
  | 7 => s.zeroSpeed
  | _ => false

/-- Evaluate the loops and the SO outputs (R272, R276). -/
def State.evalOutputs (s : State) : State :=
  let ok := s.inRun && s.hasAuth && s.alive && !s.outputsOff
  let m1 := s.rd F.LOOP1_MEMBERS % 2 ^ 24
  let m2 := s.rd F.LOOP2_MEMBERS % 2 ^ 24
  let b1 := s.loopBlock m1
  let b2 := s.loopBlock m2
  let s := s.setLoop 1 (s.flag F.LOOP_CFG_LOOP1_EN && ok && !s.handleLoop m1 && b1 == 0x1F && !s.flag F.LOOP_STATUS_L1_FAULT && (s.asic 0).armed) b1
  let s := s.setLoop 2 (s.flag F.LOOP_CFG_LOOP2_EN && ok && !s.handleLoop m2 && b2 == 0x1F && !bitOf (s.rd F.LOOP_STATUS_L2) 3 && (s.asic 1).armed) b2
  (List.range 4).foldl (fun t k =>
    let src := bitsOf (t.rd F.SO_CFG) (4 * k) 4
    t.setBit F.SO_STATUS_ON k (t.inRun && t.hasAuth && t.alive && !t.outputsOff && (t.asic (k / 2)).armed && !bitOf (t.rd F.SO_STATUS_FAULT) k && t.soSource src)) s

/-! ## Faults, fences and SAFE -/

/-- Show FLT_STATUS.FENCED. -/
def State.showFenced (s : State) : State := s.wr F.FLT_STATUS_FENCED (s.declaredList.countP (fun d => s.st d == .fenced))

/-- The lock channel is commanded off and LOCK_PERMIT drops (R254, R387). -/
def State.lockDrop (s : State) (d : DIx) : State :=
  if s.flag (F.LOCK_STATUS_CMD d) || s.flag (F.LOCK_STATUS_PERMIT d) then
    let was := s.flag (F.LOCK_STATUS_CMD d)
    let s := (s.setF (F.LOCK_STATUS_CMD d) false).setF (F.LOCK_STATUS_PERMIT d) false
    (s.when was (fun t => (t.modSeq d (fun q => { q with lockFrom := t.now })).modCyc d (fun c => { c with lockFrom := t.now }))).evalChans d
  else s

/-- A fence request for doorway d with source `src` (R387). In FENCED it adds its source and asks for no further entry. -/
def State.fence (s : State) (d : DIx) (src : Nat) : State :=
  if !s.declared d then s
  else
    let s := s.setBit (F.FLT_DWY_FENCE_SET d.val) (src - 1) true
    let s := if (s.dwy d).fencedOnce then s
      else ((s.wr (F.FLT_DWY_FIRST_SRC d.val) src).stage 0x4D0A d.val [src, (s.st d).code]).modDwy d (fun x => { x with fencedOnce := true })
    let s := s.when (s.st d != .fenced) (fun t => t.modDwy d (fun x => { x with fencePend := true }))
    let s := (s.torqueOff d).lockDrop d
    (s.setF (F.SEQ_STATUS_LOOP_CONTRIB d) false).evalOutputs

/-- A fault that concerns doorway d, whose record is `code`, widens its scope if it is a second fault (R398, R399). -/
def State.secondFault (s : State) (d : DIx) (code : Nat) : State :=
  if s.flt.windows.any (fun w => w.ofDwy d.val) || s.flag (F.FLT_DWY_STANDING d.val) then
    (s.stage 0x4D07 d.val [s.rd F.FLT_WINDOWS_OPEN, code]).fence d 11
  else s

/-- A fault of doorway d is detected: count it, and see whether it is a second fault. -/
def State.fault (s : State) (d : DIx) (code : Nat) : State := (s.inc F.FLT_EVENTS).secondFault d code

/-- Change the power state. -/
def State.modPwr (s : State) (f : PwrH → PwrH) : State := { s with pwr := f s.pwr }

/-- A fault of no doorway is detected. -/
def State.faultM (s : State) : State := s.inc F.FLT_EVENTS

/-- Show whether a standing fault is present (R399). -/
def State.showStanding (s : State) (d : DIx) : State := s.setF (F.FLT_DWY_STANDING d.val) (s.standingNow d)

/-- A standing fault is detected: a further one is a second fault (R399). -/
def State.standingFault (s : State) (d : DIx) (code : Nat) : State := (s.fault d code).showStanding d

/-- Partner role of 0x6003: 0xFF when no heartbeat has been received (R442). -/
def State.partnerRole (s : State) : Nat := if s.pair.hbEver then s.rd F.RP_PARTNER_ROLE else 0xFF

/-- Change the pair role (R423, R442, R438). -/
def State.setRole (s : State) (r : Nat) : State :=
  let old := s.rd F.RP_STATUS_ROLE
  if old = r then s
  else
    let s := s.wr F.RP_STATUS_ROLE r
    let s := s.setF F.RP_STATUS_SWAP_OK (!s.hasAuth)
    s.stage 0x6003 sysRec [old, r, s.partnerRole]

/-- Show the SAFE and ATTN flags. -/
def State.showSafe (s : State) : State :=
  let s := s.setF F.FLT_STATUS_SAFE (s.modState == 4)
  s.setF F.FLT_STATUS_CLEAR_OK (s.modState == 4 && s.rd F.FLT_SAFE_PENDING == 0)

/-- A handover is over for this module (R437): ended, withdrawn or cut short by SAFE or by a release of the claim. -/
def State.handoverOver (s : State) : State :=
  (({ s with pair := { s.pair with hoReq := false, hoRun := false, hoNow := false } } : State).setF F.RP_STATUS_HANDOVER false).setF F.RP_CTL_HANDOVER_REQ false

/-- The claim is released (R389, R430): line, role, and what waited on the claim; agreement with the partner is counted anew (R432). -/
def State.dropClaim (s : State) : State :=
  let s : State := { s with pair := { s.pair with
    claim := false, releasedAt := if s.pair.claim then some s.now else s.pair.releasedAt, agreeSince := none, bothSince := none, holdWait := [],
    authHold := false, authFrom := none } }
  (s.handoverOver.setF F.RP_STATUS_AUTH false).setRole 1

/-- A MODULE fault ends every open window without completing, except those of moves that R400 lets complete (R398): their resource is loaded, or in
SAFE they move a FAULTY DRAM region. -/
def State.endWindows (s : State) : State :=
  let safe := s.modState == 4
  ({ s with flt := { s.flt with windows := s.flt.windows.filter (fun w => w.loaded || (safe && w.kind == 6)) } } : State).showWindows

/-- Module SAFE is entered with a cause, from a state (R389, R391, R506): outputs off, the doorways fenced, the claim released. -/
def State.goSafe (s : State) (cause was : Nat) : State :=
  let s := (s.endWindows.wr F.FLT_SAFE_FIRST cause).wr F.MOD_STATE_STATE 4
  let s := s.when (was == 3) (fun t => { t with pwr := { t.pwr with runAcc := t.pwr.runAcc + (t.now - t.pwr.runFrom) } })
  let s := { s with flt := { s.flt with safeAt := s.now, safeCauses := s.rd F.FLT_SAFE_PENDING } }
  let s := s.declaredList.foldl (fun t d => t.fence d 13) s
  let s := s.evalOutputs
  let s := s.declaredList.foldl (fun t d => t.evalChans d) s
  let s := s.dropClaim
  let s := (s.setF F.FLT_STATUS_ATTN true).showSafe
  s.stage 0x0D01 sysRec [cause, (s.reg F.FLT_SAFE.addr).toNat, was]

/-- A MODULE-scope fault with a cause (R389, R391); in SAFE already, the cause is only added. Outside RUN it stays pending until PROVE ends
(R506). `safeCauses` gathers every cause of a SAFE for 0x0D02. -/
def State.enterSafe (s : State) (cause : Nat) : State :=
  let was := s.modState
  let s := s.setBit F.FLT_SAFE_PENDING (cause - 1) true
  if was = 4 then
    let s := s.endWindows
    State.showSafe { s with flt := { s.flt with safeCauses := Nat.lor s.flt.safeCauses (s.rd F.FLT_SAFE_PENDING) } }
  else if was ≠ 3 then s.endWindows
  else s.goSafe cause 3

/-- A cause of SAFE clears (R391). -/
def State.clearCause (s : State) (cause : Nat) : State := (s.setBit F.FLT_SAFE_PENDING (cause - 1) false).showSafe

/-- The pending fence bits of a doorway. -/
def State.fenceSet (s : State) (d : DIx) : Nat := s.rd (F.FLT_DWY_FENCE_SET d.val)

/-- Clear a fence source bit when its condition holds (R388); source 11 clears when no other source stands, no window of the doorway is
open and no standing fault is present. -/
def State.fenceClear (s : State) (d : DIx) (src : Nat) : State :=
  let s := s.setBit (F.FLT_DWY_FENCE_SET d.val) (src - 1) false
  s.when (s.fenceSet d == 2 ^ 10 && !s.flt.windows.any (fun w => w.ofDwy d.val) && !s.standingNow d)
    (fun t => t.wr (F.FLT_DWY_FENCE_SET d.val) 0)

/-! ## What closes every command -/

/-- The hardware gate of R422: while the own AUTH line reads unclaimed, and while the logic is dead or held in reset (R411, R511), the drive
enables are low and the loop and SO switches off, whatever the logic commands. -/
def State.gate (s : State) : State :=
  if s.flag F.RP_STATUS_AUTH && s.alive then s
  else
    let s := (s.setF F.LOOP_STATUS_L1_CLOSED false).setBit F.LOOP_STATUS_L2 0 false
    let s := s.wr F.SO_STATUS_ON 0
    allD.foldl (fun t d => (t.setF (F.DEN_STATUS_DEN_A d) false).setF (F.DEN_STATUS_DEN_B d) false) s

/-- A loop with a member doorway that does not contribute closed is commanded off (R272). Every rule that opens a contribution evaluates the
loops itself and writes 0x3108; this is the wiring behind them. -/
def State.loopGate (s : State) : State :=
  let s := if s.loopBlock (s.rd F.LOOP1_MEMBERS % 2 ^ 24) = 0x1F then s else s.setF F.LOOP_STATUS_L1_CLOSED false
  if s.loopBlock (s.rd F.LOOP2_MEMBERS % 2 ^ 24) = 0x1F then s else s.setBit F.LOOP_STATUS_L2 0 false

/-- The state that a command leaves, from the state `s` before it and what its rules give: the fuses and straps, the queue and the clock are
not its to change, and the gates have the last word. -/
def State.done (s t : State) : State := State.gate (State.loopGate { t with chip := s.chip, pending := s.pending, now := s.now })

end Sys2Proof.Machine
end

