-- ==== Sys2Proof/Machine/Lock.lean ====
section
/-!
DEFINITION. Machine/Lock.lean: lock supervision (R255), plausibility (R258), proving switches and isolation (R256, R283), train lines and
zero speed (R261–R263, R560), side mapping (R264–R266), side releases (R267), loop and safety outputs under test (R273–R275) and the form of
a reset edge (R278).
-/
namespace Sys2Proof.Machine

/-! ## Lock channel -/

/-- Take a new current of the lock channel, mA, and run the three timers of R255. -/
def State.lockSample (s : State) (d : DIx) (mA : Nat) : State :=
  let s := s.wrSat (F.LOCK_STATUS_I_LOCK d) mA
  let l := s.lockH d
  let settled := match l.onSince with
    | some t => s.past t (msT (s.rd (F.LOCK_CFG_LOCK_SETTLE d)))
    | none => false
  let keep : Bool → Option Nat → Option Nat := fun c t => if c then (match t with | some x => some x | none => some s.now) else none
  s.modLock d (fun l => { l with
    lowSince := keep (settled && decide (mA < 20 * s.rd (F.LOCK_CFG_ILOCK_MIN d))) l.lowSince,
    highSince := keep (settled && decide (20 * s.rd (F.LOCK_CFG_ILOCK_MAX d) < mA)) l.highSince,
    stuckSince := keep (!(s.flag (F.LOCK_STATUS_CMD d) && s.flag (F.LOCK_STATUS_PERMIT d)) && decide (50 < mA)) l.stuckSince })

/-- Has a timer run for `n` milliseconds? -/
def State.ran (s : State) (t : Option Nat) (n : Nat) : Bool :=
  match t with
  | some x => s.past x (msT n)
  | none => false

/-- LOCK_CURRENT: current low or high for 20 ms (R255). -/
def lockCurrent (d : DIx) (s : State) : State :=
  s.onD d fun s =>
    let l := s.lockH d
    let i := s.rd (F.LOCK_STATUS_I_LOCK d)
    if s.ran l.lowSince 20 then
      ((s.setF (F.LOCK_STATUS_LOCK_CUR d) true).stage 0x3104 d.val [1, i]).modLock d (fun l => { l with lowSince := none })
    else if s.ran l.highSince 20 then
      ((s.setF (F.LOCK_STATUS_LOCK_CUR d) true).stage 0x3104 d.val [2, i]).modLock d (fun l => { l with highSince := none })
    else s

/-- LOCK_STUCK_ON: more than 50 mA on a channel commanded off for 10 ms (R255). -/
def lockStuckOn (d : DIx) (s : State) : State :=
  s.onD d fun s =>
    if s.ran (s.lockH d).stuckSince 10 && !s.flag (F.LOCK_STATUS_STUCK_ON d) then
      let s := (s.setF (F.LOCK_STATUS_STUCK_ON d) true).fault d 0x3107
      (s.fence d 6).stage 0x3107 d.val [s.rd (F.LOCK_STATUS_I_LOCK d)]
    else s

/-! ## Proving switches -/

/-- Level of the input named by a field whose largest value, 0x1F, means none. -/
def State.role (s : State) (d : DIx) (f : Fld) : Bool :=
  let i := s.rd f
  decide (i < 16) && bitOf (s.rd (F.IN_STATE_FILT d)) i

/-- Inputs of HANDLE1 and HANDLE2 and their filter setting: an operated handle keeps its old ones until it is restored (R306). -/
def State.handleIns (s : State) (d : DIx) : Nat × Nat × Nat :=
  (s.prot d).handleOld.getD (s.rd (F.PD_IN_HANDLE1 d), s.rd (F.PD_IN_HANDLE2 d), s.rd (F.PD_CFG_HANDLE_FILT d))

/-- Refresh PROVE_STATUS from the filtered inputs (R256, R283). -/
def State.proveUpdate (s : State) (d : DIx) : State :=
  let sw := b2n (s.role d (F.PROVE_IN_CLOSED_A d)) + 2 * b2n (s.role d (F.PROVE_IN_CLOSED_B d)) + 4 * b2n (s.role d (F.PROVE_IN_LOCKED_A d)) +
    8 * b2n (s.role d (F.PROVE_IN_LOCKED_B d)) + 16 * b2n (s.role d (F.PROVE_IN_STOWED d))
  let s := (s.wr (F.PROVE_STATUS_SW d) sw).setF (F.PROVE_STATUS_ALL_MADE d) (sw == 31)
  let i1 := s.role d (F.PROVE_IN2_ISO_IN d)
  let two := decide (s.rd (F.PROVE_IN2_ISO_IN2 d) < 16)
  let i2 := s.role d (F.PROVE_IN2_ISO_IN2 d)
  let s := if !two || i1 == i2 then (s.setF (F.PROVE_STATUS_ISO_DISC d) false).modLock d (fun l => { l with isoDiff := none })
    else s.modLock d (fun l => { l with isoDiff := match l.isoDiff with | some t => some t | none => some s.now })
  let s := s.setF (F.PROVE_STATUS_ISO d) (i1 && (!two || i2) && !s.flag (F.PROVE_STATUS_ISO_DISC d))
  s.setF (F.PROVE_STATUS_CREW d) (s.role d (F.PROVE_IN2_CREW_IN d))

/-- ISOLATION_DISCREPANCY: the two isolation inputs differ for 500 ms (R283). -/
def isolationDiscrepancy (d : DIx) (s : State) : State :=
  s.onD d fun s =>
    if s.ran (s.lockH d).isoDiff 500 && !s.flag (F.PROVE_STATUS_ISO_DISC d) then
      let s := ((s.setF (F.PROVE_STATUS_ISO_DISC d) true).setF (F.PROVE_STATUS_ISO d) false).fault d 0x310B
      s.stage 0x310B d.val [b2n (s.role d (F.PROVE_IN2_ISO_IN d)), b2n (s.role d (F.PROVE_IN2_ISO_IN2 d))]
    else s

/-- The implausible conditions of R258: P1 for leaves A and B, P2 likewise, P3 likewise, P4, P5, each with its rule number. -/
def State.implausible (s : State) (d : DIx) : List (Nat × Bool) :=
  let tol := s.rd (F.PROVE_CFG_SW_TOL d) * 10
  let c : Int := s.rd (F.PROVE_CFG_CLOSED_SW_POS d) * 10
  let w : Int := s.rd (F.PROVE_CFG_STOW_SW_POS d) * 10
  let ref : AIx → Bool := fun a => s.flag (F.AX_STATUS_REFERENCED d a)
  let still : AIx → Bool := fun a => s.flag (F.POS_STATUS_STILL d a)
  let p1 : AIx → Nat → Bool := fun a n => ref a && s.sw d n && decide (c + tol < s.pos d a)
  let p2 : AIx → Nat → Bool := fun a n => ref a && !s.sw d n && decide (s.pos d a < c - tol) && still a
  if s.st d == .isolated then []
  else [(1, p1 0 0), (1, p1 1 1), (2, p2 0 0), (2, p2 1 1), (3, s.sw d 2 && !s.sw d 0), (3, s.sw d 3 && !s.sw d 1),
    (4, ref 2 && s.sw d 4 && decide (w + tol < s.pos d 2)), (5, ref 2 && !s.sw d 4 && decide (s.pos d 2 < w - tol) && still 2)]

/-- Run the eight timers of the plausibility rules. -/
def State.plausUpdate (s : State) (d : DIx) : State :=
  let im := s.implausible d
  s.modLock d (fun l => { l with
    plausSince := (List.range 8).map (fun i =>
      if (nth im i (0, false)).2 then (match nth l.plausSince i none with | some t => some t | none => some s.now) else none)
    plausTold := (List.range 8).map (fun i => (nth im i (0, false)).2 && nth l.plausTold i false) })

/-- One violation of a plausibility rule: condition `i` of `implausible` (R258). -/
def State.plausErr (s : State) (d : DIx) (i : Nat) : State :=
  let rule := (nth (s.implausible d) i (0, false)).1
  let a : AIx := if i = 6 ∨ i = 7 then 2 else if i % 2 = 0 then 0 else 1
  let s := s.modLock d (fun l => { l with plausTold := setNth l.plausTold i true })
  let s := (s.setF (F.PROVE_STATUS_PLAUS_ERR d) true).wr (F.PROVE_STATUS_PLAUS_RULE d) rule
  (s.fault d 0x3106).stage 0x3106 d.val [rule, unsigned 32 (s.pos d a), s.rd (F.PROVE_STATUS_SW d)]

/-- SWITCH_PLAUSIBILITY: implausible conditions for 50 ms, each a violation of its own that is reported once (R258). -/
def switchPlausibility (d : DIx) (s : State) : State :=
  s.onD d fun s =>
    let im := s.implausible d
    let l := s.lockH d
    ((List.range 8).filter (fun i => (nth im i (0, false)).2 && s.ran (nth l.plausSince i none) 50 && !nth l.plausTold i false)).foldl
      (fun t i => t.plausErr d i) s

/-! ## Reset edges (R278) -/

/-- A reset input goes active or inactive: when it became inactive and active, whether the inactive interval was long enough, and T_high of
an input that has just gone inactive. -/
structure RstIn where
  off : Option Nat
  on : Option Nat
  ready : Bool
  edge : Option Nat

/-- Follow a reset input (R278, R560). -/
def RstIn.follow (r : RstIn) (now : Nat) (level : Bool) : RstIn :=
  match r.on with
  | none =>
    if level then { r with on := some now, ready := match r.off with | some t => decide (t + msT 100 ≤ now) | none => false }
    else { r with off := match r.off with | some t => some t | none => some now }
  | some t =>
    if level then r
    else { off := some now, on := none, ready := false, edge := if r.ready then some ((now - t) / 160000) else none }

/-- Follow CREW_IN of a doorway, from the first scan that brings its samples (R560); `gone` says that this one does not. RESET_STATUS.HIGH shows
T_high counting, HELD_LONG ends with the level. -/
def State.crewFollow (s : State) (d : DIx) (gone : Bool) : State :=
  let s := s.modLock d (fun l => { l with crewSeen := l.crewSeen || !gone })
  let l := s.lockH d
  if !l.crewSeen then s else
  let level := s.flag (F.PROVE_STATUS_CREW d)
  let r := RstIn.follow { off := l.crewOff, on := l.crewOn, ready := l.crewReady, edge := l.crewEdge } s.now level
  let s := s.modLock d (fun l => { l with crewOff := r.off, crewOn := r.on, crewReady := r.ready, crewEdge := r.edge })
  let s := s.setF (F.RESET_STATUS_HIGH d) (level && r.ready)
  s.when (!level) (fun t => t.when (t.trn.rstOn.isNone) (fun t => t.setF (F.RESET_STATUS_HELD_LONG d) false))

/-! ## Train lines -/

/-- A filtered train line. -/
def State.tl (s : State) (n : Nat) : Bool := bitOf (s.rd F.TL_STATE % 2 ^ 12) n

/-- Has the ASIC of train line n brought samples since BOOT (R308, R560)? -/
def State.tlKnown (s : State) (n : Nat) : Bool := nth s.trn.tlSeen (n % 2) false

/-- The first samples of the train lines of ASIC j: the stable interval of SIDE_MAP counts from them (R560). -/
def State.tlBegin (s : State) (j : Nat) : State :=
  if nth s.trn.tlSeen j false then s else { s with trn := { s.trn with tlSeen := setNth s.trn.tlSeen j true, mapSince := s.now } }

/-- Is the orientation row a mismatch (R264)? -/
def State.mapMismatch (s : State) : Bool :=
  let net := s.rd F.SIDE_MAP_NET
  match s.tl 4, s.tl 5 with
  | true, false => net == 2
  | false, true => net == 1
  | _, _ => true

/-- MAP of the truth table of R264. -/
def State.mapValue (s : State) : Nat :=
  let net := s.rd F.SIDE_MAP_NET
  let req := s.flag F.TRN_CFG_NET_REQ
  match s.tl 4, s.tl 5 with
  | true, false => if net = 1 ∨ (net = 0 ∧ req = false) then 1 else 0
  | false, true => if net = 2 ∨ (net = 0 ∧ req = false) then 2 else 0
  | _, _ => 0

/-- Refresh SIDE_MAP (R264–R266); the mismatch and its end count from the first samples of both orientation lines (R560). -/
def State.mapUpdate (s : State) : State :=
  let s := s.wr F.SIDE_MAP_ORIENT (b2n (s.tl 4) + 2 * b2n (s.tl 5))
  let m := s.mapValue
  let mis := s.mapMismatch
  let s := if s.rd F.SIDE_MAP_MAP = m then s
    else { ((s.wr F.SIDE_MAP_MAP m).setF F.SIDE_MAP_STABLE false) with trn := { s.trn with mapSince := s.now } }
  let known := s.tlKnown 4 && s.tlKnown 5
  { s with trn := { s.trn with
    misSince := if mis && known then (match s.trn.misSince with | some t => some t | none => some s.now) else none,
    okSince := if mis || !known then none else (match s.trn.okSince with | some t => some t | none => some s.now) } }

/-- The release of a train side is active under REL_SRC (R267). -/
def State.netRel (s : State) (line sdt : Bool) : Bool :=
  match s.rd F.TRN_CFG_REL_SRC with
  | 0 => line
  | 1 => line && sdt
  | _ => sdt

/-- The network release request of R147 and R150: an SDTv2 release telegram valid and set. -/
def State.netRequest (s : State) : Bool := s.trn.sdtL || s.trn.sdtR

/-- Form the side releases (R267). -/
def State.sideRelUpdate (s : State) : State :=
  let l := s.netRel (s.tl 2) s.trn.sdtL
  let r := s.netRel (s.tl 3) s.trn.sdtR
  let m := s.rd F.SIDE_MAP_MAP
  let ok := s.zeroSpeed && s.flag F.SIDE_MAP_STABLE && (m == 1 || m == 2)
  let s := (s.setF F.TRN_STATUS_NET_REL_LEFT l).setF F.TRN_STATUS_NET_REL_RIGHT r
  (s.setF F.TRN_STATUS_SIDE1_REL (ok && (if m = 1 then l else r))).setF F.TRN_STATUS_SIDE2_REL (ok && (if m = 1 then r else l))

/-- LOCK_PERMIT of every doorway drops on loss of zero speed (R254). -/
def State.dropPermits (s : State) : State :=
  allD.foldl (fun t d => if t.flag (F.LOCK_STATUS_PERMIT d) then (t.setF (F.LOCK_STATUS_PERMIT d) false).evalChans d else t) s

/-- The measurements among the last platform results (R117). -/
def platMeas (ps : List PlatRes) : List (Nat × (Int × Int)) :=
  ps.filterMap (fun p => match p.res with | some (some m) => some (p.tref, m) | _ => none)

/-- Do two lengths lie within ±10 mm? -/
def near10 (a b : Int) : Bool := decide ((a - b).natAbs ≤ 40)

/-- The measurements that agree: both values within ±10 mm of the medians (R117). -/
def platAgree (ps : List PlatRes) : List (Nat × (Int × Int)) :=
  let l := platMeas ps
  l.filter (fun m => near10 m.2.1 (median (l.map (·.2.1))) && near10 m.2.2 (median (l.map (·.2.2))))

/-- PLAT_STATUS.STILL: the agreeing measurements all come from after zero speed was recognised (R118). -/
def State.showStill (s : State) (d : DIx) : State :=
  let l := platAgree (s.topi d).plats
  s.setF (F.PLAT_STATUS_STILL d) (decide (3 ≤ l.length) && s.zeroSpeed && l.all (fun m => decide (s.trn.zsSince < m.1)))

/-- Refresh ZS_VALID from the two channels (R262); their difference and their inactive interval count from the first samples of both (R560). -/
def State.zsUpdate (s : State) : State :=
  let a := s.tl 0
  let b := s.tl 1
  let off := !a && !b
  let arm := s.trn.zsArm || s.ran s.trn.zsBothOff 100
  let disc := s.flag F.TRN_STATUS_ZS_DISC && !(a && b && arm)
  let valid := a && b && !disc
  let was := s.zeroSpeed
  let known := s.tlKnown 0 && s.tlKnown 1
  let s := (s.setF F.TRN_STATUS_ZS_DISC disc).setF F.TRN_STATUS_ZS_VALID valid
  let s := { s with trn := { s.trn with
    zsDiff := if a == b || !known then none else (match s.trn.zsDiff with | some t => some t | none => some s.now),
    zsBothOff := if off && known then (match s.trn.zsBothOff with | some t => some t | none => some s.now) else none,
    zsArm := if a && b then false else arm, zsSince := if valid && !was then s.tb else s.trn.zsSince } }
  let s := s.when (valid != was) (fun t => t.declaredList.foldl (fun u d => u.showStill d) t)
  if was && !valid then s.dropPermits else s

/-- Loss of depot mode or of zero speed during maintenance access is a fence request (R297); in EMERGENCY the guard conditions have no further
effect (R294). -/
def State.maintDoor (s : State) (d : DIx) : State :=
  s.when (s.flag (F.PD_STATUS_MAINT d) && !(s.flag F.TRN_STATUS_DEPOT && s.zeroSpeed) && s.st d != .emergency && !bitOf (s.fenceSet d) 6) (fun t => t.fence d 7)

/-- The same of every doorway. -/
def State.maintCheck (s : State) : State := s.declaredList.foldl (fun t d => t.maintDoor d) s

/-- The filtered train lines take new levels: zero speed, orientation, depot, releases and RESET_REQ follow (R261–R267, R278). -/
def State.trainUpdate (s : State) (levels : Nat) : State :=
  let tls := s.rd F.TL_STATE
  let s := s.wr F.TL_STATE (tls / 4096 * 4096 + levels % 4096)
  let s := s.zsUpdate.mapUpdate
  let dep := s.tl 6
  let s := { s with trn := { s.trn with depotSince := if dep then (match s.trn.depotSince with | some t => some t | none => some s.now) else none } }
  let s := s.when (!dep) (fun t => t.setF F.TRN_STATUS_DEPOT false)
  let r0 : RstIn := { off := s.trn.rstOff, on := s.trn.rstOn, ready := s.trn.rstReady, edge := s.trn.rstEdge }
  let r := if s.tlKnown 7 then r0.follow s.now (s.tl 7) else r0
  let s := { s with trn := { s.trn with rstOff := r.off, rstOn := r.on, rstReady := r.ready, rstEdge := r.edge } }
  let s := if s.tl 7 then s else allD.foldl (fun t d => t.when ((t.lockH d).crewOn.isNone) (fun t => t.setF (F.RESET_STATUS_HELD_LONG d) false)) s
  s.sideRelUpdate.maintCheck

/-- TRAIN_LINE_CHANGE: the twelve filtered train lines read `levels`. -/
def trainLineChange (levels : BitVec 12) (s : State) : State := s.onM (fun s => ((s.tlBegin 0).tlBegin 1).trainUpdate levels.toNat)

/-- ZERO_SPEED_DISCREPANCY: the channels differ for 500 ms (R262). -/
def zeroSpeedDiscrepancy (s : State) : State :=
  s.onM fun s =>
    if s.ran s.trn.zsDiff 500 && !s.flag F.TRN_STATUS_ZS_DISC then
      let s := (s.setF F.TRN_STATUS_ZS_DISC true).faultM
      let s := { s with trn := { s.trn with zsArm := false } }
      (s.zsUpdate.sideRelUpdate).stage 0x3105 sysRec [b2n (s.tl 0), b2n (s.tl 1)]
    else s

/-- DEPOT_MODE_ACTIVE: DEPOT active for 1 s (R263). -/
def depotModeActive (s : State) : State := s.onM (fun s => s.when (s.ran s.trn.depotSince 1000) (fun t => t.setF F.TRN_STATUS_DEPOT true))

/-- SIDE_MAP_STABLE: MAP has held NORMAL or REVERSED for 1 s (R265). -/
def sideMapStable (s : State) : State :=
  s.onM fun s =>
    if s.rd F.SIDE_MAP_MAP ≠ 0 ∧ s.past s.trn.mapSince (msT 1000) = true then (s.setF F.SIDE_MAP_STABLE true).sideRelUpdate else s

/-- SIDE_MAP_MISMATCH: mismatch rows for 2 s (R266). -/
def sideMapMismatch (s : State) : State :=
  s.onM fun s =>
    if s.ran s.trn.misSince 2000 && !s.flag F.SIDE_MAP_MISMATCH then
      (s.setF F.SIDE_MAP_MISMATCH true).stage 0x3102 sysRec [s.rd F.SIDE_MAP_ORIENT, s.rd F.SIDE_MAP_NET, s.msSince (s.trn.misSince.getD s.now) (2 ^ 32 - 1)]
    else s

/-- SIDE_MAP_MISMATCH_CLEAR: a non-mismatch row for 1 s (R266). -/
def sideMapMismatchClear (s : State) : State :=
  s.onM (fun s => s.when (s.ran s.trn.okSince 1000) (fun t => t.setF F.SIDE_MAP_MISMATCH false))

/-! ## Loop and safety outputs under test -/

/-- Is output o commanded on: 0 LOOP1, 1 LOOP2, 2 + k SOk? -/
def State.outOn (s : State) (o : Nat) : Bool :=
  if o = 0 then s.flag F.LOOP_STATUS_L1_CLOSED else if o = 1 then bitOf (s.rd F.LOOP_STATUS_L2) 0 else bitOf (s.rd F.SO_STATUS_ON) (o - 2)

/-- Is output o latched faulty? -/
def State.outFault (s : State) (o : Nat) : Bool :=
  if o = 0 then s.flag F.LOOP_STATUS_L1_FAULT else if o = 1 then bitOf (s.rd F.LOOP_STATUS_L2) 3 else bitOf (s.rd F.SO_STATUS_FAULT) (o - 2)

/-- Set the fault of output o, with its kind for a loop. -/
def State.setOutFault (s : State) (o : Nat) (b : Bool) (kind : Nat) : State :=
  if o = 0 then (s.setF F.LOOP_STATUS_L1_FAULT b).when b (fun t => t.wr F.LOOP_STATUS_L1_KIND kind)
  else if o = 1 then
    let v := s.rd F.LOOP_STATUS_L2
    s.wr F.LOOP_STATUS_L2 (v % 8 + 8 * b2n b + 16 * (if b then kind else v / 16 % 8))
  else
    let s := s.setBit F.SO_STATUS_FAULT (o - 2) b
    if b then { s with trn := { s.trn with soKind := setNth s.trn.soKind (o - 2) kind } } else s

/-- Output code of 0x3101 (R287). -/
def outCode (o : Nat) : Nat := if o = 0 then 1 else if o = 1 then 2 else 0x10 + (o - 2)

/-- A loop or SO output fault (R274). While a fault stands, only a switch newly found stuck on (kind 1 or 2) is a fault of its own. -/
def State.outputFault (s : State) (o kind side : Nat) : State :=
  if s.outFault o && decide (3 ≤ kind) then s
  else
    let s := (s.setOutFault o true kind).faultM
    s.evalOutputs.stage 0x3101 sysRec [outCode o, kind, nth s.trn.supply o 0, if kind = 3 then side else 0]

/-- Show the readback of a switch: 2 o high side, 2 o + 1 low side. -/
def State.setRb (s : State) (w : Nat) (b : Bool) : State :=
  let s := { s with trn := { s.trn with rb := setNth s.trn.rb w b } }
  match w with
  | 0 => s.setF F.LOOP_STATUS_L1_HS_RB b
  | 1 => s.setF F.LOOP_STATUS_L1_LS_RB b
  | 2 => s.setBit F.LOOP_STATUS_L2 1 b
  | 3 => s.setBit F.LOOP_STATUS_L2 2 b
  | _ => s

/-- New settings of the TRN block take effect at the next 50 ms test-pulse frame (R286, R333). DEDUCED (log entry 168): the frames start where the time
base is a multiple of 50 ms. -/
def State.frameStart (s : State) : State :=
  let n := s.tb / msT 50
  if n = s.trn.frameN then s
  else
    let s := { s with trn := { s.trn with frameN := n } }
    if s.imgPend.isEmpty then s else ((s.applyRange 0x6000 0x6050).mapUpdate.sideRelUpdate).evalOutputs

/-- Start of the pulse of a switch in the 50 ms frame, µs (R273); switch 2 o is the high side of output o, 2 o + 1 its low side. -/
def pulseUs (w : Nat) : Nat := nth [0, 25000, 12500, 37500, 3125, 28125, 15625, 40625, 28125, 3125, 40625, 15625] w 0

/-- Time since the last start of the pulse of a switch. -/
def State.pulsePhase (s : State) (w : Nat) : Nat := (s.tb + msT 50 - usT (pulseUs w)) % msT 50

/-- TP_LEN in ticks; 0 selects 300 µs (R273). -/
def State.pulseLen (s : State) : Nat := usT (let v := s.rd F.LOOP_CFG_TP_LEN; if v = 0 then 300 else v)

/-- Is the switch on: commanded on and outside its pulse (R273)? -/
def State.switchOn (s : State) (w : Nat) : Bool := s.outOn (w / 2) && decide (s.pulseLen ≤ s.pulsePhase w)

/-- The pulse of this slot has ended, and the slot has not been checked yet (R273, R274). -/
def State.slotDue (s : State) (w : Nat) : Bool :=
  decide (s.pulseLen ≤ s.pulsePhase w) &&
  (match nth s.trn.slotAt w none with | some t => decide (t + s.pulsePhase w < s.tb) | none => true)

/-- LOOP_TEST_PULSE: the check in the slot of one switch; `conducting` is what it reads at the end of its pulse, or in its slot while the output is
off (R273, R274). -/
def loopTestPulse (w : Fin 12) (conducting : Bool) (s : State) : State :=
  s.onM fun s =>
    let s := s.frameStart
    if !s.hasAuth || !s.slotDue w.val then s
    else
      let o := w.val / 2
      let n := if conducting then nth s.trn.stuck w.val 0 + 1 else 0
      -- the slots of a switch are 50 ms apart, so 75 ms tell the next one from a later one
      let next := match nth s.trn.slotAt w.val none with | some t => decide (s.tb ≤ t + msT 75) | none => false
      let s := { s with trn := { s.trn with
        stuck := setNth s.trn.stuck w.val n, slotAt := setNth s.trn.slotAt w.val (some s.tb),
        slotN := setNth s.trn.slotN w.val (if next then nth s.trn.slotN w.val 0 + 1 else 1) } }
      let s := s.setRb w.val (conducting || s.switchOn w.val)
      -- the second successive slot finds the switch stuck on; later ones only where that fault no longer stands
      s.when (n == 2 || (decide (2 < n) && !s.outFault o)) (fun t => t.outputFault o (1 + w.val % 2) 0)

/-- The current above which output o is overloaded, mA (R274). -/
def overLimit (o : Nat) : Nat := if o < 2 then 3000 else 750

/-- The measured current of output o, mA, and its supply, 0.1 V: LOOP_CUR and LOOP_SUP of a loop (R271, R285); `overAt` dates the first of the samples
above the limit. -/
def State.showCurrent (s : State) (o mA : Nat) : State :=
  let s := { s with trn := { s.trn with overAt := setNth s.trn.overAt o (s.keep (decide (overLimit o < mA)) (nth s.trn.overAt o none)) } }
  if o = 0 then s.wrSat F.LOOP_CUR_LOOP1 mA else if o = 1 then s.wrSat F.LOOP_CUR_LOOP2 mA
  else { s with trn := { s.trn with soCur := setNth s.trn.soCur (o - 2) mA } }

def State.showSupply (s : State) (o v : Nat) : State :=
  let s := { s with trn := { s.trn with supply := setNth s.trn.supply o v } }
  if o = 0 then s.wrSat F.LOOP_SUP_LOOP1 v else if o = 1 then s.wrSat F.LOOP_SUP_LOOP2 v else s

/-- A sample of the current of output o: above the limit for 1 ms, it is an overcurrent (R274, R329). -/
def State.currentSample (s : State) (o mA : Nat) : State :=
  let s := s.showCurrent o mA
  s.when (s.hasAuth && s.ran (nth s.trn.overAt o none) 1) (fun t => t.outputFault o 4 0)

/-- LOOP_READBACK_TIMEOUT: outside the pulses of output o its switches have read as given for 5 ms, and its current has been `mA` for 1 ms
(R274). -/
def loopReadbackTimeout (o : Fin 6) (hs ls : Bool) (mA supply : Nat) (s : State) : State :=
  s.onM fun s =>
    if !s.hasAuth then s
    else
      let s := (s.showSupply o.val supply).showCurrent o.val mA
      let s := (s.setRb (2 * o.val) hs).setRb (2 * o.val + 1) ls
      if s.outOn o.val && !(hs && ls) then s.outputFault o.val 3 ((if hs then 0 else 1) + (if ls then 0 else 2))
      else if overLimit o.val < mA then s.outputFault o.val 4 0
      else s

/-- Loop and SO faults clear on a RESET_REQ edge while both switches read back off; a stuck-off fault always meets this (R275). -/
def State.clearOutputs (s : State) : State :=
  (List.range 6).foldl (fun t o =>
    let kind := if o = 0 then t.rd F.LOOP_STATUS_L1_KIND else if o = 1 then bitsOf (t.rd F.LOOP_STATUS_L2) 4 3 else nth t.trn.soKind (o - 2) 0
    t.when (t.outFault o && (kind == 3 || !(nth t.trn.rb (2 * o) false || nth t.trn.rb (2 * o + 1) false)))
      (fun t => t.setOutFault o false 0)) s

/-! ## The commands of this file -/

/-- The meaning of LOCK_CURRENT (R255). -/
def execLockCurrent (d : DIx) (s : State) : Host.Outcome State Fault Refusal := .next (s.done (lockCurrent d s))

/-- The meaning of LOCK_STUCK_ON (R255). -/
def execLockStuckOn (d : DIx) (s : State) : Host.Outcome State Fault Refusal := .next (s.done (lockStuckOn d s))

/-- The meaning of SWITCH_PLAUSIBILITY (R258). -/
def execSwitchPlausibility (d : DIx) (s : State) : Host.Outcome State Fault Refusal := .next (s.done (switchPlausibility d s))

/-- The meaning of TRAIN_LINE_CHANGE (R261). -/
def execTrainLineChange (levels : BitVec 12) (s : State) : Host.Outcome State Fault Refusal := .next (s.done (trainLineChange levels s))

/-- The meaning of ZERO_SPEED_DISCREPANCY (R262). -/
def execZeroSpeedDiscrepancy (s : State) : Host.Outcome State Fault Refusal := .next (s.done (zeroSpeedDiscrepancy s))

/-- The meaning of DEPOT_MODE_ACTIVE (R263). -/
def execDepotModeActive (s : State) : Host.Outcome State Fault Refusal := .next (s.done (depotModeActive s))

/-- The meaning of SIDE_MAP_STABLE (R265). -/
def execSideMapStable (s : State) : Host.Outcome State Fault Refusal := .next (s.done (sideMapStable s))

/-- The meaning of SIDE_MAP_MISMATCH (R266). -/
def execSideMapMismatch (s : State) : Host.Outcome State Fault Refusal := .next (s.done (sideMapMismatch s))

/-- The meaning of SIDE_MAP_MISMATCH_CLEAR (R266). -/
def execSideMapMismatchClear (s : State) : Host.Outcome State Fault Refusal := .next (s.done (sideMapMismatchClear s))

/-- The meaning of LOOP_TEST_PULSE (R273). -/
def execLoopTestPulse (w : Fin 12) (conducting : Bool) (s : State) : Host.Outcome State Fault Refusal := .next (s.done (loopTestPulse w conducting s))

/-- The meaning of LOOP_READBACK_TIMEOUT (R274). -/
def execLoopReadbackTimeout (o : Fin 6) (hs ls : Bool) (mA supply : Nat) (s : State) : Host.Outcome State Fault Refusal := .next (s.done (loopReadbackTimeout o hs ls mA supply s))

/-- The meaning of ISOLATION_DISCREPANCY (R283). -/
def execIsolationDiscrepancy (d : DIx) (s : State) : Host.Outcome State Fault Refusal := .next (s.done (isolationDiscrepancy d s))

end Sys2Proof.Machine
end

