-- ==== Sys2Proof/Machine/Position.lean ====
section
/-!
DEFINITION. Machine/Position.lean: position feedback (chapter 6): the decoder and its faults (R199–R203), the counter and the measured
position (R204, R206), index, direction and speed (R207–R210), latches (R211), the reference switch (R214–R216) and the emulated
outputs (R218–R220).
-/
namespace Sys2Proof.Machine

/-- Filter delay of ENC_CFG.FILT in ticks (R199): F + 2 samples of 6.25 ns, one tick each. -/
def filtTicks (f : Nat) : Nat := nth [2, 4, 8, 16, 32] f 2 + 2

/-- A count of 48 bits (R204). -/
def wrap48 (x : Int) : Int := signed 48 (unsigned 48 x)

/-- The extended count EXT now: the signed modular difference of CNT from the previous drive frame is added (R204). -/
def State.extOf (s : State) (d : DIx) (a : AIx) : Int :=
  let e := s.enc d a
  wrap48 (e.ext + signed 32 (unsigned 32 ((s.rd (F.CNT d a) : Int) - e.cntPrev)))

/-- Extend CNT, as every drive frame does (R204). -/
def State.extend (s : State) (d : DIx) (a : AIx) : State := s.modEnc d a (fun e => { e with ext := s.extOf d a, cntPrev := s.rd (F.CNT d a) })

/-- Measured position in 0.01 mm for a count (R206). -/
def State.posOf (s : State) (d : DIx) (a : AIx) (ext : Int) : Int :=
  roundDiv ((ext - (s.enc d a).origin) * 6553600) (s.rd (F.ENC_SCALE d a))

/-- Counts nearest to a distance in 0.01 mm. -/
def State.countsOf (s : State) (d : DIx) (a : AIx) (p : Int) : Int := roundDiv (p * s.rd (F.ENC_SCALE d a)) 6553600

/-- Has a channel been without an edge for more than 100 ms, or always (R210)? -/
def State.encStill (s : State) (d : DIx) (a : AIx) : Bool :=
  match (s.enc d a).last with
  | none => true
  | some t => decide (t + msT 100 < s.now)

/-- Speed in counts/s, rounded (R210): 0 within four counts of a change of direction and after more than 100 ms without an edge. -/
def State.countSpeed (s : State) (d : DIx) (a : AIx) : Int :=
  let e := s.enc d a
  if e.stamps.length < 5 ∨ s.encStill d a then 0
  else
    let dt := max (nth e.stamps 0 0 - nth e.stamps 4 0) (4 * (s.now - e.last.getD 0))
    let v : Int := if dt = 0 then 0 else roundDiv 640000000 dt
    if s.flag (F.POS_STATUS_DIR d a) then -v else v

/-- Extend CNT and refresh POS, MSPEED and STILL of a channel, as every drive frame does (R204, R206, R210). -/
def State.posUpdate (s : State) (d : DIx) (a : AIx) : State :=
  let s := s.extend d a
  let v := s.countSpeed d a
  let s := s.wrS (F.POS d a) (s.posOf d a (s.enc d a).ext)
  let s := s.wrS (F.MSPEED d a) (roundDiv (v * 655360) (s.rd (F.ENC_SCALE d a)))
  s.setF (F.POS_STATUS_STILL d a) (s.encStill d a)

/-- Set CNT_ERR, which clears REFERENCED (R216). -/
def State.cntErr (s : State) (d : DIx) (a : AIx) : State :=
  (((s.setF (F.POS_STATUS_CNT_ERR d a) true).setF (F.AX_STATUS_REFERENCED d a) false).setF (F.POS_STATUS_IDX_VALID d a) false).modEnc d a
    (fun e => { e with idxHave := false })

/-- Signal loss of a channel (R203, R217); `cause` is 1 line fault, 2 illegal-transition burst. -/
def State.encoderLoss (s : State) (d : DIx) (a : AIx) (cause : Nat) : State :=
  if s.flag (F.POS_STATUS_LOSS d a) then s
  else
    let s := (s.setF (F.POS_STATUS_LOSS d a) true).cntErr d a
    let s := s.fault d 0x4501
    let s := s.stage 0x4501 d.val [a.val, cause, unsigned 32 (s.pos d a)]
    if s.denHigh d then s.fence d 3 else s

/-- An illegal transition (R201): not counted; more than 16 within 10 ms are a signal loss (R203). -/
def State.illegalTransition (s : State) (d : DIx) (a : AIx) : State :=
  let s := (s.setF (F.POS_STATUS_QUAD_ERR d a) true).cntErr d a
  let s := s.inc (F.POS_ERR_QUAD d a.val)
  let s := s.modEnc d a (fun e => { e with illegal := (s.now :: e.illegal).filter (fun t => decide (s.now ≤ t + msT 10)), quiet := none })
  let s := s.fault d 0x4502
  let s := s.stage 0x4502 d.val [a.val, 1, unsigned 32 (s.rdS (F.IDX_DIFF d a)), s.rd (F.INDEX_CFG_INDEX_NOM d a)]
  if 16 < (s.enc d a).illegal.length then s.encoderLoss d a 2 else s

/-- A change of direction (R209). -/
def State.dirChange (s : State) (d : DIx) (a : AIx) (down : Bool) : State :=
  let s := (s.setF (F.POS_STATUS_DIR d a) down).setF (F.POS_STATUS_DIR_CHG d a) true
  let s := s.modEnc d a (fun e => { e with idxDirChg := true, stamps := [] })
  let x := s.axis d a
  if s.flag (F.AX_STATUS_MOVING d a) && (x.up == down) then
    (s.inc (F.POS_ERR_DIR_OPP d a.val)).stage 0x2501 d.val [a.val, unsigned 32 (s.pos d a), (s.st d).code]
  else s

/-- One count up or down, at the present tick (R200, R204, R209, R210). -/
def State.countOne (s : State) (d : DIx) (a : AIx) (up : Bool) : State :=
  let dx : Int := if up then 1 else -1
  let s := s.wr (F.CNT d a) (unsigned 32 ((s.rd (F.CNT d a) : Int) + dx))
  let down := s.flag (F.POS_STATUS_DIR d a)
  let ext := s.extOf d a
  let s := s.modEnc d a (fun e =>
    { e with
      last := some s.now, stamps := if up = !down then (s.now :: e.stamps).take 5 else e.stamps,
      extreme := if down then min e.extreme ext else max e.extreme ext })
  let e := s.enc d a
  let hyst : Int := s.rd (F.ENC_CFG_DIR_HYST d a)
  let s := s.setF (F.POS_STATUS_STILL d a) false
  if !down && decide (ext ≤ e.extreme - hyst) then (s.modEnc d a (fun e => { e with extreme := ext })).dirChange d a true
  else if down && decide (e.extreme + hyst ≤ ext) then (s.modEnc d a (fun e => { e with extreme := ext })).dirChange d a false
  else s

/-- A filtered sample of A and B (R200, R201): nothing, one count, or an illegal transition. -/
def State.quadSample (s : State) (d : DIx) (a : AIx) (va vb : Bool) : State :=
  let e := s.enc d a
  let s := s.modEnc d a (fun e => { e with a := va, b := vb })
  if e.a != va && e.b != vb then s.illegalTransition d a
  else if e.a == va && e.b == vb then s
  else
    -- with ENC_INV = 0, B lagging A counts upwards: A rises while B is low
    let upA := if e.a != va then va != vb else va == vb
    s.countOne d a (upA != s.flag (F.ENC_CFG_ENC_INV d a))

/-- F of R199: the samples in which a new level must be seen. -/
def State.filtN (s : State) (d : DIx) (a : AIx) : Nat := filtTicks (s.rd (F.ENC_CFG_FILT d a)) - 2

/-- The filter of R199: a level seen in the last n consecutive samples passes when n reaches F; else the filtered level stays. -/
def State.filtered (s : State) (d : DIx) (a : AIx) (old new : Bool) (n : Nat) : Bool := if s.filtN d a ≤ n then new else old

/-- The tick at which a sample of now was true at the pins: less the filter delay (R211). -/
def State.latchTb (s : State) (d : DIx) (a : AIx) : Nat := s.tb - filtTicks (s.rd (F.ENC_CFG_FILT d a))

/-- TICK of a latch taken now (R211). -/
def State.latchTick (s : State) (d : DIx) (a : AIx) : Nat := s.latchTb d a % 2 ^ 32

/-- Is the index check of R207 passed, for the latch before (direction down?) and this one? -/
def State.indexOk (s : State) (d : DIx) (a : AIx) (prevDown down chg : Bool) (diff : Int) : Bool :=
  let nom : Int := s.rd (F.INDEX_CFG_INDEX_NOM d a)
  let ok : Int → Bool := fun k => decide ((diff - k * nom).natAbs ≤ s.rd (F.INDEX_CFG_INDEX_TOL d a))
  if !chg && prevDown && down then ok (-1) else if !chg && !prevDown && !down then ok 1 else ok 0 || ok 1 || ok (-1)

/-- The index latches EXT and TICK and checks the difference (R207). -/
def State.indexLatch (s : State) (d : DIx) (a : AIx) : State :=
  let e := s.enc d a
  let ext := s.extOf d a
  let down := s.flag (F.POS_STATUS_DIR d a)
  let old := signed 32 (s.rd (F.IDX_CNT d a))
  let s := (s.wr (F.IDX_CNT d a) (unsigned 32 ext)).wr (F.IDX_TICK d a) (s.latchTick d a)
  let s := s.modEnc d a (fun e => { e with idxHave := true, idxDown := down, idxDirChg := false })
  if !e.idxHave then s.setF (F.POS_STATUS_IDX_VALID d a) true
  else
    let diff := signed 32 (unsigned 32 (ext - old))
    let s := s.wrS (F.IDX_DIFF d a) diff
    if s.indexOk d a e.idxDown down e.idxDirChg diff then s
    else
      let s := (s.cntErr d a).inc (F.POS_ERR_IDX_ERR d a.val)
      let s := s.fault d 0x4502
      s.stage 0x4502 d.val [a.val, 2, unsigned 32 diff, s.rd (F.INDEX_CFG_INDEX_NOM d a)]

/-- Does a change of the filtered levels from `e` to `e'` latch the index (R202): in mode 1 the rising edge of Z, in mode 2 the entry into the state
with Z, A and B all high? -/
def indexHit (mode : Nat) (e e' : EncH) : Bool :=
  match mode with
  | 1 => e'.z && !e.z
  | 2 => (e'.z && e'.a && e'.b) && !(e.z && e.a && e.b)
  | _ => false

/-- The index after a sample, `e` being the channel before it (R202). -/
def State.indexStep (s : State) (d : DIx) (a : AIx) (e : EncH) : State :=
  s.when (indexHit (s.rd (F.ENC_CFG_IDX_MODE d a)) e (s.enc d a)) (fun t => t.indexLatch d a)

/-- ENCODER_COUNT: A has read `va` in its last `na` consecutive samples and B `vb` in its last `nb`; what passes the filter is decoded (R199–R202). -/
def encoderCount (d : DIx) (a : AIx) (va vb : Bool) (na nb : Nat) (s : State) : State :=
  if s.alive && s.present d then
    let e := s.enc d a
    (s.quadSample d a (s.filtered d a e.a va na) (s.filtered d a e.b vb nb)).indexStep d a e
  else s

/-- INDEX_EVENT: Z has read `z` in its last `n` consecutive samples (R199, R202, R207). -/
def indexEvent (d : DIx) (a : AIx) (z : Bool) (n : Nat) (s : State) : State :=
  if s.alive && s.present d then
    let e := s.enc d a
    (s.modEnc d a (fun e => { e with z := s.filtered d a e.z z n })).indexStep d a e
  else s

/-- LINE_FAULT_SAMPLE: one sample of the detectors of a channel, every 1 ms (R203). The Z detector counts unless IDX_MODE is 0. -/
def lineFaultSample (d : DIx) (a : AIx) (fa fb fz : Bool) (s : State) : State :=
  s.onD d fun s =>
    let act := fa || fb || (fz && s.rd (F.ENC_CFG_IDX_MODE d a) != 0)
    let s := s.setF (F.POS_STATUS_LINE_FLT d a) act
    let s := s.modEnc d a (fun e => { e with
      detN := if act then e.detN + 1 else 0,
      quiet := if act then none else (match e.quiet with | some t => some t | none => some s.now) })
    if 16 ≤ (s.enc d a).detN then s.encoderLoss d a 1 else s

/-- LOSS_CLEAR: 100 ms with no active detector and no illegal transition (R203). -/
def lossClear (d : DIx) (a : AIx) (s : State) : State :=
  s.onD d fun s =>
    match (s.enc d a).quiet with
    | some t =>
      if s.flag (F.POS_STATUS_LOSS d a) && s.past t (msT 100) && (s.enc d a).illegal.all (fun x => s.past x (msT 100)) then
        let s := s.setF (F.POS_STATUS_LOSS d a) false
        if allA.all (fun b => !s.flag (F.POS_STATUS_LOSS d b)) && bitOf (s.fenceSet d) 2 then s.fenceClear d 3 else s
      else s
    | none => s

/-- Position of a commanded place: internal x for a position in 0.01 mm (R165). -/
def State.xOf (s : State) (d : DIx) (a : AIx) (p : Int) : Int :=
  roundDiv (p * s.rd (F.SCALE d a)) 6553600 * (1600000000 * 65536)

/-- Set the commanded position and show it. -/
def State.setX (s : State) (d : DIx) (a : AIx) (p : Int) : State :=
  (s.modAx d a (fun x => { x with x := s.xOf d a p, tgt := s.xOf d a p })).wrS (F.XCMD d a) p

/-- Set ORIGIN so that count `ext` reads `p`; XCMD shifts by the same amount, TARGET does not (R215). -/
def State.setOrigin (s : State) (d : DIx) (a : AIx) (ext p : Int) : State :=
  let was := s.posOf d a ext
  let s := s.modEnc d a (fun e => { e with origin := ext - s.countsOf d a p })
  let shift := s.posOf d a ext - was
  let s := s.modAx d a (fun x => { x with x := x.x + s.xOf d a shift })
  let s := s.wrS (F.XCMD d a) (s.rdS (F.XCMD d a) + shift)
  s.posUpdate d a

/-- EXT interpolated from the pose history at a time (R214): linear between the latches around it. -/
def State.extAt (s : State) (d : DIx) (a : AIx) (t : Nat) : Int :=
  let ps := (s.dwy d).poses.map (fun p => (nth p.ticks a.val p.tick, nth p.exts a.val 0))
  match ps.find? (fun p => decide (p.1 ≤ t)) with
  | none => match ps.getLast? with
    | some p => p.2
    | none => s.extOf d a
  | some p =>
    match (ps.filter (fun q => decide (t < q.1))).getLast? with
    | none => p.2
    | some q => p.2 + roundDiv ((q.2 - p.2) * ((t : Int) - p.1)) (q.1 - p.1)

/-- REFERENCE_MAKE_EDGE: a make edge of the reference switch that the scan has recorded (R214, R215). -/
def referenceMakeEdge (d : DIx) (a : AIx) (s : State) : State :=
  s.onD d fun s =>
    match (s.enc d a).refEdge with
    | none => s
    | some t =>
      let s := s.modEnc d a (fun e => { e with refEdge := none })
      if s.flag (F.POS_STATUS_LOSS d a) || !(s.flag (F.POS_STATUS_DIR d a) || s.flag (F.POS_STATUS_STILL d a)) then s
      else
        let ext := s.extAt d a t
        let s := (s.wr (F.REF_CNT d a) (unsigned 32 ext)).wr (F.REF_TICK d a) (t % 2 ^ 32)
        let refPos : Int := s.rd (F.REF_CFG_REF_POS d a)
        let p := s.posOf d a ext
        if !s.flag (F.AX_STATUS_REFERENCED d a) then
          ((s.setOrigin d a ext refPos).setF (F.AX_STATUS_REFERENCED d a) true).setF (F.POS_STATUS_CNT_ERR d a) false
        else
          let dev := p - refPos
          let s := s.wrS (F.REF_DEV d a.val) dev
          let s := s.modCyc d (fun c => if a = 0 then { c with refA := some dev } else if a = 1 then { c with refB := some dev } else c)
          if dev.natAbs ≤ s.rd (F.REF_CFG_REF_TOL d a) then s
          else
            let s := (s.setF (F.POS_STATUS_REF_ERR d a) true).fault d 0x4503
            (s.stage 0x4503 d.val [a.val, unsigned 32 dev, s.rd (F.REF_CFG_REF_POS d a)]).setOrigin d a ext refPos

/-- Rest referencing at position 0 (R216, R167). -/
def State.restReference (s : State) (d : DIx) (a : AIx) : State :=
  if !s.flag (F.AX_STATUS_REFERENCED d a) && s.flag (F.POS_STATUS_STILL d a) && !s.flag (F.POS_STATUS_LOSS d a) &&
      s.flag (F.POS_STATUS_REF_MADE d a) && (s.enc d a).refEdge.isNone then
    ((s.setOrigin d a (s.extOf d a) 0).setF (F.AX_STATUS_REFERENCED d a) true).setF (F.POS_STATUS_CNT_ERR d a) false
  else s

/-- SNAP: a snapshot latch of a channel (R211). -/
def snap (d : DIx) (a : AIx) (s : State) : State :=
  s.onD d fun s =>
    ((s.wr (F.SNAP_CNT d a) (unsigned 32 (s.extOf d a))).wr (F.SNAP_TICK d a) (s.latchTick d a)).setF (F.POS_CTL_SNAP d a) false

/-- A pose entry of the three channels (R100, R211, R213); the history holds 1,024 entries, newest first. -/
def State.poseEntry (s : State) (d : DIx) : State :=
  let p : Pose := { tick := s.tb, ticks := allA.map (s.latchTb d), exts := allA.map (s.extOf d), speeds := allA.map (s.countSpeed d), bad := allA.map (fun a =>
    s.flag (F.POS_STATUS_LOSS d a) || s.flag (F.POS_STATUS_CNT_ERR d a)) }
  s.modDwy d (fun x => { x with poses := (p :: x.poses).take 1024 })

/-! ## Emulated outputs (R218–R220) -/

/-- Change the hidden state of emulated output e. -/
def State.modEmu (s : State) (e : Fin 8) (f : EmuH → EmuH) : State := { s with trn := { s.trn with emu := s.trn.emu.set e (f s.trn.emu[e]) } }

/-- Is count m an index of output e (R219)? -/
def State.emuIndexAt (s : State) (e : Fin 8) (m : Int) : Bool :=
  match s.rd (F.EMU_CFG_Z_MODE e.val) with
  | 1 => decide (m = 0)
  | 2 => decide (s.rd (F.EMU_CFG_Z_PERIOD e.val) ≠ 0) && decide (m % (s.rd (F.EMU_CFG_Z_PERIOD e.val) : Int) = 0)
  | _ => false

/-- The Z line at count c in quadrature state `ph` (R219): high in the state with A and B both high whose four counts hold an index (DESIGN CHOICE,
log entry 166), unless Z is suppressed. -/
def State.emuZ (s : State) (e : Fin 8) (sup : Bool) (ph : Nat) (c : Int) : Bool :=
  decide (ph = 0) && !sup && (s.emuIndexAt e c || s.emuIndexAt e (c + 1) || s.emuIndexAt e (c + 2) || s.emuIndexAt e (c + 3))

/-- Levels of A and B in a quadrature state: 0 both high, then upwards as R200 counts (B lags A). -/
def emuAB (ph : Nat) : Bool × Bool := nth [(true, true), (false, true), (false, false), (true, false)] ph (true, true)

/-- The transitions of a drive frame (R218): transition i of n, evenly spaced over its 4,000 ticks; a pass of count 0 ends the suppression of Z. -/
def State.emuRun (s : State) (e : Fin 8) (n : Nat) (up : Bool) : Nat → Int × EmuH → Int × EmuH
  | 0, x => x
  | k + 1, x =>
    let c := if up then x.1 + 1 else x.1 - 1
    let ph := (if up then x.2.ph + 1 else x.2.ph + 3) % 4
    let sup := x.2.sup && decide (c ≠ 0)
    let z := s.emuZ e sup ph c
    s.emuRun e n up k (c, { ph := ph, sup := sup, z := z, trans := x.2.trans ++ [((n - (k + 1)) * 4000 / n, ph, z)] })

/-- One drive frame of emulated output e (R218–R220). Its lines are high-impedance while it is not ACTIVE; Z stays suppressed until EMU_CNT passes 0,
also over such a time. -/
def State.emuFrame (s : State) (e : Fin 8) (d : DIx) (a : AIx) : State :=
  let act := s.flag (F.EMU_CFG_EN e.val) && s.hasAuth && s.flag (F.AX_STATUS_REFERENCED d a) && !s.flag (F.POS_STATUS_LOSS d a)
  let o := roundDiv (s.pos d a * s.rd (F.EMU_RES e.val)) 6553600
  if !act then ((s.setF (F.EMU_STATUS_ACTIVE e.val) false).wr (F.EMU_STATUS_BACKLOG e.val) 0).modEmu e (fun x => { sup := x.sup })
  else if !s.flag (F.EMU_STATUS_ACTIVE e.val) then
    let ph := (o % 4).toNat
    let was := s.rdS (F.EMU_CNT e.val)
    let sup := s.trn.emu[e].sup && !(o == 0 || (decide (was < 0) && decide (0 < o)) || (decide (0 < was) && decide (o < 0)))
    (((s.setF (F.EMU_STATUS_ACTIVE e.val) true).wrS (F.EMU_CNT e.val) o).wr (F.EMU_STATUS_BACKLOG e.val) 0).modEmu e (fun _ =>
      { ph := ph, sup := sup, z := s.emuZ e sup ph o })
  else
    let cnt := s.rdS (F.EMU_CNT e.val)
    let diff := o - cnt
    let n := min 50 diff.natAbs
    let r := s.emuRun e n (decide (0 ≤ diff)) n (cnt, { s.trn.emu[e] with trans := [] })
    let left := diff.natAbs - n
    let s := (s.wr (F.EMU_STATUS_BACKLOG e.val) (min left 1024)).modEmu e (fun _ => r.2)
    if 1024 < left then
      let drop : Int := (left - 1024 : Nat)
      let s := (s.wrS (F.EMU_CNT e.val) (r.1 + (if diff < 0 then -drop else drop))).modEmu e (fun x => { x with sup := true })
      (s.setF (F.EMU_STATUS_OVR e.val) true).stage 0x8501 sysRec [e.val, left - 1024]
    else s.wrS (F.EMU_CNT e.val) r.1

/-- Every emulated output whose source axis belongs to doorway d. -/
def State.emuFrames (s : State) (d : DIx) : State :=
  (List.finRange 8).foldl (fun t e =>
    let src := t.rd (F.EMU_CFG_SRC e.val)
    if src / 3 = d.val then t.emuFrame e d (Fin.ofNat 3 (src % 3)) else t) s

/-! ## The commands of this file -/

/-- The meaning of ENCODER_COUNT (R200). -/
def execEncoderCount (d : DIx) (a : AIx) (va vb : Bool) (na nb : Nat) (s : State) : Host.Outcome State Fault Refusal := .next (s.done (encoderCount d a va vb na nb s))

/-- The meaning of INDEX_EVENT (R207). -/
def execIndexEvent (d : DIx) (a : AIx) (z : Bool) (n : Nat) (s : State) : Host.Outcome State Fault Refusal := .next (s.done (indexEvent d a z n s))

/-- The meaning of LINE_FAULT_SAMPLE (R203). -/
def execLineFaultSample (d : DIx) (a : AIx) (fa fb fz : Bool) (s : State) : Host.Outcome State Fault Refusal := .next (s.done (lineFaultSample d a fa fb fz s))

/-- The meaning of LOSS_CLEAR (R203). -/
def execLossClear (d : DIx) (a : AIx) (s : State) : Host.Outcome State Fault Refusal := .next (s.done (lossClear d a s))

/-- The meaning of REFERENCE_MAKE_EDGE (R215). -/
def execReferenceMakeEdge (d : DIx) (a : AIx) (s : State) : Host.Outcome State Fault Refusal := .next (s.done (referenceMakeEdge d a s))

/-- The meaning of SNAP (R211). -/
def execSnap (d : DIx) (a : AIx) (s : State) : Host.Outcome State Fault Refusal := .next (s.done (snap d a s))

end Sys2Proof.Machine
end

