-- ==== Sys2Proof/Machine/Obstacle.lean ====
section
/-!
DEFINITION. Machine/Obstacle.lean: obstacle sources and SS1 (chapter 7): safety edges (R227–R231), the force estimate and its threshold
(R232–R234), the verdict as readers see it (R98, R107–R110), the fusion by state (R236–R240), and the envelope of SS1 (R242, R243).
-/
namespace Sys2Proof.Machine

/-! ## Safety edges -/

/-- Classes of EDGE_MEAS (R228, R250): 0 NORMAL, 1 ACTIVE, 2 INDET, 3 OPEN, 4 OVR. -/
def edgeClass (code : Nat) (ovr : Bool) : Nat :=
  if ovr then 4 else if code ≤ 1222 then 1 else if code ≤ 2376 then 2 else if code ≤ 2786 then 0 else 3

/-- The hidden state of edge n. -/
def State.edge (s : State) (d : DIx) (n : Nat) : EdgeH := if n = 0 then (s.obst d).edge0 else (s.obst d).edge1

/-- Change the hidden state of edge n. -/
def State.modEdge (s : State) (d : DIx) (n : Nat) (f : EdgeH → EdgeH) : State :=
  s.modObst d (fun o => if n = 0 then { o with edge0 := f o.edge0 } else { o with edge1 := f o.edge1 })

/-- EDGEn_EN. -/
def State.edgeEn (s : State) (d : DIx) (n : Nat) : Bool := if n = 0 then s.flag (F.OBST_CFG_EDGE0_EN d) else s.flag (F.OBST_CFG_EDGE1_EN d)

/-- EDGE_FILT in ticks; 0 selects 3.0 ms (R229). -/
def State.edgeFilt (s : State) (d : DIx) : Nat := usT (100 * (let f := s.rd (F.OBST_CFG_EDGE_FILT d); if f = 0 then 30 else f))

/-- A conversion of edge n of class `cls` (R228–R230); an edge that is not enabled is not evaluated (R231). While REF_ERR is set the edge counts as
activated whatever its class, and the edge fault of R230 follows from that (R331). DEDUCED (log entry 201): no conversion of that time counts as NORMAL for
the clearing of the fault. -/
def State.edgeSample (s : State) (d : DIx) (n code cls : Nat) : State :=
  if !s.edgeEn d n || decide (s.now < (s.edge d n).readyAt) then s
  else
    let s := if n = 0 then (s.wr (F.EDGE_MEAS_CODE0 d) code).wr (F.EDGE_MEAS_CLASS0 d) cls
      else (s.wr (F.EDGE_MEAS_CODE1 d) code).wr (F.EDGE_MEAS_CLASS1 d) cls
    s.modEdge d n (fun e =>
      let refErr := s.flag (F.FIO_STATUS_REF_ERR (asicOf d))
      let act := s.keep (cls != 0) e.actSince
      { e with
        actSince := act, badSince := s.keep (decide (2 ≤ cls) || refErr) e.badSince, normSince := s.keep (cls == 0 && !refErr) e.normSince,
        activated := (match act with | some t => decide (t + s.edgeFilt d ≤ s.now) | none => false) })

/-- EDGE_FAULT: a faulty class for 100 ms (R230). -/
def edgeFault (d : DIx) (n : Fin 2) (s : State) : State :=
  s.onD d fun s =>
    let f := if n.val = 0 then F.OBST_STATUS_EDGE0_FAULT d else F.OBST_STATUS_EDGE1_FAULT d
    if s.edgeEn d n.val && s.ran (s.edge d n.val).badSince 100 && !s.flag f then
      let s := s.fault d 0x4701
      let s := (s.setF f true).showStanding d
      s.stage 0x4701 d.val [n.val, if n.val = 0 then s.rd (F.EDGE_MEAS_CLASS0 d) else s.rd (F.EDGE_MEAS_CLASS1 d),
        if n.val = 0 then s.rd (F.EDGE_MEAS_CODE0 d) else s.rd (F.EDGE_MEAS_CODE1 d)]
    else s

/-- EDGE_FAULT_CLEAR: 1 s of NORMAL conversions (R230). -/
def edgeFaultClear (d : DIx) (n : Fin 2) (s : State) : State :=
  s.onD d fun s =>
    let f := if n.val = 0 then F.OBST_STATUS_EDGE0_FAULT d else F.OBST_STATUS_EDGE1_FAULT d
    if s.ran (s.edge d n.val).normSince 1000 then (s.setF f false).showStanding d else s

/-- Are the edges muted (R229)? A gap of 0 mm never mutes. -/
def State.edgeMuted (s : State) (d : DIx) : Bool :=
  decide (s.rd (F.OBST_CFG_EDGE_MUTE_GAP d) ≠ 0) && decide (s.leafGap d < 100 * s.rd (F.OBST_CFG_EDGE_MUTE_GAP d))

/-- Is the light curtain muted (R235)? -/
def State.lcMuted (s : State) (d : DIx) : Bool := decide (s.leafGap d < 100 * s.rd (F.OBST_CFG_LC_MUTE_GAP d))

/-- Edge n counts as activated: its filter says so, or the reference of its ASIC is out (R331). -/
def State.edgeActive (s : State) (d : DIx) (n : Nat) : Bool :=
  s.edgeEn d n && ((s.edge d n).activated || s.flag (F.FIO_STATUS_REF_ERR (asicOf d)))

/-! ## Zone sets and the verdict as a reader sees it -/

/-- The zone set that a state selects (R98); `phase` is the phase of a proof stroke. -/
def zoneSet (st : SeqState) (phase : Nat) : Nat :=
  match st with
  | .warning | .closing => 2
  | .sealing => 3
  | .stepDeploy | .stepStow => 4
  | .obstructed | .reversing => 5
  | .proofStroke => if phase = 2 ∨ phase = 3 then 2 else if phase = 4 then 3 else 1
  | _ => 1

/-- The zone set that the doorway's present state needs. -/
def State.needSet (s : State) (d : DIx) : Nat := zoneSet (s.st d) (s.seq d).phase

/-- The verdict words (R107). -/
def vClear : Nat := 0x5A
def vObst : Nat := 0xA5
def vUnknown : Nat := 0x3C

/-- Age of the held verdict, ticks (R109). -/
def State.verdictAge (s : State) (d : DIx) : Nat := (s.tick + 2 ^ 32 - s.rd (F.VERDICT_TREF d)) % 2 ^ 32

/-- The verdict as read now: the word and the cause (R107–R110). The causes held with the verdict are those of its frame. -/
def State.verdictNow (s : State) (d : DIx) : Nat × Nat :=
  let stale := decide (12800000 < s.verdictAge d) || s.rd (F.VERDICT_VERDICT d) == 0
  let wrong := s.rd (F.VERDICT_ZONESET d) != s.needSet d
  let w := s.rd (F.VERDICT_VERDICT d)
  let causes := (s.topi d).causes ++ (if wrong then [0x0A] else [])
  let known := w == vClear || w == vObst
  if known && causes.isEmpty && !stale then (w, 0)
  else (vUnknown, match causes.foldl (fun (m : Option Nat) c => match m with | none => some c | some x => some (min x c)) none with
    | some c => c
    | none => if stale then 1 else s.rd (F.VERDICT_CAUSE d))

/-! ## Force estimate -/

/-- Sine and cosine of the fixed table at electrical position n. -/
def sinAt (n : Nat) : Int := Config.sine (n % 1024)
def cosAt (n : Nat) : Int := Config.sine ((n + 256) % 1024)

/-- Sign of DIR_INV (R165). -/
def State.dirSign (s : State) (d : DIx) (a : AIx) : Int := if s.flag (F.DRV_CFG_DIR_INV d a) then -1 else 1

/-- Electrical position of a position in microsteps. -/
def State.elecOf (s : State) (d : DIx) (a : AIx) (usteps : Int) : Nat := (s.dirSign d a * usteps % 1024).toNat

/-- The drive force of an axis in N along +axis (R232). DESIGN CHOICE (log entry 167): the division of the pseudocode drops the fraction. -/
def State.fDrive (s : State) (d : DIx) (a : AIx) : Int :=
  let x := s.axis d a
  let th := s.elecOf d a (roundDiv (s.pos d a * s.rd (F.SCALE d a)) 6553600)
  quot (s.rd (F.FORCE_MODEL_KF d a.val) * (x.iB * cosAt th - x.iA * sinAt th)) 32768000000

/-- f_res of an axis in N (R232), positive when something pushes back: FRIC in 0.1 N, VISC in 0.1 N·s/m with |v| in 0.1 mm/s, M_EFF in 0.1 kg. -/
def State.fRes (s : State) (d : DIx) (a : AIx) : Int :=
  let x := s.axis d a
  let dir : Int := if x.up then 1 else -1
  quot (100000 * (dir * s.fDrive d a) - 10000 * s.rd (F.FORCE_MODEL2_FRIC d a.val) - s.rd (F.FORCE_MODEL2_VISC d a.val) * (s.rdS (F.MSPEED d a)).natAbs
    - 10 * s.rd (F.FORCE_MODEL_M_EFF d a.val) * x.acc) 100000

/-- Window of the force mean in drive frames; 0 selects 8.9 ms (R233). -/
def State.forceFrames (s : State) (d : DIx) : Nat := 4 * (let f := s.rd (F.FORCE_CFG2_FORCE_FILT d); if f = 0 then 89 else f)

/-- Sum of f_res over the window, N, and the number of its samples: frames before the move count 0, frames without feedback count no sample (R233,
R234, log entry 10). -/
def State.forceSum (s : State) (d : DIx) (a : AIx) : Int × Nat :=
  let w := (s.axis d a).fwin
  (w.foldl (fun t x => t + x.getD 0) 0, s.forceFrames d - w.countP (·.isNone))

/-- Mean of f_res over the window, N, for FORCE_NOW. -/
def State.forceMean (s : State) (d : DIx) (a : AIx) : Int := roundDiv (s.forceSum d a).1 (s.forceSum d a).2

/-- Does the mean exceed a threshold in N? -/
def State.forceAbove (s : State) (d : DIx) (a : AIx) (thr : Int) : Bool := decide (thr * (s.forceSum d a).2 < (s.forceSum d a).1)

/-- Offset of the force signatures in a model (R95): after the pose paths. -/
def fsigAt : Nat := 0x00100 + 3 * 65 * 12

/-- Signature sample of a leaf at m mm, 1–30, in N (R95). -/
def fsig (model : List Byte) (leaf m : Nat) : Int := signed 16 (fieldAt model (fsigAt + 64 * leaf + 2 * (30 - m)) 2)

/-- Learned holding force of a leaf, N (R95). -/
def fsigHold (model : List Byte) (leaf : Nat) : Int := signed 16 (fieldAt model (fsigAt + 64 * leaf + 60) 2)

/-- Is the doorway's model confirmed (R94)? -/
def State.modelOk (s : State) (d : DIx) : Bool := s.rd (F.TOPI_STATUS_MODEL d) == 1

/-- Is a leaf over force (R233)? For the step, STEP_FMAX in both directions (R247). -/
def State.overForce (s : State) (d : DIx) (a : AIx) : Bool :=
  if !(s.flag (F.AX_STATUS_ENABLED d a) && s.flag (F.AX_STATUS_MOVING d a)) then false
  else if a = 2 then s.forceAbove d a (s.rd (F.STEP_FORCE_STEP_FMAX d))
  else if (s.axis d a).up then s.forceAbove d a (s.rd (F.FORCE_CFG_FORCE_OPEN d))
  else
    let p := s.pos d a
    if p < 3000 then
      if s.modelOk d then
        let mm := max 1 (min 30 ((p + 50) / 100).toNat)
        s.forceAbove d a (s.rd (F.FORCE_CFG_FORCE_CLOSE d) + fsig (s.topi d).model a.val mm)
      else s.forceAbove d a (s.rd (F.FORCE_CFG2_FORCE_SEAL d))
    else s.forceAbove d a (s.rd (F.FORCE_CFG_FORCE_CLOSE d))

/-- SEEN holds sticky copies of bits [6:0] of OBST_STATUS (R250). -/
def State.obstSeen (s : State) (d : DIx) : State :=
  s.wr (F.OBST_STATUS_SEEN d) (Nat.lor (s.rd (F.OBST_STATUS_SEEN d)) ((s.reg (F.OBST_STATUS d).addr).toNat % 128))

/-- The profile sample of a leaf that moves towards closed (R114, R232): the frame in which its position passes a whole millimetre, 30 to 1, `q`
being its position in the last frame with feedback. -/
def State.profSample (s : State) (d : DIx) (a : AIx) (q p f : Int) : State :=
  let mm := ((p + 99) / 100).toNat
  let t := s.topi d
  let old := if a = 0 then t.profA else t.profB
  if 1 ≤ mm ∧ mm ≤ 30 ∧ (100 * mm : Int) ≤ q ∧ old.all (fun x => x.1 != mm) = true then
    s.modTopi d (fun t => if a = 0 then { t with profA := (mm, f) :: t.profA } else { t with profB := (mm, f) :: t.profB })
  else s

/-- A leaf on a hold stop that moves towards closed from position `q` to `p` misses every sample it passes: the profile counts as outside the band
(R114). -/
def State.profMiss (s : State) (d : DIx) (q p : Int) : State :=
  if q ≤ 3000 + 99 ∧ (q + 99) / 100 ≠ (p + 99) / 100 then s.modTopi d (fun t => { t with profLost := true }) else s

/-- Form the force estimate of an axis in a drive frame, once its commanded acceleration of this frame is known (R232–R234, R250): the window,
FORCE_NOW, FORCE_PEAK, the over-force flag and the samples of R114. -/
def State.forceFrame (s : State) (d : DIx) (a : AIx) (fresh : Bool) : State :=
  let run := s.flag (F.AX_STATUS_ENABLED d a) && s.flag (F.AX_STATUS_MOVING d a)
  let f := s.fRes d a
  let q := (s.axis d a).fpos
  let s := s.modAx d a (fun x => { x with
    fpos := if !run then none else if fresh then some (s.pos d a) else q
    fwin := if run then ((if fresh then some f else none) :: x.fwin).take (s.forceFrames d) else [] })
  let isOver := s.overForce d a
  let s := s.modAx d a (fun x => { x with isOver := isOver })
  if a = 2 then s
  else
    let n := if run then s.forceMean d a else 0
    let n := clampI (-32768) 32767 n
    let s := if a = 0 then (s.wrS (F.FORCE_NOW_FA d) n).setF (F.OBST_STATUS_FORCE0 d) isOver
      else (s.wrS (F.FORCE_NOW_FB d) n).setF (F.OBST_STATUS_FORCE1 d) isOver
    let closing := s.st d == .closing && run && !(s.axis d a).up
    let pk := if a = 0 then F.FORCE_PEAK_PA d else F.FORCE_PEAK_PB d
    let s := s.when (closing && decide (s.rdS pk < n)) (fun t => t.wrS pk n)
    let s := s.obstSeen d
    -- the holding force over the first 20 ms of the seal (R114)
    let s := if s.needSet d == 3 && !(s.topi d).fixed && fresh then
        s.modTopi d (fun t => if a = 0 then { t with holdA := s.fDrive d a :: t.holdA } else { t with holdB := s.fDrive d a :: t.holdB })
      else s
    match q with
    | some q =>
      if !(run && fresh && !(s.axis d a).up) then s
      else if (s.axis d a).gen == Gen.holdStop then s.profMiss d q (s.pos d a)
      else s.profSample d a q (s.pos d a) f
    | none => s

/-! ## The fusion (R236–R240) -/

/-- The sources that the state counts (R238), in the order of bits [6:0] of OBST_STATUS, from levels e0 e1 f0 f1 lc v st; `upA` and `upB` say that
leaf A or B moves towards open. -/
def counted (st : SeqState) (phase : Nat) (upA upB : Bool) (e0 e1 f0 f1 lc v stall : Bool) : List Bool :=
  match st with
  | .warning => [e0, e1, false, false, lc, v, false]
  | .closing => [e0, e1, f0 && !upA, f1 && !upB, lc, v, stall]
  | .sealing => [e0, e1, false, false, false, v, stall]
  | .opening => [false, false, f0 && upA, f1 && upB, false, false, stall]
  | .reversing => [false, false, f0 && upA, f1 && upB, false, false, stall]
  | .proofStroke =>
    if phase = 2 ∨ phase = 3 then [e0, e1, f0, f1, lc, v, stall]
    else if phase = 4 then [e0, e1, false, false, false, v, stall]
    else [false, false, false, false, false, false, false]
  | .obstructed => [e0, e1, f0, f1, lc, v, stall]
  | _ => [false, false, false, false, false, false, false]

/-- Cause code of the first reporting source in the order of R239: edge, light curtain, force, stall, verdict. -/
def causeOf (l : List Bool) : Option Nat :=
  if nth l 0 false || nth l 1 false then some 0x06
  else if nth l 4 false then some 0x09
  else if nth l 2 false || nth l 3 false then some 0x07
  else if nth l 6 false then some 0x17
  else if nth l 5 false then some 0x08
  else none

/-- The bits of a list of flags. -/
def bitsFrom : List Bool → Nat
  | [] => 0
  | b :: l => b2n b + 2 * bitsFrom l

/-- Refresh the level bits of OBST_STATUS (R250). -/
def State.obstLevels (s : State) (d : DIx) : State :=
  let em := s.edgeMuted d
  let lm := s.lcMuted d
  let s := (s.setF (F.OBST_STATUS_EDGE_MUTED d) em).setF (F.OBST_STATUS_LC_MUTED d) lm
  let s := (s.setF (F.OBST_STATUS_EDGE0 d) (s.edgeActive d 0 && !em)).setF (F.OBST_STATUS_EDGE1 d) (s.edgeActive d 1 && !em)
  (s.setF (F.OBST_STATUS_LC d) (s.hasPd && s.flag (F.OBST_CFG_LC_EN d) && s.flag (F.PD_STATUS_LC_OFF d) && !lm)).obstSeen d

/-- The seven counted sources now, with the verdict level given. -/
def State.sources (s : State) (d : DIx) (v : Bool) : List Bool :=
  counted (s.st d) (s.seq d).phase ((s.axis d 0).up) ((s.axis d 1).up) (s.flag (F.OBST_STATUS_EDGE0 d)) (s.flag (F.OBST_STATUS_EDGE1 d))
    (s.flag (F.OBST_STATUS_FORCE0 d)) (s.flag (F.OBST_STATUS_FORCE1 d)) (s.flag (F.OBST_STATUS_LC d)) v (s.flag (F.OBST_STATUS_STALL d))

/-- Count an obstacle that starts an SS1 by its cause (R250); stalls are counted in COUNTS.STALL. -/
def State.countObstacle (s : State) (d : DIx) (c : Nat) : State :=
  let s := s.modCyc d (fun y => { y with obst := match c with
    | 0x06 => setNth y.obst 0 (nth y.obst 0 0 + 1)
    | 0x07 => setNth y.obst 1 (nth y.obst 1 0 + 1)
    | 0x09 => setNth y.obst 2 (nth y.obst 2 0 + 1)
    | 0x08 => setNth y.obst 3 (nth y.obst 3 0 + 1)
    | _ => y.obst })
  match c with
  | 0x06 => s.inc (F.OBST_CNT_EDGE d)
  | 0x07 => s.inc (F.OBST_CNT_FORCE d)
  | 0x09 => s.inc (F.OBST_CNT_LC d)
  | 0x08 => s.inc (F.OBST_CNT_VERDICT d)
  | _ => s

/-- One evaluation with a counted obstacle in WARNING: WARN_TIME counts from zero again; a restart is counted at each rise of the fused
obstacle, with the OR of the sources of all (R240; log 20). -/
def State.warnRestart (s : State) (d : DIx) (src : Nat) : State :=
  (s.modSeq d (fun q => { q with warnFrom := s.now })).modObst d (fun o =>
    { o with warnN := if o.warnOn then o.warnN else o.warnN + 1, warnSrc := Nat.lor o.warnSrc src, warnOn := true })

/-- One evaluation of the fusion (R238, R239): restart WARN_TIME in WARNING (R240), start one SS1 elsewhere; a stall report is spent once it has been
seen. `v` says that a verdict obstacle is reported in this evaluation; one that stood at the last tick keeps a restart from ending. -/
def State.fusion (s : State) (d : DIx) (v : Bool) : State :=
  let s := s.obstLevels d
  let src := s.sources d v
  let s := match causeOf src with
    | none => s.modObst d (fun o => { o with warnOn := o.warnOn && (causeOf (s.sources d (s.flag (F.OBST_STATUS_VERDICT d)))).isSome })
    | some c =>
      if s.st d == SeqState.warning then s.warnRestart d (bitsFrom src)
      else if s.st d == SeqState.obstructed || s.rd (F.OBST_STATUS_SS1 d) != 0 then s
      else (s.countObstacle d c).ss1Start d (some c) false 0
  s.setF (F.OBST_STATUS_STALL d) false

/-! ## SS1 while it runs -/

/-- SS1_MIN; 0 selects 500 mm/s² (R242). -/
def State.ss1Min (s : State) (d : DIx) : Nat := let v := s.rd (F.SS1_CFG_SS1_MIN d); if v = 0 then 500 else v

/-- SS1_DEC; 0 selects 3,500 mm/s² (R241). -/
def State.ss1Dec (s : State) (d : DIx) : Nat := let v := s.rd (F.SS1_CFG_SS1_DEC d); if v = 0 then 3500 else v

/-- The envelope v_env in 0.1 mm/s × 16,000,000 (R242), `v0` in 0.1 mm/s, `t` ticks since the start. -/
def envelope (v0 ss1Min t : Nat) : Int := ((v0 + 100 : Nat) : Int) * 16000000 - (ss1Min : Int) * ((t - 320000 : Nat) : Int)

/-- Is the measured speed of an axis above the envelope? -/
def State.aboveEnvelope (s : State) (d : DIx) (a : AIx) (t0 : Nat) : Bool :=
  decide (envelope (s.axis d a).v0 (s.ss1Min d) (s.now - t0) < ((s.rdS (F.MSPEED d a)).natAbs : Int) * 16000000)

/-- Is the speed of an axis monitored: in an SS1 that acts on it (R242), or in a hold stop (R433)? -/
def State.monitored (s : State) (d : DIx) (a : AIx) : Bool :=
  ((s.axis d a).ss1On && s.rd (F.OBST_STATUS_SS1 d) == 1) || (s.axis d a).gen == Gen.holdStop

/-- Check the envelope of an axis in a drive frame, in SS1 or in a hold stop (R433); a breach after four frames commands STO (R242). -/
def State.breachCheck (s : State) (d : DIx) (a : AIx) : State :=
  let o := s.obst d
  if !s.monitored d a then s
  else
    let n := if s.aboveEnvelope d a o.t0 then (s.axis d a).breachN + 1 else 0
    let s := s.modAx d a (fun x => { x with breachN := n })
    if n < 4 then s
    else
      let v := envelope (s.axis d a).v0 (s.ss1Min d) (s.now - o.t0) / 16000000
      let s := (s.setF (F.OBST_STATUS_BREACH d) true).stage 0x2703 d.val [a.val, unsigned 32 (s.rdS (F.MSPEED d a)), unsigned 32 v, (s.now - o.t0) / 160]
      s.sto d 3 3

/-- STO when every axis that was moving reads below 5 mm/s, or after 120 ms (R243). -/
def State.ss1Check (s : State) (d : DIx) : State :=
  if s.rd (F.OBST_STATUS_SS1 d) ≠ 1 then s
  else if allA.all (fun a => !(s.axis d a).ss1On || decide ((s.rdS (F.MSPEED d a)).natAbs < 50)) then s.sto d 2 1
  else if s.past (s.obst d).t0 (msT 120) then s.sto d 2 2
  else s

/-- SS1_TIMEOUT: 120 ms after t0 (R243). -/
def ss1Timeout (d : DIx) (s : State) : State :=
  s.onD d fun s => if s.rd (F.OBST_STATUS_SS1 d) = 1 ∧ s.past (s.obst d).t0 (msT 120) = true then s.sto d 2 2 else s

/-! ## The commands of this file -/

/-- The meaning of SS1_TIMEOUT (R243). -/
def execSs1Timeout (d : DIx) (s : State) : Host.Outcome State Fault Refusal := .next (s.done (ss1Timeout d s))

/-- The meaning of EDGE_FAULT (R230). -/
def execEdgeFault (d : DIx) (n : Fin 2) (s : State) : Host.Outcome State Fault Refusal := .next (s.done (edgeFault d n s))

/-- The meaning of EDGE_FAULT_CLEAR (R230). -/
def execEdgeFaultClear (d : DIx) (n : Fin 2) (s : State) : Host.Outcome State Fault Refusal := .next (s.done (edgeFaultClear d n s))

end Sys2Proof.Machine
end

