-- ==== Sys2Proof/Machine/Protective.lean ====
section
/-!
DEFINITION. Machine/Protective.lean: the protective devices of a doorway (chapter 9): emergency handle (R292–R294), test-pulse check
(R291), maintenance guard (R295–R297), two-hand control (R298–R300) and light curtain (R301, R302).
-/
namespace Sys2Proof.Machine

/-! ## Emergency handle -/

/-- A channel of the handle is open, or a latch counts as an operation (R292). -/
def State.handleOpen (s : State) (d : DIx) : Bool :=
  !s.flag (F.PD_STATUS_H1 d) || !s.flag (F.PD_STATUS_H2 d) || s.flag (F.PD_STATUS_HANDLE_DISC d) || s.flag (F.PD_STATUS_HANDLE_XS d)

/-- The handle becomes operated: SS1 on every moving axis, and the loops open (R293). -/
def State.handleOperate (s : State) (d : DIx) : State :=
  if s.handleOpen d && !s.flag (F.PD_STATUS_HANDLE_OP d) then
    let s := (s.setF (F.PD_STATUS_HANDLE_OP d) true).inc (F.PD_CNT_HANDLE d)
    let s := s.when (s.anyMoving d) (fun t => t.ss1Start d none false 0)
    (s.setF (F.PD_STATUS_HANDLE_LOOP d) true).evalOutputs
  else s

/-- The handle is no longer operated; it is evaluated under its new settings from here (R306). -/
def State.handleRest (s : State) (d : DIx) : State :=
  s.when (!s.handleOpen d) (fun t => (t.setF (F.PD_STATUS_HANDLE_OP d) false).modProt d (fun p => { p with handleOld := none }))

/-- HANDLE_OPERATED (R293). -/
def handleOperated (d : DIx) (s : State) : State := s.onD d (fun s => s.handleOperate d)

/-- HANDLE_DISCREPANCY: the channels differ for more than 500 ms (R292). -/
def handleDiscrepancy (d : DIx) (s : State) : State :=
  s.onD d fun s =>
    match (s.prot d).hDiff with
    | some t =>
      if decide (t + msT 500 < s.now) && !s.flag (F.PD_STATUS_HANDLE_DISC d) then
        let h1 := s.flag (F.PD_STATUS_H1 d)
        let h2 := s.flag (F.PD_STATUS_H2 d)
        let s := (s.fault d 0x4901).setF (F.PD_STATUS_HANDLE_DISC d) true
        let s := s.modProt d (fun p => { p with handleEdge := false })
        (s.stage 0x4901 d.val [b2n h1, b2n h2, s.msSince t (2 ^ 32 - 1)]).handleOperate d
      else s
    | none => s

/-- HANDLE_DISCREPANCY_CLEAR: the channels agreed for 1 s, or, on DS24-24X, were both open together and then both restored (R292). -/
def handleDiscrepancyClear (d : DIx) (s : State) : State :=
  s.onD d fun s =>
    let ok := if s.hasPd then (s.prot d).handleEdge && s.flag (F.PD_STATUS_H1 d) && s.flag (F.PD_STATUS_H2 d)
      else s.ran (s.prot d).hAgree 1000
    if s.flag (F.PD_STATUS_HANDLE_DISC d) && ok then (s.setF (F.PD_STATUS_HANDLE_DISC d) false).handleRest d else s

/-! ## Test pulses -/

/-- Test-pulse counters of input ch (0 HANDLE1, 1 HANDLE2, 2 GUARD1, 3 GUARD2): foreign pulses seen at 2 ch, own pulses missed at
2 ch + 1. -/
def State.xsCount (s : State) (d : DIx) (i : Nat) : Nat := nth (s.prot d).xsRuns i 0

/-- Does the input read ON and take part in the pulse check (R290, R291)? -/
def State.tpsChecked (s : State) (d : DIx) (ch : Nat) : Bool :=
  let guard := s.flag (F.PD_CFG_GUARD_EN d) && s.flag (F.PD_CFG_GUARD_TPS d)
  match ch with
  | 0 => s.flag (F.PD_STATUS_H1 d)
  | 1 => s.flag (F.PD_STATUS_H2 d)
  | 2 => guard && s.flag (F.PD_STATUS_G1 d)
  | _ => guard && s.flag (F.PD_STATUS_G2 d)

/-- An input that reads OFF is not checked: what its pulses showed before counts no further (R291, R292). -/
def ProtH.forget (p : ProtH) (ch : Nat) : ProtH :=
  let p := { p with xsRuns := setNth (setNth p.xsRuns (2 * ch) 0) (2 * ch + 1) 0 }
  if ch < 2 then { p with xsOkSince := none } else { p with gXsOkSince := none }

/-- A handle cross-short latches (R292). -/
def State.handleShort (s : State) (d : DIx) (ch kind : Nat) : State :=
  if s.flag (F.PD_STATUS_HANDLE_XS d) then s
  else
    let s := (s.fault d 0x4902).setF (F.PD_STATUS_HANDLE_XS d) true
    (s.stage 0x4902 d.val [ch + 1, kind]).handleOperate d

/-- A guard cross-short (R295). -/
def State.guardShort (s : State) (d : DIx) : State :=
  if (s.prot d).gXs then s
  else
    let s := (s.fault d 0x4903).modProt d (fun p => { p with gXs := true })
    s.stage 0x4903 d.val [2, b2n (s.flag (F.PD_STATUS_G1 d)), b2n (s.flag (F.PD_STATUS_G2 d))]

/-- Start of the pulse of a test-pulse source in the 50 ms frame of R273, µs (R290). -/
def tpsUs (src : Nat) : Nat := if src = 0 then 6250 else 31250

/-- The 300 µs pulse of source `src` has ended, and input `ch` has not been checked at it yet (R290, R291). -/
def State.tpsDue (s : State) (d : DIx) (src ch : Nat) : Bool :=
  let phase := (s.tb + msT 50 - usT (tpsUs src)) % msT 50
  decide (usT 300 ≤ phase) && (match nth (s.prot d).xsAt (2 * ch + src) none with | some t => decide (t + phase < s.tb) | none => true)

/-- TPS_PULSE_CHECK: at a pulse of source `src` (0 TPS_A, 1 TPS_B), input `ch` did or did not show the pulse (R290, R291). The sources
of a module without authority are disconnected, so it checks nothing (R422). -/
def tpsPulseCheck (d : DIx) (src : Fin 2) (ch : Fin 4) (shown : Bool) (s : State) : State :=
  s.onD d fun s =>
    if !s.hasPd then s
    else if !s.tpsChecked d ch.val || !s.hasAuth then s.modProt d (fun p => p.forget ch.val)
    else if !s.tpsDue d src.val ch.val then s
    else
      let s := s.modProt d (fun p => { p with xsAt := setNth p.xsAt (2 * ch.val + src.val) (some s.tb) })
      let own := src.val == ch.val % 2
      let i := 2 * ch.val + b2n own
      let bad := shown != own
      let n := if bad then s.xsCount d i + 1 else 0
      let s := s.modProt d (fun p => { p with xsRuns := setNth p.xsRuns i n })
      let clean : Option Nat → Option Nat := fun t => if bad then none else (match t with | some x => some x | none => some s.now)
      let s := s.modProt d (fun p => if ch.val < 2 then { p with xsOkSince := clean p.xsOkSince } else { p with gXsOkSince := clean p.gXsOkSince })
      if n < 2 then s
      else if ch.val < 2 then s.handleShort d ch.val (if own then 2 else 1)
      else s.guardShort d

/-- HANDLE_XS clears on a reset edge in scope once the pulses have been followed for 1 s (R292). -/
def State.handleShortReset (s : State) (d : DIx) : State :=
  if s.flag (F.PD_STATUS_HANDLE_XS d) && s.ran (s.prot d).xsOkSince 1000 then (s.setF (F.PD_STATUS_HANDLE_XS d) false).handleRest d else s

/-- The axis that runs a host move, if any. -/
def State.hostAxis (s : State) (d : DIx) : Option AIx := allA.find? (fun a => s.flag (F.AX_STATUS_MOVING d a) && (s.axis d a).host)

/-! ## Maintenance guard -/

/-- Is the guard open (R295)? -/
def State.guardIsOpen (s : State) (d : DIx) : Bool :=
  !s.flag (F.PD_STATUS_G1 d) || !s.flag (F.PD_STATUS_G2 d) || s.flag (F.PD_STATUS_GUARD_FAULT d) ||
  (s.flag (F.PD_CFG_GUARD_TPS d) && (s.prot d).gXs)

/-- Does the doorway have a guard (R288)? -/
def State.hasGuard (s : State) (d : DIx) : Bool := s.hasPd && s.flag (F.PD_CFG_GUARD_EN d)

/-- GUARD_OPEN: the guard becomes open (R296). -/
def guardOpen (d : DIx) (s : State) : State :=
  s.onD d fun s =>
    if s.hasGuard d && s.guardIsOpen d && !s.flag (F.PD_STATUS_GUARD_OPEN d) then
      let st := s.st d
      let s := s.setF (F.PD_STATUS_GUARD_OPEN d) true
      let rest := st == .held || st == .unproven || st == .closedLocked || st == .isolated
      if s.flag F.TRN_STATUS_DEPOT && s.zeroSpeed && rest then
        -- a host move that runs under the two-hand condition goes on (R297)
        let held := (s.hostAxis d).isSome && s.flag (F.PD_STATUS_TH_OK d)
        ((s.setF (F.PD_STATUS_MAINT d) true).when (!held) (fun t => t.torqueOff d)).stage 0x3901 d.val [1, st.code]
      else if st == .fenced || st == .emergency then s.stage 0x3901 d.val [0, st.code]
      else (s.fence d 7).stage 0x3901 d.val [2, st.code]
    else s

/-- GUARD_CLOSED: the guard is closed; MAINT clears at the next tick (R297). -/
def guardClosed (d : DIx) (s : State) : State :=
  s.onD d fun s => if s.hasGuard d && !s.guardIsOpen d then s.setF (F.PD_STATUS_GUARD_OPEN d) false else s

/-- GUARD_FAULT: the channels differ for more than 500 ms (R295). -/
def guardFault (d : DIx) (s : State) : State :=
  s.onD d fun s =>
    match (s.prot d).gDiff with
    | some t =>
      if s.hasGuard d && decide (t + msT 500 < s.now) && !s.flag (F.PD_STATUS_GUARD_FAULT d) then
        let s := (s.fault d 0x4903).setF (F.PD_STATUS_GUARD_FAULT d) true
        s.stage 0x4903 d.val [1, b2n (s.flag (F.PD_STATUS_G1 d)), b2n (s.flag (F.PD_STATUS_G2 d))]
      else s
    | none => s

/-- GUARD_FAULT_CLEAR: both channels made, and their pulses followed, for 1 s (R295). -/
def guardFaultClear (d : DIx) (s : State) : State :=
  s.onD d fun s =>
    let p := s.prot d
    if s.hasGuard d && s.ran p.gAgree 1000 && (!s.flag (F.PD_CFG_GUARD_TPS d) || s.ran p.gXsOkSince 1000) then
      (s.setF (F.PD_STATUS_GUARD_FAULT d) false).modProt d (fun p => { p with gXs := false })
    else s

/-! ## Two-hand control -/

/-- The filtered levels of the inputs of the two-hand devices (R298). -/
def State.thIns (s : State) (d : DIx) : List Bool :=
  [F.PD_IN2_TH1, F.PD_IN2_TH2, F.PD_IN2_TH3, F.PD_IN2_TH4].map (fun f => s.role d (f d))

/-- Their unfiltered levels: a filtered level that its input does not share, as while a filter fills after BOOT, shows no release (R299). -/
def State.thRaw (s : State) (d : DIx) : List Bool :=
  [F.PD_IN2_TH1, F.PD_IN2_TH2, F.PD_IN2_TH3, F.PD_IN2_TH4].map (fun f => decide (s.rd (f d) < 16) && bitOf (s.rd (F.IN_STATE_RAW d)) (s.rd (f d)))

/-- Device A or B of the two-hand control is actuated (R298). -/
def State.thDevices (s : State) (d : DIx) : Bool × Bool :=
  let i : Fld → Bool := s.role d
  if s.flag (F.PD_CFG_TH_MODE d) then
    (i (F.PD_IN2_TH1 d) && !i (F.PD_IN2_TH2 d), i (F.PD_IN2_TH3 d) && !i (F.PD_IN2_TH4 d))
  else (i (F.PD_IN2_TH1 d), i (F.PD_IN2_TH2 d))

/-- A contact fault of device 0 A or 1 B is present: both contacts made, or both open (R298). -/
def State.thContact (s : State) (d : DIx) (dev : Nat) : Bool :=
  s.flag (F.PD_CFG_TH_MODE d) &&
  (if dev = 0 then s.role d (F.PD_IN2_TH1 d) == s.role d (F.PD_IN2_TH2 d) else s.role d (F.PD_IN2_TH3 d) == s.role d (F.PD_IN2_TH4 d))

/-- Does the doorway have a two-hand control (R288)? -/
def State.hasTh (s : State) (d : DIx) : Bool := s.hasPd && s.flag (F.PD_CFG_TH_EN d)

/-- A host move of the doorway needs TH_OK (R300). -/
def State.needTh (s : State) (d : DIx) : Bool := s.hasPd && (s.flag (F.PD_STATUS_MAINT d) || s.flag (F.PD_CFG_TH_REQ d))

/-- TH_OK clears; a host move that needs it stops through SS1 (R300); in EMERGENCY that has no further effect (R294). -/
def State.thLost (s : State) (d : DIx) : State :=
  if !s.flag (F.PD_STATUS_TH_OK d) then s
  else
    let s := s.setF (F.PD_STATUS_TH_OK d) false
    match s.hostAxis d with
    | some a => if s.needTh d && s.st d != .emergency then (s.inc (F.PD_CNT_TH_STOP d)).ss1Start d none true a.val else s
    | none => s

/-- TWO_HAND_CHANGE: evaluate TH_OK from the filtered inputs (R299). -/
def twoHandChange (d : DIx) (s : State) : State :=
  s.onD d fun s =>
    if !s.hasTh d then s
    else
      let dev := s.thDevices d
      let a := dev.1
      let b := dev.2
      let both := s.flag (F.PD_STATUS_TH_A d) && s.flag (F.PD_STATUS_TH_B d)
      let s := (s.setF (F.PD_STATUS_TH_A d) a).setF (F.PD_STATUS_TH_B d) b
      let at_ : Bool → Option Nat → Option Nat := fun on t => if on then (match t with | some x => some x | none => some s.now) else none
      let s := s.modProt d (fun p => { p with thAAt := at_ a p.thAAt, thBAt := at_ b p.thBAt, thReady := p.thReady || (!a && !b && s.thIns d == s.thRaw d) })
      let s := s.when (!a && !b) (fun t => t.setF (F.PD_STATUS_TH_SYNC_ERR d) false)
      let p := s.prot d
      if !(a && b) then s.thLost d
      else if both then s
      else
        let ta := p.thAAt.getD s.now
        let tb := p.thBAt.getD s.now
        let s := s.modProt d (fun p => { p with thReady := false })
        if msT 500 < max ta tb - min ta tb then s.setF (F.PD_STATUS_TH_SYNC_ERR d) true
        else s.when (p.thReady && !s.flag (F.PD_STATUS_TH_FAULT d)) (fun t => t.setF (F.PD_STATUS_TH_OK d) true)

/-- TWO_HAND_FAULT: a contact fault of one device for 50 ms (R298). -/
def twoHandFault (d : DIx) (dev : Fin 2) (s : State) : State :=
  s.onD d fun s =>
    let p := s.prot d
    if s.hasTh d && s.ran (if dev.val = 0 then p.thADiff else p.thBDiff) 50 && !s.flag (F.PD_STATUS_TH_FAULT d) then
      let s := ((s.fault d 0x4904).setF (F.PD_STATUS_TH_FAULT d) true).thLost d
      s.stage 0x4904 d.val [dev.val, bitsOf (s.rd (F.PD_STATUS d)) 11 5]
    else s

/-- TWO_HAND_FAULT_CLEAR: both devices released and consistent for 1 s (R298). -/
def twoHandFaultClear (d : DIx) (s : State) : State :=
  s.onD d fun s => if s.hasTh d && s.ran (s.prot d).thRelSince 1000 then s.setF (F.PD_STATUS_TH_FAULT d) false else s

/-! ## Light curtain -/

/-- Does the doorway have a light curtain (R288)? -/
def State.hasLc (s : State) (d : DIx) : Bool := s.hasPd && s.flag (F.OBST_CFG_LC_EN d)

/-- Refresh LC_OFF (R301). -/
def State.lcUpdate (s : State) (d : DIx) : State :=
  let o1 := s.flag (F.PD_STATUS_OSSD1 d)
  let o2 := s.flag (F.PD_STATUS_OSSD2 d)
  let f := s.flag (F.PD_STATUS_LC_FAULT d)
  s.setF (F.PD_STATUS_LC_OFF d) (if s.flag (F.LC_CFG_LC_TYPE d) then !o1 || s.flag (F.PD_STATUS_LC_TESTING d) || f else !o1 || !o2 || f)

/-- A curtain fault of a kind (R301, R302). -/
def State.lcFaultSet (s : State) (d : DIx) (kind : Nat) : State :=
  let s := s.fault d 0x4905
  let s := ((s.setF (F.PD_STATUS_LC_FAULT d) true).showStanding d).lcUpdate d
  (s.modProt d (fun p => { p with lcSeenOff := false })).stage 0x4905 d.val [kind, bitsOf (s.rd (F.PD_STATUS d)) 16 6]

/-- A curtain fault clears. -/
def State.lcFaultClear (s : State) (d : DIx) : State := ((s.setF (F.PD_STATUS_LC_FAULT d) false).showStanding d).lcUpdate d

/-- Start a test of a Type 2 curtain, step 1 of R302. -/
def State.lcTestStart (s : State) (d : DIx) : State :=
  if s.hasLc d && s.flag (F.LC_CFG_LC_TYPE d) && !s.flag (F.PD_STATUS_LC_TESTING d) then
    let s := (s.setF (F.PD_STATUS_LC_TESTING d) true).modProt d (fun p => { p with lcKind := 1, lcTestAt := some s.now })
    (s.lcUpdate d).evalChans d
  else s

/-- A test ends. -/
def State.lcTestEnd (s : State) (d : DIx) (ok : Bool) : State :=
  let s := ((s.setF (F.PD_STATUS_LC_TESTING d) false).setF (F.PD_STATUS_LC_TEST_OK d) ok).setF (F.PD_CTL_LC_TEST d) false
  let s := s.modProt d (fun p => { p with lcKind := 0, lcTestAt := none, lcOffSince := none, lcPassAt := if ok then some s.runTime else p.lcPassAt })
  (s.lcUpdate d).evalChans d

/-- LC_TEST: PD_CTL.LC_TEST is written (R302); it reads 1 until the test ends (R305), and 0 at once where there is no test to run. -/
def lcTest (d : DIx) (s : State) : State :=
  s.onD d fun s =>
    let s := s.lcTestStart d
    s.setF (F.PD_CTL_LC_TEST d) (s.flag (F.PD_STATUS_LC_TESTING d))

/-- OSSD_CHANGE: the curtain follows its filtered OSSD inputs (R301), and a running test its steps 2–4 (R302). -/
def ossdChange (d : DIx) (s : State) : State :=
  s.onD d fun s =>
    if !s.hasLc d then s
    else
      let o1 := s.flag (F.PD_STATUS_OSSD1 d)
      let o2 := s.flag (F.PD_STATUS_OSSD2 d)
      let s := s.lcUpdate d
      if s.flag (F.LC_CFG_LC_TYPE d) then
        match (s.prot d).lcKind with
        | 1 => if !o1 then (s.modProt d (fun p => { p with lcKind := 2, lcOffSince := some s.now })).evalChans d else s
        | 2 => if o1 then (s.lcTestEnd d true).lcFaultClear d else s
        | _ => s
      else if s.flag (F.PD_STATUS_LC_FAULT d) then
        let s := s.when (!o1 && !o2) (fun t => t.modProt d (fun p => { p with lcSeenOff := true }))
        if o1 && o2 && (s.prot d).lcSeenOff then s.lcFaultClear d else s
      else s

/-- LC_DISC in ticks; 0 selects 100 ms (R301). -/
def State.lcDisc (s : State) (d : DIx) : Nat := let v := s.rd (F.LC_CFG_LC_DISC d); msT (if v = 0 then 100 else 5 * v)

/-- LC_DISCREPANCY: the OSSDs of a Type 4 curtain differ for longer than LC_DISC (R301). -/
def lcDiscrepancy (d : DIx) (s : State) : State :=
  s.onD d fun s =>
    match (s.prot d).lcDiff with
    | some t =>
      if s.hasLc d && !s.flag (F.LC_CFG_LC_TYPE d) && decide (t + s.lcDisc d < s.now) && !s.flag (F.PD_STATUS_LC_FAULT d) then s.lcFaultSet d 1 else s
    | none => s

/-- LC_TEST_RESPONSE_TIMEOUT: step 2 or step 4 of a test fails (R302). -/
def lcTestResponseTimeout (d : DIx) (s : State) : State :=
  s.onD d fun s =>
    let p := s.prot d
    match p.lcKind with
    | 1 => if s.ran p.lcTestAt (s.rd (F.LC_CFG_LC_TEST_RESP d)) then (s.lcTestEnd d false).lcFaultSet d 2 else s
    | 2 => if s.ran p.lcOffSince 200 then (s.lcTestEnd d false).lcFaultSet d 3 else s
    | _ => s

/-- Has the time in RUN since the last passing test, or since the first entry to RUN, reached 24 h (R302)? -/
def State.lcLate (s : State) (d : DIx) : Bool :=
  match (s.prot d).lcPassAt with
  | some t => decide (t + msT 86400000 ≤ s.runTime)
  | none => false

/-- LC_TEST_OVERDUE: 24 h of RUN without a passing test (R302). -/
def lcTestOverdue (d : DIx) (s : State) : State :=
  s.onD d fun s =>
    if s.hasLc d && s.flag (F.LC_CFG_LC_TYPE d) && s.inRun && s.lcLate d && !s.flag (F.PD_STATUS_LC_FAULT d) then s.lcFaultSet d 4
    else s

/-! ## What a field scan refreshes -/

/-- The filtered levels of the devices and the timers of their discrepancies (R292, R295, R298, R301), and the release of both two-hand devices (R299). The contact-fault and release
timers follow the inputs themselves. -/
def State.protUpdate (s : State) (d : DIx) : State :=
  let level : Nat → Bool := fun i => decide (i < 16) && bitOf (s.rd (F.IN_STATE_FILT d)) i
  let h1 := level (s.handleIns d).1
  let h2 := level (s.handleIns d).2.1
  let s := (s.setF (F.PD_STATUS_H1 d) h1).setF (F.PD_STATUS_H2 d) h2
  let keep := s.keep
  let s := s.modProt d (fun p => { p with
    hDiff := keep (h1 != h2) p.hDiff, hAgree := keep (h1 == h2) p.hAgree, handleEdge := p.handleEdge || (!h1 && !h2) })
  let s := s.when (s.flag (F.PD_STATUS_HANDLE_OP d)) (fun t => t.handleRest d)
  if !s.hasPd then s
  else
    let g1 := s.flag (F.PD_CFG_GUARD_EN d) && s.role d (F.PD_IN_GUARD1 d)
    let g2 := s.flag (F.PD_CFG_GUARD_EN d) && s.role d (F.PD_IN_GUARD2 d)
    let s := (s.setF (F.PD_STATUS_G1 d) g1).setF (F.PD_STATUS_G2 d) g2
    let o1 := s.role d (F.PD_IN3_OSSD1_IN d)
    let o2 := s.role d (F.PD_IN3_OSSD2_IN d)
    let s := (s.setF (F.PD_STATUS_OSSD1 d) o1).setF (F.PD_STATUS_OSSD2 d) o2
    let th := s.thDevices d
    let s := [(0, h1), (1, h2), (2, g1), (3, g2)].foldl (fun (t : State) (x : Nat × Bool) => t.when (!x.2) (fun u => u.modProt d (fun p => p.forget x.1))) s
    let ca := s.thContact d 0
    let cb := s.thContact d 1
    s.modProt d (fun p => { p with
      gDiff := keep (g1 != g2) p.gDiff, gAgree := keep (g1 && g2) p.gAgree, thADiff := keep ca p.thADiff, thBDiff := keep cb p.thBDiff,
      thReady := p.thReady || (s.hasTh d && !th.1 && !th.2 && s.thIns d == s.thRaw d),
      thRelSince := keep (!th.1 && !th.2 && !ca && !cb) p.thRelSince, lcDiff := keep (o1 != o2) p.lcDiff })

/-! ## The commands of this file -/

/-- The meaning of HANDLE_OPERATED (R293). -/
def execHandleOperated (d : DIx) (s : State) : Host.Outcome State Fault Refusal := .next (s.done (handleOperated d s))

/-- The meaning of HANDLE_DISCREPANCY (R292). -/
def execHandleDiscrepancy (d : DIx) (s : State) : Host.Outcome State Fault Refusal := .next (s.done (handleDiscrepancy d s))

/-- The meaning of TPS_PULSE_CHECK (R291). -/
def execTpsPulseCheck (d : DIx) (src : Fin 2) (ch : Fin 4) (shown : Bool) (s : State) : Host.Outcome State Fault Refusal := .next (s.done (tpsPulseCheck d src ch shown s))

/-- The meaning of GUARD_OPEN (R296). -/
def execGuardOpen (d : DIx) (s : State) : Host.Outcome State Fault Refusal := .next (s.done (guardOpen d s))

/-- The meaning of GUARD_CLOSED (R297). -/
def execGuardClosed (d : DIx) (s : State) : Host.Outcome State Fault Refusal := .next (s.done (guardClosed d s))

/-- The meaning of GUARD_FAULT (R295). -/
def execGuardFault (d : DIx) (s : State) : Host.Outcome State Fault Refusal := .next (s.done (guardFault d s))

/-- The meaning of TWO_HAND_CHANGE (R299). -/
def execTwoHandChange (d : DIx) (s : State) : Host.Outcome State Fault Refusal := .next (s.done (twoHandChange d s))

/-- The meaning of TWO_HAND_FAULT (R298). -/
def execTwoHandFault (d : DIx) (dev : Fin 2) (s : State) : Host.Outcome State Fault Refusal := .next (s.done (twoHandFault d dev s))

/-- The meaning of OSSD_CHANGE (R301). -/
def execOssdChange (d : DIx) (s : State) : Host.Outcome State Fault Refusal := .next (s.done (ossdChange d s))

/-- The meaning of LC_DISCREPANCY (R301). -/
def execLcDiscrepancy (d : DIx) (s : State) : Host.Outcome State Fault Refusal := .next (s.done (lcDiscrepancy d s))

/-- The meaning of LC_TEST (R302). -/
def execLcTest (d : DIx) (s : State) : Host.Outcome State Fault Refusal := .next (s.done (lcTest d s))

/-- The meaning of LC_TEST_RESPONSE_TIMEOUT (R302). -/
def execLcTestResponseTimeout (d : DIx) (s : State) : Host.Outcome State Fault Refusal := .next (s.done (lcTestResponseTimeout d s))

/-- The meaning of LC_TEST_OVERDUE (R302). -/
def execLcTestOverdue (d : DIx) (s : State) : Host.Outcome State Fault Refusal := .next (s.done (lcTestOverdue d s))

/-- The meaning of HANDLE_DISCREPANCY_CLEAR (R292). -/
def execHandleDiscrepancyClear (d : DIx) (s : State) : Host.Outcome State Fault Refusal := .next (s.done (handleDiscrepancyClear d s))

/-- The meaning of GUARD_FAULT_CLEAR (R295). -/
def execGuardFaultClear (d : DIx) (s : State) : Host.Outcome State Fault Refusal := .next (s.done (guardFaultClear d s))

/-- The meaning of TWO_HAND_FAULT_CLEAR (R298). -/
def execTwoHandFaultClear (d : DIx) (s : State) : Host.Outcome State Fault Refusal := .next (s.done (twoHandFaultClear d s))

end Sys2Proof.Machine
end

