-- ==== Sys2Proof/Machine/Motion.lean ====
section
/-!
DEFINITION. Machine/Motion.lean: leaf and step motion (chapter 5): the profile (R168–R172), targets and rest (R173–R175), currents and
duties (R176–R182), stalls (R193, R194), the drive frame in the order of R164, the drive link (R183–R190) and the drive enables (R191, R192).
-/
namespace Sys2Proof.Machine

/-! ## Settings that wait for their point (R197, R225, R251, R286) -/

/-- Encoder settings of an axis take effect when it is next at rest; a new ENC_SCALE or REF_POS clears REFERENCED (R225). -/
def State.applyEnc (s : State) (d : DIx) (a : AIx) : State :=
  if s.imgPend.isEmpty || !s.flag (F.AX_STATUS_AT_REST d a) then s
  else
    let sc := s.rd (F.ENC_SCALE d a)
    let rp := s.rd (F.REF_CFG_REF_POS d a)
    let s := s.applyRange (en d a 0x30) (en d a 0x40)
    s.when (sc != s.rd (F.ENC_SCALE d a) || rp != s.rd (F.REF_CFG_REF_POS d a)) (fun t => t.setF (F.AX_STATUS_REFERENCED d a) false)

/-- Profile, regulation and table settings take effect at the axis's next move, which starts here (R197). With a new SCALE the commanded position
stays where it is in 0.01 mm (DESIGN CHOICE, log entry 164). -/
def State.applyMove (s : State) (d : DIx) (a : AIx) : State :=
  let s := s.when (s.axis d a).oldTab.isSome (fun t => t.modAx d a (fun x => { x with oldTab := none }))
  if s.imgPend.isEmpty then s
  else
    let sc := s.rd (F.SCALE d a)
    let s := s.applyRange (ax d a 0x20) (ax d a 0x54)
    s.when (sc != s.rd (F.SCALE d a)) (fun t => t.setX d a (t.rdS (F.XCMD d a)))

/-! ## Profile (R165–R172) -/

/-- A speed of 0.1 mm/s in internal units. -/
def State.vOf (s : State) (d : DIx) (a : AIx) (v : Nat) : Nat := v * s.rd (F.SCALE d a) * 4000

/-- An internal speed in 0.1 mm/s, rounded. -/
def State.vTo (s : State) (d : DIx) (a : AIx) (v : Nat) : Int := roundDiv v (s.rd (F.SCALE d a) * 4000)

/-- The change of speed per drive frame at a rate in mm/s². -/
def State.rate (s : State) (d : DIx) (a : AIx) (r : Nat) : Nat := r * s.rd (F.SCALE d a)

/-- VLIM of an axis, 0.1 mm/s (R171): 40 mm/s in creep for the leaves, while unreferenced and in a host move, else VMAX. -/
def State.vlim (s : State) (d : DIx) (a : AIx) : Nat :=
  if (a != 2 && s.flag (F.SEQ_STATUS_CREEP d)) || !s.flag (F.AX_STATUS_REFERENCED d a) || (s.axis d a).host then 400
  else s.rd (F.PROF_V2_VMAX d a)

/-- Show XCMD and VCMD from the internal state. -/
def State.showX (s : State) (d : DIx) (a : AIx) : State :=
  let x := s.axis d a
  let p := roundDiv (x.x * 100) (1600000000 * s.rd (F.SCALE d a))
  let v := s.vTo d a x.v
  (s.wrS (F.XCMD d a) p).wrS (F.SPEED_VCMD d a) (if x.up then v else -v)

/-- A move or a stop ends where the axis is: speed 0, target and rest counters follow. AX_CMD.STOP clears at rest (R195), with AT_REST. -/
def State.endMove (s : State) (d : DIx) (a : AIx) (setTarget : Bool) : State :=
  let s := s.modAx d a (fun x => { x with gen := .idle, v := 0, host := false, restN := 0, acc := 0, tgt := x.x })
  let s := (s.setF (F.AX_STATUS_MOVING d a) false).setF (F.AX_STATUS_STOPPING d a) false
  let s := s.showX d a
  s.when setTarget (fun t => t.wrS (F.TARGET d a) (t.rdS (F.XCMD d a)))

/-- The generator of an axis with its present settings (R168–R172). -/
def State.planAx (s : State) (d : DIx) (a : AIx) : PlanAx :=
  let x := s.axis d a
  { x := x.x, tgt := x.tgt, v := x.v, up := x.up, gen := x.gen, slow := x.slow, vs := s.vOf d a (s.rd (F.PROF_V_VSTOP d a)),
    v1 := s.vOf d a (s.rd (F.PROF_V2_V1 d a)), vtop := s.vOf d a (min (s.rd (F.PROF_V2_VMAX d a)) (s.vlim d a)),
    vslow := s.vOf d a (min (if s.rd (F.PROF_V_VSTOP d a) = 0 then s.rd (F.PROF_V_VSTART d a) else s.rd (F.PROF_V_VSTOP d a)) (s.vlim d a)),
    a1 := s.rate d a (s.rd (F.PROF_A_A1 d a)), a2 := s.rate d a (s.rd (F.PROF_A_A2 d a)), d1 := s.rate d a (s.rd (F.PROF_D_D1 d a)),
    d2 := s.rate d a (s.rd (F.PROF_D_D2 d a)),
    dstop := s.rate d a (match x.gen with | .holdStop => s.rd (F.DRV_CFG_HOLD_DEC d a) | _ => s.ss1Dec d),
    scale := s.rd (F.SCALE d a), out := true }

/-- Acceleration between two speeds of successive frames, mm/s². -/
def State.accOf (s : State) (d : DIx) (a : AIx) (old new : Nat) : Int :=
  let scale := s.rd (F.SCALE d a)
  if scale = 0 then 0 else quot ((new : Int) - old) scale

/-- Advance the generator of a move by one drive frame (R170). -/
def State.moveFrame (s : State) (d : DIx) (a : AIx) : State :=
  let p := s.planAx d a
  let v := p.moveV
  if p.arrives v then (s.modAx d a (fun x => { x with x := x.tgt })).endMove d a false
  else (s.modAx d a (fun x => { x with x := p.at_ v, v := v, acc := s.accOf d a p.v v })).showX d a

/-- Advance a stop ramp, a hold stop or SS1 by one drive frame (R172, R241). -/
def State.stopFrame (s : State) (d : DIx) (a : AIx) : State :=
  let p := s.planAx d a
  let v := p.stopV
  let s := s.modAx d a (fun x => { x with x := p.at_ v, v := v, acc := s.accOf d a p.v v })
  if v = 0 then s.endMove d a true else s.showX d a

/-- Speed of the first frame of a move to `tgt` under a limit of 0.1 mm/s, and whether the whole move is slow (R170). -/
def State.startSpeed (s : State) (d : DIx) (a : AIx) (tgt : Int) (lim : Nat) : Nat × Bool :=
  let v0 := s.vOf d a (min (s.rd (F.PROF_V_VSTART d a)) lim)
  let vs := s.rd (F.PROF_V_VSTOP d a)
  if (tgt - (s.axis d a).x).natAbs < (s.planAx d a).brake v0 then (s.vOf d a (min (if vs = 0 then s.rd (F.PROF_V_VSTART d a) else vs) lim), true)
  else (v0, false)

/-- The plan of a leaf for the zone sets (R97, R98): the generator's, or in WARNING the close that is about to start. Its sweep lies towards open in the
sets MON and REVERSE; in the set CLOSE along the move, and at rest towards open in phase 2 of PROOF_STROKE alone. -/
def State.leafPlan (s : State) (d : DIx) (a : AIx) : PlanAx :=
  let p := s.planAx d a
  let rest := s.st d == .proofStroke && (s.seq d).phase == 2
  let p := { p with out := decide (zoneSet (s.st d) (s.seq d).phase ≠ 2) || (if p.gen == .idle then rest else p.up) }
  if s.st d == .warning && p.gen == .idle && decide (p.x ≠ 0) then
    let v := s.startSpeed d a 0 (min (s.rd (F.PROF_V2_VMAX d a)) (s.vlim d a))
    { p with tgt := 0, up := decide (p.x < 0), out := decide (p.x < 0), gen := .move, v := v.1, slow := v.2 }
  else p

/-- Accept a target: no move when it equals the commanded position, else the start of a move (R170, R174). -/
def State.acceptTarget (s : State) (d : DIx) (a : AIx) (p : Int) (host : Bool) : State :=
  let s := s.wrS (F.TARGET d a) p
  let x := s.axis d a
  let tgt := s.xOf d a p
  if tgt = x.x ∨ s.rdS (F.XCMD d a) = p then s
  else
    let s := s.applyMove d a
    let x := s.axis d a
    let tgt := s.xOf d a p
    let lim := if host || !s.flag (F.AX_STATUS_REFERENCED d a) || (a != 2 && s.flag (F.SEQ_STATUS_CREEP d)) then 400 else s.rd (F.PROF_V2_VMAX d a)
    let v := s.startSpeed d a tgt lim
    let s := s.modAx d a (fun y => { y with
      tgt := tgt, up := decide (x.x < tgt), v := v.1, gen := .move, slow := v.2, started := false, host := host, restN := 0, energy := 0,
      fwin := [], acc := 0 })
    let s := ((s.setF (F.AX_STATUS_MOVING d a) true).setF (F.AX_STATUS_AT_REST d a) false).wr (F.MOVE_ENERGY d a) 0
    s.showX d a

/-- The two-hand condition of a host move, where the image requires it; with TH_EN 0 it cannot be met (R175, R300). -/
def State.twoHandOk (s : State) (d : DIx) : Bool := !s.needTh d || (s.flag (F.PD_CFG_TH_EN d) && s.flag (F.PD_STATUS_TH_OK d))

/-- Conditions of a host move (R175). -/
def State.hostMoveOk (s : State) (d : DIx) : Bool :=
  s.st d == .held && s.zeroSpeed && s.flag F.TRN_STATUS_DEPOT && s.twoHandOk d

/-- Reject a target (R174). -/
def State.rejectTarget (s : State) (d : DIx) (a : AIx) : State :=
  (s.setF (F.AX_STATUS_TGT_REJ d a) true).inc (F.COUNTS_TGT_REJ d a)

/-- Step 4 of R164: accept or reject what the sequencer or a host move presents; the sequencer's target is taken first, and a host move whose
conditions have gone before it runs is refused (R175). DESIGN CHOICE (log entry 183): a host move presented in the drive frame that takes a target of
the sequencer is refused, AX_CMD.REFUSED. -/
def State.targetFrame (s : State) (d : DIx) (a : AIx) : State :=
  let x := s.axis d a
  if x.presented.isNone && x.hostPresented.isSome && !s.hostMoveOk d then
    ((s.modAx d a (fun x => { x with hostPresented := none })).setF (F.AX_CMD_MOVE d a) false).setF (F.AX_CMD_REFUSED d a) true
  else
  -- a host move whose enables are not high yet, or have just gone high, waits for them and for rest (R243, R300)
  let wait := x.presented.isNone && x.hostPresented.isSome && s.needTh d && !s.flag (F.AX_STATUS_MOVING d a) &&
    !(s.flag (F.AX_STATUS_AT_REST d a) && s.flag (F.AX_STATUS_ENABLED d a))
  if wait then s
  else
  let s := s.modAx d a (fun x => { x with presented := none, hostPresented := none })
  let pick : Option (Int × Bool) := match x.presented, x.hostPresented with
    | some p, _ => some (p, false)
    | none, some p => some (p, true)
    | none, none => none
  let s := s.when x.hostPresented.isSome (fun t => t.setF (F.AX_CMD_MOVE d a) false)
  let s := s.when (x.presented.isSome && x.hostPresented.isSome) (fun t => t.setF (F.AX_CMD_REFUSED d a) true)
  match pick with
  | none => s
  | some (p, host) =>
    if s.flag (F.AX_STATUS_AT_REST d a) && decide (0 ≤ p) && decide (p ≤ s.travelMax d a) then s.acceptTarget d a p host
    else s.rejectTarget d a

/-- AT_REST becomes 1; a stop that the host asked for is over (R173, R195). -/
def State.atRest (s : State) (d : DIx) (a : AIx) : State := (s.setF (F.AX_STATUS_AT_REST d a) true).setF (F.AX_CMD_STOP d a) false

/-- Step 3 of R164: AT_REST (R173). -/
def State.restFrame (s : State) (d : DIx) (a : AIx) : State :=
  let x := s.axis d a
  let near := decide ((s.rdS (F.DEVIATION d a)).natAbs ≤ s.rd (F.REST_REST_WIN d a))
  if s.flag (F.AX_STATUS_MOVING d a) || !near then
    (s.modAx d a (fun x => { x with restN := 0 })).setF (F.AX_STATUS_AT_REST d a) false
  else
    let n := x.restN + 1
    let s := s.modAx d a (fun x => { x with restN := n })
    s.when (decide (40 * s.rd (F.REST_REST_TIME d a) ≤ n)) (fun t => t.atRest d a)

/-- A stall of an axis (R194): the generator stops where the axis is, and the doorway's state decides the consequence, in REVERSING and OBSTRUCTED too
through the fusion (R238, R239). AT_REST clears, so that a
target presented in this drive frame is rejected (R164). -/
def State.stall (s : State) (d : DIx) (a : AIx) : State :=
  let dev := s.rdS (F.DEVIATION d a)
  let st := s.st d
  let s := s.endMove d a false
  let s := (s.setX d a (s.pos d a)).wrS (F.TARGET d a) (s.pos d a)
  let s := (s.setF (F.AX_STATUS_STALL d a) true).modAx d a (fun x => { x with devN := 0 })
  let s := s.setF (F.AX_STATUS_AT_REST d a) false
  let s := (s.inc (F.COUNTS_STALL d a)).stage 0x2401 d.val [a.val, unsigned 32 dev, unsigned 32 (s.rdS (F.XCMD d a)), st.code]
  match st with
  | .opening | .closing | .sealing | .proofStroke | .reversing | .obstructed =>
    if a = 2 then s else (s.setF (F.OBST_STATUS_STALL d) true).obstSeen d
  | _ => s

/-- Step 2 of R164: the deviation check (R193). -/
def State.deviationFrame (s : State) (d : DIx) (a : AIx) : State :=
  if !s.flag (F.AX_STATUS_ENABLED d a) then s.modAx d a (fun x => { x with devN := 0 })
  else
    let dev := s.pos d a - s.rdS (F.XCMD d a)
    let s := s.wrS (F.DEVIATION d a) dev
    let n := if decide (s.rd (F.TRAVEL_DEV_WIN d a) < dev.natAbs) then (s.axis d a).devN + 1 else 0
    let s := s.modAx d a (fun x => { x with devN := n })
    if 4 ≤ n then s.stall d a else s

/-! ## Currents and duties (R176–R182) -/

/-- Entry e of microstep table t (R176), as axis a of doorway d uses it: an axis keeps the tables it had when a new image took effect until its
next move (R197). -/
def State.tableEntry (s : State) (d : DIx) (a : AIx) (t e : Nat) : Int :=
  match (s.axis d a).oldTab with
  | some b => (fieldAt b (512 * t + 2 * e) 2 % 1024 : Nat)
  | none => (fldGet (s.reg (0x30000 + t * 0x200 + e / 2 * 4)) (if e % 2 = 0 then 0 else 16) 10 : Nat)

/-- S(n) of table t over the electrical position (R177). -/
def State.tableWave (s : State) (d : DIx) (a : AIx) (t n : Nat) : Int :=
  if n ≤ 255 then s.tableEntry d a t n
  else if n = 256 then 1023
  else if n ≤ 511 then s.tableEntry d a t (512 - n)
  else if n ≤ 767 then -s.tableEntry d a t (n - 512)
  else if n = 768 then -1023
  else -s.tableEntry d a t (1024 - n)

/-- Back-EMF of an electrical speed in µstep/s, µV (R180): KE × ω × the sine value. -/
def backEmf (ke : Nat) (usteps : Int) (sn : Int) : Int := quot (ke * 100 * usteps * 6283185307 * sn) (1024 * 1000000000 * 32768)

/-- One phase of the current regulation of a drive frame: the voltage and the new integral, µV (R180, R181). -/
def phaseVoltage (strong wasStrong : Bool) (ref prev meas integ lastQ emf vbus : Int) (r l kp ki : Nat) : Int × Int :=
  if strong then
    let i0 := if wasStrong then integ else lastQ
    let err := ref - meas
    let di := quot (ki * err) 40
    let u := kp * err + i0 + di + emf
    let i1 := if (u.natAbs : Int) ≤ vbus then i0 + di else i0
    (clampI (-vbus) vbus u, i1)
  else (r * ref + 40 * l * (ref - prev) + emf, integ)

/-- Duty of a voltage in Q15 (R182). -/
def dutyOf (u vbus : Int) : Int := if vbus = 0 then Config.dutyAtZeroBus u else clampI (-32768) 32767 (quot (u * 32768) vbus.toNat)

/-- Step 7 of R164: references, mode and duties of an axis (R177–R182), and the energy of the move (R195). -/
def State.currentFrame (s : State) (d : DIx) (a : AIx) : State :=
  let x := s.axis d a
  let n := s.elecOf d a (roundDiv x.x (1600000000 * 65536))
  let s := s.wr (F.AX_STATUS_ELEC d a) n
  if !s.flag (F.AX_STATUS_ENABLED d a) then
    (s.modAx d a (fun x => { x with dutyA := 0, dutyB := 0, refA := 0, refB := 0, integA := 0, integB := 0, lastA := 0, lastB := 0 })).setF
      (F.AX_STATUS_MODE d a) false
  else
    let moving := s.flag (F.AX_STATUS_MOVING d a)
    let i : Int := if moving then s.rd (F.CURRENT_IRUN d a) else s.rd (F.CURRENT_IHOLD d a)
    let t := s.rd (F.DRV_CFG_TABLE d a)
    let refA := quot (i * s.tableWave d a t n) 1023
    let refB := quot (i * s.tableWave d a t ((n + 256) % 1024)) 1023
    let vc := (s.rdS (F.SPEED_VCMD d a)).natAbs
    let was := s.flag (F.AX_STATUS_MODE d a)
    let vsw := s.rd (F.SWITCH_VSWITCH d a)
    let strong := moving && (if decide (vsw ≤ vc) then true else if decide (vc + s.rd (F.SWITCH_VSW_HYST d a) < vsw) then false else was)
    let us : Int := s.dirSign d a * (if x.up then 1 else -1) * (x.v / (40000 * 65536) : Nat)
    let ke := s.rd (F.BEMF_KE d a)
    let vbus : Int := ((s.drv d).vbus * 10000 : Nat)
    let r := s.rd (F.MOTOR_R_PH d a)
    let l := s.rd (F.MOTOR_L_PH d a)
    let kp := s.rd (F.GAIN_KP d a)
    let ki := s.rd (F.GAIN_KI d a)
    let eA := backEmf ke us (sinAt n)
    let eB := backEmf ke us (cosAt n)
    let pA := phaseVoltage strong was refA x.refA x.iA x.integA x.lastA eA vbus r l kp ki
    let pB := phaseVoltage strong was refB x.refB x.iB x.integB x.lastB eB vbus r l kp ki
    let dA := dutyOf pA.1 vbus
    let dB := dutyOf pB.1 vbus
    let e := x.energy + (if moving then ((s.drv d).vbus : Int) * (dA * x.iA + dB * x.iB) else 0)
    let mJ := (quot e (32768 * 4000000)).toNat
    let s := s.modAx d a (fun x => { x with
      refA := refA, refB := refB, integA := pA.2, integB := pB.2, lastA := if strong then x.lastA else pA.1 - eA,
      lastB := if strong then x.lastB else pB.1 - eB, dutyA := dA, dutyB := dB, energy := e })
    let old := s.rd (F.MOVE_ENERGY d a)
    let s := s.when moving (fun t => (t.wrSat (F.MOVE_ENERGY d a) mJ).modCyc d (fun c => { c with energy := c.energy + (mJ - old) }))
    s.setF (F.AX_STATUS_MODE d a) strong

/-- Steps 1–7 of R164 for one axis; the force estimate takes the commanded acceleration of this frame (R232), and a step over force is handled as a
stall (R247). -/
def State.axisFrame (s : State) (d : DIx) (a : AIx) (fresh : Bool) : State :=
  let s := (s.applyEnc d a).posUpdate d a
  let s := s.deviationFrame d a
  let s := s.restFrame d a
  let s := s.targetFrame d a
  let vl := s.vlim d a
  let s := (s.wrSat (F.SPEED_VLIM d a) vl).setF (F.AX_STATUS_VLIM_ACT d a) (decide (vl < s.rd (F.PROF_V2_VMAX d a)))
  let x := s.axis d a
  let s := match x.gen with
    | .idle => s
    | .move => if x.started then s.moveFrame d a else s.modAx d a (fun x => { x with started := true })
    | _ => s.stopFrame d a
  let s := s.forceFrame d a fresh
  let s := if a = 2 && (s.axis d a).isOver then s.stall d a else s
  (s.breachCheck d a).currentFrame d a

/-- The payload of DRIVE_CMD (R184). -/
def State.driveCmd (s : State) (d : DIx) (auth : Bool) : List Byte :=
  let v := s.drv d
  let duty : AIx → List Byte := fun a => leBytes 2 (unsigned 16 (s.axis d a).dutyA) ++ leBytes 2 (unsigned 16 (s.axis d a).dutyB)
  withCrc ([0x20, 0x01] ++ leBytes 2 v.count ++ leBytes 1 (b2n auth + 2 * b2n s.chip.slotB + 4 * b2n v.clrFault) ++
    leBytes 1 (if auth then v.bridges else 0) ++ [0, 0] ++ duty 0 ++ duty 1 ++ duty 2)

/-- The module marks its frames AUTH = 1: it holds authority, and the wait of a handover is over (R431, R437). -/
def State.authFrames (s : State) : Bool :=
  s.hasAuth && !s.pair.authHold && (match s.pair.authFrom with | some t => decide (t ≤ s.now) | none => true)

/-- The frame of a DRIVE_CMD (R55, R183): from 02-B4-24-01-0S-DD. DESIGN CHOICE (log entry 165): to the broadcast address, the spec names no
destination and neither end filters. -/
def State.driveTx (s : State) (d : DIx) (auth : Bool) : List Byte :=
  ethFrame 0xFFFFFFFFFFFF (0x02B424010000 + 256 * b2n s.chip.slotB + d.val) (s.driveCmd d auth)

/-- Step 8 of R164: send the downstream frame, from link-up (R183). -/
def State.sendDrive (s : State) (d : DIx) : State :=
  if s.rd (F.DRV_STATUS_LINK d) < 2 then s
  else
    let auth := s.authFrames
    let b := s.driveTx d auth
    s.modDrv d (fun v => { v with count := (v.count + 1) % 65536, clrFault := false, lastCmd := b })

/-- One drive frame of doorway d (R164). A doorway that is not declared has no link and nothing to move; an emulated output that names one of its
axes is still judged (R220). -/
def driveFrame (d : DIx) (s : State) : State :=
  if !s.on d then (if s.alive then s.emuFrames d else s)
  else
    let fresh := (s.drv d).fbNew
    let up := decide (2 ≤ s.rd (F.DRV_STATUS_LINK d))
    let s := s.modDrv d (fun v => { v with fbNew := false, fbMiss := if fresh || !up then 0 else v.fbMiss + 1 })
    let s := s.when (up && !fresh) (fun t => t.inc (F.DRV_ERR_MISS d))
    -- t0 of an SS1 is the frame that sends its first duties (R241)
    let s := if s.rd (F.OBST_STATUS_SS1 d) = 1 && !(s.obst d).t0Set then
        let s := s.modObst d (fun o => { o with t0 := s.now, t0Set := true, posA0 := s.pos d 0, posB0 := s.pos d 1 })
        allA.foldl (fun t a => if (t.axis d a).ss1On then t.modAx d a (fun x => { x with v0 := (t.rdS (F.MSPEED d a)).natAbs }) else t) s
      else s
    let s := allA.foldl (fun t a => t.axisFrame d a fresh) s
    let s := if (s.obst d).t0Set then s.ss1Check d else s
    (s.emuFrames d).sendDrive d

/-- AT_REST_REACHED: the rest time of an axis has elapsed (R173). -/
def atRestReached (d : DIx) (a : AIx) (s : State) : State :=
  s.onD d fun s =>
    s.when (!s.flag (F.AX_STATUS_MOVING d a) && decide ((s.rdS (F.DEVIATION d a)).natAbs ≤ s.rd (F.REST_REST_WIN d a)) &&
      decide (40 * s.rd (F.REST_REST_TIME d a) ≤ (s.axis d a).restN)) (fun t => t.atRest d a)

/-- Drive enables go high with every commanded position at the measured one (R297); a tick raises them for a host move that needs TH_OK (R243, R300). -/
def State.denOnMeasured (s : State) (d : DIx) : State :=
  if s.denHigh d then s else (allA.foldl (fun t a => (t.setX d a (t.pos d a)).wrS (F.TARGET d a) (t.pos d a)) s).denOn d

/-- MOVE: request a host move to a target (R175). -/
def move (d : DIx) (a : AIx) (s : State) : State :=
  s.onD d fun s =>
    if !s.hostMoveOk d then (s.setF (F.AX_CMD_REFUSED d a) true).setF (F.AX_CMD_MOVE d a) false
    else if s.flag (F.AX_STATUS_MOVING d a) then (s.setF (F.AX_CMD_MOVE d a) false).rejectTarget d a
    else (s.setF (F.AX_CMD_MOVE d a) true).modAx d a (fun x => { x with hostPresented := some (s.rdS (F.MOVE_TARGET d a)) })

/-- STOP: bring the axis to rest on the stop ramp (R172); the request clears at rest. -/
def stop (d : DIx) (a : AIx) (s : State) : State :=
  s.onD d fun s =>
    let s := s.setF (F.AX_CMD_STOP d a) (!s.flag (F.AX_STATUS_AT_REST d a))
    s.stopAxis d a .stopRamp

/-! ## The drive link (R183–R190) -/

/-- The doorway's state calls for drive enables high (R34). -/
def State.callsDen (s : State) (d : DIx) : Bool := (s.st d).denHigh

/-- Handle every axis whose enables were high as stalled (R187, R190). -/
def State.stallAll (s : State) (d : DIx) (was : List AIx) : State := was.foldl (fun t a => t.stall d a) s

/-- Axes with ENABLED = 1. -/
def State.enabledAxes (s : State) (d : DIx) : List AIx := allA.filter (fun a => s.flag (F.AX_STATUS_ENABLED d a))

/-- Step 1 of R188: a bring-up or a retrain starts. -/
def State.driveTrain (s : State) (d : DIx) : State :=
  let s := s.torqueOff d
  let s := (s.setF (F.DRV_CTL_RETRAIN d) false).setF (F.DRV_STATUS_ID_OK d) false
  let s := s.modDrv d (fun v => { v with trig := s.now, retrainOpen := true, step := 1, validN := 0, okN := 0, info := [none, none, none, none], fbMiss := 0 })
  let s := s.wr (F.DRV_STATUS_LINK d) (if (s.drv d).phyUp then 2 else 1)
  s.modDrv d (fun v => { v with step := if v.phyUp then 2 else 1 })

/-- A retrain on a trigger of R187: cause 1 PHY down, 2 feedback missing, 3 host request, which is no fault. In a bring-up or a retrain the window
runs anew from the new trigger (R188). -/
def State.driveRetrain (s : State) (d : DIx) (cause : Nat) : State :=
  let was := s.enabledAxes d
  let s := (s.when (cause != 3) (fun t => t.fault d 0x4401)).stage 0x4401 d.val [cause]
  let s := (s.driveTrain d).inc (F.DRV_RETRAINS d)
  ((s.stallAll d was).closeWin 1 d.val).openWin 1 d.val

/-- DRIVE_FEEDBACK_TIMEOUT: ten drive frames without a valid DRIVE_FB (R187). -/
def driveFeedbackTimeout (d : DIx) (s : State) : State :=
  s.onD d fun s => if 10 ≤ (s.drv d).fbMiss ∧ s.rd (F.DRV_STATUS_LINK d) = 3 then s.driveRetrain d 2 else s

/-- DRIVE_PHY_LINK_LOSS (R187). -/
def drivePhyLinkLoss (d : DIx) (s : State) : State :=
  s.onD d fun s =>
    let was := (s.drv d).phyUp
    let s := s.modDrv d (fun v => { v with phyUp := false })
    if was && s.rd (F.DRV_STATUS_LINK d) != 0 then s.driveRetrain d 1 else s

/-- DRIVE_RETRAIN: DRV_CTL.RETRAIN is written (R187). -/
def driveRetrainReq (d : DIx) (s : State) : State :=
  s.onD d fun s => s.driveRetrain d 3

/-- DRIVE_PHY_LINK_UP (R188 step 2). -/
def drivePhyLinkUp (d : DIx) (s : State) : State :=
  s.onD d fun s =>
    let s := s.modDrv d (fun v => { v with phyUp := true, step := max v.step 2 })
    if s.rd (F.DRV_STATUS_LINK d) ≤ 1 then s.wr (F.DRV_STATUS_LINK d) 2 else s

/-- The condition of fence source 2 counts as cleared: the pod reports FAULT 0 and LINK is 3 (R190). -/
def State.driveClear (s : State) (d : DIx) : Bool := s.rd (F.DRV_STATUS_FAULT d) == 0 && s.rd (F.DRV_STATUS_LINK d) == 3

/-- DRIVE_RETRAIN_WINDOW_EXPIRED: the 5 ms window ran out (R188, R190). -/
def driveRetrainWindowExpired (d : DIx) (s : State) : State :=
  s.onD d fun s =>
    if (s.drv d).retrainOpen && s.past (s.drv d).trig (msT 5) then
      let s := s.modDrv d (fun v => { v with retrainOpen := false, failedAt := some s.now })
      let s := (s.closeWin 1 d.val).stage 0x4403 d.val [(s.drv d).step, (s.reg (F.DRV_STATUS d).addr).toNat]
      s.fence d 2
    else s

/-- DRIVE_BRINGUP_REPEAT: 1 s after a failed retrain (R190). -/
def driveBringupRepeat (d : DIx) (s : State) : State :=
  s.onD d fun s =>
    match (s.drv d).failedAt with
    | some t =>
      if s.past t (msT 1000) && s.rd (F.DRV_STATUS_LINK d) != 3 then
        (s.driveTrain d).modDrv d (fun v => { v with failedAt := some s.now })
      else s
    | none => s

/-- Step 4 of R188: the link is in service; each commanded position takes the measured one. -/
def State.driveInService (s : State) (d : DIx) : State :=
  let us := (s.now - (s.drv d).trig) / 160
  let s := s.wr (F.DRV_STATUS_LINK d) 3
  let s := s.modDrv d (fun v => { v with retrainOpen := false, step := 4, failedAt := none })
  let s := allA.foldl (fun t a => (t.setX d a (t.pos d a)).wrS (F.TARGET d a) (t.pos d a)) s
  let s := (s.closeWin 1 d.val).stage 0x4402 d.val [us]
  if bitOf (s.fenceSet d) 10 then s.fenceClear d 11 else s

/-- Identity and rating of the pod (R189). -/
def State.podOk (s : State) (d : DIx) : Bool :=
  let i := (s.drv d).info
  let w0 := (nth i 0 none).getD 0
  let w3 := (nth i 3 none).getD 0
  let imax := allA.foldl (fun m a => max m (s.rd (F.CURRENT_IRUN d a))) 0
  w0 == s.rd (F.POD_EXPECT d) && decide (imax ≤ w3 % 65536)

/-- A valid DRIVE_FB at LINK 2: steps 3 and 4 of R188, R189; a module without authority leaves out the comparison of STO reports (R431). -/
def State.trainFb (s : State) (d : DIx) (status flt idx : Nat) : State :=
  let v := s.drv d
  if s.rd (F.DRV_STATUS_LINK d) ≠ 2 then s
  else if !s.flag (F.DRV_STATUS_ID_OK d) then
    if 8 ≤ v.validN ∧ v.info.all (·.isSome) then
      if s.podOk d then ((s.setF (F.DRV_STATUS_ID_OK d) true).modDrv d (fun v => { v with okN := 0, step := 3 }))
      else if idx = 3 then
        let s := s.stage 0x4405 d.val [(nth v.info 0 none).getD 0, (nth v.info 1 none).getD 0, s.rd (F.POD_EXPECT d), (nth v.info 3 none).getD 0 % 65536]
        s.modDrv d (fun v => { v with info := [none, none, none, none] })
      else s
    else s
  else
    let sto := status % 4
    let den := b2n (!s.flag (F.DEN_STATUS_DEN_A d)) + 2 * b2n (!s.flag (F.DEN_STATUS_DEN_B d))
    let ok := flt == 0 && (!s.hasAuth || sto == den)
    let s := s.modDrv d (fun v => { v with okN := if ok then v.okN + 1 else 0 })
    if 4 ≤ (s.drv d).okN then s.driveInService d else s

/-- Withdraw a slot B module with authority that reads a pod conflict (R430): the line is released at once, in every module state. -/
def State.podConflictWithdraw (s : State) : State :=
  let s := s.stage 0x6006 sysRec [3, (s.reg F.RP_STATUS.addr).toNat]
  (s.when (s.modState != 3) (fun t => t.dropClaim.evalOutputs)).enterSafe 9

/-- A valid DRIVE_FB (R185): measurements, identity words, pod status and faults. -/
def State.takeFb (s : State) (d : DIx) (b : List Byte) : State :=
  let status := fieldAt b 6 1
  let flt := fieldAt b 7 1 % 64
  let ph : Nat → Int := fun i => signed 16 (fieldAt b (8 + 2 * i) 2)
  let s := allA.foldl (fun t a =>
    (t.modAx d a (fun x => { x with iA := ph (2 * a.val), iB := ph (2 * a.val + 1) })).wr (F.IPHASE d a)
      (fieldAt b (8 + 4 * a.val) 4)) s
  let vbus := fieldAt b 20 2
  let s := s.wr (F.POD_MEAS d) (fieldAt b 20 4)
  let idx := fieldAt b 24 1
  let s := s.modDrv d (fun v => { v with
    fbNew := true, status := status, vbus := vbus, validN := v.validN + 1,
    info := if idx < 4 then setNth v.info idx (some (fieldAt b 26 4)) else v.info })
  let s := match idx with
    | 0 => s.wr (F.POD_ID d) (fieldAt b 26 4)
    | 1 => s.wr (F.POD_SERIAL d) (fieldAt b 26 4)
    | 3 => s.wr (F.POD_RATING d) (fieldAt b 26 4)
    | _ => s
  let wasConf := s.flag (F.DRV_STATUS_AUTH_CONFLICT d)
  let conf := bitOf status 3
  let s := (s.wr (F.DRV_STATUS_STO_LOW d) (status % 4)).setF (F.DRV_STATUS_TORQUE d) (bitOf status 2)
  let s := (s.setF (F.DRV_STATUS_AUTH_CONFLICT d) conf).setF (F.DRV_STATUS_LINK_TO d) (bitOf status 4)
  let wasFlt := s.rd (F.DRV_STATUS_FAULT d)
  let s := s.wr (F.DRV_STATUS_FAULT d) flt
  let s := s.modDrv d (fun v => { v with
    conflictAt := if conf then (match v.conflictAt with | some t => some t | none => some s.now) else none, conflictTold := conf && v.conflictTold })
  -- pod agreement (R192): the reports against the command
  let dis := s.hasAuth && ((bitOf status 0 == s.flag (F.DEN_STATUS_DEN_A d)) || (bitOf status 1 == s.flag (F.DEN_STATUS_DEN_B d)))
  let s := s.modDrv d (fun v => { v with podBad := if dis then (match v.podBad with | some t => some t | none => some s.now) else none })
  -- while the conflict lasts the axes are handled as stalled: all of them at its rise, and any that starts a move (R190)
  let s := if conf then s.stallAll d ((s.enabledAxes d).filter (fun a => !wasConf || s.flag (F.AX_STATUS_MOVING d a))) else s
  let s := s.trainFb d status flt idx
  let s := s.when (flt != 0 && flt != wasFlt) (fun t => ((t.fault d 0x4404).fence d 2).stage 0x4404 d.val [flt, vbus, fieldAt b 22 2])
  if conf && s.chip.slotB && s.hasAuth then s.podConflictWithdraw else s

/-- Is a payload framed as a DRIVE_FB, 34 bytes padded to 46 (R55, R56, R183)? `ok` says that the frame came with a good FCS, untagged and with
EtherType 0x88B5. -/
def driveFbFramed (ok : Bool) (b : List Byte) : Bool := ok && decide (b.length = 46) && fieldAt b 0 1 == 0x21 && fieldAt b 1 1 == 0x01

/-- Does a frame on the drive port pass framing and CRC? -/
def driveFbOk (ok : Bool) (b : List Byte) : Bool := driveFbFramed ok b && crcTail (b.take 34)

/-- A discarded frame of the drive port (R183). -/
def State.dropFb (s : State) (d : DIx) : State := (s.inc (F.DRV_ERR_CRC d)).modDrv d (fun v => { v with validN := 0 })

/-- AUTH_CONFLICT_TIMEOUT: reported for more than 5 ms (R190), once for each conflict; the record holds the pod's STATUS byte (R198). -/
def authConflictTimeout (d : DIx) (s : State) : State :=
  s.onD d fun s =>
    match (s.drv d).conflictAt with
    | some t =>
      if decide (t + msT 5 < s.now) && !(s.drv d).conflictTold then
        let s := s.modDrv d (fun v => { v with conflictTold := true })
        ((s.fault d 0x4407).fence d 2).stage 0x4407 d.val [(s.drv d).status, b2n s.chip.slotB]
      else s
    | none => s

/-! ## Drive enables under test (R192) -/

/-- A drive-enable fault: output 1 DEN_A or 2 DEN_B, kind 1–3 (R192, R198). -/
def State.denFault (s : State) (d : DIx) (out kind : Nat) : State :=
  let s := if kind = 1 then s.setF (F.DEN_STATUS_STUCK_ON d) true else s.setF (F.DEN_STATUS_STUCK_OFF d) true
  ((s.fault d 0x4406).fence d 2).stage 0x4406 d.val [out, kind]

/-- DEN_TEST_PULSE: a test pulse or a low command of one output; `on` says that it still reads on 200 µs later. Two such readings in succession
are a failure (R192). -/
def denTestPulse (d : DIx) (out : Fin 2) (on : Bool) (s : State) : State :=
  s.onD d fun s =>
    let v := s.drv d
    let n := if on then (if out.val = 0 then v.onFailA else v.onFailB) + 1 else 0
    let m := if 2 ≤ n then 0 else n
    let s := s.modDrv d (fun v => if out.val = 0 then { v with onFailA := m } else { v with onFailB := m })
    let slot := match nth v.denAt out.val none with | some t => s.past t (msT 50) | none => true
    let s := s.when slot (fun t => t.modDrv d (fun v => { v with denN := setNth v.denN out.val (nth v.denN out.val 0 + 1), denAt := setNth v.denAt out.val (some t.now) }))
    let cmd := if out.val = 0 then s.flag (F.DEN_STATUS_DEN_A d) else s.flag (F.DEN_STATUS_DEN_B d)
    let s := s.setF (if out.val = 0 then F.DEN_STATUS_RB_A d else F.DEN_STATUS_RB_B d) (on || cmd)
    if 2 ≤ n then s.denFault d (out.val + 1) 1 else s

/-- DEN_READBACK_TIMEOUT: outside test pulses an output commanded high has read back as given for 5 ms, or, with authority, a pod disagreement
has lasted 10 ms and this output's own STO report disagrees with its command now (R192); after such a failure the 10 ms count anew. -/
def denReadbackTimeout (d : DIx) (out : Fin 2) (on : Bool) (s : State) : State :=
  s.onD d fun s =>
    let cmd := if out.val = 0 then s.flag (F.DEN_STATUS_DEN_A d) else s.flag (F.DEN_STATUS_DEN_B d)
    let s := s.setF (if out.val = 0 then F.DEN_STATUS_RB_A d else F.DEN_STATUS_RB_B d) on
    if cmd && !on then s.denFault d (out.val + 1) 2
    else if s.hasAuth && s.ran (s.drv d).podBad 10 && (bitOf (s.rd (F.DRV_STATUS_STO_LOW d)) out.val == cmd) then
      (s.modDrv d (fun v => { v with podBad := none })).denFault d (out.val + 1) 3
    else s

/-! ## The commands of this file -/

/-- The meaning of DRIVE_FRAME (R164). -/
def execDriveFrame (d : DIx) (s : State) : Host.Outcome State Fault Refusal := .next (s.done (driveFrame d s))

/-- The meaning of AT_REST_REACHED (R173). -/
def execAtRestReached (d : DIx) (a : AIx) (s : State) : Host.Outcome State Fault Refusal := .next (s.done (atRestReached d a s))

/-- The meaning of MOVE (R175). -/
def execMove (d : DIx) (a : AIx) (s : State) : Host.Outcome State Fault Refusal := .next (s.done (move d a s))

/-- The meaning of STOP (R172). -/
def execStop (d : DIx) (a : AIx) (s : State) : Host.Outcome State Fault Refusal := .next (s.done (stop d a s))

/-- The meaning of DRIVE_FEEDBACK_TIMEOUT (R187). -/
def execDriveFeedbackTimeout (d : DIx) (s : State) : Host.Outcome State Fault Refusal := .next (s.done (driveFeedbackTimeout d s))

/-- The meaning of DRIVE_PHY_LINK_LOSS (R187). -/
def execDrivePhyLinkLoss (d : DIx) (s : State) : Host.Outcome State Fault Refusal := .next (s.done (drivePhyLinkLoss d s))

/-- The meaning of DRIVE_RETRAIN (R188). -/
def execDriveRetrain (d : DIx) (s : State) : Host.Outcome State Fault Refusal := .next (s.done (driveRetrainReq d s))

/-- The meaning of DRIVE_PHY_LINK_UP (R188). -/
def execDrivePhyLinkUp (d : DIx) (s : State) : Host.Outcome State Fault Refusal := .next (s.done (drivePhyLinkUp d s))

/-- The meaning of DRIVE_RETRAIN_WINDOW_EXPIRED (R190). -/
def execDriveRetrainWindowExpired (d : DIx) (s : State) : Host.Outcome State Fault Refusal := .next (s.done (driveRetrainWindowExpired d s))

/-- The meaning of DRIVE_BRINGUP_REPEAT (R190). -/
def execDriveBringupRepeat (d : DIx) (s : State) : Host.Outcome State Fault Refusal := .next (s.done (driveBringupRepeat d s))

/-- The meaning of AUTH_CONFLICT_TIMEOUT (R190). -/
def execAuthConflictTimeout (d : DIx) (s : State) : Host.Outcome State Fault Refusal := .next (s.done (authConflictTimeout d s))

/-- The meaning of DEN_TEST_PULSE (R192). -/
def execDenTestPulse (d : DIx) (out : Fin 2) (on : Bool) (s : State) : Host.Outcome State Fault Refusal := .next (s.done (denTestPulse d out on s))

/-- The meaning of DEN_READBACK_TIMEOUT (R192). -/
def execDenReadbackTimeout (d : DIx) (out : Fin 2) (on : Bool) (s : State) : Host.Outcome State Fault Refusal := .next (s.done (denReadbackTimeout d out on s))

end Sys2Proof.Machine
end

