-- ==== Sys2Proof/Machine/Placement.lean ====
section
/-!
DEFINITION. Machine/Placement.lean: placement (chapter 12): pools and types (R366, R367), the fault map (R368), the algorithm of R369, its
digest (R381), moves (R374–R379) and the placement registers (R383).
-/
namespace Sys2Proof.Machine

/-! ## Pools and types -/

/-- Pool codes (R366). -/
def poolSeq : Nat := 1
def poolSes : Nat := 2
def poolEng : Nat := 3
def poolCvu : Nat := 4
def poolDram : Nat := 5
def poolRec : Nat := 6
def poolSys : Nat := 7

/-- Resources present in a placed pool (R366). -/
def State.poolSize (s : State) (p : Nat) : Nat :=
  if p = poolCvu then 64 else if p = poolRec then 32 else if p = poolSes ∨ p = poolEng ∨ p = poolDram then s.nPair else 0

/-- The pools of a type, first then second, with the fixed resource where the binding is fixed (R367). -/
def poolsOf (i : Inst) : List (Nat × Option Nat) :=
  match i.ty with
  | 0x01 => [(poolSeq, some i.dwy), (poolRec, none)]
  | 0x02 => [(poolEng, none), (poolDram, none)]
  | 0x03 | 0x04 | 0x05 | 0x06 | 0x08 | 0x09 | 0x0A | 0x0B => [(poolSes, none)]
  | 0x07 => [(poolSys, some (i.unit - 1))]
  | 0x0D => [(poolSys, some (i.unit % 2))]
  | 0x11 => [(poolCvu, none)]
  | _ => [(0, some i.unit)]

/-- Type priority (R367). -/
def typePrio (ty : Nat) : Nat :=
  match ty with
  | 0x01 => 1
  | 0x07 => 2
  | 0x0D => 3
  | 0x08 => 4
  | 0x03 | 0x04 | 0x05 | 0x06 => 5
  | 0x09 | 0x0A | 0x0B => 6
  | 0x02 => 7
  | 0x11 => 8
  | _ => 9

/-- key(f) of R369: the doorway, or UNIT for a CVU instance. -/
def Inst.key (i : Inst) : Nat := if i.ty = 0x11 then i.unit else i.dwy

/-- No resource: 0xFF in the digest (R381); its low six bits are the 0x3F that the six-bit fields show. -/
def noRes : Nat := 0xFF

/-! ## The algorithm (R369) -/

/-- Insert an instance by ascending key, then ascending f. -/
def insertInst (i : Inst) : List Inst → List Inst
  | [] => [i]
  | j :: l => if i.key < j.key ∨ (i.key = j.key ∧ i.f ≤ j.f) then i :: j :: l else j :: insertInst i l

/-- Instances by ascending key, then ascending f. -/
def sortInsts (l : List Inst) : List Inst := l.foldr insertInst []

/-- Is resource r of pool p free in a list of bindings? -/
def freeIn (bs : List Bind) (p r : Nat) : Bool := !bs.any (fun b => b.pool == p && b.idx == r)

/-- Is instance f bound in pool p (or found to have no resource)? -/
def boundIn (bs : List Bind) (f p : Nat) : Bool := bs.any (fun b => b.f == f && b.pool == p)

/-- The highest-index free resource of a pool that is HEALTHY. -/
def topSpare (size : Nat → Nat) (fm : Nat → Nat → Nat) (bs : List Bind) (p : Nat) : Option Nat :=
  (List.range (size p)).foldl (fun best r => if fm p r == 0 && freeIn bs p r then some r else best) none

/-- One hint (R369, R373): bind every instance that shares the resource, or mark the hint unmet. -/
def placeHint (size : Nat → Nat) (fm : Nat → Nat → Nat) (insts : List Inst) (st : List Bind × List Hint) (h : Hint) : List Bind × List Hint :=
  if decide (h.idx < size h.pool) && fm h.pool h.idx == 0 && freeIn st.1 h.pool h.idx then
    match insts.find? (fun i => i.f == h.f) with
    | none => st
    | some i =>
      let share := if h.pool = poolSes then insts.filter (fun j => j.dwy == i.dwy && (poolsOf j).any (fun q => q.1 == poolSes)) else [i]
      (st.1 ++ (share.filter (fun j => !boundIn st.1 j.f h.pool)).map (fun j =>
        { f := j.f, pool := h.pool, idx := h.idx, pinned := true, unmet := false }), st.2)
  else (st.1, st.2 ++ [h])

/-- The doorway of instance f. -/
def dwyOfInst (insts : List Inst) (f : Nat) : Nat := match insts.find? (fun i => i.f == f) with | some i => i.dwy | none => 0xFF

/-- Bind one instance in one pool by the rule of R369. -/
def placeOne (size : Nat → Nat) (fm : Nat → Nat → Nat) (insts : List Inst) (bs : List Bind) (i : Inst) (p : Nat) : List Bind :=
  if boundIn bs i.f p then bs
  else
    let held := if i.ty = 0x11 then none else bs.find? (fun b => b.pool == p && b.idx != noRes && dwyOfInst insts b.f == i.dwy)
    let idx := match held with
      | some b => b.idx
      | none =>
        if decide (i.key < size p) && fm p i.key == 0 && freeIn bs p i.key then i.key
        else match topSpare size fm bs p with
          | some r => r
          | none => noRes
    bs ++ [{ f := i.f, pool := p, idx := idx, pinned := false, unmet := false }]

/-- The placement of R369: fixed bindings, hints, then the types by priority. -/
def placement (size : Nat → Nat) (fm : Nat → Nat → Nat) (insts : List Inst) (hints : List Hint) : List Bind :=
  let fixed := insts.foldl (fun bs i => (poolsOf i).foldl (fun bs q => match q.2 with
    | some r => bs ++ [{ f := i.f, pool := q.1, idx := r, pinned := false, unmet := false }]
    | none => bs) bs) []
  let r := hints.foldl (placeHint size fm insts) (fixed, [])
  let sorted := sortInsts insts
  let bs := (List.range 9).foldl (fun bs n =>
    (sorted.filter (fun i => typePrio i.ty == n + 1)).foldl (fun bs i =>
      (poolsOf i).foldl (fun bs q => match q.2 with
        | some _ => bs
        | none => placeOne size fm insts bs i q.1) bs) bs) r.1
  -- HINT_UNMET shows for each affected instance
  bs.map (fun b => if r.2.any (fun h => h.pool == b.pool &&
      (h.f == b.f || (b.pool == poolSes && dwyOfInst insts h.f == dwyOfInst insts b.f))) then { b with unmet := true } else b)

/-! ## Digest (R381) -/

/-- Bindings of instance f by ascending pool code. -/
def bindsOf (bs : List Bind) (f : Nat) : List Bind := (List.range 8).flatMap (fun p => bs.filter (fun b => b.f == f && b.pool == p))

/-- The canonical byte string of the digest. -/
def digestBytes (insts : List Inst) (bs : List Bind) (split : Bool) : List Byte :=
  (insts.flatMap (fun i => (bindsOf bs i.f).flatMap (fun b =>
    leBytes 2 b.f ++ leBytes 1 b.pool ++ leBytes 1 (if b.pool != 0 && b.idx == noRes then 0xFF else b.idx)))) ++ [BitVec.ofNat 8 (b2n split), 0, 0, 0]

/-- Is any engine pair split? -/
def State.anySplit (s : State) : Bool := allP.any (fun p => s.rd (F.PAIR_STATUS_STATE p) == 4)

/-- The placement digest of the present bindings. -/
def State.digestNow (s : State) : Nat := crc32c (digestBytes s.img.insts s.plc.binds s.anySplit)

/-! ## The fault map and the registers -/

/-- Fault-map state of a resource (R368). -/
def State.fm (s : State) (p r : Nat) : Nat := Al.get (fun _ => 0) s.plc.fm (64 * p + r)

/-- Show POOL_STATUS of a pool (R383). -/
def State.showPool (s : State) (p : Nat) : State :=
  let n := s.poolSize p
  let bound := (List.range n).countP (fun r => !freeIn s.plc.binds p r)
  let spare := (List.range n).countP (fun r => freeIn s.plc.binds p r && s.fm p r == 0)
  let bad := (List.range n).countP (fun r => decide (2 ≤ s.fm p r))
  (((s.wr (F.POOL_STATUS_PRESENT (p - 2)) n).wr (F.POOL_STATUS_BOUND (p - 2)) bound).wr (F.POOL_STATUS_SPARE (p - 2)) spare).wr
    (F.POOL_STATUS_FAULTY (p - 2)) bad

/-- Set a fault-map state and show it. -/
def State.setFm (s : State) (p r st : Nat) : State :=
  let s := { s with plc := { s.plc with fm := Al.set (fun _ => 0) s.plc.fm (64 * p + r) st } }
  let f := st == 3
  let s := match p with
    | 2 => s.setBit F.FAULT_SES r f
    | 3 => s.setBit F.FAULT_ENG r f
    | 4 => if r < 32 then s.setBit F.FAULT_CVU_LO r f else s.setBit F.FAULT_CVU_HI (r - 32) f
    | 5 => (s.setBit F.FAULT_DRAM r f).setBit F.DEGR_DRAM r (st == 2)
    | 6 => s.setBit F.FAULT_REC r f
    | _ => s
  s.showPool p

/-- The binding registers of a doorway. -/
def plcDwy (d p : Nat) : Fld := match p with | 2 => F.PLC_DWY_SES d | 3 => F.PLC_DWY_ENG d | 5 => F.PLC_DWY_DRAM d | _ => F.PLC_DWY_REC d

/-- The resource of pool p that doorway d uses now. -/
def State.resOf (s : State) (d : DIx) (p : Nat) : Nat := let r := s.rd (plcDwy d.val p); if r = 0x3F then noRes else r

/-- The doorway that uses resource r of pool p, if any. -/
def State.userOf (s : State) (p r : Nat) : Option DIx := allD.find? (fun d => s.declared d && s.resOf d p == r)

/-- Does doorway d wait for a move? -/
def State.movePending (s : State) (d : DIx) : Bool := s.plc.moves.any (fun m => m.dwy == d.val && !m.started)

/-- Show the bindings of every doorway and the pending moves. -/
def State.showPlc (s : State) : State :=
  let bs := s.plc.binds
  let insts := s.img.insts
  let s := allD.foldl (fun t d => [poolSes, poolEng, poolDram, poolRec].foldl (fun t p =>
    let idx := match bs.find? (fun b => b.pool == p && dwyOfInst insts b.f == d.val) with | some b => b.idx | none => noRes
    t.wr (plcDwy d.val p) (if t.declared d then idx else noRes)) t) s
  let s := allD.foldl (fun t d => t.setF (F.PLC_DWY_MOVE_PENDING d.val) (t.movePending d)) s
  let s := s.setF F.PLC_STATUS_PENDING (s.plc.moves.any (fun m => m.plan && !m.started))
  let placed := insts.countP (fun i => (bs.filter (fun b => b.f == i.f)).all (fun b => b.pool == 0 || b.idx != noRes))
  let s := (s.wr F.PLC_STATUS_PLACED placed).setF F.PLC_STATUS_VALID true
  [2, 3, 4, 5, 6].foldl State.showPool s

/-- A binding changed, or a split or rejoin came about (R382): digest, PLC_LAST, PLC_CHANGES and 0x5C01. Doorway 0x1F and indices 0x3F
stand for none. -/
def State.placementChanged (s : State) (cause pool dwy old new : Nat) : State :=
  let was := s.rd F.PLC_DIGEST
  let s := s.showPlc
  let now := s.digestNow
  let s := ((s.wr F.PLC_DIGEST now).inc F.PLC_CHANGES).wr F.PLC_LAST_CAUSE cause
  let s := (((s.wr F.PLC_LAST_POOL pool).wr F.PLC_LAST_DOORWAY dwy).wr F.PLC_LAST_OLD old).wr F.PLC_LAST_NEW new
  s.stage 0x5C01 sysRec ([cause, now, was] ++ (if pool = 0 then [0xFF, 0xFF, 0xFF, 0xFF] else
    [if dwy = 0x1F then 0xFF else dwy, pool, if old = noRes then 0xFF else old, if new = noRes then 0xFF else new]))

/-- Bind resource `new` of pool p to every instance of doorway d that uses the pool (R375), which ends its deferred move for that pool (R376).
The binding is pinned when it takes the pinned target of that move (R373, R379). -/
def State.rebind (s : State) (d : DIx) (p new cause : Nat) : State :=
  let old := s.resOf d p
  let mine : Move → Bool := fun m => m.dwy == d.val && m.pool == p && !m.started
  let pin := s.plc.moves.any (fun m => mine m && m.pin && m.target == new)
  let bs := s.plc.binds.map (fun b => if b.pool == p && dwyOfInst s.img.insts b.f == d.val then { b with idx := new, pinned := pin } else b)
  ({ s with plc := { s.plc with binds := bs, moves := s.plc.moves.filter (fun m => !mine m) } } : State).placementChanged cause p d.val old new

/-- Fault-map state of a resource as a choice of a spare sees it: an engine pair counts as HEALTHY only in PAIR_STATUS.STATE SPARE (R142, R158). -/
def State.fmNow (s : State) (p r : Nat) : Nat :=
  if p = poolEng ∧ s.rd (F.PAIR_STATUS_STATE (Fin.ofNat 32 r)) ≠ 1 then max 1 (s.fm p r) else s.fm p r

/-- A resource is a spare: HEALTHY and free; for an engine pair that is PAIR_STATUS.STATE SPARE outside a golden test (R158, R368). -/
def State.isSpare (s : State) (p r : Nat) : Bool := decide (r < s.poolSize p) && s.fmNow p r == 0 && freeIn s.plc.binds p r

/-- Doorways a and b exchange the resources of pool p that they took in the same tick; for engine pairs what the pairs have begun goes with them. -/
def State.swapPicks (s : State) (p a b : Nat) : State :=
  let at_ := fun (x : Nat) => match s.plc.picks.find? (fun k => k.pool == p && k.dwy == x) with | some k => k.res | none => noRes
  let other := fun (x : Nat) => if x = a then b else if x = b then a else x
  let ra := at_ a
  let rb := at_ b
  let binds := s.plc.binds.map (fun x =>
    let w := dwyOfInst s.img.insts x.f
    if x.pool == p && w == a then { x with idx := rb } else if x.pool == p && w == b then { x with idx := ra } else x)
  let moves := s.plc.moves.map (fun m =>
    if m.started && m.pool == p && m.dwy == a then { m with target := rb } else if m.started && m.pool == p && m.dwy == b then { m with target := ra } else m)
  let picks := s.plc.picks.map (fun k => if k.pool == p then { k with dwy := other k.dwy } else k)
  let s : State := { s with plc := { s.plc with binds := binds, moves := moves, picks := picks } }
  let s := s.when (p == poolEng) (fun t =>
    let x : PIx := Fin.ofNat 32 ra
    let y : PIx := Fin.ofNat 32 rb
    let e := t.eng x
    let f := t.eng y
    (((t.modEng x (fun _ => f)).modEng y (fun _ => e)).wr (F.PAIR_STATUS_DOORWAY x) b).wr (F.PAIR_STATUS_DOORWAY y) a)
  (s.placementChanged 2 p a ra rb).placementChanged 2 p b rb ra

/-- Doorway d has taken spare n of pool p after a fault. Of the doorways that did so in the same 1 ms tick a lower one gets the higher-index spare
(R376): the new one changes places with each higher doorway in turn. -/
def State.picked (s : State) (d : DIx) (p n : Nat) : State :=
  let ms := s.now / msT 1
  let was := s.plc.picks.filter (fun k => k.ms == ms)
  let s : State := { s with plc := { s.plc with picks := { ms := ms, pool := p, dwy := d.val, res := n } :: was } }
  ((List.range 24).foldl (fun (a : State × Nat) e =>
    if d.val < e && was.any (fun k => k.pool == p && k.dwy == e) then (a.1.swapPicks p a.2 e, e) else a) (s, d.val)).1

/-- The spare that doorway d takes in pool p: the target of a deferred move if it is a spare, else the highest index (R375, R376). -/
def State.pickSpare (s : State) (d : DIx) (p : Nat) : Option Nat :=
  match s.plc.moves.find? (fun m => m.dwy == d.val && m.pool == p && !m.started) with
  | some x => if s.isSpare p x.target then some x.target else topSpare s.poolSize s.fmNow s.plc.binds p
  | none => topSpare s.poolSize s.fmNow s.plc.binds p

/-- The physical unit that instance f holds. -/
def State.plcUnit (s : State) (f : Nat) : Nat :=
  match s.plc.binds.find? (fun b => b.f == f && b.pool == poolCvu) with | some b => b.idx | none => noRes

/-- Write 0x5C03 for an instance without a resource, and its consequence (R371). -/
def State.short (s : State) (f p : Nat) : State :=
  let d := dwyOfInst s.img.insts f
  let s := (s.setF F.PLC_STATUS_SHORT true).stage 0x5C03 (if d < 24 then d else sysRec) [f, p]
  if h : d < 24 then s.fence ⟨d, h⟩ 12 else if p = poolCvu then s.enterSafe 6 else s

/-- Doorway d loses its resource of pool p and no spare exists (R371, R375, R398). -/
def State.unplace (s : State) (d : DIx) (p : Nat) : State :=
  let other := s.flt.windows.any (fun w => w.dwy != d.val && w.dwy < 24)
  let s := s.rebind d p noRes 2
  let fs := (s.plc.binds.filter (fun b => b.pool == p && dwyOfInst s.img.insts b.f == d.val)).map (·.f)
  let s := fs.foldl (fun t f => t.short f p) s
  s.when other (fun t => t.fence d 14)

/-! ## Computations (R370, R379) -/

/-- State of a unit after a placement: enabled on its physical unit, unplaced, or disabled (R419). A unit that keeps its physical unit goes on; one that
gets another changes it while disabled, and counts anew from its enable (R405). A unit under test stays so (R408). -/
def State.showCvu (s : State) : State :=
  (List.range 64).foldl (fun t n =>
    let u : UIx := Fin.ofNat 64 n
    match t.img.insts.find? (fun i => i.ty == 0x11 && i.unit == n) with
    | none => (t.wr (F.CVU_STATUS_STATE u) 0).wr (F.CVU_STATUS_PHYS u) noRes
    | some i => match t.plc.binds.find? (fun b => b.f == i.f && b.pool == poolCvu) with
      | some b =>
        let st := t.rd (F.CVU_STATUS_STATE u)
        if b.idx = noRes then (t.wr (F.CVU_STATUS_STATE u) 3).wr (F.CVU_STATUS_PHYS u) noRes
        else if t.rd (F.CVU_STATUS_PHYS u) = b.idx ∧ (st = 1 ∨ st = 2) then t
        else ((t.wr (F.CVU_STATUS_STATE u) (if st = 2 then 2 else 1)).wr (F.CVU_STATUS_PHYS u) b.idx).wr (F.CVU_COUNT u) 0
      | none => (t.wr (F.CVU_STATUS_STATE u) 3).wr (F.CVU_STATUS_PHYS u) noRes) s

/-- Show the state of every present pair after a placement (R158): BOUND with its doorway, SPARE or FAULTY. -/
def State.showPairs (s : State) : State :=
  allP.foldl (fun t p =>
    if t.nPair ≤ p.val then t
    else match t.userOf poolEng p.val with
      | some d => (t.wr (F.PAIR_STATUS_STATE p) 2).wr (F.PAIR_STATUS_DOORWAY p) d.val
      | none => (t.wr (F.PAIR_STATUS_STATE p) (if t.fm poolEng p.val = 3 then 7 else 1)).wr (F.PAIR_STATUS_DOORWAY p) 0x1F) s

/-- The unmet hints and the unplaced instances of a computed placement are recorded (R371, R373). -/
def State.placementRecords (s : State) : State :=
  let bs := s.plc.binds
  let s := (s.setF F.PLC_STATUS_SHORT false).setF F.PLC_STATUS_HINT_UNMET (bs.any (·.unmet))
  let s := s.img.hints.foldl (fun t h =>
    if bs.any (fun b => b.f == h.f && b.pool == h.pool && b.unmet) then
      let d := dwyOfInst t.img.insts h.f
      t.stage 0x5C02 (if d < 24 then d else sysRec) [h.f, h.pool, h.idx, t.fm h.pool h.idx]
    else t) s
  (bs.filter (fun b => b.pool != 0 && b.idx == noRes)).foldl (fun t b => t.short b.f b.pool) s

/-- Is every instance of doorway d bound? -/
def State.doorPlaced (s : State) (d : DIx) : Bool :=
  (s.img.insts.filter (fun i => i.dwy == d.val)).all (fun i => (s.plc.binds.filter (fun b => b.f == i.f)).all (fun b => b.pool == 0 || b.idx != noRes))

/-- Fence bits 12 and 14 clear where a placement binds every instance of the doorway (R388); cause 6 of SAFE clears where a new image places every
check-value unit (R391). -/
def State.placementClears (s : State) : State :=
  let s := allD.foldl (fun t d =>
    if t.declared d && t.doorPlaced d then
      (t.when (bitOf (t.fenceSet d) 11) (fun t => t.fenceClear d 12)).when (bitOf (t.fenceSet d) 13) (fun t => t.fenceClear d 14)
    else t) s
  s.when (bitOf (s.rd F.FLT_SAFE_PENDING) 5 && s.plc.binds.all (fun b => b.pool != poolCvu || b.idx != noRes)) (fun t => t.clearCause 6)

/-- PLACEMENT_COMPUTE (R369, R370): a placement of the whole image; `cause` is 1 at the exit from CONFIG, 5 for a new image. -/
def State.computePlacement (s : State) (cause : Nat) : State :=
  let bs := placement s.poolSize s.fm s.img.insts s.img.hints
  let s := { s with plc := { s.plc with binds := bs, moves := [], replaceDue := false } }
  (((s.placementChanged cause 0 0x1F noRes noRes).showPairs).showCvu).placementRecords.placementClears

/-- Is a move of R375 under way: one that has started, or one whose window is open (R376, R397)? -/
def State.moveRuns (s : State) : Bool :=
  s.plc.moves.any (·.started) || s.flt.windows.any (fun w => w.kind == 0 || w.kind == 5 || w.kind == 6 || w.kind == 7)

/-- A non-structural image whose PLACE differs (R379): CVU and fixed bindings apply at once, doorway bindings one doorway at a time. A doorway
that the new map leaves without a resource of a pool keeps the one it has (DESIGN CHOICE, log entry 170). -/
def State.replaceNow (s : State) : State :=
  let new := placement s.poolSize s.fm s.img.insts s.img.hints
  let held : Bind → Bool := fun b => b.pool == poolSes || b.pool == poolEng || b.pool == poolDram || b.pool == poolRec
  let old := s.plc.binds
  let bs := new.map (fun b => if held b then (match old.find? (fun o => o.f == b.f && o.pool == b.pool) with
    | some o => { b with idx := o.idx, pinned := b.pinned && o.idx == b.idx }
    | none => b) else b)
  let moves := allD.flatMap (fun d => if !s.declared d then [] else [poolSes, poolEng, poolDram, poolRec].flatMap (fun p =>
    match new.find? (fun b => b.pool == p && dwyOfInst s.img.insts b.f == d.val) with
    | some b => if b.idx == s.resOf d p || b.idx == noRes then [] else
        [({ dwy := d.val, pool := p, target := b.idx, plan := true, pin := b.pinned } : Move)]
    | none => []))
  let still := s.plc.moves.filter (fun m => !m.plan && !moves.any (fun n => n.dwy == m.dwy && n.pool == m.pool))
  let s := { s with plc := { s.plc with binds := bs, moves := still ++ moves, replaceDue := false } }
  ((s.placementChanged 5 0 0x1F noRes noRes).showCvu).placementRecords.placementClears

/-- The new map of R379 is computed once the moves under way have completed (R376). -/
def State.replace (s : State) : State :=
  if s.moveRuns then { s with plc := { s.plc with replaceDue := true } } else s.replaceNow

/-- A new map that has waited for the moves under way is computed (R376). -/
def State.replaceLate (s : State) : State := if s.plc.replaceDue && !s.moveRuns then s.replaceNow else s

/-! ## Moves of slots, regions and checkpoint slots (R375–R378) -/

/-- A move has started: remember what it left, and the deferred move it carries out (R400). -/
def State.moveStarted (s : State) (d : DIx) (p new old : Nat) (was : Option Move) : State :=
  let plan := match was with | some m => m.plan && m.target == new | none => false
  let pin := match was with | some m => m.pin && m.target == new | none => false
  let mv : Move := { dwy := d.val, pool := p, target := new, started := true, old := old, plan := plan, pin := pin }
  { s with plc := { s.plc with moves := s.plc.moves ++ [mv] } }

/-- The deferred move of doorway d in pool p, if one waits. -/
def State.waits (s : State) (d : DIx) (p : Nat) : Option Move := s.plc.moves.find? (fun m => m.dwy == d.val && m.pool == p && !m.started)

/-- A started move has ended. -/
def State.moveEnded (s : State) (d : DIx) (p : Nat) : State :=
  { s with plc := { s.plc with moves := s.plc.moves.filter (fun m => !(m.started && m.dwy == d.val && m.pool == p)) } }

/-- Move doorway d off a faulty evaluation slot (R375, R378). -/
def State.moveSlot (s : State) (d : DIx) : State :=
  let old := s.resOf d poolSes
  match s.pickSpare d poolSes with
  | some n =>
    let was := s.waits d poolSes
    ((s.rebind d poolSes n 2).moveStarted d poolSes n old was).when (was.all (fun m => m.target != n)) (fun t => t.picked d poolSes n)
  | none => s.unplace d poolSes

/-- EVAL_SLOT_FAULT: a mismatch (1) or a failed self-test (2) of the slot of doorway d (R378, R404). -/
def evalSlotFault (d : DIx) (kind : Fin 3) (s : State) : State :=
  s.onD d fun s =>
    let slot := s.resOf d poolSes
    if slot = noRes ∨ kind.val = 0 then s
    else
      let new := s.pickSpare d poolSes
      let s := (s.fault d 0x4C01).fence d 8
      let s := (s.when (s.modState != 4) (fun t => t.openWin 5 d.val)).setFm poolSes slot 3
      let s := s.stage 0x4C01 d.val [slot, kind.val, match new with | some n => n | none => 0xFF]
      -- no move starts in SAFE (R400)
      if s.modState = 4 then s else s.moveSlot d

/-- SLOT_MOVE_COMPLETE: the new slot has loaded the safety parameters; `ok` says that their check equals the image (R378). -/
def slotMoveComplete (d : DIx) (ok : Bool) (s : State) : State :=
  s.onD d fun s =>
    let r := s.resOf d poolSes
    if ok && r != noRes && s.fm poolSes r == 0 && bitOf (s.fenceSet d) 7 then
      let s := ((s.moveEnded d poolSes).closeWin 5 d.val).fenceClear d 8
      s.when (bitOf (s.fenceSet d) 13) (fun t => t.fenceClear d 14)
    else s

/-- DRAM_CORRECTABLE_ERROR in a region, 32 for the system area (R377, R401). -/
def dramCorrectableError (r : Fin 33) (s : State) : State :=
  s.onM fun s =>
    let s := s.inc F.FLT_DRAM_CORR
    if 32 ≤ r.val ∨ s.inRun = false then s
    else { s with plc := { s.plc with dramErr := (r.val, s.runTime) :: s.plc.dramErr.filter (fun e => decide (s.runTime < e.2 + msT 86400000)) } }

/-- Correctable errors of a region in the last 24 h of RUN. -/
def State.regionErrs (s : State) (r : Nat) : Nat := s.plc.dramErr.countP (fun e => e.1 == r && decide (s.runTime < e.2 + msT 86400000))

/-- The bindings of doorway d leave their region when a move may run (R377, R391): a deferred move of R379 keeps its target (R376). -/
def State.deferDram (s : State) (d : DIx) : State :=
  if (s.waits d poolDram).isSome then s
  else
    let mv : Move := { dwy := d.val, pool := poolDram, target := noRes }
    State.showPlc { s with plc := { s.plc with moves := s.plc.moves.filter (fun m => !(m.dwy == d.val && m.pool == poolDram)) ++ [mv] } }

/-- DRAM_REGION_DEGRADED: 16 or more correctable errors within 24 h of RUN (R377). -/
def dramRegionDegraded (r : PIx) (s : State) : State :=
  s.onM fun s =>
    let n := s.regionErrs r.val
    if n < 16 ∨ s.nPair ≤ r.val ∨ s.fm poolDram r.val ≠ 0 then s
    else
      let u := s.userOf poolDram r.val
      let s := (match u with | some d => s.fault d 0x4C02 | none => s.faultM).setFm poolDram r.val 2
      let s := s.stage 0x4C02 (match u with | some d => d.val | none => sysRec) [r.val, n]
      match u with
      | some d =>
        s.deferDram d
      | none => s

/-- The doorway is where a move may run: all three axes at rest, a resting state, and the pairs joined (R377). -/
def State.moveOk (s : State) (d : DIx) : Bool :=
  let st := s.st d
  s.allAtRest d && !s.coppiced &&
  (st == .closedLocked || st == .unproven || st == .isolated || st == .fenced || st == .held || st == .opened)

/-- Verdict of a doorway made UNKNOWN with a cause and no zone set (R110, R143). -/
def State.verdictOut (s : State) (d : DIx) (cause : Nat) : State :=
  ((s.wr (F.VERDICT_VERDICT d) 0x3C).wr (F.VERDICT_CAUSE d) cause).wr (F.VERDICT_ZONESET d) 0 |>.modTopi d (fun t => { t with causes := [cause], held := false })

/-- The move of doorway d in pool p waits for its target, which another doorway still holds (R379). -/
def State.targetBusy (s : State) (d : DIx) (p : Nat) : Bool :=
  match s.plc.moves.find? (fun m => m.dwy == d.val && m.pool == p) with
  | some m => m.target != noRes && !s.isSpare p m.target && s.fm p (s.resOf d p) == 0
  | none => false

/-- Start of a move of the DRAM, SES or REC pool; engine pairs move under R143. -/
def State.startMove (s : State) (d : DIx) (p : Nat) : State :=
  let old := s.resOf d p
  if s.targetBusy d p then s
  else match s.pickSpare d p with
  | some n =>
    let was := s.waits d p
    let due := s.fm p old != 0 && was.all (fun m => m.target != n)
    let s := ((s.rebind d p n 2).moveStarted d p n old was).when due (fun t => t.picked d p n)
    let s := s.when (p == poolDram) (fun t => (t.openWin 6 d.val).verdictOut d 9)
    s.showPlc
  | none => s.unplace d p

/-- A move of a FAULTY region may run in SAFE (R391, R400); no other move starts there. -/
def State.moveStartable (s : State) (d : DIx) (m : Move) : Bool :=
  !m.started && m.dwy == d.val &&
  (if s.modState = 4 then m.pool == poolDram && s.fm poolDram (s.resOf d poolDram) == 3 else s.moveOk d)

/-- May doorway d be evaluated on its slot: a healthy one that has loaded its parameters (R371, R378)? -/
def State.slotReady (s : State) (d : DIx) : Bool :=
  let r := s.resOf d poolSes
  r != noRes && s.fm poolSes r == 0 && !s.plc.moves.any (fun m => m.started && m.dwy == d.val && m.pool == poolSes)

/-- May frames of doorway d use its region: not a FAULTY one, nor one still being loaded (R375, R391)? -/
def State.regionReady (s : State) (d : DIx) : Bool :=
  s.fm poolDram (s.resOf d poolDram) != 3 && !s.plc.moves.any (fun m => m.started && m.dwy == d.val && m.pool == poolDram)

/-! ## The commands of this file -/

/-- The meaning of EVAL_SLOT_FAULT (R378). -/
def execEvalSlotFault (d : DIx) (kind : Fin 3) (s : State) : Host.Outcome State Fault Refusal := .next (s.done (evalSlotFault d kind s))

/-- The meaning of SLOT_MOVE_COMPLETE (R378). -/
def execSlotMoveComplete (d : DIx) (ok : Bool) (s : State) : Host.Outcome State Fault Refusal := .next (s.done (slotMoveComplete d ok s))

/-- The meaning of DRAM_REGION_DEGRADED (R377). -/
def execDramRegionDegraded (r : PIx) (s : State) : Host.Outcome State Fault Refusal := .next (s.done (dramRegionDegraded r s))

/-- The meaning of DRAM_CORRECTABLE_ERROR (R401). -/
def execDramCorrectableError (r : Fin 33) (s : State) : Host.Outcome State Fault Refusal := .next (s.done (dramCorrectableError r s))

end Sys2Proof.Machine
end

