-- ==== Sys2Proof/Machine/Pipeline.lean ====
section
/-!
DEFINITION. Machine/Pipeline.lean: the stages S1–S7 of a depth frame (R97–R107, R116, R117) as each copy runs them (R132–R136): expected ranges,
pixel classes, clusters, the thin-structure detector, the platform, the zone results, the verdict word, and the signatures.
-/
namespace Sys2Proof.Machine

/-! ## The Topiary model (R93, R95) -/

/-- The ROI pixels in ROI order (R95). -/
def roiOf (m : List Byte) : List Nat := (List.range 307200).filter (modelBit m 0x01000)

/-- A ROI pixel of a frame as the stages see it: pixel, expected range E, σ, depth word, flags, zone label, and whether a silhouette is near. -/
structure RoiPix where
  px : Nat
  e : Nat
  sigma : Nat
  d : Nat
  flags : Nat
  label : Nat
  nearBody : Bool
  nearLeaf : Bool
deriving DecidableEq, Repr

/-- Pixel classes (R101). -/
inductive PixClass where
  | invalid
  | skip
  | foreground
  | absent
  | background
deriving DecidableEq, Repr

/-- The settings of R127 that the stages use. -/
structure StageCfg where
  edge : Nat
  seam : Nat
  sweep : Nat
  resTol : Nat
  seamTol : Nat
  kSigma : Nat
  minPix : Nat
  ridgeMin : Nat
  lenMin : Nat
  invMax : Nat
  invRun : Nat
  absMax : Nat
deriving DecidableEq, Repr

/-- The present settings of doorway d. -/
def State.stageCfg (s : State) (d : DIx) : StageCfg :=
  { edge := s.rd (F.ZONE_CFG_EDGE_MARGIN d), seam := s.rd (F.ZONE_CFG_SEAM_HALF d), sweep := s.rd (F.ZONE_CFG_SWEEP_MIN d),
    resTol := s.rd (F.RES_CFG_RES_TOL d), seamTol := s.rd (F.RES_CFG_SEAM_TOL d), kSigma := s.rd (F.RES_CFG_K_SIGMA d),
    minPix := s.rd (F.RES_CFG_MIN_PIX d), ridgeMin := s.rd (F.THIN_CFG_RIDGE_MIN d), lenMin := s.rd (F.THIN_CFG_LEN_MIN d),
    invMax := s.rd (F.THIN_CFG_INV_MAX d), invRun := s.rd (F.THIN_CFG_INV_RUN d), absMax := s.rd (F.PROOF_CFG_ABS_MAX d) }

/-! ## S1: pose and render -/

/-- The pose entry nearest to a time, if the history still reaches back to it (R100). -/
def nearestPose (poses : List Pose) (t : Nat) : Option Pose :=
  match poses.getLast? with
  | none => none
  | some last =>
    if t < last.tick then none
    else poses.foldl (fun best p => match best with
      | none => some p
      | some b => if ((p.tick : Int) - t).natAbs < ((b.tick : Int) - t).natAbs then some p else some b) none

/-- A channel of a pose entry carried to a time, 1/256 count (R212). -/
def extrapolate (p : Pose) (a t : Nat) : Int :=
  nth p.exts a 0 * 256 + roundDiv (nth p.speeds a 0 * ((t : Int) - nth p.ticks a p.tick) * 256) 160000000

/-- Index of each adaptive ROI pixel's offset: how many adaptive pixels stand before ROI entry i, if entry i is adaptive (R93, R95). -/
def adaptIdx (m : List Byte) (i : Nat) : Option Nat :=
  if modelBit m 0x4C600 i then some ((List.range i).countP (modelBit m 0x4C600)) else none

/-- Static range of ROI entry i, and its σ (R95). -/
def staticOf (m : List Byte) (i : Nat) : Nat := fieldAt m (0x0A600 + 3 * i) 2
def sigmaOf (m : List Byte) (i : Nat) : Nat := fieldAt m (0x0A600 + 3 * i + 2) 1

/-- Adaptation offset of ROI entry i (R100, R125). -/
def offsetOf (m : List Byte) (offs : List Int) (i : Nat) : Int :=
  match adaptIdx m i with
  | some k => nth offs k 0
  | none => 0

/-- What a copy knows of a frame beside its pixels: ray geometry, adaptation offsets, poses of the bodies, settings, zone volumes and zone set. -/
structure Env where
  k : Copy
  w : View
  offs : List Int
  poses : List (List Int)
  cfg : StageCfg
  g : Zones
  zs : Nat
deriving DecidableEq, Repr

/-- Expected range of ROI entry i, pixel px: the nearest of the static range with its offset and the bodies (R100). -/
def View.expected (w : View) (offs : List Int) (poses : List (List Int)) (i px : Nat) : Nat :=
  let st := (staticOf w.m i + offsetOf w.m offs i).toNat
  match w.bodyAt poses px with
  | some b => min st b.2
  | none => st

/-- Zones that a zone set judges (R98). -/
def zonesOf (zs : Nat) : List Nat :=
  match zs with
  | 1 => [1, 2, 3]
  | 2 => [1, 2]
  | 3 => [4]
  | 4 => [3]
  | 5 => [1, 2]
  | _ => []

/-- The ROI pixels of a depth frame, rendered and labelled (S1, S3). A pixel without a depth is labelled where it is expected (log entry 149). -/
def Env.scene (v : Env) (f : DepthFrame) : List RoiPix :=
  let roi := roiOf v.w.m
  (roi.zip (List.range roi.length)).map (fun x =>
    let p := pixAt f.pix x.1
    let e := v.w.expected v.offs v.poses x.2 x.1
    { px := x.1, e := e, sigma := sigmaOf v.w.m x.2, d := p.depth, flags := p.flags,
      label := v.g.label (zonesOf v.zs) (v.w.point x.1 (if invalidFlags p.flags then e else p.depth)),
      nearBody := v.w.nearBody v.poses x.1, nearLeaf := v.w.nearLeaf v.poses x.1 })

/-! ## S2: pixel classes -/

/-- Are two pixels in each other's 3 × 3 neighbourhood (or the same)? -/
def adjacent (p q : Nat) : Bool :=
  decide (((p / 640 : Nat) : Int) - (q / 640 : Nat) ≤ 1) && decide (((q / 640 : Nat) : Int) - (p / 640 : Nat) ≤ 1) &&
  decide (((p % 640 : Nat) : Int) - (q % 640 : Nat) ≤ 1) && decide (((q % 640 : Nat) : Int) - (p % 640 : Nat) ≤ 1)

/-- Twice the foreground tolerance τ of a pixel, depth units (R101). -/
def tau2 (cfg : StageCfg) (p : RoiPix) : Nat := max (8 * (if p.label = 4 then cfg.seamTol else cfg.resTol)) (cfg.kSigma * p.sigma)

/-- Class of a pixel (R101). -/
def classOf (k : Copy) (cfg : StageCfg) (sc : List RoiPix) (p : RoiPix) : PixClass :=
  if invalidFlags p.flags then .invalid
  else if bitOf p.flags 4 && p.nearBody then .skip
  else
    let es := k.red ((sc.filter (fun q => adjacent p.px q.px)).map (·.e))
    let eMin := es.foldl min p.e
    let eMax := es.foldl max p.e
    if (2 * p.d : Int) < 2 * eMin - tau2 cfg p then .foreground
    else if (2 * eMax + tau2 cfg p : Int) < 2 * p.d then .absent
    else .background

/-- FLYING counts as INVALID in S4 and S5 (R101). -/
def isFlying (p : RoiPix) : Bool := bitOf p.flags 3

/-- Code of a class in the buffer of S2. -/
def PixClass.code : PixClass → Nat
  | .invalid => 0
  | .skip => 1
  | .foreground => 2
  | .absent => 3
  | .background => 4

/-! ## S4: clusters -/

/-- Pixels in the scan order of a copy, from ROI order (R133). -/
def Copy.scan (k : Copy) (l : List Nat) : List Nat :=
  match k with
  | .upright => l
  | .rotated => (List.range 640).flatMap (fun c => l.filter (fun px => px % 640 == c))

/-- One flood fill step by step: everything of `rest` that joins `front`, with as many rounds as there are pixels. -/
def floodFrom : Nat → List Nat → List Nat → List Nat → List Nat × List Nat
  | 0, _, got, rest => (got, rest)
  | n + 1, front, got, rest =>
    let near := rest.filter (fun q => front.any (fun p => adjacent p q))
    if near.isEmpty then (got, rest)
    else floodFrom n near (got ++ near) (rest.filter (fun q => !front.any (fun p => adjacent p q)))

/-- The 8-connected parts of a set of pixels (R102, R104). -/
def parts : Nat → List Nat → List (List Nat)
  | 0, _ => []
  | _, [] => []
  | n + 1, p :: rest =>
    let r := floodFrom (rest.length + 1) [p] [p] rest
    r.1 :: parts n r.2

/-- The 8-connected parts of some pixels of a copy. -/
def Copy.parts (k : Copy) (l : List Nat) : List (List Nat) := Machine.parts l.length (k.scan l)

/-- Largest of some parts. -/
def largest (l : List (List Nat)) : Nat := l.foldl (fun m c => max m c.length) 0

/-- The clusters of a zone (R102). -/
def clusters (k : Copy) (cls : List (RoiPix × PixClass)) (zone : Nat) : List (List Nat) :=
  k.parts ((cls.filter (fun x => x.2 == .foreground && !isFlying x.1 && x.1.label == zone)).map (·.1.px))

/-- Does a zone hold an object by clusters (R102)? -/
def clusterObject (k : Copy) (cfg : StageCfg) (cls : List (RoiPix × PixClass)) (zone : Nat) : Bool :=
  decide ((if zone = 4 then max 2 (cfg.minPix / 4) else cfg.minPix) ≤ largest (clusters k cls zone))

/-! ## S5: the thin-structure detector (R103, R104) -/

/-- A pixel at k steps in a direction (dr, dc) from px, if inside the image. -/
def stepPx (px : Nat) (u : Int × Int) (k : Int) : Option Nat :=
  let r : Int := (px / 640 : Nat) + u.1 * k
  let c : Int := (px % 640 : Nat) + u.2 * k
  if 0 ≤ r ∧ r < 480 ∧ 0 ≤ c ∧ c < 640 then some (640 * r.toNat + c.toNat) else none

/-- The four directions 0°, 45°, 90°, 135°. -/
def ridgeDirs : List (Int × Int) := [(0, 1), (-1, 1), (-1, 0), (-1, -1)]

/-- Is a pixel excluded from the detector: INVALID, FLYING or SKIP? -/
def ridgeOut (x : RoiPix × PixClass) : Bool := x.2 == .invalid || x.2 == .skip || isFlying x.1

/-- Deficit at a pixel, none where it is excluded (R103). DESIGN CHOICE (log entry 187): a pixel that is INVALID or FLYING is excluded also where it lies
outside GAP and SEAM. -/
def dfc (cls : List (RoiPix × PixClass)) (q : Option Nat) : Option Int :=
  match q with
  | none => some 0
  | some px => match cls.find? (fun x => x.1.px == px) with
    | none => some 0
    | some x =>
      if ridgeOut x then none
      else if (x.1.label != 1 && x.1.label != 4) || x.1.nearLeaf then some 0
      else some ((x.1.e : Int) - x.1.d)

/-- Response at a pixel in one direction, in twelfths of a depth unit, in which the mean of one to four flank pixels is exact (R132), and whether the
accumulator of its flank saturated (R103). -/
def ridgeResp (k : Copy) (cls : List (RoiPix × PixClass)) (px : Nat) (u : Int × Int) : Int × Bool :=
  let g := fun (n : Int) => dfc cls (stepPx px u n)
  let v := fun (n : Int) => match g n with | some x => x | none => 0
  let m : Int := max 0 (max (v (-1)) (v 1))
  let core := v 0 + m
  let ncore : Int := if 0 < m then 2 else 1
  let fl := [g (-2), g 2, g (-3), g 3].filterMap id
  let sum := accSum (k.red fl)
  (12 * core - (if fl.isEmpty then 0 else ncore * sum.1 * (12 / fl.length : Nat)), sum.2)

/-- The responses of a pixel of GAP or SEAM, none where it is excluded. -/
def ridgeAll (k : Copy) (cls : List (RoiPix × PixClass)) (x : RoiPix × PixClass) : List (Int × Bool) :=
  if ridgeOut x || (x.1.label != 1 && x.1.label != 4) then [] else ridgeDirs.map (fun u => ridgeResp k cls x.1.px u)

/-- Largest response of a pixel in twelfths of a depth unit, none where it is excluded. -/
def ridgeBest (k : Copy) (cls : List (RoiPix × PixClass)) (x : RoiPix × PixClass) : Option Int :=
  match (ridgeAll k cls x).map (·.1) with
  | [] => none
  | r :: l => some ((k.red (r :: l)).foldl max r)

/-- The ridge pixels of a zone. -/
def ridgePixels (k : Copy) (cfg : StageCfg) (cls : List (RoiPix × PixClass)) (zone : Nat) : List Nat :=
  (cls.filter (fun x => x.1.label == zone && (match ridgeBest k cls x with | some r => decide ((12 * cfg.ridgeMin : Nat) ≤ r) | none => false))).map (·.1.px)

/-- The lines of a zone (R104). -/
def ridgeLines (k : Copy) (cfg : StageCfg) (cls : List (RoiPix × PixClass)) (zone : Nat) : List (List Nat) := k.parts (ridgePixels k cfg cls zone)

/-- Longest run of INVALID or FLYING pixels in a zone (R104). -/
def invalidRun (k : Copy) (cls : List (RoiPix × PixClass)) (zone : Nat) : Nat :=
  largest (k.parts ((cls.filter (fun x => x.1.label == zone && (x.2 == .invalid || isFlying x.1))).map (·.1.px)))

/-! ## S6: the platform (R116, R117) -/

/-- Width of a bin of S6, 10 mm. -/
def binW : Nat := 10 * mm

/-- Median z of each 10 mm bin of y, none where it holds fewer than 20 points. -/
def platBins (pts : List (Int × Int)) : List (Option Int) :=
  (List.range 60).map (fun (b : Nat) =>
    let zs := (pts.filter (fun p => decide (((binW * b : Nat) : Int) ≤ p.1) && decide (p.1 < ((binW * (b + 1) : Nat) : Int)))).map (·.2)
    if zs.length < 20 then none else some (median zs))

/-- A bin that a platform may give: used, with its median within ±300 mm. -/
def platBinOk (b : Option Int) : Bool := match b with | some z => decide (z.natAbs ≤ 300 * mm) | none => false

/-- First bin of a run of at least five. -/
def platRun (bs : List (Option Int)) : Option Nat :=
  (List.range 60).find? (fun b => (List.range 5).all (fun k => decide (b + k < 60) && platBinOk (nth bs (b + k) none)))

/-- The refined platform edge (R116): where the median z, linear between the middles of the bins, crosses halfway between the bin before
the run and the median of the run's first five bins; the start of the run where that bin has no median (log entry 151). -/
def edgeRefine (bs : List (Option Int)) (b : Nat) : Int :=
  let here := (nth bs b none).getD 0
  match (if b = 0 then none else nth bs (b - 1) none) with
  | none => (binW * b : Nat)
  | some z =>
    let run := median ((List.range 5).filterMap (fun n => nth bs (b + n) none))
    let half : Int := (binW / 2 : Nat)
    let at_ : Int := (binW * b : Nat)
    if here = z then at_
    else clampI (at_ - half) (at_ + half) (at_ - half + roundDiv (half * (run - z) * (if here < z then -1 else 1)) (here - z).natAbs)

/-- The points (y, z) of S6: valid points of the PLATFORM zone within the clear width (R116). -/
def Env.platPoints (v : Env) (f : DepthFrame) : List (Int × Int) :=
  (v.k.scan (roiOf v.w.m)).filterMap (fun px =>
    let p := pixAt f.pix px
    let q := v.w.point px p.depth
    if !invalidFlags p.flags && inPlat v.w.m q && decide (2 * q.x.natAbs ≤ clearWidth v.w.m) then some (q.y, q.z)
    else none)

/-- Platform result of a frame whose arithmetic stands (R117): none invalid, some none no platform, some a measurement in depth units. A ROI pixel belongs to the
PLATFORM zone when its ray meets it. -/
def Env.platform (v : Env) (f : DepthFrame) : Option (Option (Int × Int)) :=
  let zone := (roiOf v.w.m).filter (fun px => v.w.meets px (platLo v.w.m) (platHi v.w.m))
  let valid := zone.countP (fun px => !invalidFlags (pixAt f.pix px).flags)
  if 100 * valid < 60 * zone.length then none
  else
    let pts := v.platPoints f
    let bs := platBins pts
    match platRun bs with
    | none => some none
    | some b =>
      let y := edgeRefine bs b
      if (400 * mm : Nat) < y then some none
      else
        let z := median ((pts.filter (fun p => decide (y + (20 * mm : Nat) ≤ p.1) && decide (p.1 ≤ y + (120 * mm : Nat)))).map (·.2))
        some (some (roundDiv y perDepth, roundDiv z perDepth))

/-! ## S7: zone results and verdict (R106, R107) -/

/-- Result of a zone, as the register codes it (1 CLEAR, 2 OBSTRUCTED, 3 UNKNOWN), and the causes of UNKNOWN (R106, R108). -/
def zoneResult (k : Copy) (cfg : StageCfg) (cls : List (RoiPix × PixClass)) (zone : Nat) : Nat × List Nat :=
  let mine := cls.filter (fun x => x.1.label == zone && x.2 != .skip)
  let inv := mine.countP (fun x => x.2 == .invalid)
  let abs_ := mine.countP (fun x => x.2 == .absent)
  let valid := mine.length - inv
  let thin := zone = 1 ∨ zone = 4
  if clusterObject k cfg cls zone || (decide thin && decide (cfg.lenMin ≤ largest (ridgeLines k cfg cls zone))) then (2, [])
  else
    let c2 := decide (cfg.invMax * mine.length < 100 * inv) || (decide thin && decide (cfg.invRun ≤ invalidRun k cls zone)) || valid == 0
    let c3 := decide (cfg.absMax * valid < 100 * abs_)
    if c2 || c3 then (3, (if c2 then [2] else []) ++ (if c3 then [3] else [])) else (1, [])

/-- Residuals of the adaptive pixels: D − (static range + offset), none where invalid (R125). -/
def residuals (m : List Byte) (offs : List Int) (f : DepthFrame) : List (Option Int) :=
  let roi := roiOf m
  (roi.zip (List.range roi.length)).filterMap (fun x => match adaptIdx m x.2 with
    | none => none
    | some _ =>
      let p := pixAt f.pix x.1
      some (if invalidFlags p.flags then none else some ((p.depth : Int) - (staticOf m x.2 + offsetOf m offs x.2))))

/-- What S7 gives for the classified pixels of a frame under a confirmed model (R106, R107, R117, R125). -/
def Env.judge (v : Env) (f : DepthFrame) (cls : List (RoiPix × PixClass)) (poseBad : Bool) : FrameRes :=
  let zl := zonesOf v.zs
  let res := zl.map (fun z => (z, zoneResult v.k v.cfg cls z))
  let code := fun (z : Nat) => match res.find? (fun x => x.1 == z) with | some x => x.2.1 | none => 0
  let thin := zl.filter (fun z => z == 1 || z == 4)
  let gs := cls.filter (fun x => x.1.label == 1 || x.1.label == 4)
  let frame := if poseBad then [6] else []
  let word := if zl.isEmpty || poseBad then 0x3C else if res.any (fun x => x.2.1 == 2) then 0xA5
    else if res.any (fun x => x.2.1 == 3) then 0x3C else 0x5A
  let zone := res.flatMap (·.2.2)
  let causes := if zl.isEmpty then 0x0A :: frame else if res.any (fun x => x.2.1 == 2) && !poseBad then [] else frame ++ zone
  { ctr := f.ctr, tref := f.tref, trefTb := f.trefTb, zoneset := v.zs, zones := [code 1, code 2, code 3, code 4],
    fgPix := cls.countP (fun x => x.2 == .foreground && zl.contains x.1.label),
    ridgeMax := (roundDiv ((cls.filterMap (ridgeBest v.k cls)).foldl max 0) 12).toNat,
    ridgeLen := thin.foldl (fun n z => max n (largest (ridgeLines v.k v.cfg cls z))) 0,
    invPct := if gs.isEmpty then 0 else 100 * gs.countP (fun x => x.2 == .invalid) / gs.length,
    word := word, causes := causes, zoneCauses := zone, plat := if poseBad then none else v.platform f, resid := residuals v.w.m v.offs f }

/-- A frame that no model or no pose lets S1 render (R94, R100). -/
def unjudged (f : DepthFrame) (zs cause : Nat) : FrameRes :=
  { ctr := f.ctr, tref := f.tref, trefTb := f.trefTb, zoneset := zs, zones := [0, 0, 0, 0], fgPix := 0, ridgeMax := 0, ridgeLen := 0,
    invPct := 0, word := 0x3C, causes := [cause], zoneCauses := [], plat := none, resid := [] }

/-! ## Signatures (R134–R136) -/

/-- Is a tile stage? S4, S6 and S7 sign one list each (R135, R136). -/
def tileStage (st : Nat) : Bool := st == 0 || st == 1 || st == 2 || st == 3 || st == 5

/-- Key of a signature. -/
def sigKey (stage tile : Nat) : Nat := 512 * stage + (if tileStage stage then tile else 0x1FF)

/-- Does a tile cover no ROI pixel, so that S1–S3 and S5 skip it (R134)? -/
def tileOut (m : List Byte) (t : Nat) : Bool :=
  (List.range 1024).all (fun i => !modelBit m 0x01000 (tilePix t (i / 32) (i % 32)))

/-- Lexicographic order. -/
def lexLe : List Nat → List Nat → Bool
  | [], _ => true
  | _ :: _, [] => false
  | a :: l, b :: r => decide (a < b) || (a == b && lexLe l r)

/-- Insertion into a list in canonical order. -/
def insertLex (x : List Nat) : List (List Nat) → List (List Nat)
  | [] => [x]
  | y :: l => if lexLe x y then x :: y :: l else y :: insertLex x l

/-- A list in canonical order (R136). -/
def sortLex (l : List (List Nat)) : List (List Nat) := l.foldr insertLex []

/-- A cluster or a line as it is sorted and signed: smallest row, smallest column, pixel count (R136). -/
def partRow (ps : List Nat) : List Nat :=
  [ps.foldl (fun m p => min m (p / 640)) 480, ps.foldl (fun m p => min m (p % 640)) 640, ps.length]

/-- Bytes of a sorted list of parts, and of the platform bins in 0.25 mm. DESIGN CHOICE (log entry 188): an unused bin is signed as 0x8000. -/
def partBytes (l : List (List Nat)) : List Byte := (sortLex l).flatMap (fun r => r.flatMap (leBytes 4))
def binBytes (bs : List (Option Int)) : List Byte :=
  bs.flatMap (fun b => match b with | some z => leBytes 2 (unsigned 16 (roundDiv z perDepth)) | none => leBytes 2 0x8000)

/-- Bytes of a platform result. DESIGN CHOICE (log entry 188): 0 invalid, 1 no platform, 2 and the two values for a measurement. -/
def platBytes (r : Option (Option (Int × Int))) : List Byte :=
  match r with
  | none => leBytes 1 0
  | some none => leBytes 1 1
  | some (some m) => leBytes 1 2 ++ leBytes 2 (unsigned 16 m.1) ++ leBytes 2 (unsigned 16 m.2)

/-- Bytes that S7 signs: zone results, verdict word, zone set and platform result (R136). -/
def FrameRes.bytes (r : FrameRes) : List Byte :=
  r.zones.flatMap (leBytes 1) ++ leBytes 1 r.word ++ leBytes 1 r.zoneset ++ platBytes r.plat

/-- The signatures that a copy forms of a frame (R135, R136). Element widths: E u16, deficit s32 and class u8, label u8, ridge flag u8; the lines of S5
follow the ridge flags of the tile in which they begin (log entry 152). DESIGN CHOICE (log entry 189): an element of S1–S3 for a pixel outside the ROI
is 0. -/
def Env.sigs (v : Env) (f : DepthFrame) (cls : List (RoiPix × PixClass)) (r : FrameRes) : List (Nat × Word) :=
  let at_ := fun (px : Nat) => cls.find? (fun x => x.1.px == px)
  let tiles := v.k.tiles
  let used := tiles.filter (fun t => !tileOut v.w.m t)
  let ridges := [1, 4].flatMap (ridgePixels v.k v.cfg cls)
  let lines := [1, 4].flatMap (ridgeLines v.k v.cfg cls)
  let crc := fun (l : List Byte) => BitVec.ofNat 32 (crc32c l)
  let begins := fun (t : Nat) (ps : List Nat) => decide (nth (partRow ps) 0 0 / 32 = t / 20) && decide (nth (partRow ps) 1 0 / 32 = t % 20)
  tiles.map (fun t => (sigKey 0 t, v.k.tileSig t [fun px => leBytes 2 (pixAt f.pix px).depth, fun px => leBytes 2 (pixAt f.pix px).amp,
    fun px => leBytes 1 (pixAt f.pix px).flags])) ++
  used.map (fun t => (sigKey 1 t, v.k.tileSig t [fun px => leBytes 2 (match at_ px with | some x => x.1.e | none => 0)])) ++
  used.map (fun t => (sigKey 2 t, v.k.tileSig t [fun px => leBytes 4 (match at_ px with | some x => unsigned 32 ((x.1.e : Int) - x.1.d) | none => 0),
    fun px => leBytes 1 (match at_ px with | some x => x.2.code | none => 0)])) ++
  used.map (fun t => (sigKey 3 t, v.k.tileSig t [fun px => leBytes 1 (match at_ px with | some x => x.1.label | none => 0)])) ++
  [(sigKey 4 0, crc (partBytes (((zonesOf v.zs).flatMap (clusters v.k cls)).map partRow)))] ++
  used.map (fun t => (sigKey 5 t, crc ((v.k.canon (v.k.fill t (fun px => leBytes 1 (b2n (ridges.contains px)))) []).flatMap id ++
    partBytes ((lines.filter (begins t)).map partRow)))) ++
  [(sigKey 6 0, crc (binBytes (platBins (v.platPoints f)) ++ platBytes r.plat)), (sigKey 7 0, crc r.bytes)]

/-- The stages of a frame in which an accumulator of a copy saturated (R112). -/
def Env.overflows (v : Env) (cls : List (RoiPix × PixClass)) (s0 : Bool) : List Nat :=
  (if s0 then [0] else []) ++ (if cls.any (fun x => (ridgeAll v.k cls x).any (·.2)) then [5] else [])

/-! ## A frame -/

/-- The entry of a tick history that holds a time: the newest not after it (R98). -/
def tickAt {α : Type} (l : List (Nat × α)) (t : Nat) : Option α := (l.find? (fun x => decide (x.1 ≤ t))).map (·.2)

/-- Measured position in 0.01 mm for an extrapolated count in 1/256 count (R206, R212). -/
def State.posFine (s : State) (d : DIx) (a : AIx) (c : Int) : Int :=
  roundDiv ((c - 256 * (s.enc d a).origin) * 25600) (s.rd (F.ENC_SCALE d a))

/-- Axis positions of a pose entry carried to a time, 0.01 mm (R100). -/
def State.axesAt (s : State) (d : DIx) (p : Pose) (t : Nat) : List Int := allA.map (fun a => s.posFine d a (extrapolate p a.val t))

/-- Is an axis more than 5 mm outside its learned travel (R100)? -/
def travelBad (m : List Byte) (axes : List Int) : Bool :=
  [0, 1, 2].any (fun a => decide (nth axes a 0 < (Config.travel m a).1 - 500) || decide ((Config.travel m a).2 + 500 < nth axes a 0))

/-- What a copy knows of a frame of doorway d, for the axis positions of its pose (R97–R101). -/
def State.envOf (s : State) (d : DIx) (k : Copy) (axes : List Int) (zs tref : Nat) : Env :=
  let t := s.topi d
  let cfg := s.stageCfg d
  let plan := match tickAt t.plans tref with | some l => l | none => []
  let now := posesOf t.model axes
  let then_ := (List.range 2).map (fun l => match plan[l]? with
    | some p => poseOf t.model l (p.ahead 12000).pos
    | none => nth now l [])
  { k := k, w := { cal := (s.head d).cal.getD [], m := t.model }, offs := t.offs, poses := now, cfg := cfg, zs := zs,
    g := { m := t.model, edge := cfg.edge, seam := cfg.seam, sweep := cfg.sweep, now := now, ahead := then_, out := plan.map (·.out) } }

/-- The raw frame's depth as a copy computes it (R82–R86). -/
def State.depthOf (s : State) (d : DIx) (k : Copy) (r : RawFrame) : DepthFrame := depthFrame k (s.depthCfg d r.lines) r

/-- What copy k gives for a raw frame of doorway d (R99, R132–R136). Without a model, or without a pose, S1–S7 have no pixel to judge. DESIGN CHOICE
(log entry 153): with no model the cause is MODEL, as R94 says, whatever the pose. -/
def State.copyOut (s : State) (d : DIx) (k : Copy) (r : RawFrame) : CopyOut :=
  let f := s.depthOf d k r
  let t := s.topi d
  let s0 := depthOvf k (s.depthCfg d r.lines) r
  let zs := match tickAt t.sets f.trefTb with | some z => z | none => 0
  let skips := (k.tiles).filter (tileOut t.model)
  let none_ := fun (cause : Nat) =>
    let v := s.envOf d k [] zs f.trefTb
    let res := unjudged f zs cause
    { res := res, sigs := v.sigs f [] res, skips := skips, ovf := v.overflows [] s0 : CopyOut }
  if !s.modelOk d then none_ 7
  else match nearestPose (s.dwy d).poses f.trefTb with
  | none => none_ 6
  | some p =>
    let axes := s.axesAt d p f.trefTb
    let v := s.envOf d k axes zs f.trefTb
    let sc := v.scene f
    let cls := sc.map (fun x => (x, classOf k v.cfg sc x))
    let res := v.judge f cls (p.bad.any id || travelBad t.model axes)
    { res := res, sigs := v.sigs f cls res, skips := skips, ovf := v.overflows cls s0 }

end Sys2Proof.Machine
end

