-- ==== Sys2Proof/Machine/Topiary.lean ====
section
/-!
DEFINITION. Machine/Topiary.lean: a frame's verdict taken into the held one (R107–R109), the count of the sealed-gap proof (R113, R115), the
platform measurement (R117, R118), overflows (R112), the Topiary model's life (R94–R96, R120–R124) and adaptation (R125, R126).
-/
namespace Sys2Proof.Machine

/-! ## The held verdict and the proof -/

/-- Does TICK `a` lie after TICK `b` by serial comparison with a 2³¹ window (R109)? -/
def laterTick (a b : Nat) : Bool := let x := (a + 2 ^ 32 - b) % 2 ^ 32; decide (0 < x) && decide (x < 2 ^ 31)

/-- Lowest of some causes (R108). -/
def lowest (l : List Nat) : Nat := match l with | [] => 0 | x :: r => r.foldl min x

/-- The sealed-gap proof's count is broken (R112, R113). -/
def State.proofBreak (s : State) (d : DIx) : State := s.wr (F.PROOF_CONSEC d) 0

/-- A published verdict and the proof (R113): it counts in the SEAM set, from a T_REF after the entry, with the leaves at rest since. DESIGN CHOICE (log
entry 190): CONSEC goes back at a frame skip, and the CLEAR verdict after the skip is then the first of a new run. -/
def State.proofCount (s : State) (d : DIx) (r : FrameRes) : State :=
  let t := s.topi d
  if s.needSet d ≠ 3 ∨ r.zoneset ≠ 3 ∨ t.moved = true ∨ ¬ (t.sealAt < r.trefTb) then s
  else
    let next := match t.counted with | some c => decide (r.ctr = (c + 1) % 65536) | none => true
    let s := s.modTopi d (fun x => { x with counted := some r.ctr })
    if r.word = 0x5A ∧ r.causes = [] then s.wr (F.PROOF_CONSEC d) (if next then min 3 (s.rd (F.PROOF_CONSEC d) + 1) else 1) else s.proofBreak d

/-- The verdict of a frame replaces the held one if its T_REF is later, or if no verdict is held (R109); its cause is the lowest (R108). -/
def State.holdVerdict (s : State) (d : DIx) (r : FrameRes) : State :=
  if (s.topi d).held && !laterTick r.tref (s.rd (F.VERDICT_TREF d)) then s
  else
    let s := ((s.wr (F.VERDICT_VERDICT d) r.word).wr (F.VERDICT_ZONESET d) r.zoneset).wr (F.VERDICT_CAUSE d) (lowest r.causes)
    let s := (s.wr (F.VERDICT_FRAME_LO d) (r.ctr % 256)).wr (F.VERDICT_TREF d) r.tref
    (s.modTopi d (fun t => { t with causes := r.causes, held := true })).proofCount d r

/-- Statistics of the last frame (ZONES, THIN). -/
def State.showZones (s : State) (d : DIx) (r : FrameRes) : State :=
  let s := ((s.wr (F.ZONES_GAP d) (nth r.zones 0 0)).wr (F.ZONES_SWEEP d) (nth r.zones 1 0)).wr (F.ZONES_THRESHOLD d) (nth r.zones 2 0)
  let s := ((s.wr (F.ZONES_SEAM d) (nth r.zones 3 0)).wrSat (F.ZONES_FG_PIX d) r.fgPix).wrSat (F.THIN_RIDGE_MAX d) r.ridgeMax
  (s.wrSat (F.THIN_RIDGE_LEN d) r.ridgeLen).wr (F.THIN_INV_PCT d) r.invPct

/-- Verdicts judged in a cycle (R449, W7). -/
def State.cycVerdict (s : State) (d : DIx) (r : FrameRes) : State :=
  if r.zoneset = 2 ∨ r.zoneset = 3 then
    s.modCyc d (fun c => { c with judged := c.judged + 1, unknown := c.unknown + b2n (r.word == 0x3C), obstructed := c.obstructed + b2n (r.word == 0xA5) })
  else s

/-! ## The platform (R117, R118) -/

/-- Show the platform measurement from the last five frames. -/
def State.showPlat (s : State) (d : DIx) : State :=
  let ps := (s.topi d).plats
  let nop := ps.filter (fun p => p.res == some none)
  let agree := platAgree ps
  let byMeas := decide (3 ≤ agree.length)
  let byNone := decide (3 ≤ nop.length)
  let s := (s.setF (F.PLAT_STATUS_VALID d) (byMeas || byNone)).setF (F.PLAT_STATUS_NO_PLATFORM d) (byNone && !byMeas)
  let s := (s.wr (F.PLAT_STATUS_N_VALID d) (nop.length + (platMeas ps).length)).showStill d
  let s := s.when byMeas (fun t => (t.wrS (F.PLAT_GAP d) (median (agree.map (·.2.1)))).wrS (F.PLAT_VOFF d) (median (agree.map (·.2.2))))
  s.setF (F.SEQ_STATUS_PLATFORM d) byMeas

/-- A frame's platform result joins the last five. -/
def State.platResult (s : State) (d : DIx) (trefTb : Nat) (r : Option (Option (Int × Int))) : State :=
  (s.modTopi d (fun t => { t with plats := ({ tref := trefTb, res := r } :: t.plats).take 5 })).showPlat d

/-- No frame gives a platform result while the pair is split (R149): the last five are gone. -/
def State.platClear (s : State) (d : DIx) : State := (s.modTopi d (fun t => { t with plats := [] })).showPlat d

/-- A frame of the doorway is published (R138): verdict, statistics, platform, cycle counts, and the residuals of the adaptation pass. -/
def State.publish (s : State) (d : DIx) (r : FrameRes) : State :=
  let s := (((s.holdVerdict d r).showZones d r).platResult d r.trefTb r.plat).cycVerdict d r
  match (s.topi d).adaptFrom with
  | some t =>
    if r.zoneset = 1 ∧ r.word = 0x5A ∧ s.now ≤ t + msT 500 ∧ t ≤ r.trefTb + s.tb0 then s.modTopi d (fun x => { x with resids := r.resid :: x.resids }) else s
  | none => s

/-- The pair of a doorway, as a register index, and whether it is BOUND (R158). -/
def State.pairBound (s : State) (d : DIx) : Bool :=
  let r := s.resOf d poolEng
  decide (r < 32) && s.rd (F.PAIR_STATUS_STATE (Fin.ofNat 32 r)) == 2

/-- A frame that ends in UNKNOWN for a frame-level cause without publication (R108, R112, R117); `more` are the causes that its zones have. -/
def State.publishUnknown (s : State) (d : DIx) (ctr tref trefTb zs cause : Nat) (more : List Nat) : State :=
  let f : DepthFrame := { ctr := ctr, tref := tref, trefTb := trefTb, pix := [], invalid := 0 }
  let r := { unjudged f zs cause with causes := cause :: more, zoneCauses := more }
  (s.holdVerdict d r).platResult d trefTb none

/-- An accumulator overflow of a frame (R112): `who` is 0 upright, 1 rotated, 2 both. -/
def State.accOverflow (s : State) (d : DIx) (stage ctr who : Nat) : State :=
  let s := ((s.inc (F.ACC_OVF_CNT d)).setF (F.TOPI_STATUS_ACC_OVF d) true).proofBreak d
  s.stage 0x4202 d.val [stage, ctr, who]

/-! ## The model (R94–R96) -/

/-- SERIAL and digest of a stored model (R95). -/
def modelSerial (m : List Byte) : Nat := fieldAt m 8 4
def modelDigest (m : List Byte) : Nat := fieldAt m 252 4

/-- Digest that the bytes of a model give: header bytes 0–251, then everything from 0x100 (R95). -/
def digestOf (m : List Byte) : Nat := crc32c (m.take 252 ++ (m.drop 0x100).take (0x4EA00 - 0x100))

/-- How many adaptive pixels a model has. -/
def adaptCount (m : List Byte) : Nat := (List.range (fieldAt m 20 4)).countP (modelBit m 0x4C600)

/-! ## Copies in flash, and the model store (R336, R360) -/

/-- Does the CRC-32C of a copy hold? -/
def FlashCopy.valid (c : FlashCopy) : Bool := c.crc == crc32c c.data

/-- The valid copy with the higher write count; nothing where neither is valid (R336). -/
def FlashCopy.read (a b : FlashCopy) : List Byte :=
  if a.valid && (decide (b.count ≤ a.count) || !b.valid) then a.data else if b.valid then b.data else []

/-- Content written over the copy with the lower count, which is then the higher one (R336). -/
def FlashCopy.rewrite (a b : FlashCopy) (data : List Byte) : FlashCopy × FlashCopy :=
  let new : FlashCopy := { count := max a.count b.count + 1, data := data, crc := crc32c data }
  if a.count ≤ b.count then (new, b) else (a, new)

/-- KIND bytes of a model entry (R360). -/
def kindPending : Nat := 0xFF
def kindConfirmed : Nat := 0x7F
def kindOld : Nat := 0x3F

/-- Does the digest of a stored model hold (R95, R360)? -/
def MEntry.valid (e : MEntry) : Bool := digestOf e.data == modelDigest e.data

/-- The entries of doorway number d with a KIND. -/
def State.storedAs (s : State) (d kind : Nat) : List MEntry := s.img.models.filter (fun e => e.dwy == d && e.kind == kind)

/-- The model that counts for a doorway and a KIND: of the valid entries the one with the highest sequence number (R360). -/
def State.storedModel (s : State) (d kind : Nat) : List Byte :=
  match (s.storedAs d kind).filter MEntry.valid with
  | [] => []
  | e :: l => (l.foldl (fun m x => if m.seq < x.seq then x else m) e).data

/-- Change the model store. -/
def State.modModels (s : State) (f : List MEntry → List MEntry) : State := { s with img := { s.img with models := f s.img.models } }

/-- A new model entry of doorway number d goes to the store. DESIGN CHOICE (log entry 184): the doorway's superseded entries are erased then, and so is an
older entry of its own KIND. -/
def State.putModel (s : State) (d kind : Nat) (m : List Byte) : State :=
  s.modModels (fun l =>
    let seq := (l.filter (fun e => e.dwy == d)).foldl (fun n e => max n e.seq) 0 + 1
    l.filter (fun e => !(e.dwy == d && (e.kind == kind || e.kind == kindOld))) ++ [{ dwy := d, seq := seq, kind := kind, data := m }])

/-- The pending model of doorway number d is confirmed: its KIND is programmed to 0x7F, then that of the older model to 0x3F (R360). -/
def State.confirmStored (s : State) (d : Nat) : State :=
  s.modModels (fun l => l.map (fun e =>
    if e.dwy == d && e.kind == kindConfirmed then { e with kind := kindOld }
    else if e.dwy == d && e.kind == kindPending then { e with kind := kindConfirmed } else e))

/-- The entries of a KIND of doorway number d leave the store. -/
def State.dropModel (s : State) (d kind : Nat) : State := s.modModels (fun l => l.filter (fun e => !(e.dwy == d && e.kind == kind)))

/-- Adaptation offsets as the store holds them: one signed byte a pixel. -/
def offBytes (l : List Int) : List Byte := l.map (fun x => BitVec.ofInt 8 x)

/-- Offsets of n adaptive pixels; pixels the store has none for have 0 (R360). -/
def padOffs (n : Nat) (l : List Int) : List Int := (l ++ List.replicate (n - l.length) 0).take n

/-- The stored offsets of doorway number d, from a copy whose CRC holds. -/
def State.storedOffs (s : State) (d : Nat) : List Int :=
  let c := Al.get (fun _ => ({}, {})) s.img.offsets d
  (FlashCopy.read c.1 c.2).map (fun x => x.toInt)

/-- Adaptation offsets go to both copies of a doorway (R360). -/
def State.putOffs (s : State) (d : Nat) (o : List Int) : State :=
  let c := Al.get (fun _ => ({}, {})) s.img.offsets d
  let b := offBytes o
  let new := fun (n : Nat) => ({ count := n + 1, data := b, crc := crc32c b } : FlashCopy)
  { s with img := { s.img with offsets := Al.set (fun _ => ({}, {})) s.img.offsets d (new c.1.count, new c.2.count) } }

/-- The offsets of doorway number d leave the store. -/
def State.dropOffs (s : State) (d : Nat) : State := { s with img := { s.img with offsets := Al.set (fun _ => ({}, {})) s.img.offsets d ({}, {}) } }

/-- An armed confirmation of the doorway's model ends (R354). -/
def State.disarmModel (s : State) (d : DIx) : State :=
  match s.img.arm with
  | some a => if a.target = 3 ∧ a.dwy = d.val then State.wr { s with img := { s.img with arm := none } } F.ARM 0 else s
  | none => s

/-- Forget the pending model and write 0x5204 (R124); cause 1 host, 2 new run, 3 head serial. -/
def State.dropPending (s : State) (d : DIx) (cause : Nat) : State :=
  if s.flag (F.TOPI_STATUS_PENDING d) then
    let dig := s.rd (F.PENDING_DIGEST d)
    let s := ((s.setF (F.TOPI_STATUS_PENDING d) false).wr (F.PENDING_DIGEST d) 0).disarmModel d
    let s := s.modTopi d (fun t => { t with pending := [], confirmKey := none })
    (s.dropModel d.val kindPending).stage 0x5204 d.val [dig, cause]
  else s

/-- A head in service whose SERIAL is not the model's (R96). DEDUCED (log entry 154): a pending model of another head is discarded alone where the
confirmed model is of this head, or where there is none. -/
def State.modelCheck (s : State) (d : DIx) : State :=
  let m := (s.topi d).model
  let sn := s.rd (F.HEAD_SERIAL d)
  if s.modelOk d && modelSerial m != sn then
    let s := ((s.wr (F.TOPI_STATUS_MODEL d) 0).wr (F.MODEL_DIGEST d) 0).modTopi d (fun t => { t with model := [], offs := [], offsNext := none })
    let s := (s.dropModel d.val kindConfirmed).dropOffs d.val
    (s.stage 0x4203 d.val [modelSerial m, sn]).dropPending d 3
  else s.when (modelSerial (s.topi d).pending != sn) (fun t => t.dropPending d 3)

/-- Largest offset, for ADAPT_MAX. -/
def maxOff (l : List Int) : Nat := l.foldl (fun m x => max m x.natAbs) 0

/-- The stored model or offsets of doorway d do not hold (R360); `what` is 1 for a model, 2 for offsets. -/
def State.storeFault (s : State) (what : Nat) (d : DIx) : State := (s.setF F.MSTORE_FAULT true).stage 0x4B02 d.val [what, d.val]

/-- The entries of doorway d are checked: a confirmed model that fails its digest leaves MODEL at NONE unless another entry holds, and an offsets copy
that fails its CRC takes the content of the other, or nothing (R360). -/
def State.checkStored (s : State) (d : DIx) : State :=
  let s := s.when ((s.storedAs d.val kindConfirmed).any (fun e => !e.valid)) (fun t => t.storeFault 1 d)
  let c := Al.get (fun _ => ({}, {})) s.img.offsets d.val
  s.when (!(c.1.valid && c.2.valid)) (fun t => (t.putOffs d.val (t.storedOffs d.val)).storeFault 2 d)

/-- Load the models of doorway d from the model store at entry to CONFIG (R95, R127, R360). -/
def State.loadModel (s : State) (d : DIx) : State :=
  let s := s.checkStored d
  let m := s.storedModel d.val kindConfirmed
  let p := s.storedModel d.val kindPending
  let o := padOffs (adaptCount m) (s.storedOffs d.val)
  let s := s.modTopi d (fun t => { t with model := m, pending := p, offs := o, offsNext := none, confirmKey := none, held := false, causes := [], plats := [], limitN := [] })
  let s := ((s.wr (F.TOPI_STATUS_MODEL d) (b2n (!m.isEmpty))).wr (F.MODEL_DIGEST d) (if m.isEmpty then 0 else modelDigest m)).wr (F.TOPI_STATUS_ADAPT_MAX d) (maxOff o)
  (s.setF (F.TOPI_STATUS_PENDING d) (!p.isEmpty)).wr (F.PENDING_DIGEST d) (if p.isEmpty then 0 else modelDigest p)

/-- The pending model becomes the confirmed one (R124); `key` is the index of the signing key. -/
def State.confirmModel (s : State) (d : DIx) (key : Nat) : State :=
  if !s.flag (F.TOPI_STATUS_PENDING d) then s
  else
    let p := (s.topi d).pending
    let zero : List Int := List.replicate (adaptCount p) 0
    let s := s.modTopi d (fun t => { t with model := p, pending := [], offs := zero, offsNext := none, confirmKey := none, limitN := [], resids := [] })
    let s := (s.confirmStored d.val).putOffs d.val zero
    let s := ((s.wr (F.TOPI_STATUS_MODEL d) 1).wr (F.MODEL_DIGEST d) (modelDigest p)).setF (F.TOPI_STATUS_PENDING d) false
    let s := ((s.wr (F.PENDING_DIGEST d) 0).setF (F.TOPI_STATUS_DRIFT d) false).wr (F.TOPI_STATUS_ADAPT_MAX d) 0
    s.stage 0x5202 d.val [modelDigest p, key]

/-- Take adaptation offsets into use. -/
def State.takeOffs (s : State) (d : DIx) (l : List Int) : State :=
  (s.modTopi d (fun t => { t with offs := l, offsNext := none })).wr (F.TOPI_STATUS_ADAPT_MAX d) (maxOff l)

/-- Does doorway d deliver frames, so that a frame boundary comes? DESIGN CHOICE (log entry 155): while its head is not in service a change that
waits for a frame boundary is made at once. -/
def State.framed (s : State) (d : DIx) : Bool := s.rd (F.HEAD_STATUS_LINK d) == 3

/-- A frame boundary of doorway d: a confirmed model and new adaptation offsets come into use, for both copies at once (R124, R125). -/
def State.frameBoundary (s : State) (d : DIx) : State :=
  let s := match (s.topi d).offsNext with | some l => s.takeOffs d l | none => s
  match (s.topi d).confirmKey with | some k => s.confirmModel d k | none => s

/-- The pending model has been confirmed with a signing key (R124). -/
def State.confirmAt (s : State) (d : DIx) (key : Nat) : State :=
  let s := s.modTopi d (fun t => { t with confirmKey := some key })
  if s.framed d then s else s.frameBoundary d

/-- The adaptation offsets go to the model store, at each histogram checkpoint and at shutdown (R125). -/
def State.storeOffsets (s : State) (d : DIx) : State :=
  if (s.topi d).model.isEmpty then s else s.putOffs d.val (s.topi d).offs

/-! ## Learning (R120–R124) -/

/-- A learning run ends without a model (R123); cause 1 tries exhausted, 2 abort, 3 zero speed or depot mode ended. -/
def State.learnFail (s : State) (d : DIx) (cause : Nat) : State :=
  let s := (s.setF (F.TOPI_STATUS_LEARNING d) false).modTopi d (fun t => { t with learn := {} })
  s.stage 0x5203 d.val [s.rd (F.TOPI_STATUS_LEARN_OK d), cause]

/-- Whole sectors of the model store that an entry takes (R335, R360). -/
def sectors (bytes : Nat) : Nat := (bytes + 4095) / 4096

/-- Sectors of a stored model: prefix, fixed parts, and the static map trimmed to its ROI (R360). -/
def modelSectors (m : List Byte) : Nat := if m.isEmpty then 0 else sectors (16 + 100864 + 3 * fieldAt m 20 4)

/-- Free sectors of the model store, leaving out the pending model of doorway number `skip` (R360, MSTORE.FREE). DESIGN CHOICE (log entry 184): a superseded
entry counts as free. -/
def State.freeSectors (s : State) (skip : Nat) : Nat :=
  let held := s.img.models.filter (fun e => e.kind == kindConfirmed || (e.kind == kindPending && e.dwy != skip))
  2032 - (held.foldl (fun n e => n + modelSectors e.data) 0 +
    s.img.offsets.foldl (fun n o => n + sectors (16 + o.2.1.data.length + 4) + sectors (16 + o.2.2.data.length + 4)) 0)

/-- LEARN_START (R120, R360). -/
def learnStart (d : DIx) (s : State) : State :=
  s.onD d fun s =>
    let st := s.st d
    let s := s.setF (F.TOPI_CTL_LEARN_START d) false
    if (st == .unproven || st == .released || st == .opened) && decide (79 ≤ s.freeSectors d.val) && s.zeroSpeed && s.flag F.TRN_STATUS_DEPOT then
      let s := s.dropPending d 2
      let s := ((s.setF (F.TOPI_STATUS_LEARNING d) true).wr (F.TOPI_STATUS_LEARN_OK d) 0).wr (F.TOPI_STATUS_LEARN_TRY d) 0
      (s.modTopi d (fun t => { t with learn := {} })).stage 0x5205 d.val [s.rd (F.MODEL_DIGEST d)]
    else s.setF (F.SEQ_CMD_REFUSED d) true

/-- LEARN_ABORT (R123). -/
def learnAbort (d : DIx) (s : State) : State :=
  s.onD d fun s =>
    let s := s.setF (F.TOPI_CTL_LEARN_ABORT d) false
    s.when (s.flag (F.TOPI_STATUS_LEARNING d)) (fun t => t.learnFail d 2)

/-- DISCARD_PENDING (R124). -/
def discardPending (d : DIx) (s : State) : State :=
  s.onD d fun s => (s.setF (F.TOPI_CTL_DISCARD_PENDING d) false).dropPending d 1

/-- Rejected or missing frames within a learning stroke (R121). -/
def State.learnBadFrame (s : State) (d : DIx) (n : Nat) : State :=
  s.when (s.flag (F.TOPI_STATUS_LEARNING d)) (fun t => t.modTopi d (fun x => { x with learn := { x.learn with badFrames := x.learn.badFrames + n } }))

/-- A depth frame of a learning run joins its cycle, or the strokes of the step: axis positions at T_REF and the valid depths (R121, R122). -/
def State.learnFrame (s : State) (d : DIx) (f : DepthFrame) : State :=
  match nearestPose (s.dwy d).poses f.trefTb with
  | none => s
  | some p =>
    let x := (s.axesAt d p f.trefTb, f.pix.map (fun q => if invalidFlags q.flags then none else some q.depth))
    if !s.flag (F.TOPI_STATUS_LEARNING d) then s
    else if 2 ≤ (s.topi d).learn.stroke then s.modTopi d (fun t => { t with learn := { t.learn with cyc := x :: t.learn.cyc } })
    else s.when (s.flag (F.AX_STATUS_MOVING d 2)) (fun t => t.modTopi d (fun y => { y with learn := { y.learn with steps := x :: y.learn.steps } }))

/-- Range and σ of a pixel of the static map: median and standard deviation of its depths in the frames in which no body is rendered on it, σ at least
2 units (R122). DESIGN CHOICE (log entry 156): σ is rounded down, and a pixel without such a frame has range 0xFFFF and σ 255. -/
def staticFit (w : View) (frames : List (List Int × List (Option Nat))) (px : Nat) : Nat × Nat :=
  let ds : List Int := frames.filterMap (fun f => match nth f.2 px none with
    | some (x : Nat) => if (w.bodyAt (posesOf w.m f.1) px).isNone then some (x : Int) else none
    | none => none)
  if ds.isEmpty then (0xFFFF, 255)
  else
    let sum : Int := ds.foldl (· + ·) 0
    let sq : Int := ds.foldl (fun a x => a + x * x) 0
    ((median ds).toNat, max 2 (min 255 (isqrt64 (ds.length * sq - sum * sum).toNat / ds.length)))

/-- A bitmap of `bytes` bytes, bit 0 of byte 0 first. -/
def bitmap (bytes : Nat) (set : Nat → Bool) : List Byte :=
  (List.range bytes).map (fun i => BitVec.ofNat 8 (flagBits ((List.range 8).map (fun k => set (8 * i + k)))))

/-- The model that the frames of a learning run give, as the model store holds it (R93, R95, R122): poses, sheets, signatures and the marked pixels as
fitted, the header that the run gives, and the static map. The ROI holds the pixels whose rays meet a zone volume; the first 73,728 of them and the
first 16,384 adaptive ones stand (R93; log entry 156). -/
def State.packModel (s : State) (d : DIx) (l : LearnH) : List Byte :=
  let b := Config.fitSoFar l.frames l.steps
  let part := fun (o n : Nat) => padTo n ((b.drop o).take n)
  let w : View := { cal := (s.head d).cal.getD [], m := b }
  let cfg := s.stageCfg d
  let roi := (w.region cfg.edge cfg.seam cfg.sweep).take 73728
  let fs := fun (o : Nat) => part o 62 ++ leBytes 2 0
  let adapt := ((List.range roi.length).filter (modelBit b 0x4C600)).take 16384
  let stat := roi.flatMap (fun px => let x := staticFit w l.frames px; leBytes 2 x.1 ++ leBytes 1 x.2)
  let hdr := leBytes 4 0x49504F54 ++ leBytes 2 1 ++ leBytes 1 d.val ++ leBytes 1 0 ++ leBytes 4 (s.rd (F.HEAD_SERIAL d)) ++
    leBytes 4 (s.rd (F.HEAD_CALDIG d)) ++ leBytes 4 s.img.runGen ++ leBytes 4 roi.length ++ part 24 56 ++ List.replicate 172 0
  let paths := part 0x100 2340 ++ fs 0xA24 ++ fs 0xA64 ++ part 0xAA4 512 ++ List.replicate 860 0
  let body := paths ++ bitmap 38400 (fun i => roi.contains i) ++
    stat ++ List.replicate (221184 - stat.length) 0xFF ++ part 0x40600 49152 ++ bitmap 9216 (fun i => adapt.contains i)
  hdr ++ leBytes 4 (crc32c (hdr ++ body)) ++ body

/-- At least 95 % of the ROI pixels agree within 4 mm with the model built so far (R121). DESIGN CHOICE (log entry 157): a pixel agrees when the median of
D − E over the cycle lies within 16 depth units; one without a valid depth does not. -/
def State.learnAgrees (s : State) (d : DIx) : Bool :=
  let l := (s.topi d).learn
  let w : View := { cal := (s.head d).cal.getD [], m := s.packModel d l }
  let roi := roiOf w.m
  let good := (roi.zip (List.range roi.length)).countP (fun x =>
    let r := l.cyc.filterMap (fun f => (nth f.2 x.1 none).map (fun (v : Nat) => (v : Int) - w.expected [] (posesOf w.m f.1) x.2 x.1))
    !r.isEmpty && decide ((median r).natAbs ≤ 16))
  decide (95 * roi.length ≤ 100 * good)

/-- A learn cycle ends with the leaves closed; `full` tells whether they have covered their full travel (R121, R123). -/
def State.learnCycle (s : State) (d : DIx) (full bad : Bool) : State :=
  let l := (s.topi d).learn
  let ok := s.rd (F.TOPI_STATUS_LEARN_OK d)
  let try_ := s.rd (F.TOPI_STATUS_LEARN_TRY d) + 1
  let good := full && !bad && (ok == 0 || s.learnAgrees d)
  let s := s.modTopi d (fun t => { t with learn := { l with stroke := 1, badFrames := 0, bad := false, cyc := [], frames := if good then l.cyc ++ l.frames else l.frames } })
  let s := (s.wr (F.TOPI_STATUS_LEARN_TRY d) try_).wr (F.TOPI_STATUS_LEARN_OK d) (ok + b2n good)
  s.when (decide (16 ≤ try_) && decide (ok + b2n good < 8)) (fun t => t.learnFail d 1)

/-- Does a safety edge, the force or the light curtain report an obstacle? -/
def State.learnObst (s : State) (d : DIx) : Bool :=
  s.flag (F.OBST_STATUS_EDGE0 d) || s.flag (F.OBST_STATUS_EDGE1 d) || s.flag (F.OBST_STATUS_FORCE0 d) ||
  s.flag (F.OBST_STATUS_FORCE1 d) || s.flag (F.OBST_STATUS_LC d)

/-- A frame of the head has been judged: what of the learning run waits for frames goes on (R121). -/
def State.learnSeen (s : State) (d : DIx) : State := s.modTopi d (fun t => { t with learn := { t.learn with lastAt := s.now } })

/-- Have three frames in a row gone missing since the last one judged, one every 20 ms or at SHED level 3 every 40 ms (R88, R121)? DESIGN CHOICE (log entry
191): a frame is missed 2 ms after it should have been judged. -/
def State.framesGone (s : State) (d : DIx) : Bool :=
  decide ((s.topi d).learn.lastAt + 3 * (if 3 ≤ s.rd F.SHED_LEVEL then msT 40 else msT 20) + msT 2 ≤ s.now)

/-- Learn cycles, followed at every tick (R121, R123). The first begins when the leaves, at rest at the closed position, move off; leaves that come back
without having been open make a cycle that is not accepted. -/
def State.learnTick (s : State) (d : DIx) : State :=
  if !s.flag (F.TOPI_STATUS_LEARNING d) then s
  else if !s.zeroSpeed || !s.flag F.TRN_STATUS_DEPOT then s.learnFail d 3
  else if s.rd (F.TOPI_STATUS_LEARN_OK d) == 8 then s
  else
    let l := (s.topi d).learn
    let bad := l.bad || s.learnObst d || decide (2 < l.badFrames) || s.framesGone d
    let set := fun (x : LearnH) => s.modTopi d (fun t => { t with learn := x })
    match l.stroke with
    | 0 => if s.leavesClosed d then set { l with stroke := 1 } else s
    | 1 => if s.leavesClosed d || !s.leafMoving d then s else set { l with stroke := 2, badFrames := 0, bad := s.learnObst d, lastAt := s.now, cyc := [] }
    | 2 => if s.leavesOpen d then set { l with stroke := 3, badFrames := 0, bad := bad }
      else if s.leavesClosed d then s.learnCycle d false bad else set { l with bad := bad }
    | _ => if s.leavesClosed d then s.learnCycle d true bad else set { l with bad := bad }

/-- MODEL_LEARNED: the build after eight accepted cycles has finished (R122). -/
def modelLearned (d : DIx) (s : State) : State :=
  s.onD d fun s =>
    if s.flag (F.TOPI_STATUS_LEARNING d) && s.rd (F.TOPI_STATUS_LEARN_OK d) == 8 then
      let m := s.packModel d (s.topi d).learn
      let s := ((s.modTopi d (fun t => { t with pending := m, learn := {} })).setF (F.TOPI_STATUS_LEARNING d) false).disarmModel d
      let s := s.putModel d.val kindPending m
      let s := (s.setF (F.TOPI_STATUS_PENDING d) true).wr (F.PENDING_DIGEST d) (modelDigest m)
      s.stage 0x5201 d.val [modelDigest m, s.rd (F.TOPI_STATUS_LEARN_TRY d)]
    else s

/-! ## Adaptation (R125, R126) -/

/-- Median residual of adaptive pixel k over the frames of the pass; none where no frame has it valid. -/
def residMedian (rs : List (List (Option Int))) (k : Nat) : Option Int :=
  let l := rs.filterMap (fun r => nth r k none)
  if l.isEmpty then none else some (median l)

/-- The new offset of a pixel (R125). -/
def adaptStep (off : Int) (med : Option Int) : Int :=
  match med with
  | some m => if 2 ≤ m ∧ off < 12 then off + 1 else if m ≤ -2 ∧ -12 < off then off - 1 else off
  | none => off

/-- Is a pixel held at its limit with a median beyond it (R126)? -/
def atLimit (off : Int) (med : Option Int) : Bool :=
  match med with
  | some m => (off == 12 && decide (2 ≤ m)) || (off == -12 && decide (m ≤ -2))
  | none => false

/-- ADAPTATION_PASS: 500 ms of CLOSED_LOCKED after a cycle have passed, with the doorway's pair joined (R125, R126). -/
def adaptationPass (d : DIx) (s : State) : State :=
  s.onD d fun s =>
    let t := s.topi d
    match t.adaptFrom with
    | some t0 =>
      if t.adapted || !s.past t0 (msT 500) || s.st d != .closedLocked || !s.modelOk d || s.flag (F.TOPI_STATUS_DRIFT d) || !s.pairBound d then s
      else
        let ks := List.range t.offs.length
        let meds := ks.map (residMedian t.resids)
        let lim := ks.map (fun k => if atLimit (nth t.offs k 0) (nth meds k none) then Al.get (fun _ => 0) t.limitN k + 1 else 0)
        let offs := ks.map (fun k => adaptStep (nth t.offs k 0) (nth meds k none))
        let n16 := lim.any (fun n => decide (16 ≤ n))
        let s := s.modTopi d (fun x => { x with
          offsNext := some offs, limitN := (ks.map (fun k => (k, nth lim k 0))).filter (fun x => x.2 != 0), resids := [], adaptFrom := none, adapted := true })
        let s := if s.framed d then s else s.frameBoundary d
        s.when n16 (fun u => (u.setF (F.TOPI_STATUS_DRIFT d) true).stage 0x4201 d.val [offs.countP (fun o => o.natAbs == 12), maxOff offs])
    | none => s

/-! ## The commands of this file -/

/-- The meaning of LEARN_START (R120). -/
def execLearnStart (d : DIx) (s : State) : Host.Outcome State Fault Refusal := .next (s.done (learnStart d s))

/-- The meaning of LEARN_ABORT (R123). -/
def execLearnAbort (d : DIx) (s : State) : Host.Outcome State Fault Refusal := .next (s.done (learnAbort d s))

/-- The meaning of DISCARD_PENDING (R124). -/
def execDiscardPending (d : DIx) (s : State) : Host.Outcome State Fault Refusal := .next (s.done (discardPending d s))

/-- The meaning of MODEL_LEARNED (R122). -/
def execModelLearned (d : DIx) (s : State) : Host.Outcome State Fault Refusal := .next (s.done (modelLearned d s))

/-- The meaning of ADAPTATION_PASS (R125). -/
def execAdaptationPass (d : DIx) (s : State) : Host.Outcome State Fault Refusal := .next (s.done (adaptationPass d s))

end Sys2Proof.Machine
end

