-- ==== Sys2Proof/Machine/Head.lean ====
section
/-!
DEFINITION. Machine/Head.lean: the depth-head link (R55–R81, R88, R90): telegrams out and in, bring-up and retrain, the capture of frames
and their acceptance (R64–R70). LINE_RECEIVED stands in Fault.lean, with its check-value unit.
-/
namespace Sys2Proof.Machine

/-! ## Telegrams (R55, R56, R58) -/

/-- Payload length of a telegram type (R58), none for an unknown type. -/
def headLen (typ : Nat) : Option Nat :=
  match typ with
  | 0x01 => some 32
  | 0x02 => some 16
  | 0x03 => some 12
  | 0x10 => some 980
  | 0x11 => some 28
  | 0x12 => some 24
  | 0x13 => some 16
  | 0x14 => some 72
  | 0x15 => some 1036
  | _ => none

/-- Is a payload a telegram of a type (R55, R56)? `ok` says that the frame came with a good FCS, untagged and with EtherType 0x88B5; a
payload shorter than 46 bytes is padded. -/
def headTelegram (typ : Nat) (ok : Bool) (p : List Byte) : Bool :=
  match headLen typ with
  | none => false
  | some n => ok && p.length == max 46 n && fieldAt p 0 1 == typ && fieldAt p 1 1 == 1 && crcTail (p.take n)

/-- Receive a telegram of a type from the head of doorway d: discard and count it (R56), or act on it. -/
def State.headRx (s : State) (d : DIx) (typ : Nat) (ok : Bool) (p : List Byte) (f : State → State) : State :=
  if !(s.head d).phyUp then s else if headTelegram typ ok p then f s else s.inc (F.ERR_CRC d)

/-- The frame of a telegram to the head of doorway d (R55, R57): from 02-B4-24-00-0S-DD to the head's address, broadcast until a HELLO named it. -/
def State.headFrame (s : State) (d : DIx) (payload : List Byte) : List Byte :=
  ethFrame (s.head d).dst (0x02B424000000 + 256 * b2n s.chip.slotB + d.val) (withCrc payload)

/-- Send HEAD_CMD (R75): 1 IDENT, 2 CAL_READ, 4 RESET. -/
def State.headCmd (s : State) (d : DIx) (cmd : Nat) : State :=
  let tx := s.headFrame d ([3, 1] ++ leBytes 2 (s.head d).cmdSeq ++ leBytes 4 cmd)
  s.modHead d (fun h => { h with cmdSeq := (h.cmdSeq + 1) % 65536, txCmd := tx })

/-- Bytes 4–11 of HEAD_CFG from the settings (R73, R74). -/
def State.headCfgBytes (s : State) (d : DIx) : List Byte :=
  leBytes 2 (s.rd (F.EXPOSURE_INT20 d)) ++ leBytes 2 (s.rd (F.EXPOSURE_INT100 d)) ++ leBytes 1 (s.rd (F.EXPOSURE_ILLUM d)) ++
  leBytes 1 (b2n (!s.flag (F.HEAD_CTL_ILLUM_INHIBIT d)) + 2 * b2n (s.flag (F.HEAD_CTL_TEST_PATTERN d))) ++ leBytes 2 0

/-- Send HEAD_CFG (R73). -/
def State.headCfg (s : State) (d : DIx) : State :=
  let b := s.headCfgBytes d
  let tx := s.headFrame d ([2, 1] ++ leBytes 2 (s.head d).cfgSeq ++ b)
  (s.setF (F.HEAD_STATUS_CFG_OK d) false).modHead d (fun h => { h with
    cfgSeq := (h.cfgSeq + 1) % 65536, cfgSent := some (crc32c b), cfgAck := false, txCfg := tx })

/-! ## Status, bring-up and retrain (R72, R77–R80) -/

/-- STALE: no accepted frame with T_REF in the last 80 ms, counted from the last trigger on (R79, R89). -/
def State.showStale (s : State) (d : DIx) : State :=
  s.setF (F.HEAD_STATUS_STALE d) ((s.head d).stale || (match (s.head d).lastT with | some t => decide (t + 12800000 < s.tb) | none => true))

/-- The first step of a bring-up (R79 step 1): PHY training, or HEAD_CMD RESET where the link is up. -/
def State.headTrain (s : State) (d : DIx) : State :=
  let s := ((s.wr (F.HEAD_STATUS_LINK d) 1).setF (F.HEAD_STATUS_HELLO_OK d) false).setF (F.HEAD_STATUS_CFG_OK d) false
  let s := (s.setF (F.HEAD_STATUS_SYNC_LOCK d) false).setF (F.HEAD_STATUS_CAL_OK d) false
  let s := s.modHead d (fun h => { h with
    opening := true, trig := s.now, step := 1, miss := 0, answered := true, accN := 0, accAt := s.now, stale := true, closed := none, closedAt := none, starts := [], faultAt := [], caps := [],
    cfgSent := none, cfgAck := false, calTry := 0, calHdr := [], calData := [] })
  ((s.when (s.head d).phyUp (fun t => t.headCmd d 4)).setF (F.HEAD_CTL_RETRAIN d) false).showStale d

/-- A bring-up at entry to CONFIG (R78). -/
def State.headBringup (s : State) (d : DIx) : State := ((s.headTrain d).closeWin 2 d.val).openWin 2 d.val

/-- A retrain (R78); causes 1 PHY down, 2 frames, 3 STATUS, 4 host request write 0x4101, and the first three are faults. Cause 0 is a new
expected head by an image. -/
def State.headRetrain (s : State) (d : DIx) (cause : Nat) : State :=
  let s := s.when (cause != 0) (fun t => t.stage 0x4101 d.val [cause])
  let s := s.when (cause == 1 || cause == 2 || cause == 3) (fun t => t.fault d 0x4101)
  ((s.inc (F.RETRAINS d)).headBringup d)

/-- A bring-up fails (R80): the standing fault of the head. -/
def State.headFail (s : State) (d : DIx) : State :=
  let was := s.flag (F.HEAD_STATUS_HEAD_FAULT d)
  let s := s.modHead d (fun h => { h with opening := false, failedAt := match h.failedAt with | some t => some t | none => some s.now })
  let s := (s.closeWin 2 d.val).setF (F.HEAD_STATUS_HEAD_FAULT d) true
  let s := s.stage 0x4103 d.val [(s.head d).step, (s.reg (F.HEAD_STATUS d).addr).toNat]
  if was then s else s.standingFault d 0x4103

/-- The head is in service (R79 step 9). -/
def State.headInService (s : State) (d : DIx) : State :=
  let h := s.head d
  let s := (s.wr (F.HEAD_STATUS_LINK d) 3).setF (F.HEAD_STATUS_HEAD_FAULT d) false
  let s := s.modHead d (fun x => { x with opening := false, step := 9, failedAt := none })
  let s := (s.closeWin 2 d.val).stage 0x4102 d.val [(s.now - h.trig) / 160, b2n (decide (0 < h.calTry))]
  (s.showStanding d).modelCheck d

/-- The kept calibration record matches the head's (R77). -/
def calDigest (c : List Byte) : Nat := fieldAt c 60 4

/-- The bring-up goes on as far as the head's answers allow (R79 steps 4–6). -/
def State.headAdvance (s : State) (d : DIx) : State :=
  let h := s.head d
  if !h.opening then s
  else
    let st4 := h.step == 3 && s.flag (F.HEAD_STATUS_CFG_OK d)
    let n4 := if st4 then 4 else h.step
    if n4 = 4 ∧ s.flag (F.HEAD_STATUS_SYNC_LOCK d) = true then
      match h.cal with
      | some c =>
        if calDigest c = h.helloDig then
          ((s.setF (F.HEAD_STATUS_CAL_OK d) true).wr (F.HEAD_CALDIG d) h.helloDig).modHead d (fun x => { x with step := 6 })
        else (s.headCmd d 2).modHead d (fun x => { x with step := 5, calTry := 1, calHdr := [], calData := [] })
      | none => (s.headCmd d 2).modHead d (fun x => { x with step := 5, calTry := 1, calHdr := [], calData := [] })
    else s.modHead d (fun x => { x with step := n4 })

/-! ## SYNC -/

/-- RATE: 25 Hz at SHED level 3 (R88). -/
def State.rate25 (s : State) : Bool := s.pwr.rate25

/-- Mean of the kept path delays, ns (R61). -/
def pathDelay (l : List Int) : Nat := if l.isEmpty then 0 else (roundDiv (l.foldl (· + ·) 0) (8 * l.length)).toNat

/-- SYNC_SEND: the SYNC that falls due every 20 ms from link-up (R59, R64, R73). DESIGN CHOICE (log entry 139): T_START is 0 where FRAME is 0. -/
def syncSend (d : DIx) (s : State) : State :=
  s.onD d fun s =>
    let h := s.head d
    let due := match h.lastSync with | some t => s.past t (msT 20) | none => true
    if !h.phyUp || !due then s
    else
      let s := s.when (s.rd (F.HEAD_STATUS_LINK d) == 1) (fun t => t.wr (F.HEAD_STATUS_LINK d) 2)
      let step := if h.opening then max 2 h.step else h.step
      let frame := decide (6 ≤ step) && (!s.rate25 || h.alt)
      let t0 := s.tb + msT 2 + Config.frameLead
      let flags := b2n s.hasAuth + 2 * b2n s.chip.slotB + 4 * b2n frame + 8 * b2n s.rate25
      let prev := match h.lastSync with | some t => t - s.tb0 | none => 0
      let tx := s.headFrame d ([1, 1] ++ leBytes 2 h.seq ++ leBytes 4 flags ++ leBytes 8 prev ++ leBytes 8 (if frame then t0 else 0) ++
        leBytes 4 (pathDelay h.delays))
      let s := s.modHead d (fun x => { x with
        seq := (x.seq + 1) % 65536, lastSync := some s.now, syncs := ((x.seq, s.tb) :: x.syncs).take 8, answered := false,
        miss := if x.answered then 0 else x.miss + 1, alt := !x.alt, step := if frame then max 7 step else step, txSync := tx,
        starts := if frame then (t0 :: x.starts).take 2 else x.starts,
        caps := if frame && s.flag (F.HEAD_STATUS_FOLLOW d) then x.caps ++ [{ start := t0 }] else x.caps })
      s.when (s.flag (F.HEAD_STATUS_HELLO_OK d) && h.cfgSent != some (crc32c (s.headCfgBytes d))) (fun t => t.headCfg d)

/-! ## Telegrams from the head -/

/-- HELLO_RECEIVED from source address `src` (R57, R71, R72; R96 for a head in service). -/
def helloReceived (d : DIx) (ok : Bool) (src : BitVec 48) (p : List Byte) (s : State) : State :=
  s.onD d fun s => s.headRx d 0x11 ok p fun s =>
    let vendor := fieldAt p 2 2
    let model := fieldAt p 4 2
    let sn := fieldAt p 8 4
    let s := s.modHead d (fun h => { h with dst := src.toNat, helloDig := fieldAt p 12 4 })
    let s := ((s.wr (F.HEAD_ID_VENDOR d) vendor).wr (F.HEAD_ID_MODEL d) model).wr (F.HEAD_SERIAL d) sn
    let s := s.wr (F.HEAD_FW_VERSION d) (fieldAt p 6 2)
    let s := s.when (s.rd (F.HEAD_STATUS_LINK d) == 3) (fun t => t.modelCheck d)
    let want := s.rd (F.HEAD_EXPECT_SN d)
    if vendor = s.rd (F.HEAD_EXPECT_VENDOR d) ∧ model = s.rd (F.HEAD_EXPECT_MODEL d) ∧ fieldAt p 16 2 = 640 ∧ fieldAt p 18 2 = 480 ∧
        (want = 0 ∨ want = sn) then
      let s := s.setF (F.HEAD_STATUS_HELLO_OK d) true
      if (s.head d).opening && decide ((s.head d).step ≤ 2) then (s.modHead d (fun h => { h with step := 3 })).headCfg d else s
    else
      let s := s.modHead d (fun h => { h with step := if h.opening then min 2 h.step else h.step })
      (s.setF (F.HEAD_STATUS_HELLO_OK d) false).stage 0x4104 d.val [vendor + 65536 * model, sn, s.rd (F.HEAD_EXPECT d)]

/-- HEAD_STATUS_RECEIVED (R60, R61, R74). -/
def headStatusReceived (d : DIx) (ok : Bool) (p : List Byte) (s : State) : State :=
  s.onD d fun s => s.headRx d 0x12 ok p fun s =>
    let st := fieldAt p 8 1
    let fl := fieldAt p 9 1
    let s := ((s.setF (F.HEAD_STATUS_SYNC_LOCK d) (bitOf st 0)).setF (F.HEAD_STATUS_FOLLOW d) (bitOf st 1)).wr (F.HEAD_STATUS_FAULT d) (fl % 64)
    let s := (s.wr (F.HEAD_TEMP_SENSOR d) (fieldAt p 10 2)).wr (F.HEAD_TEMP_ILLUM d) (fieldAt p 12 2)
    let s := s.modHead d (fun h => { h with
      miss := 0, answered := true, faultAt := if fl % 64 = 0 then h.faultAt else s.tb :: h.faultAt.filter (fun t => decide (s.tb ≤ t + msT 40)) })
    let s := match (s.head d).syncs.find? (fun x => x.1 == fieldAt p 2 2) with
      | none => s
      | some x =>
        let n : Int := ((s.tb - x.2 : Nat) : Int) * 25 - 4 * (fieldAt p 4 4 : Nat)
        if n < 0 ∨ 16000 < n then s
        else
          let s := s.modHead d (fun h => { h with syncs := h.syncs.filter (fun y => y.1 != x.1), delays := (n :: h.delays).take 8 })
          s.wr (F.PATH_DELAY d) (pathDelay (s.head d).delays)
    let s := s.setF (F.HEAD_STATUS_CFG_OK d) ((s.head d).cfgAck && (s.head d).cfgSent == some (fieldAt p 16 4))
    s.headAdvance d

/-- CFG_ACK_RECEIVED (R73, R74): CFG_OK also needs the digest in the next STATUS. -/
def cfgAckReceived (d : DIx) (ok : Bool) (p : List Byte) (s : State) : State :=
  s.onD d fun s => s.headRx d 0x13 ok p fun s =>
    let h := s.head d
    if (fieldAt p 2 2 + 1) % 65536 = h.cfgSeq then
      s.modHead d (fun x => { x with cfgAck := fieldAt p 8 1 == 0 && x.cfgSent == some (fieldAt p 4 4) })
    else s

/-- CAL_HDR_RECEIVED (R76). -/
def calHdrReceived (d : DIx) (ok : Bool) (p : List Byte) (s : State) : State :=
  s.onD d fun s => s.headRx d 0x14 ok p fun s =>
    s.when (decide (0 < (s.head d).calTry)) (fun t => t.modHead d (fun h => { h with calHdr := (p.drop 4).take 64, calData := [] }))

/-- The received map region, in the order of its offsets (R76). -/
def calMaps (data : List (Nat × List Byte)) : List Byte := (List.range 1200).flatMap (fun i => Al.get (fun _ => []) data i)

/-- The calibration record is complete: accept it, ask once more, or fail the bring-up (R77). -/
def State.calCheck (s : State) (d : DIx) : State :=
  let h := s.head d
  let maps := calMaps h.calData
  let dig := crc32c (h.calHdr.take 60 ++ maps)
  let rep := fieldAt h.calHdr 60 4
  if maps.length = 1228800 ∧ dig = rep ∧ dig = h.helloDig ∧ fieldAt h.calHdr 40 4 = s.rd (F.HEAD_SERIAL d) then
    let s := (s.setF (F.HEAD_STATUS_CAL_OK d) true).wr (F.HEAD_CALDIG d) dig
    s.modHead d (fun x => { x with cal := some (x.calHdr ++ maps), calHdr := [], calData := [], step := max 6 x.step })
  else
    let s := (s.stage 0x4105 d.val [dig, rep]).modHead d (fun x => { x with calHdr := [], calData := [], calTry := x.calTry + 1 })
    if h.calTry = 1 then s.headCmd d 2 else s.headFail d

/-- CAL_DATA_RECEIVED (R76, R77). -/
def calDataReceived (d : DIx) (ok : Bool) (p : List Byte) (s : State) : State :=
  s.onD d fun s => s.headRx d 0x15 ok p fun s =>
    let off := fieldAt p 4 4
    let h := s.head d
    if h.calTry = 0 ∨ h.opening = false ∨ h.calHdr = [] ∨ s.flag (F.HEAD_STATUS_CAL_OK d) = true ∨ off % 1024 ≠ 0 then s
    else
      let s := s.modHead d (fun x => { x with calData := Al.insert x.calData (off / 1024) ((p.drop 8).take 1024) })
      if off = 1024 * 1199 then s.calCheck d else s

/-! ## Frames (R64–R70) -/

/-- T_REF: the rounded mean of the eight stamps, modulo 2³² (R65). -/
def tRef (stamps : List Nat) : Nat :=
  let base := nth stamps 0 0
  let sum := (stamps.drop 1).foldl (fun a x => a + (x + 2 ^ 32 - base) % 2 ^ 32) 0
  (base + (sum + 4) / 8) % 2 ^ 32

/-- Distance of two TICK values around the wrap. -/
def tickDist (a b : Nat) : Nat := min ((a + 2 ^ 32 - b) % 2 ^ 32) ((b + 2 ^ 32 - a) % 2 ^ 32)

/-- Stamp of sub-exposure n for a T_START (R64). -/
def stampOf (start n int : Nat) : Nat := start + n * 240000 + 80 * int

/-- Flags of a line (R66). -/
def lineFlag (l : List Byte) (i : Nat) : Bool := bitOf (fieldAt l 5 1) i

/-- Bytes of a sub-exposure that its lines must share (R69, reason 2). -/
def subKey (l : List Byte) : List Byte := (l.drop 8).take 8

/-- Rejection reason of a captured frame (R69), none when it is accepted. DESIGN CHOICE (log entry 140): of several checks that fail, the first
row of the table gives the reason. DESIGN CHOICE (log entry 186): check 3 passes on the port that is not followed where there is no previous T_REF. -/
def State.rejectReason (s : State) (d : DIx) (c : Cap) : Option Nat :=
  let h := s.head d
  let subs := (List.range 8).map (subLine c.lines)
  let stamps := subs.map lineStamp
  let t := tRef stamps
  let same := c.lines.all (fun x => subKey x.2 == subKey (nth subs (x.1 / 480) []))
  let steps := (List.range 8).all (fun n =>
    decide (tickDist (nth stamps n 0) ((nth stamps 0 0 + n * 240000 + 80 * lineInt (nth subs n []) + 2 ^ 32 * 2 - 80 * lineInt (nth subs 0 [])) % 2 ^ 32) ≤ 320))
  let follow := lineFlag (nth subs 0 []) 2
  let change := c.lines.any (fun x => lineFlag x.2 3)
  let timed := if follow then
      decide (tickDist t (tRef ((List.range 8).map (fun n => stampOf c.start n (lineInt (nth subs n [])) % 2 ^ 32))) ≤ 1600)
    else change || (match h.prevTref with
      | none => true
      | some p => decide (tickDist t ((p + msT 20 * (b2n s.rate25 + 1)) % 2 ^ 32) ≤ 1600))
  if s.rd (F.DEPTH_CFG_LINE_MAX d) + c.lines.length < 3840 ∨ subs.any List.isEmpty = true then some 1
  else if !(same && steps) then some 2
  else if !timed then some 3
  else if c.lines.any (fun x => lineFlag x.2 4) then some 4
  else if h.faultAt.any (fun t => decide (c.start ≤ t) && decide (t ≤ c.lastAt)) then some 5
  else none

/-- A rejected or skipped frame (R69, R113, R121). -/
def State.frameReject (s : State) (d : DIx) (reason ctr : Nat) : State :=
  (((s.inc (F.ERR_FRAMES d)).stage 0x4106 d.val [reason, ctr]).proofBreak d).learnBadFrame d 1

/-- Does a line show the test pattern (R68)? -/
def testLine (key : Nat) (l : List Byte) : Bool :=
  (List.range 640).all (fun c => sampleAt l c == ((key % 480) * 8 + c + (key / 480) * 512) % 4096)

/-- Is a frame a test frame, one of whose lines carries TEST (R66, R68)? -/
def Cap.test (c : Cap) : Bool := c.lines.any (fun x => lineFlag x.2 1)

/-- Compare a test frame with the pattern (R68), accepted or not. DESIGN CHOICE (log entry 141): a test frame that does not match whole clears
TEST_OK, and nothing else does. -/
def State.testCompare (s : State) (d : DIx) (c : Cap) : State :=
  s.when c.test (fun t => t.setF (F.HEAD_STATUS_TEST_OK d) (c.lines.length == 3840 && c.lines.all (fun x => lineFlag x.2 1 && testLine x.1 x.2)))

/-- An accepted frame (R69, R79 steps 8 and 9, R86, R143). A test frame gives no depth (R68); it gives an UNKNOWN verdict while the
doorway's pair is joined (R108, R149). -/
def State.frameAccept (s : State) (d : DIx) (c : Cap) (ctr : Nat) : State :=
  let t := tRef ((List.range 8).map (fun n => lineStamp (subLine c.lines n)))
  let tTb := s.tb - (s.tick + 2 ^ 32 - t) % 2 ^ 32
  let s := (s.wr (F.FRAME d) ctr).wr (F.FRAME_TREF d) t
  let raw : RawFrame := { ctr := ctr, tref := t, trefTb := tTb, lines := c.lines }
  let s := s.modHead d (fun h => { h with
    accAt := s.now, accN := h.accN + 1, lastT := some tTb, stale := false, step := if h.opening then max 8 h.step else h.step,
    raws := if c.test then h.raws else (raw :: h.raws).take 3 })
  let s := s.when (c.test && s.pairBound d) (fun u => u.publishUnknown d ctr t tTb (u.needSet d) 0x0B [])
  let s := s.showStale d
  if (s.head d).opening && decide (2 ≤ (s.head d).accN) then s.headInService d else s

/-- Close the oldest frame under capture (R65, R69). The DS24 judges frames from step 7 of a bring-up on (R64, R79): lines that the other
module's schedule brings before are no frame of this port. DESIGN CHOICE (log entry 142): a frame of which no line came has the FRAME after the
last one seen, 0 where none was seen. -/
def State.closeFrame (s : State) (d : DIx) : State :=
  match (s.head d).caps with
  | [] => s
  | c :: rest =>
    let s := s.frameBoundary d
    let h := s.head d
    let ctr := match c.ctr with | some n => n | none => match h.prevCtr with | some q => (q + 1) % 65536 | none => 0
    let s := s.modHead d (fun x => { x with caps := rest })
    let s := if h.step < 7 then s
      else
        let s := ((s.addSat (F.ERR_LINES d) (3840 - c.lines.length)).testCompare d c).learnSeen d
        let skip := c.ctr.isSome && (match h.prevCtr with | some q => decide (ctr ≠ (q + 1) % 65536) | none => false)
        let gap := match h.prevCtr with | some q => (ctr + 65536 - q - 1) % 65536 | none => 0
        let s := s.when skip (fun t => (t.frameReject d 6 ctr).learnBadFrame d (gap - 1))
        match s.rejectReason d c with
        | some r => (s.frameReject d r ctr).modHead d (fun x => { x with accN := 0 })
        | none => s.frameAccept d c ctr
    let t := tRef ((List.range 8).map (fun n => lineStamp (subLine c.lines n)))
    s.modHead d (fun x => { x with prevCtr := if c.ctr.isSome then c.ctr else x.prevCtr, closed := if c.ctr.isSome then c.ctr else x.closed, closedAt := some c.start,
                                        prevTref := if c.lines.isEmpty then x.prevTref else some t })

/-- FRAME_LINE_DEADLINE: T_START + 19.0 ms of the oldest frame under capture has come (R65, R69). -/
def frameLineDeadline (d : DIx) (s : State) : State :=
  s.onD d fun s =>
    match (s.head d).caps with
    | c :: _ => if c.start + usT 19000 ≤ s.tb then s.closeFrame d else s
    | [] => s

/-- T_START of a line's frame as its stamp gives it (R64): a port that is not followed learns it so. -/
def State.lineStart (s : State) (l : List Byte) : Nat :=
  s.tb - (s.tick + 2 ^ 32 - lineStamp l) % 2 ^ 32 - fieldAt l 4 1 % 8 * 240000 - 80 * lineInt l

/-- T_START of the frame of a line whose FRAME is new to the port. A line of the followed port belongs to the T_START sent within half a frame period of
what its stamp gives; a stamp that fits none leaves it to the frame that waits (R64, R69). Else the stamp gives it. -/
def State.newStart (s : State) (d : DIx) (l : List Byte) : Nat :=
  let t := s.lineStart l
  if !lineFlag l 2 then t
  else match (s.head d).starts.find? (fun x => decide (x ≤ t + msT 10) && decide (t ≤ x + msT 10)) with
    | some x => x
    | none => match (s.head d).caps.find? (fun c => c.ctr == none && decide (s.tb ≤ c.start + usT 19000)) with
      | some c => c.start
      | none => t

/-- Store an accepted line with its frame (R66), unless it comes after T_START + 19.0 ms (R65): the frame counts it as missing when it closes, also
where no line of it had come before; a late line of a frame that the port did not expect and that no line had opened counts by itself. DESIGN CHOICE (log entry 143): a line whose
LINE is 480 or more names no row and is discarded as by R56. -/
def State.lineStore (s : State) (d : DIx) (l : List Byte) : State :=
  let ctr := fieldAt l 2 2
  let sub := fieldAt l 4 1 % 8
  let row := fieldAt l 6 2
  let put : Cap → Cap := fun c => { c with ctr := some ctr, lines := Al.insert c.lines (480 * sub + row) l, lastAt := s.tb }
  let caps := (s.head d).caps
  if 480 ≤ row then s.inc (F.ERR_CRC d)
  else if caps.any (fun c => c.ctr == some ctr) then
    s.modHead d (fun h => { h with caps := h.caps.map (fun c => if c.ctr == some ctr && decide (s.tb ≤ c.start + usT 19000) then put c else c) })
  else if (s.head d).closed = some ctr then s
  else
    let start := s.newStart d l
    match caps.find? (fun c => lineFlag l 2 && c.ctr == none && c.start == start && decide (s.tb ≤ c.start + usT 19000)) with
    | some f => s.modHead d (fun h => { h with caps := h.caps.map (fun c => if c.ctr == none && c.start == f.start then put c else c) })
    | none =>
      if lineFlag l 2 && (caps.any (fun c => c.start == start) || (s.head d).closedAt == some start) then s
      else if start + usT 19000 < s.tb then s.inc (F.ERR_LINES d)
      else s.modHead d (fun h => { h with caps := h.caps ++ [put { start := start }] })

/-! ## PHY and the triggers of a retrain (R78–R80) -/

/-- HEAD_PHY_LINK_LOSS: a retrain starts, in a bring-up too, whose window runs anew from this trigger (R78, R79). DESIGN CHOICE (log entry 144):
the kept path delays of the old link are dropped and PATH_DELAY reads 0 until one is measured again. -/
def headPhyLinkLoss (d : DIx) (s : State) : State :=
  s.onD d fun s =>
    let h := s.head d
    let s := (s.modHead d (fun x => { x with phyUp := false, delays := [], syncs := [], lastSync := none })).wr (F.PATH_DELAY d) 0
    if !h.phyUp || s.rd (F.HEAD_STATUS_LINK d) == 0 then s else s.headRetrain d 1

/-- HEAD_PHY_LINK_UP (R79 step 2); the first SYNC is due at once. DESIGN CHOICE (log entry 145): the destination is broadcast again until the next
HELLO (R57). -/
def headPhyLinkUp (d : DIx) (s : State) : State :=
  s.onD d fun s =>
    if (s.head d).phyUp then s
    else
      let s := s.modHead d (fun h => { h with
        phyUp := true, lastSync := none, dst := 0xFFFFFFFFFFFF, miss := 0, answered := true, step := if h.opening then max 2 h.step else h.step })
      s.when (s.rd (F.HEAD_STATUS_LINK d) == 1) (fun t => t.wr (F.HEAD_STATUS_LINK d) 2)

/-- Five frame periods have passed without an accepted frame (R78). -/
def State.framesMissing (s : State) (d : DIx) : Bool :=
  s.rd (F.HEAD_STATUS_LINK d) == 3 && s.past (s.head d).accAt (5 * msT 20 * (b2n s.rate25 + 1))

/-- HEAD_FRAMES_MISSING. -/
def headFramesMissing (d : DIx) (s : State) : State := s.onD d fun s => if s.framesMissing d then s.headRetrain d 2 else s

/-- Five SYNCs in a row have had no valid STATUS (R78). -/
def State.statusMissing (s : State) (d : DIx) : Bool := s.rd (F.HEAD_STATUS_LINK d) == 3 && decide (5 ≤ (s.head d).miss)

/-- HEAD_STATUS_MISSING. -/
def headStatusMissing (d : DIx) (s : State) : State := s.onD d fun s => if s.statusMissing d then s.headRetrain d 3 else s

/-- HEAD_RETRAIN: a write of HEAD_CTL.RETRAIN (R78). -/
def headRetrainReq (d : DIx) (s : State) : State := s.onD d fun s => s.headRetrain d 4

/-- HEAD_RETRAIN_START: a retrain starts for a cause whose condition holds (R78): 1 PHY down in service, 2 frames, 3 STATUS, 4 HEAD_CTL.RETRAIN
set; cause 0 starts the bring-up of a head whose link has never been brought up. -/
def headRetrainStart (d : DIx) (cause : Fin 5) (s : State) : State :=
  s.onD d fun s =>
    match cause.val with
    | 0 => if s.rd (F.HEAD_STATUS_LINK d) = 0 ∧ s.modState ≠ 0 then s.headBringup d else s
    | 1 => if s.rd (F.HEAD_STATUS_LINK d) = 3 ∧ (s.head d).phyUp = false then s.headRetrain d 1 else s
    | 2 => if s.framesMissing d then s.headRetrain d 2 else s
    | 3 => if s.statusMissing d then s.headRetrain d 3 else s
    | _ => if s.flag (F.HEAD_CTL_RETRAIN d) then s.headRetrain d 4 else s

/-- HEAD_RETRAIN_WINDOW_EXPIRED: 400 ms from the trigger without step 9 (R80). -/
def headRetrainWindowExpired (d : DIx) (s : State) : State :=
  s.onD d fun s => if (s.head d).opening && s.past (s.head d).trig (msT 400) then s.headFail d else s

/-- HEAD_BRINGUP_REPEAT: every 2 s after a failed bring-up (R80). -/
def headBringupRepeat (d : DIx) (s : State) : State :=
  s.onD d fun s =>
    match (s.head d).failedAt with
    | some t => if s.past t (msT 2000) && !(s.head d).opening then (s.headTrain d).modHead d (fun h => { h with failedAt := some s.now }) else s
    | none => s

/-! ## The commands of this file -/

/-- The meaning of SYNC_SEND (R59). -/
def execSyncSend (d : DIx) (s : State) : Host.Outcome State Fault Refusal := .next (s.done (syncSend d s))

/-- The meaning of HELLO_RECEIVED (R72). -/
def execHelloReceived (d : DIx) (ok : Bool) (src : BitVec 48) (p : List Byte) (s : State) : Host.Outcome State Fault Refusal := .next (s.done (helloReceived d ok src p s))

/-- The meaning of HEAD_STATUS_RECEIVED (R61). -/
def execHeadStatusReceived (d : DIx) (ok : Bool) (p : List Byte) (s : State) : Host.Outcome State Fault Refusal := .next (s.done (headStatusReceived d ok p s))

/-- The meaning of CFG_ACK_RECEIVED (R74). -/
def execCfgAckReceived (d : DIx) (ok : Bool) (p : List Byte) (s : State) : Host.Outcome State Fault Refusal := .next (s.done (cfgAckReceived d ok p s))

/-- The meaning of CAL_HDR_RECEIVED (R76). -/
def execCalHdrReceived (d : DIx) (ok : Bool) (p : List Byte) (s : State) : Host.Outcome State Fault Refusal := .next (s.done (calHdrReceived d ok p s))

/-- The meaning of CAL_DATA_RECEIVED (R77). -/
def execCalDataReceived (d : DIx) (ok : Bool) (p : List Byte) (s : State) : Host.Outcome State Fault Refusal := .next (s.done (calDataReceived d ok p s))

/-- The meaning of FRAME_LINE_DEADLINE (R69). -/
def execFrameLineDeadline (d : DIx) (s : State) : Host.Outcome State Fault Refusal := .next (s.done (frameLineDeadline d s))

/-- The meaning of HEAD_PHY_LINK_LOSS (R78). -/
def execHeadPhyLinkLoss (d : DIx) (s : State) : Host.Outcome State Fault Refusal := .next (s.done (headPhyLinkLoss d s))

/-- The meaning of HEAD_PHY_LINK_UP (R79). -/
def execHeadPhyLinkUp (d : DIx) (s : State) : Host.Outcome State Fault Refusal := .next (s.done (headPhyLinkUp d s))

/-- The meaning of HEAD_RETRAIN_START (R78). -/
def execHeadRetrainStart (d : DIx) (cause : Fin 5) (s : State) : Host.Outcome State Fault Refusal := .next (s.done (headRetrainStart d cause s))

/-- The meaning of HEAD_FRAMES_MISSING (R78). -/
def execHeadFramesMissing (d : DIx) (s : State) : Host.Outcome State Fault Refusal := .next (s.done (headFramesMissing d s))

/-- The meaning of HEAD_STATUS_MISSING (R78). -/
def execHeadStatusMissing (d : DIx) (s : State) : Host.Outcome State Fault Refusal := .next (s.done (headStatusMissing d s))

/-- The meaning of HEAD_RETRAIN (R78). -/
def execHeadRetrain (d : DIx) (s : State) : Host.Outcome State Fault Refusal := .next (s.done (headRetrainReq d s))

/-- The meaning of HEAD_RETRAIN_WINDOW_EXPIRED (R80). -/
def execHeadRetrainWindowExpired (d : DIx) (s : State) : Host.Outcome State Fault Refusal := .next (s.done (headRetrainWindowExpired d s))

/-- The meaning of HEAD_BRINGUP_REPEAT (R80). -/
def execHeadBringupRepeat (d : DIx) (s : State) : Host.Outcome State Fault Refusal := .next (s.done (headBringupRepeat d s))

end Sys2Proof.Machine
end

