-- ==== Sys2Proof/Machine/Engine.lean ====
section
/-!
DEFINITION. Machine/Engine.lean: engine pairs and the Binder (R133–R141), migration (R142–R144), golden tests (R145, R146), coppice operation
(R147–R154) and its tasks (R155–R157), and the start of deferred moves (R377, R379).
-/
namespace Sys2Proof.Machine

/-! ## Pairs -/

/-- States of a pair (R158). -/
def pSpare : Nat := 1
def pBound : Nat := 2
def pMigrating : Nat := 3
def pSplit : Nat := 4
def pRejoining : Nat := 5
def pSuspect : Nat := 6
def pFaulty : Nat := 7

/-- Pair p is present on the ordering code (R5, R6). -/
def State.pairHere (s : State) (p : PIx) : Bool := decide (p.val < s.nPair)

/-- State of pair p. -/
def State.pst (s : State) (p : PIx) : Nat := s.rd (F.PAIR_STATUS_STATE p)

/-- The doorway of pair p. -/
def State.pairDwy (s : State) (p : PIx) : Option DIx :=
  let n := s.rd (F.PAIR_STATUS_DOORWAY p)
  if h : n < 24 then some ⟨n, h⟩ else none

/-- The pair of doorway d. -/
def State.pairOf (s : State) (d : DIx) : Option PIx :=
  let r := s.resOf d poolEng
  if h : r < 32 then some ⟨r, h⟩ else none

/-- An effect of a present pair while the logic runs. -/
def State.onP (s : State) (p : PIx) (f : State → State) : State := if s.alive && s.pairHere p then f s else s

/-- Put a pair in a state with a doorway, 0x1F for none. -/
def State.setPair (s : State) (p : PIx) (st dwy : Nat) : State := (s.wr (F.PAIR_STATUS_STATE p) st).wr (F.PAIR_STATUS_DOORWAY p) dwy

/-- Does a copy skip a tile in a stage (R134)? S0 skips none. -/
def CopyOut.skipped (c : CopyOut) (st t : Nat) : Bool := tileStage st && decide (st ≠ 0) && c.skips.contains t

/-- The signature that a copy formed of a tile or a list. -/
def CopyOut.sig (c : CopyOut) (st t : Nat) : Word := Al.get (fun _ => 0) c.sigs (sigKey st t)

/-- Has every signature of a stage been compared equal, or its tile been skipped by both copies (R138)? -/
def EngH.stageDone (e : EngH) (st : Nat) : Bool :=
  let have_ := fun (t : Nat) => e.sigs.any (fun x => x.1 == sigKey st t) || e.cur.any (fun c => c.1.skipped st t && c.2.skipped st t)
  if tileStage st then (List.range 300).all have_ else have_ 0

/-- Has every signature of a frame been compared equal (R138)? -/
def EngH.complete (e : EngH) : Bool := (List.range 8).all e.stageDone

/-- Frame signature of a stage, of the upright and the rotated copy (R136): over the tile signatures in ascending tile order; a list stage
has the one it signs. -/
def EngH.frameSig (e : EngH) (stage : Nat) : Word × Word :=
  let l := e.sigs.filter (fun x => x.1 / 512 == stage)
  let crc := fun (f : Word × Word → Word) => BitVec.ofNat 32 (crc32c (l.flatMap (fun x => leBytes 4 (f x.2).toNat)))
  if tileStage stage then (crc (·.1), crc (·.2)) else match l with | x :: _ => x.2 | [] => (0, 0)

/-- Show the signatures of the selected stage (R158, SIG_SEL). -/
def State.showSigs (s : State) (p : PIx) : State :=
  match (s.eng p).lastSigs[s.rd (F.PAIR_CTL_SIG_SEL p)]? with
  | some x => (s.wr (F.SIG_U p) x.1.toNat).wr (F.SIG_R p) x.2.toNat
  | none => s

/-- A pair stops working on a frame. -/
def State.dropFrame (s : State) (p : PIx) : State := s.modEng p (fun e => { e with cur := none, sigs := [] })

/-! ## Migration (R142–R144) -/

/-- 0x5302 and the fence request of R144; cause 1 no spare, 2 new pair mismatch, 3 80 ms passed. -/
def State.noSpare (s : State) (d : DIx) (old cause : Nat) : State := (s.stage 0x5302 d.val [old, cause]).fence d 1

/-- Leave a pair for a golden test (R145); `suspect` after a mismatch. -/
def State.vacate (s : State) (p : PIx) (suspect : Bool) : State :=
  let s := (s.dropFrame p).setPair p (if suspect then pSuspect else pSpare) 0x1F
  (s.setFm poolEng p.val 1).modEng p (fun e => { e with job := .none, vacated := true, jobAt := s.now, doneT := none })

/-- Bind doorway d, which has left pair number `old` (0xFF none), to a spare that starts to load (R143 steps 2 and 3), or fence it. -/
def State.toSpare (s : State) (d : DIx) (old : Nat) : State :=
  match s.pickSpare d poolEng with
  | some n =>
    let q : PIx := Fin.ofNat 32 n
    let plan := (s.waits d poolEng).any (fun m => m.target == n)
    let s := s.rebind d poolEng n 2
    let s := (s.setPair q pMigrating d.val).modEng q (fun e => { e with
      cur := none, sigs := [], job := .loading, jobAt := s.now, oldPair := old, doneT := none, late := false, plan := plan })
    (s.when (!plan) (fun t => t.picked d poolEng n)).verdictOut d 9
  | none => ((s.rebind d poolEng noRes 2).closeWin 0 d.val).noSpare d old 1

/-- Steps 2–5 of R143: pair p is left, SUSPECT after a mismatch, and doorway d goes to a spare. -/
def State.migrate (s : State) (d : DIx) (p : PIx) (suspect : Bool) : State := (s.vacate p suspect).toSpare d p.val

/-- Doorway d leaves a pair that has failed (R142). No move starts in SAFE: it keeps the pair, which is SUSPECT, until SAFE is left (R400). -/
def State.quit (s : State) (d : DIx) (p : PIx) : State :=
  if s.modState = 4 then ((s.dropFrame p).setPair p pSuspect d.val).modEng p (fun e => { e with job := .none, doneT := none })
  else (s.openWin 0 d.val).migrate d p true

/-- A migration has reached step 5 (R143); the doorway's fence source 1 clears with its first frame (R388). -/
def State.migrated (s : State) (p : PIx) (d : DIx) : State :=
  let e := s.eng p
  let s := (s.setPair p pBound d.val).modEng p (fun x => { x with job := .none })
  let s := (s.closeWin 0 d.val).stage 0x5301 d.val [e.oldPair, p.val, (s.now - e.jobAt) / 160, s.rd F.PLC_DIGEST]
  s.when (bitOf (s.fenceSet d) 0) (fun t => t.fenceClear d 1)

/-- A doorway whose pair is BOUND without a published frame: its verdict is stale until frames arrive (R143, R151, R152). DESIGN CHOICE (log entry 158):
it carries the zone set that the state needs. -/
def State.verdictStale (s : State) (d : DIx) : State :=
  ((s.verdictOut d 1).wr (F.VERDICT_ZONESET d) (s.needSet d)).modTopi d (fun t => { t with causes := [] })

/-- Show a mismatch in MISMATCH and count it (R139, R158). -/
def State.mismatchShow (s : State) (p : PIx) (kind stage tile : Nat) : State :=
  let ctr := match (s.eng p).cur with | some f => f.1.res.ctr | none => 0
  let s := ((s.wr (F.MISMATCH_STAGE p) stage).wr (F.MISMATCH_KIND p) kind).wr (F.MISMATCH_TILE p) tile
  (s.wr (F.MISMATCH_FRAME_LO p) (ctr % 256)).inc (F.MISMATCH_CNT p)

/-- What a mismatch does: the verdict becomes UNKNOWN at once, the pair stops, and its doorway moves (R139). DESIGN CHOICE (log entry 197): the mismatch
of a pair without a doorway leaves no 0x4301, whose record names the doorway it is about. -/
def State.mismatchActs (s : State) (p : PIx) (u r : Word) : State :=
  match s.pairDwy p with
  | none => s.vacate p true
  | some d =>
    let was := s.pst p
    let s := (s.stage 0x4301 d.val [p.val, (s.reg (F.MISMATCH p).addr).toNat, u.toNat, r.toNat]).fault d 0x4301
    let s := (s.verdictOut d 4).platResult d s.tb none
    let s := s.when (was == pMigrating) (fun t => t.noSpare d (t.eng p).oldPair 2)
    s.quit d p

/-- A pair mismatch (R139). -/
def State.pairMismatch (s : State) (p : PIx) (kind stage tile : Nat) (u r : Word) : State := (s.mismatchShow p kind stage tile).mismatchActs p u r

/-- A pair fails its rejoin (R152, KIND 6). DESIGN CHOICE (log entry 196): a mismatch that no stage gives, one of KIND 5 or of a rejoin without a replayed
frame, shows stage 0, tile 0x1FF, and signatures 0 in 0x4301. -/
def State.rejoinFail (s : State) (p : PIx) (stage tile : Nat) (u r : Word) : State :=
  let s := { s with cop := { s.cop with failed := s.cop.failed + 1 } }
  (s.modEng p (fun e => { e with job := .none, replay := 0 })).pairMismatch p 6 stage tile u r

/-- A mismatch in a frame: KIND 6 for a frame replayed in a rejoin (R139, R152). -/
def State.frameMismatch (s : State) (p : PIx) (kind stage tile : Nat) (u r : Word) : State :=
  if s.pst p = pRejoining then s.rejoinFail p stage tile u r else s.pairMismatch p kind stage tile u r

/-! ## A frame through the pair (R137–R140, R143, R151) -/

/-- The frame of doorway d that its pair takes next: in a migration first the most recent one (R143), else the oldest not yet done. -/
def State.nextRaw (s : State) (p : PIx) (d : DIx) : Option RawFrame :=
  let raws := (s.head d).raws
  let e := s.eng p
  match e.doneT with
  | some t => (raws.filter (fun r => decide (t < r.trefTb))).getLast?
  | none => match e.job with
    | .running => raws.head?
    | .rejoin _ => if e.replay = 2 then raws[1]? else raws.head?
    | _ => raws.getLast?

/-- May a pair take a frame: BOUND, MIGRATING and loaded, or REJOINING from step 5 on? -/
def State.pairReady (s : State) (p : PIx) : Bool :=
  let e := s.eng p
  e.cur.isNone && (s.pst p == pBound || (s.pst p == pMigrating && e.job == .running) ||
    (s.pst p == pRejoining && decide (0 < e.replay) && (e.job == .rejoin 5 || e.job == .rejoin 6)))

/-- DEPTH_FRAME_READY: the depth frame of doorway d is in DRAM and enters the stages (R86, R87, R99). -/
def depthFrameReady (d : DIx) (s : State) : State :=
  s.onD d fun s =>
    match s.pairOf d with
    | none => s
    | some p =>
      if !s.pairReady p || !s.regionReady d then s
      else match s.nextRaw p d with
      | none => s
      | some r =>
        -- img settings of chapters 2 and 3 take effect at a frame boundary (R128)
        let s := if s.imgPend.isEmpty then s else (s.applyRange (dw d 0x124) (dw d 0x130)).applyRange (dw d 0x220) (dw d 0x230)
        let f := s.depthOf d .upright r
        let s := ((s.modDwy d (fun x => { x with depth := some f })).wr (F.INVALID_PIX_N d) f.invalid).learnFrame d f
        let both := (s.copyOut d .upright r, s.copyOut d .rotated r)
        s.modEng p (fun e => { e with cur := some both, curAt := s.now, sigs := [], doneT := some f.trefTb })

/-- The replay of a rejoin goes on after a frame: from frame n − 1 to frame n, and then to BOUND (R151). -/
def State.replayed (s : State) (p : PIx) (d : DIx) : State :=
  if (s.eng p).replay = 2 then s.modEng p (fun x => { x with replay := 1, job := .rejoin 6 })
  else (s.setPair p pBound d.val).modEng p (fun x => { x with replay := 0, job := .none })

/-- A frame has matched in every stage (R138): it is published, and a migration or a rejoin goes on. A frame that was begun on a region which the
doorway leaves is not published (R375). -/
def State.frameMatched (s : State) (p : PIx) (d : DIx) (r : FrameRes) : State :=
  let e := s.eng p
  let sigs := (List.range 8).map e.frameSig
  let s := (s.modEng p (fun x => { x with cur := none, sigs := [], lastSigs := sigs })).showSigs p
  let count := fun (t : State) =>
    let n := t.rd (F.FRAMES_LO p) + 2 ^ 32 * t.rd (F.FRAMES_HI p) + 1
    (t.wr (F.FRAMES_LO p) n).wr (F.FRAMES_HI p) (n / 2 ^ 32)
  if !s.regionReady d then s
  else if s.pst p = pRejoining then
    let s := s.replayed p d
    if e.replay = 2 then s
    else if s.tb < r.trefTb + 12800000 then (count s).publish d r else s.verdictStale d
  else
    let s := (count s).publish d r
    let s := s.when (s.flt.windows.any (fun w => w.kind == 6 && w.dwy == d.val && w.loaded)) (fun t => t.closeWin 6 d.val)
    let s := s.when (s.pst p == pMigrating) (fun t => t.migrated p d)
    s.when (bitOf (s.fenceSet d) 0) (fun t => t.fenceClear d 1)

/-- An overflow of both copies at the same stage (R112, R140): the frame is compared no further and its verdict is UNKNOWN, the pair stays bound. -/
def State.bothOverflow (s : State) (p : PIx) (d : DIx) (stage : Nat) (r : FrameRes) : State :=
  let re := s.pst p == pRejoining
  let s := (s.dropFrame p).accOverflow d stage r.ctr 2
  let last := !re || (s.eng p).replay != 2
  let s := s.when re (fun t => t.replayed p d)
  s.when last (fun t => t.publishUnknown d r.ctr r.tref r.trefTb r.zoneset 5 r.zoneCauses)

/-- TILE_SIGNATURE_COMPARE: the Binder of pair p compares the signatures that the two copies have formed of a tile, or of a list stage (R137–R140).
The operands are the faults that a copy may suffer: bits flipped in a signature, a skip list that errs for this tile, an accumulator that
saturates in this stage, and verdict words that differ with `words` false; `dur` is the later copy's time for the tile, 0.1 µs. -/
def tileSignatureCompare (p : PIx) (stage : Fin 8) (tile : Fin 300) (badU badR : Word) (skipU skipR ovfU ovfR words : Bool) (dur : BitVec 16)
    (s : State) : State :=
  s.onP p fun s =>
    match (s.eng p).cur, s.pairDwy p with
    | some c, some d =>
      let st := stage.val
      let t := if tileStage st then tile.val else 0x1FF
      let u := c.1.sig st tile.val ^^^ badU
      let r := c.2.sig st tile.val ^^^ badR
      let skU := tileStage st && decide (st ≠ 0) && (c.1.skipped st t != skipU)
      let skR := tileStage st && decide (st ≠ 0) && (c.2.skipped st t != skipR)
      let oU := ovfU || c.1.ovf.contains st
      let oR := ovfR || c.2.ovf.contains st
      let s := s.wr (F.TILE_MAX_T p) (max (s.rd (F.TILE_MAX_T p)) dur.toNat)
      let s := (s.when oU (fun x => x.setF (F.PAIR_STATUS_ACC_OVF_U p) true)).when oR (fun x => x.setF (F.PAIR_STATUS_ACC_OVF_R p) true)
      if oU && oR then s.bothOverflow p d st c.1.res
      else if oU || oR then (s.accOverflow d st c.1.res.ctr (b2n oR)).frameMismatch p 2 st t u r
      else if skU != skR then s.frameMismatch p 3 st t u r
      else if skU then s
      else if u ≠ r then s.frameMismatch p 0 st t u r
      else if st = 7 && (!words || c.1.res.word != c.2.res.word) then s.frameMismatch p 1 st t u r
      else
        let s := s.modEng p (fun e => { e with sigs := Al.insert e.sigs (sigKey st tile.val) (u, r) })
        if (s.eng p).complete then s.frameMatched p d c.1.res else s
    | _, _ => s

/-- A pair that works as one safety channel: BOUND, MIGRATING or REJOINING. -/
def State.joined (s : State) (p : PIx) : Bool := s.pst p == pBound || s.pst p == pMigrating || s.pst p == pRejoining

/-- BINDER_SELFTEST: the once-per-frame test of the comparison; `pass` says that the equal pair compared equal and the pair with one bit
different unequal (R141). -/
def binderSelftest (p : PIx) (pass : Bool) (s : State) : State :=
  s.onP p fun s =>
    if !s.joined p then s
    else
      let s := (s.setF (F.PAIR_STATUS_BINDER_OK p) pass).modEng p (fun e => { e with selfPos := (e.selfPos + 1) % 32 })
      if pass then s else s.pairMismatch p 5 0 0x1FF 0 0

/-- STAGE_SKEW_TIMEOUT: one copy completed a stage and the other did not within 10 ms (R139, KIND 4): the stage stands uncompared, and the frame has
been in the pair for that long at least. The command itself is the report that one copy stands completed for 10 ms. -/
def stageSkewTimeout (p : PIx) (stage : Fin 8) (s : State) : State :=
  s.onP p fun s =>
    let e := s.eng p
    if e.cur.isSome && s.joined p && !e.stageDone stage.val && s.past e.curAt (msT 10) then s.frameMismatch p 4 stage.val 0x1FF 0 0 else s

/-- RESIDENT_IMAGE_LOADED: both engines of the new pair hold the image, and `ok` says that both signatures equal the master (R143 steps 3, 4).
With no raw frame in DRAM the migration is complete. -/
def residentImageLoaded (p : PIx) (ok : Bool) (s : State) : State :=
  s.onP p fun s =>
    match s.pairDwy p with
    | some d =>
      if s.pst p = pMigrating ∧ (s.eng p).job = .loading ∧ ok = true ∧ s.modState ≠ 4 then
        let s := (s.modEng p (fun e => { e with job := .running })).winLoaded 0 d.val
        if (s.head d).raws.isEmpty then (s.migrated p d).verdictStale d else s
      else s
    | none => s

/-- MIGRATION_TIMEOUT: step 5 is not reached within 80 ms (R144). -/
def migrationTimeout (d : DIx) (s : State) : State :=
  s.onD d fun s =>
    match s.pairOf d with
    | some p =>
      if s.pst p = pMigrating ∧ s.past (s.eng p).jobAt (msT 80) = true ∧ (s.eng p).late = false then
        ((s.closeWin 0 d.val).modEng p (fun e => { e with late := true })).noSpare d (s.eng p).oldPair 3
      else s
    | none => s

/-- Present pairs in a state. -/
def State.pairsIn (s : State) (st : Nat) : Nat := allP.countP (fun p => s.pairHere p && s.pst p == st)

/-- Show the pair counts of coppice operation. -/
def State.showCoppice (s : State) : State :=
  let n := s.pairsIn pSplit
  ((s.wr F.COPPICE_STATUS_ENGINES (2 * n)).setF F.COPPICE_STATUS_SPLIT (decide (0 < n)))

/-! ## Golden tests (R145, R146) -/

/-- Start a golden test. -/
def State.goldenStart (s : State) (p : PIx) : State :=
  ((s.setF (F.PAIR_STATUS_TESTING p) true).setFm poolEng p.val 1).modEng p (fun e => { e with job := .golden, jobAt := s.now, vacated := false, testDue := s.now })

/-- A pair leaves service for good until BOOT (R145); cause 1 golden test, 2 third mismatch, 3 local-memory ECC. -/
def State.pairFaulty (s : State) (p : PIx) (cause : Nat) : State :=
  let s := (s.dropFrame p).setPair p pFaulty 0x1F
  let s := (s.setF (F.PAIR_STATUS_TESTING p) false).setF (F.PAIR_CTL_SELFTEST p) false
  let s := (s.setFm poolEng p.val 3).modEng p (fun e => { e with job := .none, vacated := false, upEcc := false })
  s.stage 0x4303 sysRec [p.val, cause]

/-- GOLDEN_TEST_START on a vacated pair (R145), or on any pair while SAFE cause 4 waits for the tests (R391). -/
def goldenTestStart (p : PIx) (s : State) : State :=
  s.onP p fun s =>
    if s.flag (F.PAIR_STATUS_TESTING p) then s
    else if ((s.eng p).vacated || s.flt.engBackAt.isSome) && decide (s.pst p ≠ pFaulty) then s.goldenStart p
    else s

/-- Has a doorway taken pair p in this 1 ms tick (R376)? -/
def State.tookNow (s : State) (p : PIx) : Bool :=
  s.plc.picks.any (fun k => k.pool == poolEng && k.res == p.val && k.ms == s.now / msT 1 && s.rd (F.PAIR_STATUS_DOORWAY p) == k.dwy)

/-- A golden test that starts on a spare in the tick in which a doorway has taken it has priority (R376): the test starts, and the doorway takes
another. -/
def State.testFirst (s : State) (p : PIx) : State :=
  match s.pairDwy p with
  | none => s
  | some d =>
    let old := (s.eng p).oldPair
    ((s.setPair p pSpare 0x1F).goldenStart p).toSpare d old

/-- GOLDEN_TEST_PERIODIC: every 600 s on a SPARE pair in RUN (R146). -/
def goldenTestPeriodic (p : PIx) (s : State) : State :=
  s.onP p fun s =>
    if s.inRun && s.pst p == pSpare && s.fm poolEng p.val == 0 && s.past (s.eng p).testDue (msT 590000) then s.goldenStart p
    else s.when (s.inRun && s.tookNow p && s.past (s.eng p).testDue (msT 590000)) (fun t => t.testFirst p)

/-- PAIR_SELFTEST: a write of PAIR_CTL.SELFTEST (R146). -/
def pairSelftest (p : PIx) (s : State) : State :=
  s.onP p fun s =>
    if s.pst p == pSpare && s.fm poolEng p.val == 0 then (s.setF (F.PAIR_CTL_SELFTEST p) true).goldenStart p
    else if s.tookNow p then (s.setF (F.PAIR_CTL_SELFTEST p) true).testFirst p
    else s.setF (F.PAIR_CTL_REFUSED p) true

/-- GOLDEN_TEST_COMPLETE: `pass` says that the frame signatures equal the ROM reference (R145, R146). -/
def goldenTestComplete (p : PIx) (pass : Bool) (s : State) : State :=
  s.onP p fun s =>
    if !s.flag (F.PAIR_STATUS_TESTING p) then s
    else
      let cnt := s.rd (F.MISMATCH_CNT p)
      let bound := s.pairDwy p
      let s := (s.setF (F.PAIR_STATUS_TESTING p) false).setF (F.PAIR_CTL_SELFTEST p) false
      let s := (if pass then s.inc (F.SELFTEST_PASS p) else s.inc (F.SELFTEST_FAIL p)).setF (F.SELFTEST_LAST p) pass
      let s := (s.stage 0x4302 sysRec [p.val, b2n pass, cnt]).modEng p (fun e => { e with job := .none })
      let s := { s with flt := { s.flt with engTested := if s.flt.engBackAt.isSome && pass then p.val :: s.flt.engTested else s.flt.engTested } }
      if pass ∧ cnt < 3 then
        match bound with
        | some _ => s.setFm poolEng p.val 0
        | none => (s.setPair p pSpare 0x1F).setFm poolEng p.val 0
      else
        let s := match bound with | some d => (s.fault d 0x4303).quit d p | none => s.faultM
        s.pairFaulty p (if pass then 2 else 1)

/-- LOCAL_MEMORY_ECC_ERROR: an uncorrectable error in the local memory of pair p (R145, R149). -/
def localMemoryEccError (p : PIx) (s : State) : State :=
  s.onP p fun s =>
    let s := s.setF (F.PAIR_STATUS_ECC_ERR p) true
    if s.pst p = pFaulty then s
    else
    let s := match s.pairDwy p with | some d => s.fault d 0x4303 | none => s.faultM
    if s.pst p = pSplit then ((s.wr (F.PAIR_STATUS_STATE p) pSuspect).modEng p (fun e => { e with upEcc := true })).showCoppice
    else
      match s.pairDwy p with
      | none => s.pairFaulty p 3
      | some d => ((s.verdictOut d 4).quit d p).pairFaulty p 3

/-! ## Coppice operation (R147–R154) -/

/-- Is a release asked for: a release line, or a network release request (R147, R150)? -/
def State.releaseAsked (s : State) : Bool :=
  s.tl 2 || s.tl 3 || s.trn.sdtL || s.trn.sdtR

/-- The eight conditions of R147, in the order of BLOCK. -/
def State.coppiceConds (s : State) : List Bool :=
  let role := s.rd F.RP_STATUS_ROLE
  let hold := match s.cop.endAt with | some t => s.past t (msT (1000 * s.rd F.COPPICE_CFG_HOLDOFF)) | none => true
  [ s.flag F.COPPICE_CFG_EN,
    s.inRun && (role == 0 || role == 2 || role == 3),
    s.declaredList.all (fun d => (s.st d == .closedLocked && s.flag (F.SEQ_STATUS_PROVEN d)) || s.st d == .isolated),
    (match s.cop.zsOffSince with | some t => s.past t (msT 2000) | none => false) && hold,
    !s.flag F.NET_STATUS_APPROACH && !s.releaseAsked,
    decide (s.rd F.MOD_STATE_SHED ≤ 1),
    s.plc.moves.isEmpty && allP.all (fun p => !s.pairHere p || (s.pst p != pMigrating && s.pst p != pSuspect && !s.flag (F.PAIR_STATUS_TESTING p))),
    !s.flag F.COPPICE_CTL_INHIBIT ]

/-- The rejoin of every split pair starts (R150, R151 step 1), or a split that has not begun is called off. KEEP entry
stops the tasks with no rejoin (R514). -/
def State.rejoinStart (s : State) (trigger : Nat) : State :=
  if s.flag F.COPPICE_STATUS_REJOINING || s.outputsOff then s
  else if s.flag F.MOD_STATE_COPPICE then
    let s := { s with cop := { s.cop with decided := none, rejoinAt := some s.now, trigger := trigger, failed := 0 } }
    let s := s.setF F.COPPICE_STATUS_REJOINING true
    allP.foldl (fun t p => if t.pairHere p && (t.pst p == pSplit || (t.eng p).upEcc) then t.modEng p (fun e => { e with job := .rejoin 1, jobAt := t.now }) else t) s
  else { s with cop := { s.cop with decided := none } }

/-- Trigger of R150 that holds at a tick, the lowest code; code 9 when a condition of R147 fails before the split is complete. -/
def State.rejoinTrigger (s : State) : Option Nat :=
  let c := s.coppiceConds
  if s.flag F.NET_STATUS_APPROACH then some 1
  else if s.releaseAsked then some 2
  else if s.tl 0 || s.tl 1 then some 3
  else if s.declaredList.any (fun d => s.st d != .closedLocked && s.st d != .isolated) then some 4
  else if 2 ≤ s.rd F.MOD_STATE_SHED then some 5
  else if s.flag F.COPPICE_CTL_INHIBIT then some 6
  else if s.rd F.RP_STATUS_ROLE ≠ s.cop.role then some 8
  else if s.cop.decided.isSome && c.any (fun b => !b) then some 9
  else none

/-- Coppice operation at a tick (R147, R148, R150). -/
def State.coppiceTick (s : State) : State :=
  let zsOff := !s.tl 0 && !s.tl 1
  let s := { s with cop := { s.cop with zsOffSince := if zsOff then (match s.cop.zsOffSince with | some t => some t | none => some s.now) else none } }
  let c := s.coppiceConds
  let block := (List.range 8).foldl (fun a k => if nth c k true then a else a + 2 ^ k) 0
  let s := (s.wr F.COPPICE_STATUS_BLOCK block).setF F.COPPICE_STATUS_ALLOWED (block == 0)
  if s.flag F.COPPICE_STATUS_REJOINING then s
  else if s.cop.decided.isSome || s.flag F.MOD_STATE_COPPICE then
    match s.rejoinTrigger with
    | some k => s.rejoinStart k
    | none => s
  else if block = 0 then { s with cop := { s.cop with decided := some s.now, role := s.rd F.RP_STATUS_ROLE, warned := [] } }
  else s

/-- PAIR_SPLIT: a pair splits after the decision, a BOUND one once it has published a frame with T_REF after it (R148). DESIGN CHOICE (log entry 195):
SPLITS counts the splits that the last pair has completed, the ones that write 0x0301. -/
def pairSplit (p : PIx) (s : State) : State :=
  s.onP p fun s =>
    match s.cop.decided with
    | none => s
    | some t =>
      let d := s.pairDwy p
      let ok := (s.pst p == pSpare && !s.flag (F.PAIR_STATUS_TESTING p)) ||
        (s.pst p == pBound && (s.eng p).cur.isNone && (match (s.eng p).doneT with | some x => decide (t - s.tb0 < x) | none => false))
      if !ok then s
      else
        let s := (s.dropFrame p).wr (F.PAIR_STATUS_STATE p) pSplit
        let s := ((s.wr (F.TASKS_TASK_U p) 0).wr (F.TASKS_TASK_R p) 0).wr (F.TASKS_DONE p) 0
        let s := match d with | some d => (s.verdictOut d 8).platClear d | none => s
        let s := s.setF F.MOD_STATE_COPPICE true |>.showCoppice
        if s.pairsIn pSpare = 0 ∧ s.pairsIn pBound = 0 then
          let s := { s with cop := { s.cop with decided := none } }
          let s := (s.inc F.SPLITS).stage 0x0301 sysRec [s.rd F.COPPICE_STATUS_ENGINES, (s.now - t) / 160000]
          s.placementChanged 3 0 0x1F noRes noRes
        else s

/-- COPPICE_REJOIN: a write of COPPICE_CTL.REJOIN (R150, R159); with no pair split and no rejoin under way it clears at once. -/
def coppiceRejoin (s : State) : State :=
  s.onM fun s =>
    if s.flag F.MOD_STATE_COPPICE || s.flag F.COPPICE_STATUS_REJOINING then (s.setF F.COPPICE_CTL_REJOIN true).rejoinStart 6
    else (s.setF F.COPPICE_CTL_REJOIN false)

/-- A pair made SUSPECT while split is not rejoined (R152): its doorway migrates, and the pair takes the golden test. -/
def State.rejoinSuspect (s : State) (p : PIx) : State :=
  let s := { (s.modEng p (fun e => { e with upEcc := false, job := .none })) with cop := { s.cop with failed := s.cop.failed + 1 } }
  match s.pairDwy p with
  | some d => s.quit d p
  | none => s.vacate p true

/-- REJOIN_STEP_COMPLETE: pair p has completed the step of R151 that its rejoin is in: 1 and 2 tasks stopped, 3 scrubbed, 4 image copied, where
`ok` says that the signatures agree. A pair without a doorway then takes the golden test, and a doorway with fewer than two raw frames is BOUND
(R152). With `ok` false at steps 5 and 6 the replay has failed to match. -/
def rejoinStepComplete (p : PIx) (ok : Bool) (s : State) : State :=
  s.onP p fun s =>
    let goTo := fun (t : State) (k : Nat) => t.modEng p (fun e => { e with job := .rejoin k })
    match (s.eng p).job with
    | .rejoin 1 =>
      let s := ((s.wr (F.TASKS_TASK_U p) 0).wr (F.TASKS_TASK_R p) 0)
      if (s.eng p).upEcc then s.rejoinSuspect p else (goTo (s.wr (F.PAIR_STATUS_STATE p) pRejoining) 3).showCoppice
    | .rejoin 3 => goTo s 4
    | .rejoin 4 =>
      match s.pairDwy p with
      | none => s.goldenStart p
      | some d =>
        if !ok then s.rejoinFail p 0 0x1FF 0 0
        else if (s.head d).raws.length < 2 then
          ((s.setPair p pBound d.val).modEng p (fun e => { e with job := .none, replay := 0, doneT := none })).verdictStale d
        else (goTo s 5).modEng p (fun e => { e with replay := 2, doneT := none })
    | .rejoin _ => if ok then s else s.rejoinFail p 0 0x1FF 0 0
    | _ => s

/-- REJOIN_COMPLETE: every pair is bound, spare or suspect, or 40 ms have passed since the trigger (R151 step 7, R152). -/
def rejoinComplete (s : State) : State :=
  s.onM fun s =>
    match s.cop.rejoinAt with
    | none => s
    | some t =>
      let late := s.past t (msT 40)
      if !late && 0 < s.pairsIn pSplit + s.pairsIn pRejoining then s
      else
        let s := allP.foldl (fun u p =>
          if u.pairHere p && (u.pst p == pSplit || u.pst p == pRejoining) && !u.flag (F.PAIR_STATUS_TESTING p) then u.rejoinFail p 0 0x1FF 0 0
          else u.when (u.eng p).upEcc (fun t => t.rejoinSuspect p)) s
        let s := allP.foldl (fun u p => if u.pairHere p && u.pst p == pRejoining then u.setPair p pSpare 0x1F else u) s
        let us := (s.now - t) / 160
        let c := s.cop
        let s := (s.setF F.MOD_STATE_COPPICE false).setF F.COPPICE_STATUS_REJOINING false |>.showCoppice
        let s := ((s.wrSat F.REJOIN_LAST_TIME us).wr F.REJOIN_LAST_TRIGGER c.trigger).wrSat F.REJOIN_LAST_FAILED c.failed
        let s := (s.setF F.COPPICE_CTL_REJOIN false).stage 0x0302 sysRec [c.trigger, us, c.failed]
        let s := { s with cop := { s.cop with rejoinAt := none, endAt := some s.now } }
        -- an image that turned the operation off takes effect now (R161)
        (s.applyRange 0x1800 0x1804).placementChanged 4 0 0x1F noRes noRes

/-! ## Coppice tasks (R155, R156) -/

/-- A task of doorway d may run: once a second has passed since the last (R155, R156). DESIGN CHOICE (log entry 198): a doorway's tasks run while its own
pair is split, so that they never run beside its stages. -/
def State.taskDue (s : State) (d : DIx) (last : List (Nat × Nat)) (en : Fld) : Bool :=
  let due := match last.find? (fun x => x.1 == d.val) with | some x => s.past x.2 (msT 1000) | none => true
  s.flag en && due && !s.outputsOff && (s.pairOf d).any (fun p => s.pst p == pSplit)

/-- The engines of the task pool: every split pair's two (R148). -/
def State.taskPool (s : State) : List (PIx × Bool) :=
  (allP.filter (fun p => s.pairHere p && s.pst p == pSplit)).flatMap (fun p => [(p, false), (p, true)])

/-- A task, 1 seal seam or 2 occupancy, runs on the next engine of the pool (R155–R158). DESIGN CHOICE (log entry 159): the engine shows the task until
it takes another or the tasks stop. -/
def State.runTask (s : State) (kind : Nat) : State :=
  let pool := s.taskPool
  match pool[s.cop.turn % pool.length]? with
  | none => s
  | some e =>
    let s := { s with cop := { s.cop with turn := s.cop.turn + 1 } }
    (s.wr (if e.2 then F.TASKS_TASK_R e.1 else F.TASKS_TASK_U e.1) kind).inc (F.TASKS_DONE e.1)

/-- A task of doorway d, 1 seal seam or 2 occupancy, whose accumulator overflows on the engine it runs on: its result is discarded, and the overflow is
shown and recorded (R112, R149). DEDUCED (log entry 193): the record gives stage S0, which the task computes. -/
def State.taskOverflow (s : State) (d : DIx) (kind : Nat) : State :=
  let pool := s.taskPool
  match pool[s.cop.turn % pool.length]? with
  | none => s
  | some e =>
    let ctr := match (s.head d).raws with | r :: _ => r.ctr | [] => 0
    let s := { s with cop := { s.cop with turn := s.cop.turn + 1 } }
    let s := (s.wr (if e.2 then F.TASKS_TASK_R e.1 else F.TASKS_TASK_U e.1) kind).setF (if e.2 then F.PAIR_STATUS_ACC_OVF_R e.1 else F.PAIR_STATUS_ACC_OVF_U e.1) true
    s.accOverflow d 0 ctr (b2n e.2)

/-- The scene that a task of doorway d works on, with the bodies at the present positions. -/
def State.taskScene (s : State) (d : DIx) : View := { cal := (s.head d).cal.getD [], m := (s.topi d).model }
def State.taskPoses (s : State) (d : DIx) : List (List Int) := posesOf (s.topi d).model (allA.map (s.pos d))

/-- Insert by the first component. -/
def insertX (x : Int × Int) : List (Int × Int) → List (Int × Int)
  | [] => [x]
  | y :: l => if x.1 ≤ y.1 then x :: y :: l else y :: insertX x l

/-- Width over which the second component is at least 0, along sorted points, linear between them. -/
def widthOver : List (Int × Int) → Int
  | a :: b :: l =>
    let w := b.1 - a.1
    (if 0 ≤ a.2 ∧ 0 ≤ b.2 then w else if a.2 < 0 ∧ b.2 < 0 then 0
     else roundDiv (w * max a.2 b.2) (max a.2 b.2 - min a.2 b.2).natAbs) + widthOver (b :: l)
  | _ => 0

/-- Opening of a band of z, 0.25 mm, none with fewer than 4 valid pixels (R155). A pixel lies where its ray meets the rendered leaf (log entry 160). -/
def bandOpening (f : DepthFrame) (w : View) (poses : List (List Int)) (half k : Nat) : Option Nat :=
  let pts := (roiOf w.m).filterMap (fun px =>
    let q := pixAt f.pix px
    match w.bodyAt poses px with
    | some (b, r) =>
      let p := w.point px r
      if b < 2 ∧ !invalidFlags q.flags ∧ p.x.natAbs ≤ half * mm ∧ 0 ≤ p.z ∧ p.z < portalHeight w.m ∧ (p.z * 32 / portalHeight w.m).toNat = k then
        some (p.x, (q.depth : Int) - r - 32) else none
    | none => none)
  if pts.length < 4 then none else some (roundDiv (widthOver (pts.foldr insertX [])) perDepth).toNat

/-- The openings of the 32 bands that a raw frame shows (R155). -/
def State.seamOpenings (s : State) (d : DIx) (r : RawFrame) : List (Option Nat) :=
  (List.range 32).map (bandOpening (s.depthOf d .upright r) (s.taskScene d) (s.taskPoses d) (s.rd (F.ZONE_CFG_SEAM_HALF d)))

/-- The largest of the openings and its band; 0 where no band has one (log entry 160). -/
def largestBand (l : List (Option Nat)) : Nat × Nat :=
  (l.zip (List.range l.length)).foldl (fun (b : Nat × Nat) x => match x.1 with | some v => if b.1 < v then (v, x.2) else b | none => b) (0, 0)

/-- SEAL_SEAM_TASK: the openings of the 32 bands of the closed seam (R155); `ovf` says that an accumulator of the task overflows (R149). -/
def sealSeamTask (d : DIx) (ovf : Bool) (s : State) : State :=
  s.onD d fun s =>
    match (s.head d).raws with
    | [] => s
    | r :: _ =>
      if !s.taskDue d s.cop.seamAt F.COPPICE_CFG_SEAM_EN then s
      else
        let s := { s with cop := { s.cop with seamAt := (d.val, s.now) :: s.cop.seamAt.filter (fun x => x.1 != d.val) } }
        if ovf then s.taskOverflow d 1
        else
        let best := largestBand (s.seamOpenings d r)
        let warn := decide (2 * s.rd F.COPPICE_CFG_SEAM_WARN < 5 * best.1)
        let s := ((s.wrSat (F.SEAM_SUM_MAX_OPEN d) best.1).wr (F.SEAM_SUM_MAX_BAND d) best.2).wr (F.SEAM_SUM_AGE d) 0
        let s := (s.setF (F.SEAM_SUM_WARN d) warn).runTask 1
        if warn && !s.cop.warned.contains d.val then
          ({ s with cop := { s.cop with warned := d.val :: s.cop.warned } } : State).stage 0x0303 d.val [s.rd (F.SEAM_SUM_MAX_OPEN d), best.2]
        else s

/-- Where the ray of an image point, in 1/64 pixel, meets the floor, as (x, y), if it does. -/
def View.floorPoint (w : View) (col row : Int) : Option (Int × Int) :=
  let r := (w.dirAt col row).1
  let h := Config.floorHeight w.m - w.org.z
  if r.z = 0 ∨ h * r.z < 0 then none
  else some (w.org.x + roundDiv (r.x * h * (if r.z < 0 then -1 else 1)) r.z.natAbs, w.org.y + roundDiv (r.y * h * (if r.z < 0 then -1 else 1)) r.z.natAbs)

/-- Footprint of a pixel on the floor, twice its area: the quadrilateral of the rays through its corners; 0 where one of them does not meet the
floor (log entry 161). -/
def View.footprint2 (w : View) (px : Nat) : Nat :=
  let c : Int := (64 * (px % 640) : Nat)
  let r : Int := (64 * (px / 640) : Nat)
  match w.floorPoint (c - 32) (r - 32), w.floorPoint (c + 32) (r - 32), w.floorPoint (c + 32) (r + 32), w.floorPoint (c - 32) (r + 32) with
  | some a, some b, some e, some g =>
    let x := fun (p q : Int × Int) => p.1 * q.2 - q.1 * p.2
    (x a b + x b e + x e g + x g a).natAbs
  | _, _, _, _ => 0

/-- The ROI pixels of the vestibule floor, with their ROI entry: static points inside the threshold and within 50 mm of the learned floor (R156). -/
def View.floorPixels (w : View) : List (Nat × Nat) :=
  let roi := roiOf w.m
  (roi.zip (List.range roi.length)).filter (fun x =>
    let p := w.point x.1 (staticOf w.m x.2)
    decide (p.y < -innerEdge w.m) && decide ((p.z - Config.floorHeight w.m).natAbs ≤ 50 * mm))

/-- The floor pixels that a raw frame shows valid. -/
def State.floorSeen (s : State) (d : DIx) (r : RawFrame) : List (Nat × Nat) :=
  let f := s.depthOf d .upright r
  (s.taskScene d).floorPixels.filter (fun x => !invalidFlags (pixAt f.pix x.1).flags)

/-- Area of the floor, 0.01 m², over which a raw frame shows something more than 100 mm nearer than the model (R156). -/
def State.occupiedArea (s : State) (d : DIx) (r : RawFrame) : Nat :=
  let f := s.depthOf d .upright r
  let w := s.taskScene d
  let occ := (s.floorSeen d r).filter (fun x => decide ((pixAt f.pix x.1).depth + 400 < w.expected (s.topi d).offs (s.taskPoses d) x.2 x.1))
  (roundDiv ((occ.map (fun x => w.footprint2 x.1)).foldl (· + ·) 0 : Nat) (20000 * mm * mm)).toNat

/-- OCCUPANCY_TASK: occupied floor area, 0.01 m², persons, and share of valid floor pixels, % (R156), after the doorway's seam task; `ovf` says that
an accumulator of the task overflows (R149). DESIGN CHOICE (log entry 194): AREA is rounded to the nearest, and QUALITY drops the fraction. -/
def occupancyTask (d : DIx) (ovf : Bool) (s : State) : State :=
  s.onD d fun s =>
    match (s.head d).raws with
    | [] => s
    | r :: _ =>
      if !s.taskDue d s.cop.occAt F.COPPICE_CFG_OCC_EN || s.taskDue d s.cop.seamAt F.COPPICE_CFG_SEAM_EN then s
      else
        let s := { s with cop := { s.cop with occAt := (d.val, s.now) :: s.cop.occAt.filter (fun x => x.1 != d.val) } }
        if ovf then s.taskOverflow d 2
        else
        let ps := (s.taskScene d).floorPixels
        let ok := s.floorSeen d r
        let area := s.occupiedArea d r
        let per := s.rd F.COPPICE_CFG_PERSON_AREA
        let s := s.wrSat (F.OCC_AREA d) area
        let s := s.wrSat (F.OCC_COUNT d) (roundDiv (s.rd (F.OCC_AREA d)) per).toNat
        ((s.wr (F.OCC_QUALITY d) (if ps.isEmpty then 0 else 100 * ok.length / ps.length)).wr (F.OCC_AGE_AGE d) 0).runTask 2

/-! ## Deferred moves, and moves around SAFE (R377, R379, R400) -/

/-- DEFERRED_MOVE_START: every move of doorway d that may start now starts (R377, R379, R400). -/
def deferredMoveStart (d : DIx) (s : State) : State :=
  s.onD d fun s =>
    (s.plc.moves.filter (fun m => s.moveStartable d m)).foldl (fun t m =>
      if m.pool = poolEng then
        if t.targetBusy d poolEng then t
        else match t.pairOf d with
        | some p => (t.migrate d p false).showPlc
        | none => (t.toSpare d noRes).showPlc
      else t.startMove d m.pool) s

/-- DEFERRED_MOVE_COMPLETE: the new resource of doorway d in a pool is loaded, a region that replaces a FAULTY one from the model store alone; cause 1
of SAFE clears when no doorway uses a FAULTY region any more (R375, R391). -/
def deferredMoveComplete (d : DIx) (pool : Fin 8) (s : State) : State :=
  s.onD d fun s =>
    if s.plc.moves.any (fun m => m.started && m.dwy == d.val && m.pool == pool.val) then
      let lost := s.plc.moves.any (fun m => m.started && m.dwy == d.val && m.pool == poolDram && s.fm poolDram m.old == 3)
      let s := s.moveEnded d pool.val
      let s := (s.showPlc).when (pool.val == poolDram) (fun t => (t.winLoaded 6 d.val).when lost (fun u => u.loadModel d))
      if pool.val = poolDram ∧ s.flt.dramSysBad = false ∧ s.declaredList.all (fun e => s.fm poolDram (s.resOf e poolDram) != 3) = true then
        s.clearCause 1
      else s
    else s

/-- A migration is given up: the new pair is a spare again, and the doorway keeps the pair that it left, BOUND where a new map alone asked for the move,
which then waits again, and SUSPECT or FAULTY otherwise (R400). -/
def State.giveUp (s : State) (d : DIx) (p : PIx) : State :=
  let e := s.eng p
  let s := (s.setPair p pSpare 0x1F).modEng p (fun x => { x with job := .none, plan := false })
  if h : e.oldPair < 32 then
    let old : PIx := ⟨e.oldPair, h⟩
    let s := (s.rebind d poolEng old.val 2).modEng old (fun x => { x with job := .none, vacated := false })
    if e.plan then
      let s := (((s.setPair old pBound d.val).setF (F.PAIR_STATUS_TESTING old) false).setFm poolEng old.val 0)
      let mv : Move := { dwy := d.val, pool := poolEng, target := p.val, plan := true }
      State.showPlc { s with plc := { s.plc with moves := s.plc.moves ++ [mv] } }
    else s.setPair old (if s.fm poolEng old.val = 3 then pFaulty else pSuspect) d.val
  else s.rebind d poolEng noRes 2

/-- In SAFE a move whose new resource is not loaded is given up and its doorway keeps its old binding (R400). -/
def State.abandonMoves (s : State) (d : DIx) : State :=
  let s := match s.pairOf d with
    | some p => s.when (s.pst p == pMigrating && (s.eng p).job != PairJob.running) (fun t => t.giveUp d p)
    | none => s
  (s.plc.moves.filter (fun m => m.started && m.dwy == d.val && !(m.pool == poolDram && s.fm poolDram m.old == 3))).foldl (fun (t : State) (m : Move) =>
    let t := (t.moveEnded d m.pool).rebind d m.pool m.old 2
    let mv : Move := { dwy := d.val, pool := m.pool, target := if m.plan then m.target else noRes, plan := m.plan, pin := m.pin }
    if m.pool = poolSes then t else State.showPlc { t with plc := { t.plc with moves := t.plc.moves ++ [mv] } }) s

/-- After SAFE the moves that were given up run again (R400). -/
def State.resumeMoves (s : State) (d : DIx) : State :=
  let s := s.when (bitOf (s.fenceSet d) 7 && s.fm poolSes (s.resOf d poolSes) == 3) (fun t => (t.openWin 5 d.val).moveSlot d)
  match s.pairOf d with
  | some p =>
    let bad := s.fm poolEng p.val == 3
    s.when (bad || s.pst p == pSuspect) (fun t =>
      let t := t.quit d p
      t.when bad (fun u => (u.setPair p pFaulty 0x1F).setFm poolEng p.val 3))
  | none => s

/-! ## The commands of this file -/

/-- The meaning of DEPTH_FRAME_READY (R87). -/
def execDepthFrameReady (d : DIx) (s : State) : Host.Outcome State Fault Refusal := .next (s.done (depthFrameReady d s))

/-- The meaning of TILE_SIGNATURE_COMPARE (R137). -/
def execTileSignatureCompare (p : PIx) (stage : Fin 8) (tile : Fin 300) (badU badR : Word) (skipU skipR ovfU ovfR words : Bool) (dur : BitVec 16) (s : State) : Host.Outcome State Fault Refusal := .next (s.done (tileSignatureCompare p stage tile badU badR skipU skipR ovfU ovfR words dur s))

/-- The meaning of BINDER_SELFTEST (R141). -/
def execBinderSelftest (p : PIx) (pass : Bool) (s : State) : Host.Outcome State Fault Refusal := .next (s.done (binderSelftest p pass s))

/-- The meaning of STAGE_SKEW_TIMEOUT (R139). -/
def execStageSkewTimeout (p : PIx) (stage : Fin 8) (s : State) : Host.Outcome State Fault Refusal := .next (s.done (stageSkewTimeout p stage s))

/-- The meaning of RESIDENT_IMAGE_LOADED (R143). -/
def execResidentImageLoaded (p : PIx) (ok : Bool) (s : State) : Host.Outcome State Fault Refusal := .next (s.done (residentImageLoaded p ok s))

/-- The meaning of MIGRATION_TIMEOUT (R144). -/
def execMigrationTimeout (d : DIx) (s : State) : Host.Outcome State Fault Refusal := .next (s.done (migrationTimeout d s))

/-- The meaning of GOLDEN_TEST_START (R145). -/
def execGoldenTestStart (p : PIx) (s : State) : Host.Outcome State Fault Refusal := .next (s.done (goldenTestStart p s))

/-- The meaning of GOLDEN_TEST_COMPLETE (R145). -/
def execGoldenTestComplete (p : PIx) (pass : Bool) (s : State) : Host.Outcome State Fault Refusal := .next (s.done (goldenTestComplete p pass s))

/-- The meaning of GOLDEN_TEST_PERIODIC (R146). -/
def execGoldenTestPeriodic (p : PIx) (s : State) : Host.Outcome State Fault Refusal := .next (s.done (goldenTestPeriodic p s))

/-- The meaning of PAIR_SELFTEST (R146). -/
def execPairSelftest (p : PIx) (s : State) : Host.Outcome State Fault Refusal := .next (s.done (pairSelftest p s))

/-- The meaning of LOCAL_MEMORY_ECC_ERROR (R145). -/
def execLocalMemoryEccError (p : PIx) (s : State) : Host.Outcome State Fault Refusal := .next (s.done (localMemoryEccError p s))

/-- The meaning of PAIR_SPLIT (R148). -/
def execPairSplit (p : PIx) (s : State) : Host.Outcome State Fault Refusal := .next (s.done (pairSplit p s))

/-- The meaning of COPPICE_REJOIN (R150). -/
def execCoppiceRejoin (s : State) : Host.Outcome State Fault Refusal := .next (s.done (coppiceRejoin s))

/-- The meaning of REJOIN_STEP_COMPLETE (R151). -/
def execRejoinStepComplete (p : PIx) (ok : Bool) (s : State) : Host.Outcome State Fault Refusal := .next (s.done (rejoinStepComplete p ok s))

/-- The meaning of REJOIN_COMPLETE (R151). -/
def execRejoinComplete (s : State) : Host.Outcome State Fault Refusal := .next (s.done (rejoinComplete s))

/-- The meaning of SEAL_SEAM_TASK (R155). -/
def execSealSeamTask (d : DIx) (ovf : Bool) (s : State) : Host.Outcome State Fault Refusal := .next (s.done (sealSeamTask d ovf s))

/-- The meaning of OCCUPANCY_TASK (R156). -/
def execOccupancyTask (d : DIx) (ovf : Bool) (s : State) : Host.Outcome State Fault Refusal := .next (s.done (occupancyTask d ovf s))

/-- The meaning of DEFERRED_MOVE_COMPLETE (R375). -/
def execDeferredMoveComplete (d : DIx) (pool : Fin 8) (s : State) : Host.Outcome State Fault Refusal := .next (s.done (deferredMoveComplete d pool s))

/-- The meaning of DEFERRED_MOVE_START (R377). -/
def execDeferredMoveStart (d : DIx) (s : State) : Host.Outcome State Fault Refusal := .next (s.done (deferredMoveStart d s))

end Sys2Proof.Machine
end

