-- ==== Sys2Proof/Machine/FieldIo.lean ====
section
/-!
DEFINITION. Machine/FieldIo.lean: field inputs and load channels (chapter 10): the field scan (R309–R313), field supplies (R314), load
channels (R317–R323), the alive pulse (R326), limp-home (R327) and the converters (R329–R332).
-/
namespace Sys2Proof.Machine

/-- The doorways of field ASIC j, with the local number of each (R308). -/
def asicDoors (j : JIx) : List (Nat × DIx) := (List.range 6).map (fun l => (l, Fin.ofNat 24 (6 * j.val + l)))

/-- Those of them that are present. -/
def State.asicDoors (s : State) (j : JIx) : List (Nat × DIx) := (Machine.asicDoors j).filter (fun p => s.present p.2)

/-! ## Input filters -/

/-- Byte n of four 32-bit registers that hold one byte per input. -/
def byteOf (w n : Nat) : Nat := bitsOf w (8 * n) 8

/-- A filter time in scans; 0 selects a default. -/
def orDefault (v dflt : Nat) : Nat := if v = 0 then dflt else v

/-- Does a role field name input i? -/
def State.names (s : State) (f : Fld) (i : Nat) : Bool := s.rd f == i

/-- Filter time of input i in scans of 0.1 ms (R311). -/
def State.inputFilt (s : State) (d : DIx) (i : Nat) : Nat :=
  let n : Fld → Bool := fun f => s.names f i
  let h := s.handleIns d
  if h.1 == i || h.2.1 == i then orDefault h.2.2 109
  else if n (F.PROVE_IN_CLOSED_A d) || n (F.PROVE_IN_CLOSED_B d) || n (F.PROVE_IN_LOCKED_A d) || n (F.PROVE_IN_LOCKED_B d) || n (F.PROVE_IN_STOWED d) ||
      n (F.PROVE_IN2_ISO_IN d) || n (F.PROVE_IN2_ISO_IN2 d) then orDefault (s.rd (F.PROVE_CFG_PROVE_FILT d)) 59
  else if s.hasGuard d && (n (F.PD_IN_GUARD1 d) || n (F.PD_IN_GUARD2 d)) then orDefault (s.rd (F.PD_CFG_GUARD_FILT d)) 109
  else if s.hasTh d && (n (F.PD_IN2_TH1 d) || n (F.PD_IN2_TH2 d) || n (F.PD_IN2_TH3 d) || n (F.PD_IN2_TH4 d)) then orDefault (s.rd (F.PD_CFG_TH_FILT d)) 50
  else if s.hasLc d && (n (F.PD_IN3_OSSD1_IN d) || n (F.PD_IN3_OSSD2_IN d)) then orDefault (s.rd (F.LC_CFG_LC_FILT d)) 50
  else orDefault (byteOf (s.rd (F.IN_FILT d (i / 4))) (i % 4)) 30

/-- One sample through a filter: the count of differing scans, and the new level once it is reached (R311). -/
def FiltH.sample (f : FiltH) (now n : Nat) (level raw : Bool) : FiltH × Bool :=
  if level == raw then ({ f with n := 0 }, level)
  else if n ≤ f.n + 1 then ({ n := 0, on := raw, since := some now }, raw)
  else ({ f with n := f.n + 1 }, level)

/-- Take a filtered level of input i: IN_STATE, IN_EDGE, the make edge of reference switches (R214) and passenger edges (R346). -/
def State.takeInput (s : State) (d : DIx) (i : Nat) (level : Bool) (scans : Nat) : State :=
  let s := s.setBit (F.IN_STATE_FILT d) i level
  let s := if level then s.setBit (F.IN_EDGE_RISE d) i true else s.setBit (F.IN_EDGE_FALL d) i true
  let t := s.tb - usT (100 * scans)
  let s := allA.foldl (fun u a => if s.rd (F.REF_CFG_REF_IN d a) = i ∧ level = true then u.modEnc d a (fun e => { e with refEdge := some t }) else u) s
  match s.img.seqs.find? (fun r => r.dwy == d.val) with
  | some r => s.when (level && (r.passIn == i || r.crewOpenIn == i)) (fun u => u.modSeq d (fun q => { q with openEdge := true }))
  | none => s

/-- One sample of input i; `gone` says that the field link has failed, and the input reads inactive at once (R309). -/
def State.scanInput (s : State) (d : DIx) (i : Nat) (raw gone : Bool) : State :=
  let level := bitOf (s.rd (F.IN_STATE_FILT d)) i
  let n := s.inputFilt d i
  let r := (s.input d i).sample s.now (if gone then 0 else n) level raw
  let s := s.modIn d i (fun _ => r.1)
  if r.2 == level then s else s.takeInput d i r.2 n

/-! ## Load channels -/

/-- Settings of the channels that waited for a field scan (R333). -/
def State.applyChans (s : State) (d : DIx) : State := if s.imgPend.isEmpty then s else s.applyRange (dw d 0xB00) (dw d 0xB60)

/-- RESTARTS: restarts of the last 10 s (R319). -/
def State.showRestarts (s : State) (d : DIx) (k : KIx) : State :=
  let l := (s.chan d k).restarts.filter (fun t => decide (s.now < t + msT 10000))
  if l.length = s.rd (F.CH_STATUS_RESTARTS d k) then s
  else (s.modCh d k (fun c => { c with restarts := l })).wr (F.CH_STATUS_RESTARTS d k) (min l.length 3)

/-- One scan of the doorway's inputs, and all that follows from their filtered levels. `lim` are the channels that limit their current. -/
def State.scanDoor (s : State) (d : DIx) (word lim : Nat) (gone : Bool) : State :=
  let word := if s.rd (F.FSUP_STATE d) = 2 then 0 else word  -- with the supply MISSING every input reads OFF (R314)
  let s := (s.wr (F.IN_STATE_RAW d) word).applyChans d
  let s := (List.range 16).foldl (fun t i => t.scanInput d i (bitOf word i) gone) s
  let s := allA.foldl (fun t a => t.setF (F.POS_STATUS_REF_MADE d a) (bitOf (t.rd (F.IN_STATE_FILT d)) (t.rd (F.REF_CFG_REF_IN d a)))) s
  let s := (((s.proveUpdate d).plausUpdate d).crewFollow d gone).protUpdate d
  let s := allA.foldl (fun t a => t.restReference d a) (s.poseEntry d)
  let s := allK.foldl (fun t k =>
    let st := t.rd (F.CH_STATUS_STATE d k)
    (t.setF (F.CH_STATUS_LIMITING d k) (bitOf lim k.val && (st == chInrush || st == chOn))).showRestarts d k) s
  s.evalChans d

/-! ## Limp-home and the alive pulse -/

/-- Records and status of the controller follow only while it runs. -/
def State.say (s : State) (code dwy : Nat) (ws : List Nat) : State := s.when s.alive (fun t => t.stage code dwy ws)

/-- The channel that LH_IN[i] is bound to, if any (R327, R328); none before a first image has been loaded. -/
def State.lhChan (s : State) (i : Nat) : Option (DIx × KIx) :=
  let g := s.rd (F.LH_CFG_CH i)
  if !s.img.loaded then none
  else if h : g < 144 then some (⟨g / 6, by omega⟩, ⟨g % 6, by omega⟩) else none

/-- Put every channel bound in ASIC j under limp-home, or release it. -/
def State.bindLimp (s : State) (j : Nat) (active : Bool) : State :=
  (List.range 16).foldl (fun t i => match t.lhChan i with
    | some (d, k) =>
      if asicOf d = j ∧ t.present d = true then
        let t := (t.modCh d k (fun c => { c with limp := active })).setF (F.CH_STATUS_LIMP d k) active
        let t := t.when active (fun u => u.setF (F.CH_STATUS_CMD d k) (bitOf (u.rd F.LH_STATUS_LH_IN) i))
        t.evalCh d k
      else t
    | none => t) s

/-- Evaluate limp-home in ASIC j (R327): LH_EN or a latched alive loss; `cause` 1 LH_EN, 2 alive lost. -/
def State.limpUpdate (s : State) (j cause : Nat) : State :=
  let a := s.asic j
  let active := a.lhEn || a.lostSince.isSome
  if s.flag (F.FIO_STATUS_LH_ACTIVE j) = active then s
  else
    let s := (s.setF (F.FIO_STATUS_LH_ACTIVE j) active).bindLimp j active
    let any := (List.range 4).any (fun i => s.flag (F.FIO_STATUS_LH_ACTIVE i))
    let s := s.setF F.LH_STATUS_ACTIVE any
    let s := s.applyLimp
    s.say 0x8A05 sysRec [b2n active, cause, j]

/-- LIMP_HOME_CHANGE: ASIC j sees a new filtered level of LH_EN (R327); the ASIC is fed from the field supplies, so this holds with the main rail
off as well (R513). -/
def limpHomeChange (j : JIx) (en : Bool) (s : State) : State :=
  ((s.setF F.LH_STATUS_LH_EN en).modAsic j.val (fun a => { a with lhEn := en })).limpUpdate j.val 1

/-- LIMP_HOME_INPUT_CHANGE: a new filtered level of LH_IN[i] (R327, R513). -/
def limpHomeInputChange (i : IIx) (level : Bool) (s : State) : State :=
  let s := ({ s with pwr := { s.pwr with lhIn := putBit s.pwr.lhIn i.val level } } : State).setBit F.LH_STATUS_LH_IN i.val level
  match s.lhChan i.val with
  | some (d, k) => if (s.chan d k).limp && s.present d then (s.setF (F.CH_STATUS_CMD d k) level).evalCh d k else s
  | none => s

/-- An ASIC loses its alive pulse: it switches every output off and latches the loss (R326). -/
def State.asicOff (s : State) (j : JIx) : State :=
  let s := s.modAsic j.val (fun a => { a with armed := false, lostSince := some s.now, owe := true, pulseOk := false, pulseSince := s.now })
  let s := (s.setF (F.FIO_STATUS_ALIVE_LOST j.val) true).setF (F.FIO_STATUS_ALIVE_OK j.val) false
  let s := (s.limpUpdate j.val 2).evalOutputs
  (s.asicDoors j).foldl (fun t p => (t.torqueOff p.2).evalChans p.2) s

/-- A running controller learns of an alive loss over the field link: it fences the ASIC's doorways and records it (R326). -/
def State.aliveTold (s : State) (j : JIx) : State :=
  if !(s.asic j.val).owe || !s.flag (F.FIO_STATUS_LINK_OK j.val) then s
  else
    let s := (s.modAsic j.val (fun a => { a with owe := false })).faultM
    ((s.asicDoors j).foldl (fun t p => (t.secondFault p.2 0x4A01).fence p.2 5) s).stage 0x4A01 sysRec [j.val]

/-! ## The field scan -/

/-- The first valid frame of ASIC j after a restart of the module reports what the ASIC holds: its latched alive loss, limp-home and the inputs
(R326–R328). DEDUCED (log entry 162): until then the registers read their values at entry to BOOT (R18). -/
def State.asicReport (s : State) (j : JIx) : State :=
  let a := s.asic j.val
  if a.told then s
  else
    let act := a.lhEn || a.lostSince.isSome
    let s := (s.modAsic j.val (fun x => { x with told := true })).setF (F.FIO_STATUS_ALIVE_LOST j.val) a.lostSince.isSome
    let s := ((s.setF (F.FIO_STATUS_LH_ACTIVE j.val) act).wr F.LH_STATUS_LH_IN s.pwr.lhIn).setF F.LH_STATUS_LH_EN a.lhEn
    let s := s.setF F.LH_STATUS_ACTIVE ((List.range 4).any (fun i => s.flag (F.FIO_STATUS_LH_ACTIVE i)))
    (List.range 16).foldl (fun t i => match t.lhChan i with
      | some (d, k) => if asicOf d = j.val ∧ (t.chan d k).limp = true then
          (t.setF (F.CH_STATUS_LIMP d k) true).setF (F.CH_STATUS_CMD d k) (bitOf t.pwr.lhIn i) else t
      | none => t) s

/-- Filter time of train line n in scans (R313). -/
def State.tlFilt (s : State) (n : Nat) : Nat :=
  if s.img.level = 1 then 200
  else orDefault (byteOf (s.rd (if n < 4 then F.TL_FILT0 else if n < 8 then F.TL_FILT1 else F.TL_FILT2)) (n % 4)) 20

/-- One sample of train line n. -/
def State.scanLine (s : State) (n : Nat) (raw gone : Bool) : State × Bool :=
  let level := s.tl n
  let r := (nth s.trn.tl n {}).sample s.now (if gone then 0 else s.tlFilt n) level raw
  ({ (s.setBit F.TL_STATE_RAW n raw) with trn := { s.trn with tl := setNth s.trn.tl n r.1 } }, r.2)

/-- The train lines of field ASIC j (R308), line 2 m + j in bit m. -/
def State.scanLines (s : State) (j tls : Nat) (gone : Bool) : State :=
  if 2 ≤ j then s
  else
    let old := s.rd F.TL_STATE_FILT
    let r := (List.range 6).foldl (fun (p : State × Nat) m =>
      let n := 2 * m + j
      let q := p.1.scanLine n (bitOf tls m) gone
      (q.1, if bitOf p.2 n = q.2 then p.2 else if q.2 then p.2 + 2 ^ n else p.2 - 2 ^ n)) (s, old)
    let s := r.1
    if r.2 ≠ old ∨ (!gone && !nth s.trn.tlSeen j false) = true then (if gone then s else s.tlBegin j).trainUpdate r.2 else s

/-- A field-link fault of ASIC j (R309): cause 1 two failures in a scan, 2 a scan without a valid frame. -/
def State.fieldLinkFault (s : State) (j : JIx) (cause : Nat) : State :=
  if (s.asic j.val).linkFault then s
  else
    let s := (s.setF (F.FIO_STATUS_LINK_FAULT j.val) true).modAsic j.val (fun a => { a with linkFault := true })
    let s := (s.asicDoors j).foldl (fun t p => (t.secondFault p.2 0x4A02).fence p.2 5) s.faultM
    s.stage 0x4A02 sysRec [j.val, cause]

/-- One scan seen by ASIC j itself: after ten in a row without a valid downstream frame it switches off as for a lost pulse (R309). -/
def State.scanDown (s : State) (j : JIx) (down : Bool) : State :=
  let s := s.modAsic j.val (fun a => { a with deaf := if down then 0 else min 10 (a.deaf + 1) })
  s.when (decide (10 ≤ (s.asic j.val).deaf) && (s.asic j.val).lostSince.isNone) (fun t => t.asicOff j)

/-- FIELD_SCAN: one scan of field ASIC j: frames that failed in it, whether a valid upstream frame arrived here and a valid downstream frame there,
the samples of its six doorways, of its train lines, the channels that limit, and whether the ASIC sees a valid alive pulse (R309). -/
def fieldScan (j : JIx) (fails : Nat) (valid down : Bool) (ins : List (BitVec 16)) (tls : BitVec 6) (lim : List (BitVec 6)) (pulse : Bool)
    (s : State) : State :=
  s.onM fun s =>
    let gone := !valid || decide (2 ≤ fails)
    let s := ((s.scanDown j down).addSat (F.FIO_ERR_LINK j.val) fails).setF (F.FIO_STATUS_LINK_OK j.val) valid
    let s := if gone then s.fieldLinkFault j (if 2 ≤ fails then 1 else 2) else s.modAsic j.val (fun a => { a with linkFault := false })
    -- the pulse has a line of its own (R326); the controller hears of it in a valid frame
    let s := s.when ((s.asic j.val).pulseOk != pulse) (fun t => t.modAsic j.val (fun a => { a with pulseOk := pulse, pulseSince := t.now }))
    let s := s.when valid (fun t => ((t.asicReport j).aliveTold j).setF (F.FIO_STATUS_ALIVE_OK j.val) pulse)
    let s := (s.asicDoors j).foldl (fun t p =>
      t.scanDoor p.2 (if gone then 0 else (nth ins p.1 0#16).toNat) (if gone then 0 else (nth lim p.1 0#6).toNat) gone) s
    s.scanLines j.val (if gone then 0 else tls.toNat) gone

/-! ## Field supplies -/

/-- FIELD_SUPPLY_CHANGE: the comparators of doorway d see the supply enter LOW (1) or MISSING (2), or return to OK (0) (R314). The channels follow in the
ASIC, while the controller is silent too (R318); the counts, the fence and the record are the controller's. -/
def fieldSupplyChange (d : DIx) (st : Fin 3) (s : State) : State :=
  if !s.present d then s
  else
    let old := s.rd (F.FSUP_STATE d)
    if st.val = old ∨ (old = 2 ∧ st.val = 1) then s
    else
      let s := (s.wr (F.FSUP_STATE d) st.val).evalChans d
      s.onM fun s =>
      let s := s.when (st.val != 0) (fun t => (t.setF (F.FSUP_SEEN_LOW d) true).inc (F.FSUP_LOW_CNT d))
      let s := if st.val = 2 then (s.fault d 0x8A03).fence d 4
        else if st.val = 0 ∧ bitOf (s.fenceSet d) 3 then s.fenceClear d 4 else s
      s.stageSev (if st.val = 2 then 3 else 2) 0x8A03 d.val [st.val, s.rd (F.FSUP_VFIELD d)]

/-! ## Thermal shutdown, clamp and clear -/

/-- Full scale of a mirror, mA (R316). -/
def mirrorScale (k : KIx) : Nat := match chClass k.val with | 0 => 2000 | 1 => 8000 | _ => 16000

/-- Clamp budget of a channel, nJ (R316). -/
def clampBudget (k : KIx) : Nat := match chClass k.val with | 0 => 50000000 | 1 => 200000000 | _ => 100000000

/-- The channel is in its ASIC's hands, which the field supplies feed: its protection runs while the controller is silent or off (R318, R327, R513). -/
def State.onCh (s : State) (d : DIx) (f : State → State) : State := if s.present d then f s else s

/-- THERMAL_SHUTDOWN: the junction reaches 160 °C (R318–R320). -/
def thermalShutdown (d : DIx) (k : KIx) (s : State) : State :=
  s.onCh d fun s =>
    let st := s.rd (F.CH_STATUS_STATE d k)
    if st ≠ chInrush ∧ st ≠ chOn then s
    else
      let lim := s.flag (F.CH_STATUS_LIMITING d k)
      let s := ((s.inc (F.CH_STATUS_TSD_CNT d k)).modCh d k (fun c => { c with hot := true })).showRestarts d k
      let n := ((s.chan d k).restarts.filter (fun t => decide (s.now < t + msT 10000))).length
      if 3 ≤ n then
        let s := (s.setCh d k chLatched).setF (if lim then F.CH_STATUS_SC d k else F.CH_STATUS_OT d k) true
        s.say 0x8A01 d.val [k.val, if lim then 1 else 2, s.rd (F.CH_MEAS_I d k)]
      else (s.setCh d k chTsd).say 0x8A06 d.val [k.val, n, b2n lim]

/-- CHANNEL_COOLED: the junction falls below 145 °C (R319); a channel that waited in OFF or UV_OFF for its junction may switch on again (R318). -/
def channelCooled (d : DIx) (k : KIx) (s : State) : State :=
  s.onCh d fun s =>
    let s := s.modCh d k (fun c => { c with hot := false })
    if s.rd (F.CH_STATUS_STATE d k) ≠ chTsd then s.evalCh d k
    else if !s.flag (F.CH_STATUS_CMD d k) then s.setCh d k chOff
    else if !s.supplyOk d then s.setCh d k chUv
    else ((s.modCh d k (fun c => { c with restarts := s.now :: c.restarts })).setCh d k chInrush).showRestarts d k

/-- INRUSH_WINDOW_END (R318, R319). -/
def inrushWindowEnd (d : DIx) (k : KIx) (s : State) : State :=
  s.onCh d fun s =>
    if s.rd (F.CH_STATUS_STATE d k) = chInrush ∧ (s.chan d k).inrushAt ≤ s.now then s.setCh d k chOn else s

/-- Sum of the clamp buckets, nJ. -/
def sumNat (l : List Nat) : Nat := l.foldl (· + ·) 0

/-- Show the window sum, 0.1 mJ. -/
def State.showClamp (s : State) (d : DIx) (k : KIx) : State := s.wrSat (F.CH_MEAS_CLAMP d k) (sumNat (s.chan d k).buckets / 100000)

/-- One microsecond of a clamp: the buckets and whether the lock is due (R322). -/
def clampStep (budget b : Nat) (p : List Nat × Bool) (mA : Nat) : List Nat × Bool :=
  let e := 45 * mA
  let sum := sumNat p.1
  (setNth p.1 b (nth p.1 b 0 + min e (budget - sum)), p.2 || decide (budget ≤ sum + e))

/-- CLAMP_END: a clamp ends; `cur` are its currents in mA, one per microsecond (R322). -/
def clampEnd (d : DIx) (k : KIx) (cur : List Nat) (s : State) : State :=
  s.onCh d fun s =>
    let c := s.chan d k
    let r := cur.foldl (clampStep (clampBudget k) c.bkt) (c.buckets, false)
    let s := (s.modCh d k (fun c => { c with buckets := r.1 })).showClamp d k
    if !r.2 || s.rd (F.CH_STATUS_STATE d k) == chLocked then s
    else (s.setCh d k chLocked).say 0x8A02 d.val [k.val, s.rd (F.CH_MEAS_CLAMP d k), s.rd (F.FSUP_VFIELD d)]

/-- CLAMP_WINDOW_BUCKET: every 62.5 ms the next bucket starts at 0 (R322). -/
def clampWindowBucket (d : DIx) (k : KIx) (s : State) : State :=
  s.onCh d fun s =>
    if !s.past (s.chan d k).last 10000000 then s
    else
      (s.modCh d k (fun c =>
        let b := (c.bkt + 1) % 16
        { c with bkt := b, buckets := setNth c.buckets b 0, last := s.now })).showClamp d k

/-- CLEAR: CH_CTL.CLEAR is written (R323). -/
def clear (d : DIx) (k : KIx) (s : State) : State :=
  if !(s.alive && s.present d) then s
  else
    let st := s.rd (F.CH_STATUS_STATE d k)
    let s := s.setF (F.CH_CTL_CLEAR d k) false
    let ok := if st = chLatched then !(s.chan d k).hot else if st = chLocked then decide (2 * sumNat (s.chan d k).buckets < clampBudget k) else false
    if !ok then s.setF (F.CH_CTL_REFUSED d k) true
    else
      let s := (s.setCh d k chOff).modCh d k (fun c => { c with restarts := [] })
      let s := ((s.wr (F.CH_STATUS_RESTARTS d k) 0).setF (F.CH_STATUS_SC d k) false).setF (F.CH_STATUS_OT d k) false
      (s.stage 0x8A04 d.val [k.val, st]).evalCh d k

/-! ## The alive pulse -/

/-- ALIVE_LOST: no valid pulse for 1 ms (R326). -/
def aliveLost (j : JIx) (s : State) : State :=
  s.onM fun s =>
    let a := s.asic j.val
    if a.lostSince.isSome || a.pulseOk || !s.past a.pulseSince (msT 1) then s
    else
      (s.asicOff j).aliveTold j

/-- ASIC_REARM: the pulse has been valid for 10 ms and the re-arm command has arrived (R326). -/
def asicRearm (j : JIx) (s : State) : State :=
  s.onM fun s =>
    let a := s.asic j.val
    if a.armed || !a.pulseOk || !s.past a.pulseSince (msT 10) || !s.flag (F.FIO_STATUS_LINK_OK j.val) then s
    else
      let cause := if a.lostSince.isSome then 2 else 1
      let s := (s.modAsic j.val (fun a => { a with armed := true, lostSince := none })).limpUpdate j.val cause
      (((s.asicDoors j).foldl (fun t p => t.evalChans p.2) s).evalOutputs)

/-! ## The converters -/

/-- One conversion in sequence: the pair is (conversions still marked SETTLE, SETTLE counts); the result is what the channel reads, none
while discarded (R330). -/
def convert (carry settled : Nat) (ovr : Bool) : Nat × Nat × Bool :=
  if 0 < carry then (carry - 1, settled + 1, true) else if ovr then (2, 0, false) else (0, 0, false)

/-- VFIELD of a doorway from channel 12 or 13 (R329); a starved channel holds its value and marks it STALE (R330). -/
def State.vfieldSample (s : State) (d : DIx) (code : Nat) (valid starved : Bool) : State :=
  if !s.present d then s
  else if starved then s.setF (F.FSUP_STALE d) true
  else if valid then (s.wr (F.FSUP_VFIELD d) code).setF (F.FSUP_STALE d) false
  else s

/-- The edge reference of ASIC j (R331). -/
def State.refSample (s : State) (j code : Nat) (ok : Bool) : State :=
  let a := s.asic j
  if ok then
    let t := match a.refGood with | some t => t | none => s.now
    let s := s.modAsic j (fun a => { a with refBad := 0, refGood := some t })
    s.when (s.flag (F.FIO_STATUS_REF_ERR j) && s.past t (msT 100)) (fun u => u.setF (F.FIO_STATUS_REF_ERR j) false)
  else
    let s := s.modAsic j (fun a => { a with refBad := min 8 (a.refBad + 1), refGood := none })
    if 8 ≤ (s.asic j).refBad ∧ s.flag (F.FIO_STATUS_REF_ERR j) = false then
      ((s.setF (F.FIO_STATUS_REF_ERR j) true).faultM).stage 0x4A03 sysRec [j, code]
    else s

/-- A slot of channel 15 of ASIC j with its value (R308, R329): the loop's current and supply, the currents of its two SO outputs, the temperature. -/
def State.slotSample (s : State) (j n v : Nat) : State :=
  if n = 7 then s.wr (F.FIO_STATUS_TEMP j) v
  else if 2 ≤ j then s
  else match n with
    | 1 => s.showSupply j v
    | 3 => s.currentSample (2 + 2 * j) v
    | 5 => s.currentSample (3 + 2 * j) v
    | _ => s.currentSample j v

/-- A conversion of channel c of ADC-A in the sequence `n` (R329). -/
def State.adcAChannel (s : State) (j : JIx) (c n code : Nat) (discard ovr starved : Bool) : State :=
  if c < 12 then
    let d : DIx := Fin.ofNat 24 (6 * j.val + c / 2)
    if !s.present d || (discard && !starved) then s
    else
      let isOver := ovr || starved
      s.edgeSample d (c % 2) (if isOver then 0xFFF else code) (edgeClass code isOver)
  else if c < 14 then s.vfieldSample (Fin.ofNat 24 (6 * j.val + 3 * (c - 12) + n % 3)) (if ovr then 0xFFF else code) (!discard) starved
  else if c = 14 then
    if discard && !starved then s
    else s.refSample j.val (if ovr || starved then 0xFFF else code) (!ovr && !starved && decide (2028 ≤ code) && decide (code ≤ 2068))
  else if discard then s  -- a starved channel 15 holds its last values (R330)
  else s.slotSample j.val (n % 8) (Config.slotValue (n % 8) (if ovr then 0xFFF else code))

/-- ADC_A_SEQUENCE: the sixteen conversions of one sequence, and which were over range (R329–R331). -/
def adcASequence (j : JIx) (codes : List (BitVec 12)) (ovr : BitVec 16) (s : State) : State :=
  s.onM fun s =>
    let n := (s.asic j.val).seqN
    let s := (List.range 16).foldl (fun t c =>
      let a := t.asic j.val
      let o := bitOf ovr.toNat c
      let r := convert a.carryA (nth a.settle c 0) o
      let t := t.modAsic j.val (fun a => { a with carryA := r.1, settle := setNth a.settle c (min 64 r.2.1) })
      let t := t.when o (fun u => u.inc (F.FIO_ERR_OVR j.val))
      t.adcAChannel j c n (nth codes c 0#12).toNat r.2.2 (o && !r.2.2) (decide (64 ≤ r.2.1))) s
    s.modAsic j.val (fun a => { a with seqN := (n + 1) % 24 })

/-- ADC_B_PASS: one pass over the 36 load-current mirrors (R324, R332). -/
def adcBPass (j : JIx) (codes : List (BitVec 12)) (ovr : BitVec 36) (s : State) : State :=
  s.onM fun s =>
    (List.range 36).foldl (fun t m =>
      let d : DIx := Fin.ofNat 24 (6 * j.val + m / 6)
      let k : KIx := Fin.ofNat 6 (m % 6)
      let o := bitOf ovr.toNat m
      let r := convert (t.asic j.val).carryB (t.chan d k).settleN o
      let t := t.modAsic j.val (fun a => { a with carryB := r.1 })
      let t := t.when o (fun u => u.inc (F.FIO_ERR_OVR j.val))
      if !t.present d then t
      else
        let t := t.modCh d k (fun c => { c with settleN := min 10 r.2.1 })
        if r.2.2 && decide (r.2.1 < 10) then t
        else
          let code := if r.2.2 || o then 0xFFF else (nth codes m 0#12).toNat
          let mA := (roundDiv (code * mirrorScale k) 4095).toNat
          let t := t.wrSat (F.CH_MEAS_I d k) mA
          t.when (t.rd (F.LOCK_CFG_LOCK_CH d) == k.val && t.rd (F.CH_CFG_SRC d k) == 2) (fun u => u.lockSample d mA)) s

/-! ## The commands of this file -/

/-- The meaning of FIELD_SCAN (R309). -/
def execFieldScan (j : JIx) (fails : Nat) (valid down : Bool) (ins : List (BitVec 16)) (tls : BitVec 6) (lim : List (BitVec 6)) (pulse : Bool) (s : State) : Host.Outcome State Fault Refusal := .next (s.done (fieldScan j fails valid down ins tls lim pulse s))

/-- The meaning of ADC_A_SEQUENCE (R329). -/
def execAdcASequence (j : JIx) (codes : List (BitVec 12)) (ovr : BitVec 16) (s : State) : Host.Outcome State Fault Refusal := .next (s.done (adcASequence j codes ovr s))

/-- The meaning of ADC_B_PASS (R332). -/
def execAdcBPass (j : JIx) (codes : List (BitVec 12)) (ovr : BitVec 36) (s : State) : Host.Outcome State Fault Refusal := .next (s.done (adcBPass j codes ovr s))

/-- The meaning of FIELD_SUPPLY_CHANGE (R314). -/
def execFieldSupplyChange (d : DIx) (st : Fin 3) (s : State) : Host.Outcome State Fault Refusal := .next (s.done (fieldSupplyChange d st s))

/-- The meaning of ALIVE_LOST (R326). -/
def execAliveLost (j : JIx) (s : State) : Host.Outcome State Fault Refusal := .next (s.done (aliveLost j s))

/-- The meaning of ASIC_REARM (R326). -/
def execAsicRearm (j : JIx) (s : State) : Host.Outcome State Fault Refusal := .next (s.done (asicRearm j s))

/-- The meaning of THERMAL_SHUTDOWN (R319). -/
def execThermalShutdown (d : DIx) (k : KIx) (s : State) : Host.Outcome State Fault Refusal := .next (s.done (thermalShutdown d k s))

/-- The meaning of CHANNEL_COOLED (R319). -/
def execChannelCooled (d : DIx) (k : KIx) (s : State) : Host.Outcome State Fault Refusal := .next (s.done (channelCooled d k s))

/-- The meaning of INRUSH_WINDOW_END (R318). -/
def execInrushWindowEnd (d : DIx) (k : KIx) (s : State) : Host.Outcome State Fault Refusal := .next (s.done (inrushWindowEnd d k s))

/-- The meaning of CLAMP_END (R322). -/
def execClampEnd (d : DIx) (k : KIx) (cur : List Nat) (s : State) : Host.Outcome State Fault Refusal := .next (s.done (clampEnd d k cur s))

/-- The meaning of CLEAR (R323). -/
def execClear (d : DIx) (k : KIx) (s : State) : Host.Outcome State Fault Refusal := .next (s.done (clear d k s))

/-- The meaning of LIMP_HOME_CHANGE (R327). -/
def execLimpHomeChange (j : JIx) (en : Bool) (s : State) : Host.Outcome State Fault Refusal := .next (s.done (limpHomeChange j en s))

/-- The meaning of CLAMP_WINDOW_BUCKET (R322). -/
def execClampWindowBucket (d : DIx) (k : KIx) (s : State) : Host.Outcome State Fault Refusal := .next (s.done (clampWindowBucket d k s))

/-- The meaning of LIMP_HOME_INPUT_CHANGE (R327). -/
def execLimpHomeInputChange (i : IIx) (level : Bool) (s : State) : Host.Outcome State Fault Refusal := .next (s.done (limpHomeInputChange i level s))

end Sys2Proof.Machine
end

