-- ==== Sys2Proof/Machine/Fault.lean ====
section
/-!
DEFINITION. Machine/Fault.lean: shared resources (R401–R404), check-value units (R405–R408) with the two link streams they check, Quickthorn
(R409–R413), the ENG clock (R391), and the clearing of fence sources (R388).
-/
namespace Sys2Proof.Machine

/-! ## Check-value units (R405–R408) -/

/-- Window of R397 that a unit's rebind belongs to: the doorway SEL for HEAD, DRIVE and SCRUB 0–23, none otherwise (24). -/
def State.cvuDoor (s : State) (u : UIx) : Nat :=
  let st := s.rd (F.CVU_CFG_STREAM u)
  let sel := s.rd (F.CVU_CFG_SEL u)
  if st = 1 ∨ st = 2 ∨ (st = 6 ∧ sel < 24) then min sel 24 else 24

/-- The enabled unit of a stream and selection, if any (R406). -/
def State.cvuOf (s : State) (stream sel : Nat) : Option UIx :=
  (List.range 64).findSome? (fun n =>
    let u : UIx := Fin.ofNat 64 n
    if s.rd (F.CVU_STATUS_STATE u) == 1 && s.rd (F.CVU_CFG_STREAM u) == stream && s.rd (F.CVU_CFG_SEL u) == sel then some u else none)

/-- A unit checks an item: its last value and its count. -/
def State.cvuCheck (s : State) (u : UIx) (value : Nat) (rejected : Bool) : State :=
  ((s.wr (F.CVU_VALUE u) value).inc (F.CVU_COUNT u)).when rejected (fun t => t.inc (F.CVU_ERR_REJECT u))

/-- A unit that is at fault checks an item: the value it shows is free (R405). -/
def State.cvuFails (s : State) (u : UIx) (rejected : Bool) : State :=
  let v := (Config.freeValue s.freeCtr).toNat
  State.cvuCheck { s with freeCtr := s.freeCtr + 1 } u v rejected

/-- The primary check of a stream is suspect (R406): the fence request of HEAD and DRIVE. The loss of the mirror link, the flash-path fault and the
refusal of the image follow where those streams are read. -/
def State.primarySuspect (s : State) (u : UIx) : State :=
  let sel := s.rd (F.CVU_CFG_SEL u)
  match s.rd (F.CVU_CFG_STREAM u) with
  | 1 | 2 => if h : sel < 24 then s.fence ⟨sel, h⟩ 15 else s
  | _ => s

/-- Bind a logical unit to the highest-index spare, or leave it unplaced (R371, R375, R408). -/
def State.cvuRebind (s : State) (u : UIx) : State :=
  let old := s.rd (F.CVU_STATUS_PHYS u)
  match s.img.insts.find? (fun i => i.ty == 0x11 && i.unit == u.val) with
  | none => s
  | some i =>
    match topSpare s.poolSize s.fm s.plc.binds poolCvu with
    | some n =>
      let bs := s.plc.binds.map (fun b => if b.pool == poolCvu && b.f == i.f then { b with idx := n, pinned := false } else b)
      let s := { s with plc := { s.plc with binds := bs }, flt := { s.flt with cvuOld := Al.insert s.flt.cvuOld u.val old } }
      ((s.wr (F.CVU_STATUS_PHYS u) n).wr (F.CVU_STATUS_STATE u) 2).placementChanged 2 poolCvu 0x1F old n
    | none =>
      let bs := s.plc.binds.map (fun b => if b.pool == poolCvu && b.f == i.f then { b with idx := noRes, pinned := false } else b)
      let s := { s with plc := { s.plc with binds := bs } }
      let s := ((s.wr (F.CVU_STATUS_PHYS u) noRes).wr (F.CVU_STATUS_STATE u) 3).placementChanged 2 poolCvu 0x1F old noRes
      (((s.stage 0x4D0C sysRec [u.val, old, 0xFF]).closeWin 7 (s.cvuDoor u))).short i.f poolCvu

/-- A disagreement of unit u is recorded, and its physical unit tested (R408 steps 2 to 4); `kat` says that the known-answer test passes. In SAFE a unit
that fails it waits, disabled, for its rebind (R400). -/
def State.cvuTest (s : State) (u : UIx) (kat : Bool) : State :=
  let dwy := s.cvuDoor u
  let phys := s.rd (F.CVU_STATUS_PHYS u)
  let s := (s.inc (F.CVU_ERR_DISAGREE u)).stage 0x4D06 (if dwy < 24 then dwy else sysRec) [u.val, phys, s.rd (F.CVU_CFG_STREAM u), b2n kat]
  let s := (s.setF (F.CVU_STATUS_KAT_OK u) kat).wr (F.CVU_COUNT u) 0
  if kat then s.primarySuspect u
  else if s.modState = 4 then (s.wr (F.CVU_STATUS_STATE u) 0).setFm poolCvu phys 3
  else (((s.wr (F.CVU_STATUS_STATE u) 2).setFm poolCvu phys 3).openWin 7 dwy).cvuRebind u

/-- A disagreement of unit u with its primary check is a fault (R393, R408). -/
def State.cvuDisagree (s : State) (u : UIx) (kat : Bool) : State :=
  let dwy := s.cvuDoor u
  (if h : dwy < 24 then s.fault ⟨dwy, h⟩ 0x4D06 else s.faultM).cvuTest u kat

/-- After SAFE the units that wait for their rebind take it (R400, R408). -/
def State.resumeUnits (s : State) : State :=
  (List.range 64).foldl (fun t n =>
    let u : UIx := Fin.ofNat 64 n
    let phys := t.rd (F.CVU_STATUS_PHYS u)
    if t.rd (F.CVU_STATUS_STATE u) = 0 ∧ t.fm poolCvu phys = 3 ∧ t.img.insts.any (fun i => i.ty == 0x11 && i.unit == n) = true then
      ((t.wr (F.CVU_STATUS_STATE u) 2).openWin 7 (t.cvuDoor u)).cvuRebind u
    else t) s

/-- CVU_REBOUND: the known-answer test on the unit that u was rebound to ends; it is enabled, or the next spare is taken (R408 step 3). -/
def cvuRebound (u : UIx) (pass : Bool) (s : State) : State :=
  s.onM fun s =>
    if s.rd (F.CVU_STATUS_STATE u) ≠ 2 then s
    else
      let old := Al.get (fun _ => noRes) s.flt.cvuOld u.val
      let s := s.setF (F.CVU_STATUS_KAT_OK u) pass
      if pass then
        let s := { s with flt := { s.flt with cvuOld := Al.erase s.flt.cvuOld u.val } }
        (((s.wr (F.CVU_STATUS_STATE u) 1).wr (F.CVU_COUNT u) 0).stage 0x4D0C sysRec [u.val, old, s.rd (F.CVU_STATUS_PHYS u)]).closeWin 7 (s.cvuDoor u)
      else (s.setFm poolCvu (s.rd (F.CVU_STATUS_PHYS u)) 3).cvuRebind u

/-- An item of a link stream that passed its framing: `ok` says that its check value is right, and `cf` how the primary check and the unit judge it. The
item counts only where both accept it (R406); what the primary check rejects is discarded as its own rule says. -/
def State.cvuStream (s : State) (stream sel value : Nat) (ok : Bool) (cf : CheckFault) (good bad : State → State) : State :=
  match s.cvuOf stream sel with
  | none => if ok then good s else bad s
  | some u =>
    match cf with
    | .agree => if ok then good (s.cvuCheck u value false) else bad (s.cvuCheck u value true)
    | .unitBad => (if ok then s.cvuFails u true else bad (s.cvuFails u false)).cvuDisagree u false
    | .primaryBad => (bad (s.cvuCheck u value (!ok))).cvuDisagree u true

/-- LINE_RECEIVED (R56, R66, R406): `cf` says how the HEAD unit of the doorway, if enabled, and the receiver judge the telegram. -/
def lineReceived (d : DIx) (ok : Bool) (p : List Byte) (cf : CheckFault) (s : State) : State :=
  s.onD d fun s =>
    if !(s.head d).phyUp then s
    else if !(ok && p.length == 980 && fieldAt p 0 1 == 0x10 && fieldAt p 1 1 == 1) then s.inc (F.ERR_CRC d)
    else s.cvuStream 1 d.val (crc32c (p.take 976)) (crcTail p) cf (fun t => t.lineStore d p) (fun t => t.inc (F.ERR_CRC d))

/-- DRIVE_FB_RECEIVED (R183, R185, R406). -/
def driveFbReceived (d : DIx) (ok : Bool) (p : List Byte) (cf : CheckFault) (s : State) : State :=
  s.onD d fun s =>
    if !(s.drv d).phyUp then s
    else if !driveFbFramed ok p then s.dropFb d
    else s.cvuStream 2 d.val (crc32c (p.take 30)) (driveFbOk ok p) cf (fun t => t.takeFb d p) (fun t => t.dropFb d)

/-! ## Shared resources (R401–R404) -/

/-- The reader of a poisoned region of doorway d discards what it holds (R401): the raw frames, the depth frame, and the frame in work. -/
def State.discardRegion (s : State) (d : DIx) : State :=
  let s := (s.modHead d (fun h => { h with raws := [] })).modDwy d (fun x => { x with depth := none })
  match s.pairOf d with | some p => s.dropFrame p | none => s

/-- DRAM_UNCORRECTABLE at an address of a region, 32 for the system area; `scrub` says that the scrubber found it (R401). -/
def dramUncorrectable (addr : Word) (region : Fin 33) (scrub : Bool) (s : State) : State :=
  s.onM fun s =>
    let r := region.val
    let user := if r < 32 then s.userOf poolDram r else none
    let used := r = 32 ∨ user.isSome = true
    let s := ((s.inc F.FLT_DRAM_UNCORR).wr F.FLT_DRAM_ADDR addr.toNat).faultM
    let s := s.stage 0x4D02 (match user with | some d => d.val | none => sysRec) [addr.toNat, if r = 32 then 0xFF else r, if scrub then 2 else 1]
    let s := if r < 32 ∧ r < s.nPair then s.setFm poolDram r 3 else s
    if used then
      let s := match user with
        | some d => (s.discardRegion d).deferDram d
        | none => { s with flt := { s.flt with dramSysBad := true } }
      s.enterSafe 1
    else s

/-- FABRIC_FAULT: a transfer has failed twice (R402); `data` tells data from control. -/
def fabricFault (port : Byte) (data : Bool) (s : State) : State :=
  s.onM fun s => ((s.faultM).stage 0x4D04 sysRec [port.toNat, if data then 2 else 1]).enterSafe 2

/-- SEQUENCER_MISMATCH of doorway d: fenced until the next BOOT (R404). -/
def sequencerMismatch (d : DIx) (s : State) : State :=
  s.onD d fun s =>
    let s := (s.setF (F.FLT_DWY_SEQ_FAULT d.val) true).stage 0x4D08 d.val [1, d.val]
    let s := s.modPwr (fun p => { p with seqBad := if p.seqBad.contains d.val then p.seqBad else d.val :: p.seqBad })
    (s.fault d 0x4D08).fence d 9

/-- COMPARATOR_SELFTEST: the comparator of a slot has flagged the differing bit or not (R404); slots 0–31 are those of the SES pool, 32 and 33
the system slots. -/
def comparatorSelftest (slot : Fin 34) (flagged : Bool) (s : State) : State :=
  s.onM fun s =>
    if flagged then s
    else if 32 ≤ slot.val then ((s.faultM).stage 0x4D08 sysRec [2, slot.val - 32]).enterSafe 3
    else match s.userOf poolSes slot.val with
    | some d => evalSlotFault d 2 s
    | none => if slot.val < s.nPair then s.faultM.setFm poolSes slot.val 3 else s

/-! ## Quickthorn (R409–R413, R415) -/

/-- A Quickthorn trip: trigger bit, and which implementations fired (R410–R413). The supervisor is held in reset from here on. -/
def State.qtTrip (s : State) (bit : Nat) (byS byA : Bool) : State :=
  if !s.alive then s
  else
    let s : State := { s with qtHeld := true }
    let bits := if bitOf s.flt.qtBits bit then s.flt.qtBits else s.flt.qtBits + 2 ^ bit
    -- a core-supply trigger after a latched POWER_FAIL is not latched as a trip (R511)
    let s := if bit = 3 ∧ s.pwr.powerFail = true then { s with flt := { s.flt with windows := [] } }
      else { s with flt := { s.flt with
        qtBits := bits, qtS := s.flt.qtS || byS, qtA := s.flt.qtA || byA, qtTrips := min 255 (s.flt.qtTrips + 1), qtTripped := true,
        windows := [] } }
    let s := allJ.foldl (fun t j => t.asicOff j) s
    let s := allD.foldl (fun t d => t.denOff d) s
    let s := (s.setF F.LOOP_STATUS_L1_CLOSED false).wr F.LOOP_STATUS_L2 (s.rd F.LOOP_STATUS_L2 / 2 * 2)
    let s := s.wr F.SO_STATUS_ON 0
    let s := ({ s with pair := { s.pair with claim := false } } : State)
    (((s.setF F.RP_STATUS_AUTH false).setF F.FLT_STATUS_ATTN true).wr F.MOD_STATE_STATE 4).showSafe.showWindows

/-- The own claim has been withdrawn for 1 ms or more: a line that still reads claimed is trigger 4 (R410, R430). -/
def State.claimStuck (s : State) : Bool := !s.pair.claim && (match s.pair.releasedAt with | some t => s.past t (msT 1) | none => false)

/-- QUICKTHORN_TRIP on trigger `bit` of R410. -/
def quickthornTrip (bit : Fin 5) (byS byA : Bool) (s : State) : State :=
  s.onM fun s => if bit.val = 4 ∧ s.claimStuck = false then s else s.qtTrip bit.val byS byA

/-- WATCHDOG_SERVICE: counts between 2 ms and 8 ms after the previous one and with the right word; anything else is an expiry (R409). -/
def watchdogService (right : Bool) (s : State) : State :=
  s.onM fun s =>
    let el := s.now - s.flt.wdogAt
    if right && decide (msT 2 ≤ el) && decide (el ≤ msT 8) then
      let m := (msT 8 - el) / 160
      ({ s with flt := { s.flt with wdogAt := s.now, wdogSeq := s.flt.wdogSeq + 1 } } : State).wr F.FLT_WDOG_MARGIN (min m (s.rd F.FLT_WDOG_MARGIN))
    else s.qtTrip 1 true true

/-- WATCHDOG_EXPIRY: 8 ms without a valid service (R409, R410). -/
def watchdogExpiry (s : State) : State := s.onM fun s => if s.past s.flt.wdogAt (msT 8) then s.qtTrip 1 true true else s

/-! ## The ENG clock (R391, R393) -/

/-- ENG_CLOCK_LOSS (R391 cause 4). -/
def engClockLoss (s : State) : State :=
  s.onM fun s =>
    if s.flag F.FLT_CLK_ENG then
      let s := { (s.setF F.FLT_CLK_ENG false) with flt := { s.flt with engLostAt := some s.now, engBackAt := none, engTested := [] } }
      let s := allP.foldl (fun t p => t.dropFrame p) s
      ((s.faultM).stage 0x4D0D sysRec [(s.reg F.FLT_CLK.addr).toNat]).enterSafe 4
    else s

/-- Cause 4 clears when the clock has been in tolerance for 10 ms and every pair has passed its golden test (R391). A FAULTY pair takes none. -/
def State.engClear (s : State) : State :=
  match s.flt.engBackAt with
  | some t =>
    if s.past t (msT 10) && allP.all (fun p => !s.pairHere p || s.pst p == pFaulty || s.flt.engTested.contains p.val) then
      ({ s with flt := { s.flt with engLostAt := none, engBackAt := none, engTested := [] } } : State).clearCause 4
    else s
  | none => s

/-- CYCLE_DUE: HOURS has reached 24 (R395). -/
def cycleDue (d : DIx) (s : State) : State :=
  s.onD d fun s =>
    let h := s.rd (F.FLT_DWY_HOURS d.val)
    if 24 ≤ h ∧ s.flag (F.FLT_DWY_CYCLE_DUE d.val) = false then
      ((s.setF (F.FLT_DWY_CYCLE_DUE d.val) true).setF F.FLT_STATUS_CYCLE_DUE true).stage 0x4D0B d.val [h]
    else s

/-! ## Clearing fence sources (R388) -/

/-- Clear the source bits whose condition holds now; those that wait for an event clear with it. -/
def State.fenceSweep (s : State) (d : DIx) : State :=
  let c := fun (t : State) (src : Nat) (ok : Bool) => if bitOf (t.fenceSet d) (src - 1) && ok then t.fenceClear d src else t
  let j := asicOf d
  let s := c s 3 (allA.all (fun a => !s.flag (F.POS_STATUS_LOSS d a)))
  let s := c s 4 (s.supplyOk d)
  let s := c s 5 (s.flag (F.FIO_STATUS_LINK_OK j) && s.flag (F.FIO_STATUS_ALIVE_OK j) && (s.asic j).armed)
  let s := c s 6 (decide (s.rd (F.LOCK_STATUS_I_LOCK d) < 50))
  let s := c s 7 (!s.flag (F.PD_STATUS_GUARD_OPEN d) && !s.flag (F.PD_STATUS_GUARD_FAULT d))
  let s := c s 12 (s.doorPlaced d)
  let s := c s 13 (s.modState != 4)
  let s := c s 14 (s.flag (F.PLC_DWY_MOVE_PENDING d.val) == false && [poolSes, poolEng, poolDram, poolRec].all (fun p => s.resOf d p != noRes))
  c s 11 (s.fenceSet d == 2 ^ 10 && !s.flt.windows.any (fun w => w.ofDwy d.val) && !s.standingNow d)

/-! ## The commands of this file -/

/-- The meaning of LINE_RECEIVED (R66). -/
def execLineReceived (d : DIx) (ok : Bool) (p : List Byte) (cf : CheckFault) (s : State) : Host.Outcome State Fault Refusal := .next (s.done (lineReceived d ok p cf s))

/-- The meaning of DRIVE_FB_RECEIVED (R185). -/
def execDriveFbReceived (d : DIx) (ok : Bool) (p : List Byte) (cf : CheckFault) (s : State) : Host.Outcome State Fault Refusal := .next (s.done (driveFbReceived d ok p cf s))

/-- The meaning of DRAM_UNCORRECTABLE (R401). -/
def execDramUncorrectable (addr : Word) (region : Fin 33) (scrub : Bool) (s : State) : Host.Outcome State Fault Refusal := .next (s.done (dramUncorrectable addr region scrub s))

/-- The meaning of FABRIC_FAULT (R402). -/
def execFabricFault (port : Byte) (data : Bool) (s : State) : Host.Outcome State Fault Refusal := .next (s.done (fabricFault port data s))

/-- The meaning of SEQUENCER_MISMATCH (R404). -/
def execSequencerMismatch (d : DIx) (s : State) : Host.Outcome State Fault Refusal := .next (s.done (sequencerMismatch d s))

/-- The meaning of COMPARATOR_SELFTEST (R404). -/
def execComparatorSelftest (slot : Fin 34) (flagged : Bool) (s : State) : Host.Outcome State Fault Refusal := .next (s.done (comparatorSelftest slot flagged s))

/-- The meaning of CVU_REBOUND (R408). -/
def execCvuRebound (u : UIx) (pass : Bool) (s : State) : Host.Outcome State Fault Refusal := .next (s.done (cvuRebound u pass s))

/-- The meaning of WATCHDOG_SERVICE (R409). -/
def execWatchdogService (right : Bool) (s : State) : Host.Outcome State Fault Refusal := .next (s.done (watchdogService right s))

/-- The meaning of WATCHDOG_EXPIRY (R409). -/
def execWatchdogExpiry (s : State) : Host.Outcome State Fault Refusal := .next (s.done (watchdogExpiry s))

/-- The meaning of QUICKTHORN_TRIP (R411). -/
def execQuickthornTrip (bit : Fin 5) (byS byA : Bool) (s : State) : Host.Outcome State Fault Refusal := .next (s.done (quickthornTrip bit byS byA s))

/-- The meaning of ENG_CLOCK_LOSS (R391). -/
def execEngClockLoss (s : State) : Host.Outcome State Fault Refusal := .next (s.done (engClockLoss s))

/-- The meaning of CYCLE_DUE (R395). -/
def execCycleDue (d : DIx) (s : State) : Host.Outcome State Fault Refusal := .next (s.done (cycleDue d s))

end Sys2Proof.Machine
end

