-- ==== Sys2Proof/Machine/ImgTable.lean ====
section
/-!
DEFINITION. Machine/ImgTable.lean: the "img" registers (R340, R341): where each lies, the section that carries it, its reserved bits, and the
range that its chapter states for each of its fields.
-/
namespace Sys2Proof.Machine

/-- Range of a field: it lies in lo..hi; `z` 1 admits 0 as well, `z` 2 admits the largest value, "none". -/
structure ImgFld where
  lo : Nat
  w : Nat
  min : Nat
  max : Nat
  z : Nat
deriving DecidableEq, Repr

/-- An "img" register: space (0 absolute, 1 doorway, 2 axis, 3 encoder, 4 load channel, 5 check-value unit, 6 CAN), base, stride, count, the
section of R341 (0: the ComId and SDT rows of NET), reserved bits and fields with a range. -/
structure ImgRow where
  sp : Nat
  base : Nat
  stride : Nat
  cnt : Nat
  sec : Nat
  rsv : Nat
  fs : List ImgFld
deriving DecidableEq, Repr

/-- Registers of the system blocks, part 1. -/
def imgAbs1 : List ImgRow := [
  -- COPPICE_CFG
  ⟨0, 0x1800, 0, 1, 4, 0xF8, [⟨8, 8, 2, 60, 0⟩, ⟨16, 8, 10, 100, 0⟩, ⟨24, 8, 10, 100, 0⟩]⟩,
  -- EMU_CFG
  ⟨0, 0xC100, 16, 8, 4, 0xFC00, [⟨0, 7, 0, 71, 0⟩, ⟨8, 2, 0, 2, 0⟩, ⟨16, 16, 1, 65535, 0⟩]⟩,
  -- EMU_RES
  ⟨0, 0xC104, 16, 8, 4, 0x0, [⟨0, 32, 32768, 262144000, 0⟩]⟩,
  -- TRN_CFG
  ⟨0, 0x600C, 0, 1, 2, 0xFFFF00F8, [⟨0, 2, 0, 2, 0⟩, ⟨8, 8, 1, 24, 0⟩]⟩,
  -- LOOP_CFG
  ⟨0, 0x6010, 0, 1, 2, 0xFFFCFC00, [⟨0, 10, 200, 1000, 1⟩]⟩,
  -- LOOP1_MEMBERS
  ⟨0, 0x6014, 0, 1, 1, 0xFF000000, []⟩,
  -- LOOP2_MEMBERS
  ⟨0, 0x6018, 0, 1, 1, 0xFF000000, []⟩,
  -- SO_CFG
  ⟨0, 0x6028, 0, 1, 2, 0xFFFF0000, [⟨0, 4, 0, 7, 0⟩, ⟨4, 4, 0, 7, 0⟩, ⟨8, 4, 0, 7, 0⟩, ⟨12, 4, 0, 7, 0⟩]⟩,
  -- TL_CFG
  ⟨0, 0x6040, 0, 1, 2, 0xFFFFFFFC, [⟨0, 2, 0, 2, 0⟩]⟩,
  -- TL_FILT0
  ⟨0, 0x6044, 0, 1, 2, 0x0, [⟨0, 8, 1, 255, 1⟩, ⟨8, 8, 1, 255, 1⟩, ⟨16, 8, 1, 255, 1⟩, ⟨24, 8, 1, 255, 1⟩]⟩,
  -- TL_FILT1
  ⟨0, 0x6048, 0, 1, 2, 0x0, [⟨0, 8, 1, 255, 1⟩, ⟨8, 8, 1, 255, 1⟩, ⟨16, 8, 1, 255, 1⟩, ⟨24, 8, 1, 255, 1⟩]⟩,
  -- TL_FILT2
  ⟨0, 0x604C, 0, 1, 2, 0x0, [⟨0, 8, 1, 255, 1⟩, ⟨8, 8, 1, 255, 1⟩, ⟨16, 8, 1, 255, 1⟩, ⟨24, 8, 1, 255, 1⟩]⟩]

/-- Registers of the system blocks, part 2. -/
def imgAbs2 : List ImgRow := [
  -- LH_CFG
  ⟨0, 0x6080, 4, 16, 6, 0xFFFFFF00, []⟩,
  -- RP_CFG
  ⟨0, 0x4008, 0, 1, 2, 0xFFFF00FE, [⟨8, 8, 2, 60, 0⟩]⟩,
  -- REC_CFG
  ⟨0, 0x5004, 0, 1, 2, 0xFFFFC0FE, [⟨8, 6, 1, 60, 0⟩]⟩,
  -- NET_CFG
  ⟨0, 0x7004, 0, 1, 7, 0xFFFFFFFE, []⟩,
  -- ECN_IP
  ⟨0, 0x7008, 0, 1, 7, 0x0, []⟩,
  -- ECN_MASK
  ⟨0, 0x700C, 0, 1, 7, 0x0, []⟩,
  -- SVC_IP
  ⟨0, 0x7010, 0, 1, 7, 0x0, []⟩,
  -- MD_COMID
  ⟨0, 0x7014, 0, 1, 7, 0x0, []⟩,
  -- SDT_CFG
  ⟨0, 0x7100, 16, 16, 0, 0xFFF80000, []⟩,
  -- SDT_SMI
  ⟨0, 0x7104, 16, 16, 0, 0x0, []⟩,
  -- PD_COMID
  ⟨0, 0x7200, 16, 80, 0, 0x0, []⟩,
  -- NPD_CFG
  ⟨0, 0x7204, 16, 80, 0, 0xFE008000, []⟩]

/-- Registers of the system blocks, part 3. -/
def imgAbs3 : List ImgRow := [
  -- PWR_CFG
  ⟨0, 0xA008, 0, 1, 2, 0xFFF8FC00, [⟨0, 10, 1, 600, 1⟩]⟩]

/-- Registers of the system blocks. -/
def imgAbs : List ImgRow := imgAbs1 ++ imgAbs2 ++ imgAbs3

/-- Registers of a doorway window, part 1. -/
def imgDwy1 : List ImgRow := [
  -- SEQ_CFG
  ⟨1, 0x10, 0, 1, 2, 0xFFFFFE00, []⟩,
  -- SEQ_TIMING
  ⟨1, 0x14, 0, 1, 4, 0xFF000000, [⟨8, 8, 1, 255, 0⟩]⟩,
  -- SEQ_LIMITS
  ⟨1, 0x18, 0, 1, 2, 0x0, [⟨0, 8, 5, 255, 0⟩, ⟨8, 8, 5, 255, 0⟩, ⟨16, 8, 20, 255, 0⟩, ⟨24, 8, 10, 50, 0⟩]⟩,
  -- HEAD_EXPECT
  ⟨1, 0x118, 0, 1, 1, 0x0, []⟩,
  -- HEAD_EXPECT_SN
  ⟨1, 0x11C, 0, 1, 1, 0x0, []⟩,
  -- EXPOSURE
  ⟨1, 0x120, 0, 1, 4, 0xFF000000, [⟨0, 10, 50, 1000, 0⟩, ⟨10, 10, 50, 1000, 0⟩]⟩,
  -- DEPTH_CFG
  ⟨1, 0x124, 0, 1, 2, 0x0, [⟨0, 8, 4, 255, 0⟩, ⟨8, 8, 4, 255, 0⟩, ⟨16, 8, 5, 60, 0⟩, ⟨24, 8, 0, 32, 0⟩]⟩,
  -- DEPTH_CFG2
  ⟨1, 0x128, 0, 1, 2, 0xF0000000, [⟨0, 8, 1, 255, 0⟩, ⟨8, 8, 10, 255, 0⟩, ⟨16, 12, 256, 4095, 0⟩]⟩,
  -- ZONE_CFG
  ⟨1, 0x220, 0, 1, 2, 0xFF000000, [⟨0, 8, 20, 100, 0⟩, ⟨8, 8, 10, 40, 0⟩, ⟨16, 8, 10, 60, 0⟩]⟩,
  -- RES_CFG
  ⟨1, 0x224, 0, 1, 2, 0x0, [⟨0, 8, 4, 40, 0⟩, ⟨8, 8, 2, 10, 0⟩, ⟨16, 8, 4, 20, 0⟩, ⟨24, 8, 4, 64, 0⟩]⟩,
  -- THIN_CFG
  ⟨1, 0x228, 0, 1, 2, 0x0, [⟨0, 8, 8, 40, 0⟩, ⟨8, 8, 4, 32, 0⟩, ⟨16, 8, 1, 20, 0⟩, ⟨24, 8, 2, 16, 0⟩]⟩,
  -- PROOF_CFG
  ⟨1, 0x22C, 0, 1, 2, 0xFFFF0000, [⟨0, 8, 5, 100, 0⟩, ⟨8, 8, 1, 30, 0⟩]⟩]

/-- Registers of a doorway window, part 2. -/
def imgDwy2 : List ImgRow := [
  -- POD_EXPECT
  ⟨1, 0x494, 0, 1, 1, 0x0, []⟩,
  -- OBST_CFG
  ⟨1, 0x604, 0, 1, 2, 0xE0, [⟨8, 8, 10, 100, 1⟩, ⟨16, 8, 0, 60, 0⟩, ⟨24, 8, 0, 100, 0⟩]⟩,
  -- FORCE_CFG
  ⟨1, 0x60C, 0, 1, 2, 0x0, [⟨0, 16, 50, 400, 0⟩, ⟨16, 16, 50, 600, 0⟩]⟩,
  -- FORCE_CFG2
  ⟨1, 0x610, 0, 1, 2, 0xFF00, [⟨0, 8, 20, 200, 1⟩, ⟨16, 16, 0, 1000, 0⟩]⟩,
  -- FORCE_MODEL
  ⟨1, 0x614, 8, 3, 2, 0x0, [⟨0, 16, 100, 65535, 0⟩, ⟨16, 16, 10, 2000, 0⟩]⟩,
  -- FORCE_MODEL2
  ⟨1, 0x618, 8, 3, 2, 0x0, [⟨0, 16, 0, 5000, 0⟩, ⟨16, 16, 0, 10000, 0⟩]⟩,
  -- STEP_FORCE
  ⟨1, 0x62C, 0, 1, 2, 0xFFFF0000, [⟨0, 16, 50, 1000, 0⟩]⟩,
  -- SS1_CFG
  ⟨1, 0x630, 0, 1, 2, 0x0, [⟨0, 16, 200, 5000, 1⟩, ⟨16, 16, 0, 10000, 1⟩]⟩,
  -- REV_CFG
  ⟨1, 0x634, 0, 1, 2, 0xFFFF0000, [⟨0, 16, 100, 3000, 0⟩]⟩,
  -- LOCK_CFG
  ⟨1, 0x704, 0, 1, 2, 0xF8, [⟨0, 3, 0, 5, 0⟩, ⟨8, 8, 10, 200, 0⟩, ⟨16, 8, 2, 100, 0⟩, ⟨24, 8, 5, 150, 0⟩]⟩,
  -- PROVE_IN
  ⟨1, 0x708, 0, 1, 2, 0xFFF00000, []⟩,
  -- PROVE_IN2
  ⟨1, 0x70C, 0, 1, 2, 0xFFE0E0E0, [⟨0, 5, 0, 15, 2⟩, ⟨8, 5, 0, 15, 2⟩, ⟨16, 5, 0, 15, 2⟩]⟩]

/-- Registers of a doorway window, part 3. -/
def imgDwy3 : List ImgRow := [
  -- PROVE_CFG
  ⟨1, 0x710, 0, 1, 2, 0x0, [⟨0, 8, 10, 200, 1⟩, ⟨8, 8, 5, 100, 0⟩, ⟨16, 8, 5, 200, 0⟩, ⟨24, 8, 5, 50, 0⟩]⟩,
  -- STEP_CFG
  ⟨1, 0x718, 0, 1, 2, 0x0, [⟨0, 8, 0, 150, 0⟩, ⟨8, 8, 0, 150, 0⟩, ⟨16, 9, 10, 300, 0⟩, ⟨25, 7, 1, 60, 0⟩]⟩,
  -- PD_IN
  ⟨1, 0x804, 0, 1, 2, 0xE0E0E0E0, [⟨0, 5, 0, 15, 0⟩, ⟨8, 5, 0, 15, 0⟩, ⟨16, 5, 0, 15, 2⟩, ⟨24, 5, 0, 15, 2⟩]⟩,
  -- PD_IN2
  ⟨1, 0x808, 0, 1, 2, 0xE0E0E0E0, [⟨0, 5, 0, 15, 2⟩, ⟨8, 5, 0, 15, 2⟩, ⟨16, 5, 0, 15, 2⟩, ⟨24, 5, 0, 15, 2⟩]⟩,
  -- PD_IN3
  ⟨1, 0x80C, 0, 1, 2, 0xFFF8E0E0, [⟨0, 5, 0, 15, 2⟩, ⟨8, 5, 0, 15, 2⟩, ⟨16, 3, 0, 5, 2⟩]⟩,
  -- PD_CFG
  ⟨1, 0x810, 0, 1, 2, 0xE0000000, [⟨0, 8, 20, 200, 1⟩, ⟨8, 8, 20, 200, 1⟩, ⟨16, 8, 10, 100, 1⟩]⟩,
  -- LC_CFG
  ⟨1, 0x814, 0, 1, 2, 0xFE, [⟨8, 8, 10, 200, 1⟩, ⟨16, 8, 2, 100, 1⟩, ⟨24, 8, 10, 100, 0⟩]⟩,
  -- IN_FILT
  ⟨1, 0xA08, 4, 4, 2, 0x0, []⟩]

/-- Registers of a doorway window. -/
def imgDwy : List ImgRow := imgDwy1 ++ imgDwy2 ++ imgDwy3

/-- Registers of an axis, part 1. -/
def imgAx1 : List ImgRow := [
  -- PROF_V
  ⟨2, 0x20, 0, 1, 2, 0x0, [⟨0, 16, 0, 1000, 0⟩, ⟨16, 16, 0, 400, 0⟩]⟩,
  -- PROF_V2
  ⟨2, 0x24, 0, 1, 2, 0x0, [⟨16, 16, 100, 10000, 0⟩]⟩,
  -- PROF_A
  ⟨2, 0x28, 0, 1, 2, 0x0, [⟨0, 16, 50, 3000, 0⟩, ⟨16, 16, 50, 3000, 0⟩]⟩,
  -- PROF_D
  ⟨2, 0x2C, 0, 1, 2, 0x0, [⟨0, 16, 50, 3000, 0⟩, ⟨16, 16, 50, 3000, 0⟩]⟩,
  -- DRV_CFG
  ⟨2, 0x30, 0, 1, 2, 0xFFF0, [⟨16, 16, 500, 10000, 0⟩]⟩,
  -- SWITCH
  ⟨2, 0x34, 0, 1, 4, 0x0, [⟨0, 16, 200, 5000, 0⟩, ⟨16, 16, 50, 1000, 0⟩]⟩,
  -- CURRENT
  ⟨2, 0x38, 0, 1, 2, 0x0, [⟨0, 16, 100, 8000, 0⟩]⟩,
  -- MOTOR
  ⟨2, 0x3C, 0, 1, 4, 0x0, [⟨0, 16, 100, 20000, 0⟩, ⟨16, 16, 100, 50000, 0⟩]⟩,
  -- GAIN
  ⟨2, 0x40, 0, 1, 4, 0x0, [⟨0, 16, 0, 20000, 0⟩]⟩,
  -- BEMF
  ⟨2, 0x44, 0, 1, 4, 0xFFFF0000, [⟨0, 16, 0, 1000, 0⟩]⟩,
  -- SCALE
  ⟨2, 0x48, 0, 1, 2, 0x0, [⟨0, 32, 65536, 262144000, 0⟩]⟩,
  -- TRAVEL
  ⟨2, 0x4C, 0, 1, 2, 0x0, [⟨0, 16, 100, 10000, 0⟩, ⟨16, 16, 10, 2000, 0⟩]⟩]

/-- Registers of an axis, part 2. -/
def imgAx2 : List ImgRow := [
  -- REST
  ⟨2, 0x50, 0, 1, 4, 0xFFFF0000, [⟨0, 8, 1, 255, 0⟩, ⟨8, 8, 2, 50, 0⟩]⟩]

/-- Registers of an axis. -/
def imgAx : List ImgRow := imgAx1 ++ imgAx2

/-- Registers of an encoder channel. -/
def imgEn : List ImgRow := [
  -- ENC_CFG
  ⟨3, 0x30, 0, 1, 2, 0xFFFF00C0, [⟨0, 3, 0, 4, 0⟩, ⟨4, 2, 0, 2, 0⟩, ⟨8, 8, 1, 16, 0⟩]⟩,
  -- ENC_SCALE
  ⟨3, 0x34, 0, 1, 2, 0x0, [⟨0, 32, 65536, 655360000, 0⟩]⟩,
  -- INDEX_CFG
  ⟨3, 0x38, 0, 1, 2, 0x0, [⟨0, 24, 16, 16777215, 0⟩]⟩,
  -- REF_CFG
  ⟨3, 0x3C, 0, 1, 2, 0xF0000000, [⟨0, 16, 0, 500, 0⟩, ⟨16, 8, 10, 255, 0⟩]⟩]

/-- Registers of a load channel. -/
def imgCh : List ImgRow := [
  -- CH_CFG
  ⟨4, 0x0, 0, 1, 2, 0xFFFFC0C0, [⟨0, 3, 0, 4, 0⟩, ⟨8, 6, 1, 50, 0⟩]⟩]

/-- Registers of a check-value unit. -/
def imgCvu : List ImgRow := [
  -- CVU_CFG
  ⟨5, 0x0, 0, 1, 2, 0xFCC0E00E, [⟨4, 4, 0, 6, 0⟩, ⟨16, 6, 8, 32, 0⟩]⟩,
  -- CVU_POLY
  ⟨5, 0x4, 0, 1, 2, 0x0, []⟩,
  -- CVU_INIT
  ⟨5, 0x8, 0, 1, 2, 0x0, []⟩,
  -- CVU_XOROUT
  ⟨5, 0xC, 0, 1, 2, 0x0, []⟩,
  -- CVU_CHECK
  ⟨5, 0x10, 0, 1, 2, 0x0, []⟩]

/-- Registers of a CAN controller. -/
def imgCan : List ImgRow := [
  -- CAN_CFG
  ⟨6, 0x0, 0, 1, 8, 0xF800FFF8, [⟨16, 11, 0, 1992, 0⟩]⟩,
  -- NBT
  ⟨6, 0x4, 0, 1, 8, 0x80800000, [⟨0, 8, 1, 32, 0⟩, ⟨8, 8, 2, 255, 0⟩, ⟨16, 7, 1, 127, 0⟩, ⟨24, 7, 1, 127, 0⟩]⟩,
  -- DBT
  ⟨6, 0x8, 0, 1, 8, 0xF0F0E0F0, [⟨0, 4, 1, 8, 0⟩, ⟨8, 5, 1, 31, 0⟩, ⟨16, 4, 1, 15, 0⟩, ⟨24, 4, 1, 15, 0⟩]⟩,
  -- TDC
  ⟨6, 0xC, 0, 1, 8, 0xFFFFFF00, []⟩,
  -- FLT_ID
  ⟨6, 0x20, 16, 16, 8, 0x80000000, []⟩,
  -- FLT_MASK
  ⟨6, 0x24, 16, 16, 8, 0xE0000000, []⟩,
  -- FLT_TGT
  ⟨6, 0x28, 16, 16, 8, 0xFFFFFFF0, [⟨0, 4, 0, 9, 0⟩]⟩]

end Sys2Proof.Machine
end

