-- ==== Sys2Proof/Machine/Image.lean ====
section
/-!
DEFINITION. Machine/Image.lean: the Slovy configuration image (chapter 11): its layout (R337–R349), verification (R350) with every rule that
refuses an image, the two-party change (R351–R355), the keystore (R358, R359), and the loading of "img" registers (R342).
-/
namespace Sys2Proof.Machine

/-! ## Layout (R337–R348) -/

/-- Offset of section n (R339). -/
def secOff (m : List Byte) (n : Nat) : Nat := fieldAt m (48 + 16 * n + 4) 4

/-- Length of section n without padding. -/
def secLen (m : List Byte) (n : Nat) : Nat := fieldAt m (48 + 16 * n + 8) 4

/-- Content of section n. -/
def secData (m : List Byte) (n : Nat) : List Byte := (m.drop (secOff m n)).take (secLen m n)

/-- The next multiple of 16. -/
def align16 (n : Nat) : Nat := (n + 15) / 16 * 16

/-- Are all bytes 0? -/
def allZero (l : List Byte) : Bool := l.all (· == 0)

/-- Bytes lo up to hi, exclusive. -/
def bytesIn (m : List Byte) (lo hi : Nat) : List Byte := (m.drop lo).take (hi - lo)

/-- `n` entries of `k` bytes. -/
def chunks (k : Nat) : Nat → List Byte → List (List Byte)
  | 0, _ => []
  | n + 1, l => l.take k :: chunks k n (l.drop k)

/-- Entries of `k` bytes at most, as many as the bytes hold. -/
def chunksUpTo (k n : Nat) (l : List Byte) : List (List Byte) := chunks k (min n (l.length / k)) l

/-- The entries of a register list (R340). -/
def regList (b : List Byte) : List (Nat × Nat) :=
  (chunksUpTo 8 (fieldAt b 0 4) (b.drop 4)).map (fun e => (fieldAt e 0 4, fieldAt e 4 4))

/-- DECL of an image (R343). -/
def imgDecl (m : List Byte) : Nat := fieldAt (secData m 1) 4 4

/-- Number of register entries of STRUCT. -/
def structRegs (m : List Byte) : List (Nat × Nat) := regList ((secData m 1).drop 16)

/-- Entries of the instance table (R344). -/
def imgInstBytes (m : List Byte) : List (List Byte) :=
  let b := secData m 1
  chunksUpTo 8 (fieldAt b 8 2) (b.drop (20 + 8 * fieldAt b 16 4))

/-- The function instances of an image. -/
def imgInsts (m : List Byte) : List Inst :=
  (imgInstBytes m).map (fun e => { f := fieldAt e 0 2, ty := fieldAt e 2 1, dwy := fieldAt e 3 1, unit := fieldAt e 4 1 })

/-- The placement hints of an image (R348). -/
def imgHints (m : List Byte) : List Hint :=
  let b := secData m 5
  (chunksUpTo 4 (fieldAt b 0 4) (b.drop 4)).map (fun e => { f := fieldAt e 0 2, pool := fieldAt e 2 1, idx := fieldAt e 3 1 })

/-- The sequence-table records of an image (R346). -/
def imgSeqs (m : List Byte) : List SeqRec :=
  let b := secData m 3
  (chunksUpTo 40 (fieldAt b 0 4) (b.drop 16)).map (fun e =>
    { dwy := fieldAt e 0 1, passIn := fieldAt e 4 1, crewOpenIn := fieldAt e 5 1, sig := (List.range 8).map (fun n => fieldAt e (8 + 4 * n) 4) })

/-- ComId row r of an image (R480): 16 bytes after the register list of NET. -/
def imgPdRow (m : List Byte) (r : Nat) : List Byte :=
  let b := secData m 7
  (b.drop (4 + 8 * fieldAt b 0 4 + 16 * r)).take 16

/-- SDT row n of an image (R484). -/
def imgSdtRow (m : List Byte) (n : Nat) : List Byte := imgPdRow m (80 + n)

/-- LH_CFG[j] of an image: an empty LIMP section binds nothing (log entry 14). -/
def imgLh (m : List Byte) (j : Nat) : Nat := if secLen m 6 = 0 then 0xFF else fieldAt (secData m 6) j 1

/-- Commissioning code (R352). -/
def imgCode (m : List Byte) : Nat := if fieldAt m 16 1 = 1 then crc32c (secData m 1) else crc32c (secData m 1 ++ secData m 2)

/-- All "img" registers of an image with their values (R340, R341, R348). -/
def imgRegs (m : List Byte) : List (Nat × Nat) :=
  structRegs m ++ regList (secData m 2) ++ regList (secData m 4) ++ regList (secData m 7) ++ regList (secData m 8) ++
  (List.range 16).map (fun j => (0x6080 + 4 * j, imgLh m j)) ++
  (if secLen m 7 = 0 then [] else
    (List.range 80).flatMap (fun r =>
      let e := imgPdRow m r
      [(0x7200 + 16 * r, fieldAt e 0 4),
       (0x7204 + 16 * r, fieldAt e 4 1 % 16 + fieldAt e 5 1 * 2 ^ 4 + fieldAt e 6 1 % 8 * 2 ^ 12 + fieldAt e 8 2 % 512 * 2 ^ 16)]) ++
    (List.range 16).flatMap (fun n =>
      let e := imgSdtRow m n
      [(0x7100 + 16 * n, fieldAt e 0 1 % 64 + fieldAt e 1 1 % 4 * 2 ^ 6 + fieldAt e 2 1 * 2 ^ 8 + fieldAt e 3 1 % 8 * 2 ^ 16),
       (0x7104 + 16 * n, fieldAt e 8 4)])) ++
  ((chunksUpTo 4 1024 (secData m 9)).zip (List.range 1024)).map (fun x => (0x30000 + 4 * x.2, leNat x.1))

/-! ## Register lists -/

/-- Row of an "img" table at an offset. -/
def imgRowAt (tab : List ImgRow) (o : Nat) : Option ImgRow :=
  tab.find? (fun r => if r.stride = 0 then decide (o = r.base)
    else decide (r.base ≤ o) && decide ((o - r.base) % r.stride = 0) && decide ((o - r.base) / r.stride < r.cnt))

/-- The "img" register at an address, if one lies there. -/
def imgRowOf (addr : Nat) : Option ImgRow :=
  if 0x10000 ≤ addr ∧ addr < 0x28000 then
    let o := (addr - 0x10000) % 0x1000
    if 0x300 ≤ o ∧ o < 0x480 then imgRowAt imgAx ((o - 0x300) % 0x80)
    else if 0x500 ≤ o ∧ o < 0x5C0 then imgRowAt imgEn ((o - 0x500) % 0x40)
    else if 0xB00 ≤ o ∧ o < 0xB60 then imgRowAt imgCh ((o - 0xB00) % 0x10)
    else imgRowAt imgDwy o
  else if 0x8000 ≤ addr ∧ addr < 0x9000 then imgRowAt imgCan ((addr - 0x8000) % 0x800)
  else if 0x9000 ≤ addr ∧ addr < 0xA000 then imgRowAt imgCvu ((addr - 0x9000) % 0x40)
  else imgRowAt imgAbs addr

/-- Doorway number of an address, 24 for a system register. -/
def dwyOfAddr (addr : Nat) : Nat := if 0x10000 ≤ addr ∧ addr < 0x28000 then (addr - 0x10000) / 0x1000 else 24

/-- How many registers of a table a section carries. -/
def imgCount (tab : List ImgRow) (sec : Nat) : Nat := tab.foldl (fun n r => if r.sec = sec then n + r.cnt else n) 0

/-- How many registers section `sec` carries for `n` declared doorways. -/
def imgExpected (sec n : Nat) : Nat :=
  imgCount imgAbs sec + 64 * imgCount imgCvu sec + 2 * imgCount imgCan sec +
  n * (imgCount imgDwy sec + 3 * imgCount imgAx sec + 3 * imgCount imgEn sec + 6 * imgCount imgCh sec)

/-- How many doorways a mask declares. -/
def declCount (decl : Nat) : Nat := (List.range 24).countP (bitOf decl)

/-- Is a field in its range? -/
def ImgFld.ok (f : ImgFld) (v : Nat) : Bool :=
  let x := bitsOf v f.lo f.w
  (decide (f.min ≤ x) && decide (x ≤ f.max)) || (f.z == 1 && x == 0) || (f.z == 2 && x == 2 ^ f.w - 1)

/-- A register value's reserved bits are 0 and its fields are in range. -/
def ImgRow.ok (r : ImgRow) (v : Nat) : Bool := Nat.land r.rsv v == 0 && r.fs.all (fun f => f.ok v)

/-- On a code without protective-device units a guard, two-hand or curtain field is not set when it is 0 or none (R289, log entry 15). -/
def pdUnset (o v : Nat) : Bool :=
  let inp := fun lo => bitsOf v lo 5 == 0 || bitsOf v lo 5 == 0x1F
  match o with
  | 0x804 => decide (bitsOf v 0 5 < 16) && decide (bitsOf v 8 5 < 16) && inp 16 && inp 24 && Nat.land v 0xE0E0E0E0 == 0
  | 0x808 => inp 0 && inp 8 && inp 16 && inp 24 && Nat.land v 0xE0E0E0E0 == 0
  | 0x80C => inp 0 && inp 8 && (bitsOf v 16 3 == 0 || bitsOf v 16 3 == 7) && Nat.land v 0xFFF8E0E0 == 0
  | 0x810 => decide (v < 256) && (v == 0 || decide (20 ≤ v ∧ v ≤ 200))
  | 0x814 => v == 0
  | _ => false

/-- The value of one entry satisfies R340 for its section. -/
def entryOk (pd : Bool) (sec decl : Nat) (e : Nat × Nat) : Bool :=
  match imgRowOf e.1 with
  | none => false
  | some r =>
    let d := dwyOfAddr e.1
    let o := (e.1 - 0x10000) % 0x1000
    r.sec == sec && (d == 24 || bitOf decl d) && decide (e.1 < 2 ^ 24) &&
    (if !pd && d != 24 && decide (0x804 ≤ o ∧ o ≤ 0x814) then pdUnset o e.2 else r.ok e.2)

/-- First entry of a register list that breaks R340, by its address. -/
def listBad (pd : Bool) (sec decl : Nat) : Option Nat → List (Nat × Nat) → Option Nat
  | _, [] => none
  | prev, e :: l =>
    if (match prev with | some p => decide (e.1 ≤ p) | none => false) || !entryOk pd sec decl e then some e.1
    else listBad pd sec decl (some e.1) l

/-- A register list of `b`, which fills it to `len` bytes, satisfies R340; else the DETAIL. -/
def listFail (pd : Bool) (sec decl : Nat) (b : List Byte) (len : Nat) : Option Nat :=
  let es := regList b
  match listBad pd sec decl none es with
  | some a => some a
  | none => if es.length ≠ imgExpected sec (declCount decl) ∨ fieldAt b 0 4 ≠ es.length ∨ len ≠ 4 + 8 * es.length then some 0 else none

/-! ## Verification: checks 1–7 (R350) -/

/-- A refusal: CHECK, SECTION and DETAIL of CFG_REFUSE. -/
abbrev Bad := Nat × Nat × Nat

/-- The first refusal of a list of cases. -/
def firstBad (l : List (Bool × Bad)) : Option Bad := (l.find? (·.1)).map (·.2)

/-- Checks 1, 2 and 3 of R350 on the bytes written. -/
def checkHdr (m : List Byte) : Option Bad :=
  firstBad [
    (fieldAt m 0 4 != 0x564F4C53, 1, 0, 0), (fieldAt m 4 2 != 1, 1, 0, 4), (fieldAt m 6 2 != 0x100, 1, 0, 6), (decide (1 < fieldAt m 16 1), 1, 0, 16),
    (!allZero (bytesIn m 17 20), 1, 0, 17), (!allZero (bytesIn m 28 64), 1, 0, 28), (!allZero (bytesIn m 224 252), 1, 0, 224),
    (decide (4194304 < fieldAt m 12 4) || fieldAt m 12 4 != m.length || decide (m.length < 256), 2, 0, 12),
    (fieldAt m 252 4 != crc32c (m.take 252), 3, 0, 252)]

/-- May section n be empty (R339)? -/
def emptyOk (m : List Byte) (n : Nat) : Bool :=
  if fieldAt m 16 1 = 1 then n != 1 && n != 10
  else n == 5 || n == 6 || n == 7 || n == 8 || ((n == 3 || n == 4) && declCount (imgDecl m) == 0)

/-- Check 4 for section n (R337, R339). -/
def sectionBad (m : List Byte) (n : Nat) : Bool :=
  let at_ := 48 + 16 * n
  let off := secOff m n
  let len := secLen m n
  let prev := if n = 1 then 0x100 else align16 (secOff m (n - 1) + secLen m (n - 1))
  let gap := if n = 1 then [] else bytesIn m (secOff m (n - 1) + secLen m (n - 1)) prev
  fieldAt m at_ 1 != n || fieldAt m (at_ + 1) 1 != 0 || fieldAt m (at_ + 2) 2 != 1 || off != prev || !allZero gap ||
  (len == 0 && !emptyOk m n) || (len != 0 && fieldAt m 16 1 == 1 && n != 1 && n != 10) || (len == 0 && fieldAt m (at_ + 12) 4 != 0) ||
  decide (m.length < off + len) || (n == 10 && off + len != m.length)

/-- Does the CRC of section n hold (check 5)? -/
def sectionCrcOk (m : List Byte) (n : Nat) : Bool := fieldAt m (48 + 16 * n + 12) 4 == crc32c (secData m n)

/-- Signature entries of SIG (R349). -/
def sigEntries (m : List Byte) : List (List Byte) := let b := secData m 10; chunksUpTo 68 (fieldAt b 0 1) (b.drop 4)

/-- One signature entry names an enrolled key and verifies. -/
def State.sigOk (s : State) (digest : List Byte) (e : List Byte) : Bool :=
  let k := nth s.img.keys (fieldAt e 0 1) {}
  decide (fieldAt e 0 1 < 4) && allZero (bytesIn e 1 4) && k.enrolled && Config.ed25519 k.pub digest (e.drop 4)

/-- Is the keystore empty (KEYS_EMPTY, R359)? -/
def State.keysEmpty (s : State) : Bool := s.img.keys.all (fun k => !k.enrolled)

/-- Check 6 (R349, R359). -/
def State.sigBad (s : State) (m : List Byte) : Bool :=
  let b := secData m 10
  let n := fieldAt b 0 1
  let es := sigEntries m
  let digest := Config.sha256 (m.take (secOff m 10))
  let keys := es.map (fun e => fieldAt e 0 1)
  !allZero (bytesIn b 1 4) || b.length != 4 + 68 * n || decide (2 < n) || es.any (fun e => !s.sigOk digest e) ||
  (if fieldAt m 16 1 = 0 then n == 0
   else if s.keysEmpty then n != 0
   else !(n == 2 && nth keys 0 0 != nth keys 1 0))

/-- Check 7. -/
def State.genBad (s : State) (m : List Byte) : Bool :=
  if fieldAt m 16 1 = 0 then decide (fieldAt m 8 4 ≤ s.img.runGen) else decide (fieldAt m 8 4 ≤ s.img.keyGen)

/-- Check 8 (R7). -/
def State.resourceBad (s : State) (m : List Byte) : Option Bad :=
  if 2 ^ s.nDwy ≤ imgDecl m then some (8, 1, secOff m 1 + 4)
  else
    match (imgInsts m).find? (fun i => (decide (9 ≤ i.ty ∧ i.ty ≤ 11) && !s.hasPd) || (decide (i.dwy < 24) && decide (s.nDwy ≤ i.dwy))) with
    | some i => some (8, 1, i.f)
    | none => none

/-! ## Check 9: STRUCT (R343–R345) -/

/-- Is a type of doorway scope (R344)? -/
def tyDoorway (ty : Nat) : Bool := decide (1 ≤ ty ∧ ty ≤ 6) || decide (8 ≤ ty ∧ ty ≤ 12)

/-- UNIT range of a type (R344). -/
def unitOk (ty u : Nat) : Bool :=
  match ty with
  | 0x03 => decide (u < 2)
  | 0x07 => decide (1 ≤ u ∧ u ≤ 2)
  | 0x0C => decide (u < 6)
  | 0x0D => decide (u < 12)
  | 0x0E => decide (u < 80)
  | 0x0F => decide (u < 16)
  | 0x10 => decide (u < 2)
  | 0x11 => decide (u < 64)
  | 0x12 => decide (u < 8)
  | _ => u == 0

/-- Is there an instance of a type for a doorway (0xFF: system) and unit? -/
def hasInst (is : List Inst) (ty d u : Nat) : Bool := is.any (fun i => i.ty == ty && i.dwy == d && i.unit == u)

/-- First instance that breaks R344, by its number. -/
def instBad (decl : Nat) : Nat → List (List Byte) → List Inst → Option Nat
  | _, [], _ => none
  | n, e :: l, seen =>
    let i : Inst := { f := fieldAt e 0 2, ty := fieldAt e 2 1, dwy := fieldAt e 3 1, unit := fieldAt e 4 1 }
    if i.f != n || !allZero (bytesIn e 5 8) || i.ty == 0 || decide (0x12 < i.ty) || !unitOk i.ty i.unit ||
        (if tyDoorway i.ty then !(decide (i.dwy < 24) && bitOf decl i.dwy) else i.dwy != 0xFF) || hasInst seen i.ty i.dwy i.unit then some n
    else instBad decl (n + 1) l (i :: seen)

/-- Every declared doorway has the instances it must have (R344); TL_INPUT as R345. -/
def countsOk (decl : Nat) (is : List Inst) : Bool :=
  (List.range 24).all (fun d => !bitOf decl d ||
    ([1, 2, 5, 6, 8].all (fun ty => hasInst is ty d 0) && (hasInst is 3 d 0 == hasInst is 3 d 1))) &&
  [0, 1, 2, 3, 7].all (fun t => hasInst is 0x0D 0xFF t) && (decl == 0 || [4, 5].all (fun t => hasInst is 0x0D 0xFF t))

/-- Check 9 on STRUCT. -/
def State.structBad (s : State) (m : List Byte) : Option Bad :=
  let b := secData m 1
  let off := secOff m 1
  let n := fieldAt b 8 2
  let nr := fieldAt b 16 4
  if 1 < fieldAt b 0 1 then some (9, 1, off)
  else if !allZero (bytesIn b 1 4) then some (9, 1, off + 1)
  else if 512 < n then some (9, 1, off + 8)
  else if !allZero (bytesIn b 10 16) then some (9, 1, off + 10)
  else if b.length ≠ 20 + 8 * nr + 8 * n then some (9, 1, off + 16)
  else match listFail s.hasPd 1 (imgDecl m) (b.drop 16) (4 + 8 * nr) with
  | some a => some (9, 1, a)
  | none =>
    match instBad (imgDecl m) 0 (imgInstBytes m) [] with
    | some f => some (9, 1, f)
    | none => if countsOk (imgDecl m) (imgInsts m) then none else some (9, 1, off + 8)

/-! ## Check 9: values of SAFE and PARAM across registers -/

/-- Value of a register in a list of image values. -/
def valOf (vs : List (Nat × Nat)) (a : Nat) : Nat := Al.get (fun _ => 0) vs a

/-- Distance of a ramp between two speeds, µm, from speeds in 0.1 mm/s and a rate in mm/s². -/
def segDist (v0 v1 a : Nat) : Nat := if a = 0 then 0 else (v1 * v1 - v0 * v0) * 10 / (2 * a)

/-- Distance needed to reach speed v and come to rest again, µm (R168). -/
def moveDist (vst vsp v1 a1 a2 d2 d1 v : Nat) : Nat :=
  segDist vst (min v v1) a1 + (if v1 < v then segDist v1 v a2 + segDist v1 v d2 else 0) + segDist vsp (min v v1) d1

/-- Highest peak speed up to v + 2^n - 1 whose ramps fit a length. -/
def peakSpeed (fits : Nat → Bool) : Nat → Nat → Nat
  | 0, v => v
  | n + 1, v => if fits (v + 2 ^ n) then peakSpeed fits n (v + 2 ^ n) else peakSpeed fits n v

/-- Time of a move of `len` µm, µs (R168, R169), with the peak speed to 0.1 mm/s; a move shorter than the braking distance from VSTART runs at
VSTOP, or at VSTART when VSTOP is 0 (R170). -/
def moveTime (vst vsp v1 vmax a1 a2 d2 d1 len : Nat) : Nat :=
  if len < segDist vsp (max vsp vst) d1 then len * 10000 / (if vsp = 0 then vst else vsp)
  else
  let fits := fun v => decide (v ≤ vmax) && decide (moveDist vst vsp v1 a1 a2 d2 d1 v ≤ len)
  let v := peakSpeed fits 14 0
  let rate := fun (x a : Nat) => if a = 0 then 0 else x * 100000 / a
  let cruise := if v = 0 then 0 else (len - moveDist vst vsp v1 a1 a2 d2 d1 v) * 10000 / v
  rate (min v v1 - vst) a1 + rate (v - v1) a2 + cruise + rate (v - v1) d2 + rate (min v v1 - vsp) d1

/-- Inputs of doorway d by role, with the role's number (R256, R257, R288, R346); absent roles are left out. Roles 0–4 are the proving
switches, 5–7 PROVE_IN2, 8–17 protective devices, 18 and 19 the sequence table's, 20–22 the reference inputs of the axes. -/
def rolesOf (pd : Bool) (g : Nat → Nat) (sq : Option SeqRec) (d : DIx) : List (Nat × Nat) :=
  let some5 := fun (role v : Nat) => if v = 0x1F then [] else [(role, v)]
  let w := fun o lo n => bitsOf (g (dw d o)) lo n
  [(0, w 0x708 0 4), (1, w 0x708 4 4), (2, w 0x708 8 4), (3, w 0x708 12 4), (4, w 0x708 16 4)] ++
  some5 5 (w 0x70C 0 5) ++ some5 6 (w 0x70C 8 5) ++ some5 7 (w 0x70C 16 5) ++ some5 8 (w 0x804 0 5) ++ some5 9 (w 0x804 8 5) ++
  (if pd then some5 10 (w 0x804 16 5) ++ some5 11 (w 0x804 24 5) ++ some5 12 (w 0x808 0 5) ++ some5 13 (w 0x808 8 5) ++
    some5 14 (w 0x808 16 5) ++ some5 15 (w 0x808 24 5) ++ some5 16 (w 0x80C 0 5) ++ some5 17 (w 0x80C 8 5) else []) ++
  (match sq with | some r => some5 18 r.passIn ++ some5 19 r.crewOpenIn | none => []) ++
  allA.map (fun a => (20 + a.val, bitsOf (g (en d a 0x3C)) 24 4))

/-- May two roles share an input: REF_IN of leaf A with CLOSED_A, of leaf B with CLOSED_B, of the step with STOWED (R257)? -/
def mayShare (r1 r2 : Nat) : Bool := (r1 == 0 && r2 == 20) || (r1 == 1 && r2 == 21) || (r1 == 4 && r2 == 22)

/-- Is one input assigned to two roles? -/
def roleClash : List (Nat × Nat) → Bool
  | [] => false
  | x :: l => l.any (fun y => x.2 == y.2 && !mayShare x.1 y.1) || roleClash l

/-- Rules of an axis over its registers (R169, R195). -/
def axisBad (g : Nat → Nat) (d : DIx) (a : AIx) : List (Bool × Nat) :=
  let r := fun o lo n => bitsOf (g (ax d a o)) lo n
  let vst := r 0x20 0 16
  let vsp := r 0x20 16 16
  let v1 := r 0x24 0 16
  let vmax := r 0x24 16 16
  [(decide (v1 < vst), ax d a 0x24), (decide (vmax < v1), ax d a 0x24), (decide (v1 < vsp), ax d a 0x24),
   (decide (r 0x34 0 16 ≤ r 0x34 16 16), ax d a 0x34), (decide (r 0x38 0 16 < r 0x38 16 16), ax d a 0x38),
   (a == 2 && decide (3000 < r 0x4C 0 16), ax d a 0x4C),
   (a == 2 && decide (1100000 < moveTime vst vsp v1 vmax (r 0x28 0 16) (r 0x28 16 16) (r 0x2C 0 16) (r 0x2C 16 16) (r 0x4C 0 16 * 100)), ax d a 0x20)]

/-- Rules of a doorway over its registers (R214, R231, R253, R257, R258, R289, R302, R333, R345). -/
def State.doorBad (s : State) (m : List Byte) (g : Nat → Nat) (is : List Inst) (d : DIx) : List (Bool × Nat) :=
  let w := fun o lo n => bitsOf (g (dw d o)) lo n
  let pd := s.hasPd
  let has := fun ty u => hasInst is ty d.val u
  let lockCh := w 0x704 0 3
  let lcCh := if pd then w 0x80C 16 3 else 7
  let src := fun k => bitsOf (g (ch d (Fin.ofNat 6 k) 0)) 0 3
  let none5 := fun o lo => w o lo 5 == 0x1F
  let ss1min := if w 0x630 0 16 = 0 then 500 else w 0x630 0 16
  let sq := (imgSeqs m).find? (fun r => r.dwy == d.val)
  -- a reference input whose filter is its own IN_FILT: over 20 ms (R214, R311)
  let roles := rolesOf pd g sq d
  let slow := fun (i : Nat) => !roles.any (fun r => r.2 == i && (decide (r.1 < 7) || decide (8 ≤ r.1 ∧ r.1 < 18))) &&
    decide (200 < bitsOf (g (dw d (0xA08 + 4 * (i / 4)))) (8 * (i % 4)) 8)
  (roles.filter (fun r => decide (20 ≤ r.1))).map (fun r => (slow r.2, dw d (0xA08 + 4 * (r.2 / 4)))) ++
  [(decide (w 0x610 16 16 < w 0x60C 0 16), dw d 0x610), (w 0x630 16 16 != 0 && decide (w 0x630 16 16 < ss1min), dw d 0x630), (decide (w 0x704 24 8 ≤ w 0x704 16 8), dw d 0x704),
   (!none5 0x70C 8 && none5 0x70C 0, dw d 0x70C), (chClass lockCh != 1, dw d 0x704),
   (decide (w 0x18 24 8 ≤ (w 0x710 8 8 + w 0x710 24 8 + 9) / 10), dw d 0x18),
   (has 3 0 && !(bitOf (w 0x604 0 2) 0 && bitOf (w 0x604 0 2) 1), dw d 0x604),
   (w 0x604 4 1 != b2n (has 9 0), dw d 0x604), (w 0x810 26 1 != b2n (has 0x0A 0), dw d 0x810), (w 0x810 24 1 != b2n (has 0x0B 0), dw d 0x810),
   ((List.range 6).any (fun k => (src k != 0) != has 0x0C k), dw d 0xB00),
   (roleClash roles, dw d 0x708),
   (pd && w 0x810 24 1 == 1 && (none5 0x804 16 || none5 0x804 24), dw d 0x804),
   (pd && w 0x810 26 1 == 1 && (none5 0x808 0 || none5 0x808 8 || (w 0x810 27 1 == 1 && (none5 0x808 16 || none5 0x808 24))), dw d 0x808),
   (pd && w 0x604 4 1 == 1 && (none5 0x80C 0 || (if w 0x814 0 1 = 0 then none5 0x80C 8 else lcCh == 7 || !none5 0x80C 8)), dw d 0x80C),
   (!pd && w 0x604 4 1 == 1, dw d 0x604),
   (lcCh != 7 && (chClass lcCh != 0 || (List.range 16).any (fun j => imgLh m j == 6 * d.val + lcCh)), dw d 0x80C),
   ((List.range 6).any (fun k => (src k == 2) != (k == lockCh)), dw d 0xB00), ((List.range 6).any (fun k => (src k == 4) != (k == lcCh)), dw d 0xB00)]

/-- Rules of the system registers (R225, R272, R345, R515). -/
def State.systemBad (s : State) (g : Nat → Nat) (decl : Nat) (is : List Inst) : List (Bool × Nat) :=
  let loops := bitsOf (g 0x6010) 16 2
  let in1 := if bitOf loops 0 then g 0x6014 else 0
  let in2 := if bitOf loops 1 then g 0x6018 else 0
  let pwr := g 0xA008
  [((List.range 24).any (fun d => bitOf decl d && !bitOf in1 d && !bitOf in2 d), 0x6014),
   (decide (2 ^ s.nDwy ≤ g 0x6014), 0x6014), (decide (2 ^ s.nDwy ≤ g 0x6018), 0x6018), (loops == 0, 0x6010),
   (bitOf loops 0 != hasInst is 7 0xFF 1 || bitOf loops 1 != hasInst is 7 0xFF 2, 0x6010),
   (bitsOf pwr 0 10 != 0 && bitsOf pwr 16 1 == 0, 0xA008), (bitsOf pwr 16 3 == 0, 0xA008)] ++
  (List.range 8).flatMap (fun e =>
    [(decide (3 * s.nDwy ≤ bitsOf (g (0xC100 + 16 * e)) 0 7), 0xC100 + 16 * e),
     (bitsOf (g (0xC100 + 16 * e)) 7 1 != b2n (hasInst is 0x12 0xFF e), 0xC100 + 16 * e)])

/-- Is SEL one that the stream has (R406)? -/
def selOk (stream sel : Nat) : Bool :=
  match stream with
  | 1 | 2 => decide (sel < 24)
  | 3 => decide (sel < 2)
  | 4 | 5 => sel == 0
  | 6 => decide (sel < 26)
  | _ => true

/-- Rules of the check-value units (R406, R407). DEDUCED (log entry 199): only enabled units share a STREAM and SEL; the rules for values hold for every
unit. -/
def cvuBad (g : Nat → Nat) (decl : Nat) (is : List Inst) : List (Bool × Nat) :=
  let at_ := fun u => 0x9000 + 0x40 * u
  let en_ := fun u => bitsOf (g (at_ u)) 0 1 == 1
  let stream := fun u => bitsOf (g (at_ u)) 4 4
  let sel := fun u => bitsOf (g (at_ u)) 8 5
  let us := List.range 64
  let has := fun st se => us.any (fun u => en_ u && stream u == st && sel u == se)
  [((List.range 24).any (fun d => bitOf decl d && !has 6 d) || !has 6 24 || !has 6 25 || !has 4 0 || !has 5 0, 0x9000)] ++
  us.flatMap (fun u =>
    let c := g (at_ u)
    let w := bitsOf c 16 6
    let poly := g (at_ u + 4)
    let init := g (at_ u + 8)
    let xo := g (at_ u + 0xC)
    let chk := g (at_ u + 0x10)
    [(en_ u != hasInst is 0x11 0xFF u, at_ u), (en_ u && us.any (fun v => decide (v < u) && en_ v && stream v == stream u && sel v == sel u), at_ u),
     (!selOk (stream u) (sel u), at_ u),
     (decide (1 ≤ stream u ∧ stream u ≤ 5) && !(w == 32 && bitsOf c 24 2 == 3 && poly == 0x1EDC6F41 && init == 0xFFFFFFFF && xo == 0xFFFFFFFF), at_ u),
     ((decide (2 ^ w ≤ poly) || decide (2 ^ w ≤ init) || decide (2 ^ w ≤ xo) || decide (2 ^ w ≤ chk)), at_ u), (poly % 2 == 0, at_ u + 4),
     (chk != crcOf w poly init (bitOf c 24) (bitOf c 25) xo [0x31, 0x32, 0x33, 0x34, 0x35, 0x36, 0x37, 0x38, 0x39], at_ u + 0x10)])

/-- Rules of the limp-home bindings (R328). -/
def State.limpBad (s : State) (m : List Byte) : Option Nat :=
  (List.range 16).find? (fun j =>
    let c := imgLh m j
    c != 0xFF && (decide (6 * s.nDwy ≤ c) || chClass (c % 6) == 1 || (List.range j).any (fun i => imgLh m i == c)))

/-- Rules of the sequence tables (R27, R346): the number of the record that breaks one. -/
def seqBad (m : List Byte) : Option Nat :=
  let b := secData m 3
  let decl := imgDecl m
  let want := (List.range 24).filter (bitOf decl)
  let n := fieldAt b 0 4
  if b.length = 0 then none
  else if n ≠ want.length ∨ allZero (bytesIn b 4 16) = false ∨ b.length ≠ 16 + 40 * n then some n
  else
    (List.range n).find? (fun i =>
      let e := (b.drop (16 + 40 * i)).take 40
      let inp := fun v => decide (v < 16) || v == 0x1F
      fieldAt e 0 1 != nth want i 0xFF || !allZero (bytesIn e 1 4) || !inp (fieldAt e 4 1) || !inp (fieldAt e 5 1) || !allZero (bytesIn e 6 8) ||
      (List.range 8).any (fun k => decide (2 ^ 20 ≤ fieldAt e (8 + 4 * k) 4)))

/-- Rules of the hints (R372): the index of the entry that breaks one. -/
def State.hintBad (s : State) (m : List Byte) : Option Nat :=
  let hs := imgHints m
  let is := imgInsts m
  let b := secData m 5
  if b.length = 0 then none
  else if b.length ≠ 4 + 4 * hs.length ∨ fieldAt b 0 4 ≠ hs.length then some hs.length
  else
    (List.range hs.length).find? (fun n =>
      let h := nth hs n { f := 0, pool := 0, idx := 0 }
      match is.find? (fun i => i.f == h.f) with
      | none => true
      | some i =>
        decide (h.pool < 2) || decide (6 < h.pool) || !(poolsOf i).any (fun q => q.1 == h.pool && q.2.isNone) || decide (s.poolSize h.pool ≤ h.idx) ||
        (hs.take n).any (fun o =>
          (o.f == h.f && o.pool == h.pool) ||
          (o.pool == h.pool && o.idx == h.idx && (if h.pool = poolCvu then o.f != h.f else dwyOfInst is o.f != i.dwy)) ||
          (o.pool == h.pool && h.pool == poolSes && dwyOfInst is o.f == i.dwy && o.idx != h.idx)))

/-- First instance that the placement under an all-HEALTHY map leaves unplaced (R371). -/
def State.unplacedBad (s : State) (m : List Byte) : Option Nat :=
  ((placement s.poolSize (fun _ _ => 0) (imgInsts m) (imgHints m)).find? (fun b => b.pool != 0 && b.idx == noRes)).map (·.f)

/-- First microstep table that breaks R178. -/
def tableBad (m : List Byte) : Option Nat :=
  let b := secData m 9
  if b.length ≠ 4096 then some 8
  else
    (List.range 8).find? (fun t =>
      let es := (chunks 2 256 (b.drop (512 * t))).map leNat
      let rec mono : List Nat → Bool
        | x :: y :: l => decide (x ≤ y) && decide (y ≤ x + 16) && mono (y :: l)
        | _ => true
      es.any (fun x => decide (1023 < x)) || !mono es || decide (64 < nth es 0 0) || decide (nth es 255 0 < 896))

/-! ## Check 9: NET and CAN (R480–R487, R489) -/

/-- Is a ComId row used? -/
def rowUsed (e : List Byte) : Bool := fieldAt e 0 4 != 0

/-- Size of a publish function (R483). -/
def pubSize (func : Nat) : Nat := match func with | 1 => 52 | 2 => 144 | 3 => 96 | 4 => 16 | _ => 0

/-- Rules of one ComId row (R480, R487). DESIGN CHOICE (log entry 204): a dataset to publish may be as long as PD_CFG.LEN can say. -/
def pdRowBad (m : List Byte) (r : Nat) : Bool :=
  let e := imgPdRow m r
  let func := fieldAt e 4 1
  let ofs := fieldAt e 5 1
  let len := fieldAt e 8 2
  let time := fieldAt e 10 2
  if !rowUsed e then !allZero e
  else if r < 64 then
    decide (3 < func) || decide (7 < fieldAt e 6 1) || fieldAt e 7 1 != 0 || decide (len < 1) || decide (256 < len) || decide (time < 10) || decide (60000 < time) ||
    decide (len < (if func = 2 then ofs + 12 else ofs + 1)) ||
    (List.range r).any (fun q => fieldAt (imgPdRow m q) 0 4 == fieldAt e 0 4) ||
    (func != 0 && (List.range r).any (fun q => rowUsed (imgPdRow m q) && fieldAt (imgPdRow m q) 4 1 == func))
  else
    decide (func < 1) || decide (4 < func) || ofs != 0 || fieldAt e 6 1 != 0 || fieldAt e 7 1 != 0 || decide (511 < len) || decide (time < 10) || decide (10000 < time) ||
    decide (len < pubSize func)

/-- Is an SDT row used? -/
def sdtUsed (e : List Byte) : Bool := !allZero e

/-- Rules of one SDT row (R484, R487). -/
def sdtRowBad (m : List Byte) (n : Nat) : Bool :=
  let e := imgSdtRow m n
  let row := fieldAt e 0 1
  let func := fieldAt e 1 1
  let carrier := imgPdRow m row
  if !sdtUsed e then false
  else
    decide (63 < row) || !rowUsed carrier || decide (2 < func) || decide (7 < fieldAt e 3 1) || decide (fieldAt e 6 2 < 20) || decide (2000 < fieldAt e 6 2) ||
    !allZero (bytesIn e 12 16) || decide (fieldAt carrier 8 2 < fieldAt e 2 1 + 17) ||
    (func != 0 && (List.range n).any (fun q => sdtUsed (imgSdtRow m q) && fieldAt (imgSdtRow m q) 1 1 == func))

/-- Check 9 on NET: DETAIL is a register address. -/
def State.netBad (s : State) (m : List Byte) (g : Nat → Nat) : Option Nat :=
  let b := secData m 7
  let is := imgInsts m
  let empty := b.length = 0
  let used := fun r => !empty && rowUsed (imgPdRow m r)
  let sdt := fun n => !empty && sdtUsed (imgSdtRow m n)
  let both := (List.range 16).any (fun n => sdt n && fieldAt (imgSdtRow m n) 1 1 == 1) && (List.range 16).any (fun n => sdt n && fieldAt (imgSdtRow m n) 1 1 == 2)
  let rel := bitsOf (g 0x600C) 0 2
  match (if empty then none else listFail s.hasPd 7 (imgDecl m) b (b.length - 1536)) with
  | some a => some a
  | none =>
    match (if empty then none else (List.range 80).find? (pdRowBad m)) with
    | some r => some (0x7200 + 16 * r)
    | none =>
      match (if empty then none else (List.range 16).find? (sdtRowBad m)) with
      | some n => some (0x7100 + 16 * n)
      | none =>
        if rel ≠ 0 ∧ !both then some 0x600C
        else match (List.range 80).find? (fun r => used r != hasInst is 0x0E 0xFF r) with
        | some r => some (0x7200 + 16 * r)
        | none => ((List.range 16).find? (fun n => sdt n != hasInst is 0x0F 0xFF n)).map (fun n => 0x7100 + 16 * n)

/-- Check 9 on CAN (R489, R497). -/
def State.canBad (s : State) (m : List Byte) : Option Nat :=
  let b := secData m 8
  let vs := regList b
  if b.length = 0 then none
  else match listFail s.hasPd 8 (imgDecl m) b b.length with
  | some a => some a
  | none =>
    (List.range 2).findSome? (fun c =>
      let base := 0x8000 + 0x800 * c
      let nb := valOf vs (base + 4)
      let db := valOf vs (base + 8)
      if bitsOf nb 0 8 * (1 + bitsOf nb 8 8 + bitsOf nb 16 7) < 80 ∨ bitsOf nb 16 7 < bitsOf nb 24 7 then some (base + 4)
      else if bitsOf db 0 4 * (1 + bitsOf db 8 5 + bitsOf db 16 4) < 16 ∨ bitsOf db 16 4 < bitsOf db 24 4 then some (base + 8)
      else none)

/-! ## Check 9 as a whole -/

/-- First refusal among rules over register values: SECTION is the one that holds the register (R341, R364). -/
def firstVal (l : List (Bool × Nat)) : Option Bad :=
  (l.find? (·.1)).map (fun x => (9, (match imgRowOf x.2 with | some r => r.sec | none => 2), x.2))

/-- KEYS content of a KIND 1 image (R358). -/
def keysBad (m : List Byte) : Bool :=
  let b := secData m 1
  let es := chunks 40 4 (b.drop 16)
  b.length != 176 || fieldAt b 0 4 != fieldAt m 8 4 || !allZero (bytesIn b 4 16) || es.all (fun e => fieldAt e 0 1 != 1) ||
  es.any (fun e => decide (1 < fieldAt e 0 1) || !allZero (bytesIn e 1 4) || (fieldAt e 0 1 == 1 && fieldAt e 36 4 != crc32c (bytesIn e 4 36)))

/-- Check 9 of R350, section by section. -/
def State.valueBad (s : State) (m : List Byte) : Option Bad :=
  if fieldAt m 16 1 = 1 then (if keysBad m then some (9, 1, secOff m 1) else none)
  else
    let decl := imgDecl m
    let is := imgInsts m
    let vs := imgRegs m
    let g := valOf vs
    let ds := allD.filter (fun d => bitOf decl d.val)
    match s.structBad m with
    | some x => some x
    | none =>
    match listFail s.hasPd 2 decl (secData m 2) (secLen m 2) with
    | some a => some (9, 2, a)
    | none =>
    match firstVal (ds.flatMap (fun d => allA.flatMap (axisBad g d) ++ s.doorBad m g is d) ++ s.systemBad g decl is ++ cvuBad g decl is) with
    | some x => some x
    | none =>
    match seqBad m with
    | some n => some (9, 3, n)
    | none =>
    match (if secLen m 4 = 0 then none else listFail s.hasPd 4 decl (secData m 4) (secLen m 4)) with
    | some a => some (9, 4, a)
    | none =>
    match s.hintBad m with
    | some n => some (9, 5, n)
    | none =>
    match s.unplacedBad m with
    | some f => some (9, 1, f)
    | none =>
    match (if secLen m 6 ≠ 0 ∧ secLen m 6 ≠ 16 then some 0 else s.limpBad m) with
    | some j => some (9, 6, 0x6080 + 4 * j)
    | none =>
    match s.netBad m g with
    | some a => some (9, 7, a)
    | none =>
    match s.canBad m with
    | some a => some (9, 8, a)
    | none =>
    match tableBad m with
    | some t => some (9, 9, t)
    | none => none

/-- The checks of R350 in order; `unitRejects` says that the IMAGE check-value unit rejects a section that check 5 accepts. -/
def State.imageBad (s : State) (m : List Byte) (unitRejects : Bool) : Option Bad :=
  match checkHdr m with
  | some x => some x
  | none =>
  match (List.range 10).find? (fun n => sectionBad m (n + 1)) with
  | some n => some (4, n + 1, 48 + 16 * (n + 1))
  | none =>
  match (List.range 10).find? (fun n => !sectionCrcOk m (n + 1)) with
  | some n => some (5, n + 1, secOff m (n + 1))
  | none =>
  if unitRejects then some (5, 1, secOff m 1)
  else if s.sigBad m then some (6, 10, secOff m 10)
  else if s.genBad m then some (7, 0, 8)
  else match (if fieldAt m 16 1 = 0 then s.resourceBad m else none) with
  | some x => some x
  | none => s.valueBad m

/-! ## The slots and the CFG registers -/

/-- Content of a slot: false A, true B. -/
def State.slot (s : State) (b : Bool) : List Byte := if b then s.img.slotB else s.img.slotA

/-- The slot that the commit record does not name as running (R336); slot A while it names none (log entry 16). -/
def State.loadSlot (s : State) : Bool := match s.img.commit with | some b => !b | none => false

/-- The running image. -/
def State.runImage (s : State) : List Byte := match s.img.running with | some b => s.slot b | none => []

/-- Code of LOAD (CFG_STATUS). -/
def LoadState.code : LoadState → Nat
  | .empty => 0
  | .receiving => 1
  | .verifying => 2
  | .refusedImg => 3
  | .pendingImg => 4
  | .waitingImg => 5

/-- An image is pending or waiting. -/
def State.imgHeld (s : State) : Bool := s.img.load == .pendingImg || s.img.load == .waitingImg

/-- Show slots, load state, generations, codes, keystore and level (R364). -/
def State.showCfg (s : State) : State :=
  let i := s.img
  let s := (s.wr F.CFG_STATUS_RUN_SLOT (match i.running with | some false => 0 | some true => 1 | none => 3)).setF F.CFG_STATUS_KEYS_EMPTY s.keysEmpty
  let s := ((s.wr F.CFG_STATUS_LOAD i.load.code).wr F.CFG_STATUS_LOAD_KIND i.loadKind).wr F.CFG_STATUS_PEND_CLASS (if s.imgHeld then i.loadClass else 0)
  let s := (s.wr F.CFG_GEN (if i.running.isSome then i.runGen else 0)).wr F.CFG_CODE (if i.running.isSome then imgCode s.runImage else 0)
  let m := if i.load == .empty then [] else s.slot s.loadSlot
  let s := (s.wr F.PEND_GEN (fieldAt m 8 4)).wr F.PEND_CODE (if m.isEmpty then 0 else imgCode m)
  let s := ((s.wr F.BEHAVIOUR_IMAGE_LEVEL (if i.running.isSome then fieldAt (secData s.runImage 1) 0 1 else 0)).setF F.BEHAVIOUR_STRAP s.chip.compat).wr
    F.BEHAVIOUR_EFFECTIVE i.level
  let s := (s.wr F.KEY_STATUS_ENROLLED ((List.range 4).foldl (fun a n => a + b2n (nth i.keys n {}).enrolled * 2 ^ n) 0)).wr F.KEYSTORE_GEN i.keyGen
  (List.range 4).foldl (fun t n => t.wr (F.KEY_ID (Fin.ofNat 4 n)) (if (nth i.keys n {}).enrolled then (nth i.keys n {}).id else 0)) s

/-! ## The two copies of the commit record and of the keystore (R335, R336, R358) -/

/-- What the commit record says of the load slot: EMPTY, PENDING or WAITING (R336). -/
def LoadState.stored (l : LoadState) : Nat := match l with | .pendingImg => 1 | .waitingImg => 2 | _ => 0

/-- Content of the commit record: the running slot, the state of the load slot, generation and commissioning code of the image in each slot (R336).
DESIGN CHOICE (log entry 185): the order of the bytes, which the spec does not give. -/
def ImgH.commitBytes (i : ImgH) : List Byte :=
  leBytes 1 (match i.commit with | none => 0 | some false => 1 | some true => 2) ++ leBytes 1 i.load.stored ++ [0, 0] ++
  leBytes 4 i.genA ++ leBytes 4 i.genB ++ leBytes 4 i.codeA ++ leBytes 4 i.codeB

/-- The keystore in the layout of R358. -/
def ImgH.keyBytes (i : ImgH) : List Byte :=
  leBytes 4 i.keyGen ++ List.replicate 12 0 ++ i.keys.flatMap (fun k => leBytes 1 (b2n k.enrolled) ++ [0, 0, 0] ++ padTo 32 k.pub ++ leBytes 4 k.id)

/-- The keys of a keystore in that layout. -/
def keysOf (b : List Byte) : List Key :=
  (chunks 40 4 (b.drop 16)).map (fun e => { enrolled := fieldAt e 0 1 == 1, pub := bytesIn e 4 36, id := fieldAt e 36 4 })

/-- A write of the commit record, to the copy with the lower count (R336). -/
def ImgH.writeCommit (i : ImgH) : ImgH :=
  let c := FlashCopy.rewrite i.com0 i.com1 i.commitBytes
  { i with com0 := c.1, com1 := c.2 }

/-- A write of the keystore, to the copy with the lower count (R336). -/
def ImgH.writeKeys (i : ImgH) : ImgH :=
  let c := FlashCopy.rewrite i.key0 i.key1 i.keyBytes
  { i with key0 := c.1, key1 := c.2 }

/-- What the copies in use say: of the commit record and of the keystore the valid copy with the higher count (R336). Nothing is running, and no
image has ever run, where no commit record holds. -/
def ImgH.readCopies (i : ImgH) : ImgH :=
  let c := FlashCopy.read i.com0 i.com1
  let k := FlashCopy.read i.key0 i.key1
  let run := match fieldAt c 0 1 with | 1 => some false | 2 => some true | _ => none
  let genA := fieldAt c 4 4
  let genB := fieldAt c 8 4
  { i with
    commit := run, load := match fieldAt c 1 1 with | 1 => .pendingImg | 2 => .waitingImg | _ => .empty,
    genA := genA, genB := genB, codeA := fieldAt c 12 4, codeB := fieldAt c 16 4,
    runGen := match run with | some b => if b then genB else genA | none => 0,
    keyGen := fieldAt k 0 4, keys := keysOf k }

/-- The byte at an address of the image flash (R335), nothing where a sector of the model store stands, whose place the spec leaves open; what holds
nothing is erased. DESIGN CHOICE (log entry 185): a copy's sector holds its content, then its write count and its CRC-32C. -/
def ImgH.flashByte (i : ImgH) (addr : Nat) : Option Byte :=
  let copy := fun (c : FlashCopy) => if c.count = 0 then [] else c.data ++ leBytes 4 c.count ++ leBytes 4 c.crc
  if addr < 0x1000 then some (nth (copy i.key0) addr 0xFF)
  else if addr < 0x2000 then some (nth (copy i.key1) (addr - 0x1000) 0xFF)
  else if addr < 0x3000 then some (nth (copy i.com0) (addr - 0x2000) 0xFF)
  else if addr < 0x4000 then some (nth (copy i.com1) (addr - 0x3000) 0xFF)
  else if addr < 0x10000 then some 0xFF
  else if addr < 0x410000 then some (nth i.slotA (addr - 0x10000) 0xFF)
  else if addr < 0x810000 then some (nth i.slotB (addr - 0x410000) 0xFF)
  else none

/-- Put the load slot in a state; the commit record is rewritten where its content changes, with generation and code of the image that the slot now
holds (R336). -/
def State.setLoad (s : State) (l : LoadState) : State :=
  let b := s.loadSlot
  let s := if l.stored = s.img.load.stored then s else
    let m := s.slot b
    { s with img := ImgH.writeCommit { s.img with
      load := l,
      genA := if b then s.img.genA else fieldAt m 8 4, genB := if b then fieldAt m 8 4 else s.img.genB,
      codeA := if b then s.img.codeA else imgCode m, codeB := if b then imgCode m else s.img.codeB } }
  State.showCfg { s with img := { s.img with load := l } }

/-- An armed confirmation of these targets ends (R354). -/
def State.disarm (s : State) (targets : List Nat) : State :=
  match s.img.arm with
  | some a => if targets.contains a.target then ({ s with img := { s.img with arm := none } } : State).wr F.ARM 0 else s
  | none => s

/-- A pending or waiting image is discarded: 0x5B08 with its cause (R350, R355, R357). -/
def State.discardImg (s : State) (cause : Nat) : State :=
  if s.imgHeld then
    let g := fieldAt (s.slot s.loadSlot) 8 4
    ((s.disarm [1, 2]).setLoad .empty).stage 0x5B08 sysRec [g, cause]
  else s

/-! ## Images in force (R342, R343, R355) -/

/-- What STRUCT, SEQ and PLACE of the running image declare. -/
def State.takeTables (s : State) : State :=
  let m := s.runImage
  { s with img := { s.img with decl := if s.img.running.isSome then imgDecl m else 0, insts := imgInsts m, hints := imgHints m, seqs := imgSeqs m } }

/-- Effective behaviour level (R362), taken at BOOT and at the activation of a structural image. -/
def State.takeLevel (s : State) : State :=
  let lvl := if s.img.running.isSome then fieldAt (secData s.runImage 1) 0 1 else 0
  { s with img := { s.img with level := min lvl (b2n s.chip.compat) } }

/-- An axis after its registers were loaded anew, `old` being the state before: it uses the new tables, a new ENC_SCALE or REF_POS clears
REFERENCED (R225), and with a new SCALE the commanded position stays where it is in 0.01 mm (R165; log entry 164). -/
def State.axisLoaded (s old : State) (d : DIx) (a : AIx) : State :=
  let s := s.when (s.axis d a).oldTab.isSome (fun t => t.modAx d a (fun x => { x with oldTab := none }))
  let s := s.when (s.rd (F.SCALE d a) != old.rd (F.SCALE d a)) (fun t => t.setX d a (t.rdS (F.XCMD d a)))
  s.when (s.rd (F.ENC_SCALE d a) != old.rd (F.ENC_SCALE d a) || s.rd (F.REF_CFG_REF_POS d a) != old.rd (F.REF_CFG_REF_POS d a))
    (fun t => t.setF (F.AX_STATUS_REFERENCED d a) false)

/-- On a code without protective-device units the fields of their window other than the handle's read 0, and writes to them have no effect (R289). -/
def pdWindow (pd : Bool) (addr v : Nat) : Nat :=
  if pd || !decide (0x10000 ≤ addr ∧ addr < 0x28000) then v
  else match (addr - 0x10000) % 0x1000 with
    | 0x804 => Nat.land v 0x1F1F
    | 0x810 => v % 256
    | 0x808 | 0x80C | 0x814 => 0
    | _ => v

/-- Every img register with the value that the running image gives it on this ordering code. -/
def State.imgWords (s : State) : List (Nat × Nat) := (imgRegs s.runImage).map (fun e => (e.1, pdWindow s.hasPd e.1 e.2))

/-- A row of the PD or SDT table whose registers are no longer those of `old` starts anew: what its last telegram said is of another row (R479, R484). -/
def State.netRows (s old : State) : State :=
  let moved := fun (base n : Nat) => s.reg (base + 16 * n) != old.reg (base + 16 * n) || s.reg (base + 4 + 16 * n) != old.reg (base + 4 + 16 * n)
  let pd := (List.range 80).filter (moved 0x7200)
  let sdt := (List.range 16).filter (moved 0x7100)
  let s := { s with net := { s.net with
    rows := pd.foldl (fun l r => setNth l r {}) s.net.rows, sdt := sdt.foldl (fun l n => setNth l n {}) s.net.sdt } }
  let s := pd.foldl (fun t r => t.setReg (0x7208 + 16 * r) 0) s
  sdt.foldl (fun t n => t.setReg (0x7108 + 16 * n) 0) s

/-- Reload every img register from the running image (R342); registers that the image does not give read their reset value (R343). -/
def State.reloadImg (s : State) : State :=
  let old := s
  let s := { s with imgPend := [], regs := s.regs.filter (fun p => (imgRowOf p.1).isNone && !decide (0x30000 ≤ p.1 ∧ p.1 < 0x31000)) }
  let s := s.imgWords.foldl (fun t e => t.setReg e.1 (BitVec.ofNat 32 e.2)) s
  -- check-value units change their parameters while disabled (R405)
  let s := (List.range 64).foldl (fun t n => let u : UIx := Fin.ofNat 64 n; t.when (t.rd (F.CVU_STATUS_STATE u) == 1) (fun t => t.wr (F.CVU_STATUS_STATE u) 0)) s
  let s := State.netRows { s with img := { s.img with loaded := s.img.loaded || s.img.running.isSome } } old
  allD.foldl (fun t d => allA.foldl (fun t a => t.axisLoaded old d a) t) s

/-- A change of EXPOSURE causes a HEAD_CFG at the next SYNC without more (R90). Registers whose chapter states a later point wait for it
(R128, R161, R197, R225, R251, R286, R306, R333); the others take effect at once (log entry 17). -/
def State.takeRegs (s : State) : State :=
  let new := s.imgWords
  let old := s
  let mode := s.reg F.REC_CFG_MODE.addr
  let regs := new.filter (fun e => decide (e.1 < 0x30000) && (s.reg e.1).toNat != e.2)
  let tabs := new.filter (fun e => decide (0x30000 ≤ e.1) && (s.reg e.1).toNat != e.2)
  let off := s.flag F.COPPICE_CFG_EN && !bitOf (valOf new 0x1800) 0 && s.coppiced
  let s := { s with imgPend := regs.map (fun (e : Nat × Nat) => (e.1, BitVec.ofNat 32 e.2)) }
  let s := (if off then s else s.applyRange 0x1800 0x1804).applyLimp
  let s := { s with trn := { s.trn with frameN := s.tb / msT 50 } }
  let s := ((((s.applyRange 0x4000 0x4400).applyRange 0x5000 0x5400).applyRange 0x7000 0x7800).netRows old).applyRange 0x8000 0xC200
  let s := s.wr F.REC_CFG_MODE (fldGet mode 0 1)
  -- a unit whose parameters change is disabled for it, and counts anew from its enable (R405, R419)
  let s := (List.range 64).foldl (fun t n =>
    t.when (regs.any (fun e => decide (0x9000 + 0x40 * n ≤ e.1 ∧ e.1 < 0x9014 + 0x40 * n))) (fun t => t.wr (F.CVU_COUNT (Fin.ofNat 64 n : UIx)) 0)) s
  let s := s.declaredList.foldl (fun t d => (t.applyRange (dw d 0x10) (dw d 0x1C)).applyRange (dw d 0x118) (dw d 0x124)) s
  tabs.foldl (fun (t : State) (e : Nat × Nat) => t.setReg e.1 (BitVec.ofNat 32 e.2)) s

/-- Every axis keeps the microstep tables it uses until its next move (R197). -/
def State.keepTables (s : State) (old : List Byte) : State :=
  if secData old 9 == secData s.runImage 9 then s
  else allD.foldl (fun t d => allA.foldl (fun t a =>
    if (t.axis d a).oldTab.isNone then t.modAx d a (fun x => { x with oldTab := some (secData old 9) }) else t) t) s

/-- A commit-record write makes the load slot the running slot; 0x5B03 already carries the new generation (R355, R365). DEDUCED (log entry 169): BOOT_FAIL
clears, for the image that recovers the module is running (R357). -/
def State.switchSlots (s : State) : State :=
  let old := s.img.runGen
  let b := s.loadSlot
  let m := s.slot b
  let gen := fieldAt m 8 4
  let s := s.disarm [1]
  let s := if s.img.loadClass = 3 then { s with recd := { s.recd with fGen := some gen } } else s
  let s := { s with img := ImgH.writeCommit { s.img with
    running := some b, commit := some b, runGen := gen, load := .empty, loadClass := 0,
    genA := if b then s.img.genA else gen, genB := if b then gen else s.img.genB,
    codeA := if b then s.img.codeA else imgCode m, codeB := if b then imgCode m else s.img.codeB } }
  (s.showCfg.setF F.CFG_STATUS_BOOT_FAIL false).stage 0x5B03 sysRec [gen, old, imgCode m, b2n b]

/-- The models load, and head and drive bring-up start, for every declared doorway at entry to CONFIG (R78, R95, R188, R508), `old` being the state
before the registers were loaded: an image that changes the expected head of a link that runs is a retrain (R78). -/
def State.startLinks (s old : State) : State :=
  s.declaredList.foldl (fun t d =>
    let new := old.rd (F.HEAD_STATUS_LINK d) != 0 &&
      (t.rd (F.HEAD_EXPECT d) != old.rd (F.HEAD_EXPECT d) || t.rd (F.HEAD_EXPECT_SN d) != old.rd (F.HEAD_EXPECT_SN d))
    let t := t.loadModel d
    let t := if new then t.headRetrain d 0 else t.headBringup d
    ((t.driveTrain d).closeWin 1 d.val).openWin 1 d.val) s

/-- A region of configuration memory is clean again after a mismatch (R388 row 10, R391 row 5). -/
def State.regionClean (s : State) (r : Nat) : State :=
  let s := { s with flt := { s.flt with scrubOk := s.flt.scrubOk.filter (fun x => x.1 != r) } }
  if h : r < 24 then s.fenceClear ⟨r, h⟩ 10
  else if s.flt.scrubOk.any (fun x => decide (24 ≤ x.1)) then s else s.clearCause 5

/-- The region of configuration memory that holds an img register (R403): a doorway's, 24 for the TRN block with loops and SO outputs, 25 for check-value
units and microstep tables; 26 for what lies in none of them. -/
def regionOf (addr : Nat) : Nat :=
  if dwyOfAddr addr < 24 then dwyOfAddr addr
  else if 0x6000 ≤ addr ∧ addr < 0x7000 then 24
  else if (0x9000 ≤ addr ∧ addr < 0xA000) ∨ (0x30000 ≤ addr ∧ addr < 0x31000) then 25
  else 26

/-- A region is reloaded from the running slot (R403): its img registers take the image's values again, but for those that still wait for their point of
effect. -/
def State.reloadRegion (s : State) (r : Nat) : State :=
  (s.imgWords.filter (fun e => regionOf e.1 == r && !s.imgPend.any (fun p => p.1 == e.1))).foldl (fun t e => t.setReg e.1 (BitVec.ofNat 32 e.2)) s

/-- CONFIG_SCRUB_PASS: a pass of `us` µs over a region has ended with `val` against the reference `ref`; `kat` is the known-answer test that
follows a mismatch (R403, R406, R408). -/
def configScrubPass (region : Fin 26) (ref val : Word) (us : BitVec 16) (kat : Bool) (s : State) : State :=
  s.onM fun s =>
    match s.cvuOf 6 region.val with
    | none => s
    | some u =>
      let r := region.val
      let s := (s.cvuCheck u val.toNat (ref != val)).wr F.FLT_SCRUB_LONGEST (max (s.rd F.FLT_SCRUB_LONGEST) us.toNat)
      if ref = val then
        let s := if s.pwr.scrubbed.contains r then s else { s with pwr := { s.pwr with scrubbed := r :: s.pwr.scrubbed } }
        match s.flt.scrubOk.find? (fun x => x.1 == r) with
        | none => s
        | some x => if x.2 = 0 then { s with flt := { s.flt with scrubOk := (r, 1) :: s.flt.scrubOk.filter (fun y => y.1 != r) } } else s.regionClean r
      else
        let s := (s.wr F.FLT_SCRUB_REGION r).stage 0x4D03 (if r < 24 then r else sysRec) [r, ref.toNat, val.toNat]
        let s := { s with flt := { s.flt with scrubOk := (r, 0) :: s.flt.scrubOk.filter (fun y => y.1 != r) } }
        let s := if h : r < 24 then (s.fault ⟨r, h⟩ 0x4D03).fence ⟨r, h⟩ 10 else s.faultM.enterSafe 5
        (s.reloadRegion r).cvuTest u kat

/-- Every output is commanded off as in module SAFE, whatever MOD.STATE is (R509, R511, R514). The flag that holds them off is set before. -/
def State.dropOutputs (s : State) : State :=
  let s := s.declaredList.foldl (fun t d => ((t.torqueOff d).lockDrop d).evalChans d) s
  s.evalOutputs

/-- Entry to CONFIG (R508 step 4): img registers and models load, and the links start. -/
def State.enterConfig (s : State) : State :=
  let s := (s.wr F.MOD_STATE_STATE 1).modPwr (fun p => { p with configAt := s.now })
  s.reloadImg.startLinks s

/-- A move that a fault has started is under way: a new image waits for it (R376). -/
def State.faultMoves (s : State) : Bool := s.flt.windows.any (fun w => w.kind == 0 || decide (5 ≤ w.kind ∧ w.kind ≤ 7))

/-- A structural image becomes running through CONFIG (R355, R362, R509). -/
def State.activateStruct (s : State) : State :=
  let s := s.when s.inRun (fun t => t.modPwr (fun p => { p with runAcc := p.runAcc + (t.now - p.runFrom) }))
  let s := s.wr F.MOD_STATE_STATE 1
  let s := { s with flt := { s.flt with windows := [] } }
  let s := s.showWindows.dropOutputs
  s.switchSlots.takeLevel.takeTables.showCfg.enterConfig

/-- A non-safety or safety image becomes running (R355): tables at once, registers at their points, a placement where PLACE differs (R379)
and the rejoin of R150, code 7. No link starts again for it (R90); the exit from CONFIG loads every register (R342). -/
def State.imageRuns (s : State) : State :=
  let old := s.runImage
  let s := s.switchSlots.keepTables old
  let place := secData old 5 != secData s.runImage 5
  let s := s.takeTables
  let s := s.takeRegs
  let s := if place ∧ s.modState ≠ 1 then s.replace else s
  s.rejoinStart 7

/-! ## Verification as commands (R350, R351, R359) -/

/-- A module held in CONFIG with no image running takes an image, keys and their confirmation without authority, which it cannot claim there (R357, R429).
DEDUCED (log entry 123): R504 and R363 speak of a module that runs an image. -/
def State.recovers (s : State) : Bool := s.modState == 1 && s.img.running.isNone

/-- The image `m` of the load slot is refused: CFG_REFUSE, LOAD and 0x5B02 (R350). -/
def State.refuseImg (s : State) (m : List Byte) (x : Bad) : State :=
  let s := ((s.wr F.CFG_REFUSE_CHECK x.1).wr F.CFG_REFUSE_SECTION x.2.1).wr F.CFG_REFUSE_DETAIL x.2.2
  (s.setLoad .refusedImg).stage 0x5B02 sysRec [(s.reg F.CFG_REFUSE.addr).toNat, fieldAt m 8 4]

/-- Class of an image beside the running one, compared byte by byte (R351): 1 non-safety, 2 safety, 3 structural. -/
def State.classOf (s : State) (m : List Byte) : Nat :=
  if s.img.running.isNone || secData m 1 != secData s.runImage 1 then 3 else if secData m 2 != secData s.runImage 2 then 2 else 1

/-- The IMAGE unit checks the sections in order, up to the first whose CRC is wrong, once checks 1 to 4 have passed (R406). DEDUCED (log entry 200): a
disagreement concerns the first section, after which the unit is disabled or starts anew. -/
def State.imageUnit (s : State) (m : List Byte) (cf : CheckFault) : State :=
  let secs := ((List.range 10).map (· + 1)).filter (fun n => secLen m n != 0)
  match s.cvuOf 5 0, secs with
  | some u, n :: _ =>
    match cf with
    | .agree => (secs.take (secs.findIdx (fun n => !sectionCrcOk m n) + 1)).foldl (fun t n => t.cvuCheck u (crc32c (secData m n)) (!sectionCrcOk m n)) s
    | .unitBad => (s.cvuFails u (sectionCrcOk m n)).cvuDisagree u false
    | .primaryBad => (s.cvuCheck u (crc32c (secData m n)) (!sectionCrcOk m n)).cvuDisagree u true
  | _, _ => s

/-- IMAGE_VERIFY: CFG_CTL.VERIFY is written. The checks run; a failure is refused. `cf` says how the IMAGE check-value unit and check 5
judge the sections (R406, R408). -/
def imageVerify (cf : CheckFault) (s : State) : State :=
  s.onM fun s =>
    if !(s.hasAuth || s.recovers) then s
    else if s.img.load != .receiving then s.setF F.CFG_CTL_VERIFY false
    else
      let m := s.slot s.loadSlot
      let s := (s.setF F.CFG_CTL_VERIFY true).setLoad .verifying
      let differ := (s.cvuOf 5 0).isSome && cf != .agree
      let s := s.when ((s.imageBad m true).any (fun x => decide (5 ≤ x.1))) (fun t => t.imageUnit m cf)
      match s.imageBad m differ with
      | none => { s with img := { s.img with checked := true } }
      | some x =>
        (s.setF F.CFG_CTL_VERIFY false).refuseImg m x

/-- The keystore takes the content of KEYS (R358), and its lower copy is rewritten (R336). -/
def State.setKeys (s : State) (b : List Byte) : State :=
  { s with img := ImgH.writeKeys { s.img with keys := keysOf b, keyGen := fieldAt b 0 4 } }

/-- A keystore has taken effect: 0x5B07 with the signing keys (R359). -/
def State.tellKeys (s : State) (k0 k1 : Nat) : State :=
  let s := s.showCfg
  s.stage 0x5B07 sysRec [s.img.keyGen, s.rd F.KEY_STATUS_ENROLLED, k0 + k1 * 256]

/-- A keystore of the load slot takes effect (R358, R359). -/
def State.takeKeys (s : State) (k0 k1 : Nat) : State :=
  ((s.disarm [2]).setKeys (secData (s.slot s.loadSlot) 1)).setLoad .empty |>.tellKeys k0 k1

/-- IMAGE_VERIFIED: a verification that passed comes to its end; the image is running, pending or the keystore (R351, R359). -/
def imageVerified (s : State) : State :=
  s.onM fun s =>
    if s.img.load != .verifying || !s.img.checked then s
    else
      let m := s.slot s.loadSlot
      let key := fun n => nth ((sigEntries m).map (fun e => fieldAt e 0 1)) n 0xFF
      let s := ({ s with img := { s.img with checked := false, loadKind := fieldAt m 16 1 } } : State).setF F.CFG_CTL_VERIFY false
      if fieldAt m 16 1 = 1 then
        if fieldAt (secData m 10) 0 1 = 0 then State.setLoad { s with img := { s.img with loadClass := 0 } } .pendingImg
        else s.takeKeys (key 0) (key 1)
      else
        let cls := s.classOf m
        let s := { s with img := { s.img with loadClass := cls } }
        let s := (s.setLoad .pendingImg).stage 0x5B01 sysRec [fieldAt m 8 4, cls, imgCode m, key 0]
        if cls = 1 then s.imageRuns else s

/-- DISCARD: CFG_CTL.DISCARD is written (R355). -/
def discard (s : State) : State := s.onM fun s => if !(s.hasAuth || s.recovers) then s else (s.discardImg 2).setF F.CFG_CTL_DISCARD false

/-! ## Confirmation (R353, R354, R361) -/

/-- What a target's code is now, if anything is pending for it (R352). -/
def State.pendingCode (s : State) (target : Nat) (d : Nat) : Option Nat :=
  match target with
  | 1 => if s.img.load == .pendingImg && s.img.loadKind == 0 then some (imgCode (s.slot s.loadSlot)) else none
  | 2 => if s.img.load == .pendingImg && s.img.loadKind == 1 then some (imgCode (s.slot s.loadSlot)) else none
  | 3 => if h : d < 24 then (if s.on ⟨d, h⟩ && s.flag (F.TOPI_STATUS_PENDING ⟨d, h⟩) then some (s.rd (F.PENDING_DIGEST ⟨d, h⟩)) else none) else none
  | _ => none

/-- The message of a model signature (R361). -/
def modelMsg (d digest serial : Nat) : List Byte := [0x4D, 0x43, 0x4E, 0x46] ++ leBytes 1 d ++ [0, 0, 0] ++ leBytes 4 digest ++ leBytes 4 serial

/-- Does a model's signature hold? -/
def State.modelSigOk (s : State) (d digest key : Nat) (sig : List Byte) : Bool :=
  let k := nth s.img.keys key {}
  let serial := if h : d < 24 then modelSerial (s.topi ⟨d, h⟩).pending else 0
  decide (key < 4) && k.enrolled && Config.ed25519 k.pub (Config.sha256 (modelMsg d digest serial)) sig

/-- Why a confirm telegram is refused (R354), 0 when it is not. The causes are tried in the order 3, 2, 1, 4 (log entry 18). -/
def State.confirmCause (s : State) (consist : Bool) (target d code key : Nat) (sig : List Byte) : Nat :=
  if consist then 3
  else match s.pendingCode target d with
  | none => 2
  | some c => if c ≠ code then 1 else if target = 3 ∧ s.modelSigOk d code key sig = false then 4 else 0

/-- A confirm telegram (R353, R354): it arms the confirmation, or is refused with its cause. -/
def State.confirm (s : State) (consist : Bool) (target d code key : Nat) (sig : List Byte) : State :=
  let byte8 := if target = 3 then d else sysRec
  let cause := s.confirmCause consist target d code key sig
  if cause ≠ 0 then s.stage 0x5B05 byte8 [target, cause, code]
  else
    let a : Arm := { target := target, dwy := d, code := code, key := key, until_ := s.now + msT 60000 }
    let s := { s with img := { s.img with arm := some a } }
    let s := ((s.wr F.ARM_TARGET target).wr F.ARM_DOORWAY (if target = 3 then d else 0)).wr F.ARM_REMAIN 600
    s.stage 0x5B04 byte8 [target, code]

/-- COMMIT_PRESS: COMMIT was held for `ms` and released (R353, R354); a press that
stood with REMOVE counts for nothing (R544). -/
def commitPress (ms : Nat) (s : State) : State :=
  s.onM fun s =>
    if s.pwr.bothC then ({ s with pwr := { s.pwr with bothC := false } } : State).setF F.PANEL_COMMIT false
    else if ms < 200 ∨ (s.hasAuth || s.recovers) = false then s
    else match s.img.arm with
    | none => s
    | some a =>
      if a.until_ ≤ s.now then s
      else
        let s := ({ s with img := { s.img with arm := none } } : State).wr F.ARM 0
        match a.target with
        | 1 => if s.img.loadClass = 3 then s.setLoad .waitingImg else s.imageRuns
        | 2 => s.takeKeys 0xFF 0xFF
        | _ => if h : a.dwy < 24 then s.confirmAt ⟨a.dwy, h⟩ a.key else s

/-- CONFIRM_LAPSED: 60 s passed without COMMIT (R354). -/
def confirmLapsed (s : State) : State :=
  s.onM fun s =>
    match s.img.arm with
    | none => s
    | some a =>
      if s.now < a.until_ then s
      else
        let s := ({ s with img := { s.img with arm := none } } : State).wr F.ARM 0
        s.stage 0x5B06 (if a.target = 3 then a.dwy else sysRec) [a.target]

/-! ## Loading (R350, R356) -/

/-- Bytes written over a slot at an offset; what lies between is erased. -/
def writeAt (slot : List Byte) (off : Nat) (b : List Byte) : List Byte :=
  (if slot.length < off then slot ++ List.replicate (off - slot.length) 0xFF else slot.take off) ++ b ++ slot.drop (off + b.length)

/-- A LOAD item is applied: the first one discards what is pending or waiting and starts a new load (R350, R356). -/
def State.loadBytes (s : State) (off : Nat) (b : List Byte) : State :=
  let s := s.discardImg 1
  let fresh := s.img.load != .receiving
  let put := fun l => writeAt (if fresh then [] else l) off b
  let s := { s with img := { s.img with checked := false, slotA := if s.loadSlot then s.img.slotA else put s.img.slotA,
                                        slotB := if s.loadSlot then put s.img.slotB else s.img.slotB } }
  let s := { s with img := { s.img with loadKind := fieldAt (s.slot s.loadSlot) 16 1 % 2 } }
  (s.setF F.CFG_CTL_VERIFY false).setLoad .receiving

/-! ## Image flash at BOOT (R336, R357, R360) -/

/-- Why a slot fails at BOOT, as the cause of 0x4B01, if it does. -/
def State.bootImgBad (s : State) (b : Bool) : Option Nat :=
  let m := s.slot b
  let code := if b then s.img.codeB else s.img.codeA
  if (checkHdr m).isSome && fieldAt m 12 4 == m.length then some 1
  else if fieldAt m 12 4 ≠ m.length then some 3
  else if (List.range 10).any (fun n => !sectionCrcOk m (n + 1)) then some 2
  else if imgCode m ≠ code then some 4
  else none

/-- The image checks of BOOT (R357): a WAITING image becomes the running slot first (R355), the running slot is checked, and a pending or
waiting image that fails the same checks is discarded. -/
def State.bootImage (s : State) : State :=
  let s := if s.imgHeld ∧ (s.bootImgBad s.loadSlot).isSome = true then s.discardImg 3 else s
  let ok := s.img.load == .waitingImg
  let m := s.slot s.loadSlot
  let s := { s with img := { s.img with running := s.img.commit, loadKind := if s.imgHeld then fieldAt m 16 1 else 0 } }
  let s := { s with img := { s.img with loadClass := if s.imgHeld && fieldAt m 16 1 == 0 then s.classOf m else 0 } }
  let s := if ok then s.switchSlots else s
  let s := match s.img.running with
    | none => s
    | some b => match s.bootImgBad b with
      | none => s
      | some c =>
        let s := ({ s with img := { s.img with running := none } } : State).setF F.CFG_STATUS_BOOT_FAIL true
        s.stage 0x4B01 sysRec [b2n b, c]
  s.takeLevel.takeTables.showCfg

/-! ## The commands of this file -/

/-- The meaning of CONFIG_SCRUB_PASS (R403). -/
def execConfigScrubPass (region : Fin 26) (ref val : Word) (us : BitVec 16) (kat : Bool) (s : State) : Host.Outcome State Fault Refusal := .next (s.done (configScrubPass region ref val us kat s))

/-- The meaning of IMAGE_VERIFY (R350). -/
def execImageVerify (cf : CheckFault) (s : State) : Host.Outcome State Fault Refusal := .next (s.done (imageVerify cf s))

/-- The meaning of IMAGE_VERIFIED (R351). -/
def execImageVerified (s : State) : Host.Outcome State Fault Refusal := .next (s.done (imageVerified s))

/-- The meaning of DISCARD (R355). -/
def execDiscard (s : State) : Host.Outcome State Fault Refusal := .next (s.done (discard s))

/-- The meaning of COMMIT_PRESS (R354). -/
def execCommitPress (ms : Nat) (s : State) : Host.Outcome State Fault Refusal := .next (s.done (commitPress ms s))

/-- The meaning of CONFIRM_LAPSED (R354). -/
def execConfirmLapsed (s : State) : Host.Outcome State Fault Refusal := .next (s.done (confirmLapsed s))

end Sys2Proof.Machine
end

