-- ==== Sys2Proof/Machine/Recorder.lean ====
section
/-!
DEFINITION. Machine/Recorder.lean: the cycle recorder (chapter 15): numbers, page buffers and programs (R447–R454), areas and blocks (R455–R458),
slot classes (R459, R460), the snapshot and forensic windows (R461–R464), histograms and checkpoints (R465–R469), scrub and refresh (R470, R471)
and the stop (R472).
-/
namespace Sys2Proof.Machine

/-! ## Records and slots (R443, R444, R448, R459) -/

/-- Highest number assignable (R447). -/
def lastNumber : Nat := 0xFFFFFFFFFFFE

/-- The 64 bytes of a record with a number; AREA_F and ADJ are set as it is programmed (R443, R444, R448). -/
def recBytes (num : Nat) (r : Rec) (areaF : Bool) : List Byte :=
  let body := fun flags =>
    leBytes 6 num ++ leBytes 2 r.code ++ leBytes 1 r.dwy ++ leBytes 1 flags ++ leBytes 2 r.rep ++ leBytes 4 r.gen ++
    (List.range 11).flatMap (fun i => leBytes 4 (nth r.ws i 0))
  let flags := r.flags + (if areaF then 8 else 0)
  let b := body flags
  if crc32c b = 0xFFFFFFFF then withCrc (body (flags + 128)) else withCrc b

/-- Bytes of a slot of the record area; a slot never written reads 0xFF (R459). -/
def State.slotBytes (s : State) (n : Nat) : List Byte := match s.recd.slots.find? (fun x => x.1 == n) with | some x => x.2 | none => List.replicate 64 0xFF

/-- Class of 64 bytes whose two reads agree (R459). -/
def slotClassOf (b : List Byte) : SlotClass :=
  if b.all (· == 0xFF) then .erased
  else if fieldAt b 60 4 ≠ 0xFFFFFFFF ∧ fieldAt b 60 4 = crc32c (b.take 60) then .committed
  else if fieldAt b 60 4 = 0xFFFFFFFF then .uncommitted
  else .torn

/-- Class of a slot (R459, R470). -/
def State.slotClass (s : State) (n : Nat) : SlotClass :=
  let c := slotClassOf (s.slotBytes n)
  if c = .committed ∧ s.recd.tornIdx.contains n then .torn else c

/-- Number of a stored record. -/
def seqOf (b : List Byte) : Nat := fieldAt b 0 6

/-- Block of a slot (R455). -/
def blkOfSlot (n : Nat) : Nat := 4 + n / 4096

/-! ## Blocks and streams (R455–R458) -/

/-- What is known of a block. -/
def State.blk (s : State) (b : Nat) : Blk := Al.get (fun _ => {}) s.recd.blks b

/-- Change a block. -/
def State.modBlk (s : State) (b : Nat) (f : Blk → Blk) : State :=
  { s with recd := { s.recd with blks := Al.set (fun _ => {}) s.recd.blks b (f (s.blk b)) } }

/-- Effective mode SEV (R457): the directory's mode. -/
def State.modeSev (s : State) : Bool := s.recd.dir.mode == 1

/-- Stream of a record: its severity in mode SEV, one stream otherwise (R452). -/
def State.streamOf (s : State) (r : Rec) : Nat := if s.modeSev then r.flags % 4 else 0

/-- A stream. -/
def State.strm (s : State) (i : Nat) : Stream := nth s.recd.strms i {}

/-- Change a stream. -/
def State.modStrm (s : State) (i : Nat) (f : Stream → Stream) : State := { s with recd := { s.recd with strms := setNth s.recd.strms i (f (s.strm i)) } }

/-- Show RETIRED, F_STATE, mode, F_COUNT and REFRESHES (R474). -/
def State.showArea (s : State) : State :=
  let d := s.recd.dir
  let s := s.wrSat F.REC_STATUS_RETIRED (s.recd.blks.countP (fun x => x.2.retired))
  let s := (s.wr F.REC_STATUS_F_STATE d.fState).wr F.REC_STATUS_MODE d.mode
  (s.wr F.REC_AREA_F_COUNT d.fCount).wrSat F.REC_AREA_REFRESHES d.refreshes

/-- Stop the recorder (R472). -/
def State.stopRecorder (s : State) (cause : Nat) : State := (s.setF F.REC_STATUS_STOPPED true).wr F.REC_STATUS_STOP_CAUSE cause

/-- Is a block held by a stream, being erased, part of area F, or the copy of a refresh? -/
def State.blkBusy (s : State) (b : Nat) : Bool :=
  s.recd.strms.any (fun t => t.blk == some b || t.ready == some b) || (match s.recd.erasing with | some e => e.2 == b | none => false) ||
  (decide (s.recd.dir.fState ≠ 0) && !s.modeSev && s.recd.dir.fBlocks.contains b) || s.recd.copies.any (fun c => c.2 == b)

/-- Blocks of a severity, counting its write block. -/
def State.blksOfSev (s : State) (sev : Nat) : Nat := s.recd.blks.countP (fun x => x.2.used && !x.2.retired && x.2.sev == sev)

/-- The block that stream i takes next (R456, R457): an unused one, the lowest index first, else the one with the lowest first number that
the stream may erase. -/
def State.pickBlock (s : State) (i : Nat) : Option Nat :=
  let all := (List.range 1020).map (· + 4)
  let free := all.filter (fun b => !s.blkBusy b && !(s.blk b).retired)
  match free.find? (fun b => !(s.blk b).used) with
  | some b => some b
  | none =>
    let ok := fun b => !s.modeSev || (decide ((s.blk b).sev ≤ i) && ((s.blk b).sev == i || decide (8 < s.blksOfSev (s.blk b).sev)))
    (free.filter ok).foldl (fun best b => match best with
      | none => some b
      | some c => if (s.blk b).first < (s.blk c).first then some b else some c) none

/-- The block of area F that is written next (R456): the first that has taken no record of F yet and is not retired (R458). -/
def State.nextF (s : State) : Option Nat :=
  s.recd.dir.fBlocks.find? (fun b => !(s.blk b).retired && !((s.blk b).used && (s.blk b).areaF))

/-- The stream needs another block soon: 64 or fewer free pages (R458). -/
def Stream.low (t : Stream) : Bool := t.blk.isNone || decide (448 ≤ t.page)

/-- A writable page is ready for a stream (R452). -/
def State.writable (s : State) (i : Nat) : Bool := match (s.strm i).blk with | some _ => decide ((s.strm i).page < 512) | none => false

/-- Make the next block ready for a stream, erasing it if it holds anything (R458). No block left writable for the stream stops the recorder (R472). -/
def State.prepare (s : State) (i : Nat) : State :=
  let t := s.strm i
  if t.ready.isSome || !t.low || s.flag F.REC_STATUS_STOPPED then s
  else
    let inF := !s.modeSev && s.recd.dir.fState == 1 && i == 0
    match (match (if inF then s.nextF else none) with | some b => some b | none => s.pickBlock i) with
    | none => if s.recd.erasing.isSome || s.writable i then s else s.stopRecorder 2
    | some b =>
      if !(s.blk b).used then s.modStrm i (fun t => { t with ready := some b })
      else if s.recd.erasing.isSome then s
      else { s with recd := { s.recd with erasing := some (i, b) } }

/-- A stream moves to its ready block when its write block is full or absent. -/
def State.advance (s : State) (i : Nat) : State :=
  let s := s.prepare i
  let t := s.strm i
  let s := if t.blk.isNone || decide (512 ≤ t.page) then
      match t.ready with
      | some b => (s.modStrm i (fun _ => { blk := some b, page := 0, ready := none })).modBlk b (fun x => { x with
          used := true, sev := i, first := 0, last := 0, areaF := !s.modeSev && s.recd.dir.fState == 1 && s.recd.dir.fBlocks.contains b })
      | none => s
    else s
  s.prepare i

/-- Does stream i write into area F now (R456)? -/
def State.intoF (s : State) (i : Nat) : Bool :=
  !s.modeSev && i == 0 && s.recd.dir.fState == 1 && (match (s.strm 0).blk with | some b => s.recd.dir.fBlocks.contains b | none => false)

/-- A change of the directory (R467). -/
def State.modDir (s : State) (f : Dir → Dir) : State :=
  State.showArea { s with recd := { s.recd with dir := { (f s.recd.dir) with gen := s.recd.dir.gen + 1 } } }

/-- Take n blocks for area F: unused ones first, then those with the lowest first numbers. -/
def State.pickF (s : State) : Nat → State
  | 0 => s
  | n + 1 =>
    let s := s.pickF n
    match s.pickBlock 0 with
    | some b => { s with recd := { s.recd with dir := { s.recd.dir with fBlocks := s.recd.dir.fBlocks ++ [b] } } }
    | none => s

/-- Area F opens (R456): sixteen blocks are set aside, and the stream moves into the first of them. -/
def State.openF (s : State) : State :=
  let s := { s with recd := { s.recd with dir := { s.recd.dir with fState := 1, fCount := 0, fBlocks := [], fTime := 0, fHours := 0 }, fHoursAt := s.now, fGen := none } }
  let s := s.pickF 16
  let s := s.modDir (fun d => d)
  (s.modStrm 0 (fun _ => { blk := none, page := 0, ready := none })).advance 0

/-- Block `b` of area F takes no further page: with no other left, F is FULL, and the stream goes on in area C (R456). DEDUCED (log entry 203): a
retired block of F leaves its free slots unused. -/
def State.endF (s : State) (b : Nat) : State :=
  if s.modeSev || s.recd.dir.fState != 1 || s.nextF.isSome then s
  else (s.modDir (fun d => { d with fState := 2 })).modStrm 0 (fun t => if t.blk = some b then { t with blk := none, page := 0 } else t)

/-! ## Histograms and extremes (R465, R466) -/

/-- Lowest edge and width of histogram h (R465). -/
def histBase (h : Nat) : Int × Nat :=
  nth [(0, 100), (0, 100), (-80, 15), (-80, 15), (0, 50), (0, 50), (-1280, 80), (0, 1000), (0, 500), (0, 10), (0, 10), (0, 50), (0, 50), (-128, 8),
    (-128, 8), (0, 8)] h (0, 1)

/-- The value that a cycle record gives histogram h, if the cycle measured it (R449, R465). -/
def histValue (ws : List Nat) (h : Nat) : Option Int :=
  let w := fun i => nth ws i 0
  let u := fun (i lo n none_ : Nat) => if bitsOf (w i) lo n = none_ then none else some ((bitsOf (w i) lo n : Nat) : Int)
  let sg := fun (i lo n none_ : Nat) => if bitsOf (w i) lo n = none_ then none else some (signed n (bitsOf (w i) lo n))
  match h with
  | 0 => u 0 0 16 0xFFFF
  | 1 => u 0 16 16 0xFFFF
  | 2 => sg 1 0 16 0x8000
  | 3 => sg 1 16 16 0x8000
  | 4 => some ((bitsOf (w 3) 0 16 : Nat) : Int)
  | 5 => if bitOf (w 5) 19 then sg 4 0 16 0x8000 else none
  | 6 => if bitOf (w 5) 19 then sg 4 16 16 0x8000 else none
  | 7 => if 1 ≤ bitsOf (w 5) 16 3 ∧ bitsOf (w 5) 16 3 ≤ 4 then some ((bitsOf (w 5) 0 16 : Nat) : Int) else none
  | 8 => some ((w 6 : Nat) : Int)
  | 9 => u 8 0 12 0xFFF
  | 10 => u 8 12 12 0xFFF
  | 11 => u 9 0 12 0xFFF
  | 12 => u 9 12 12 0xFFF
  | 13 => sg 8 24 8 0x80
  | 14 => sg 9 24 8 0x80
  | _ => u 7 16 8 0xFF

/-- Count one value in histogram h (R465, R466). -/
def Hist.add (x : Hist) (num h : Nat) (v : Int) : Hist :=
  let base := histBase h
  let bin := (clampI 0 31 ((v - base.1) / (base.2 : Int))).toNat
  let up := fun (l : List (Nat × Nat)) k => Al.set (fun _ => 0) l k (min 0xFFFFFFFF (Al.get (fun _ => 0) l k + 1))
  let lower := match Al.get (fun _ => none) x.ext (2 * h) with | some e => decide (v < e.1) | none => true
  let higher := match Al.get (fun _ => none) x.ext (2 * h + 1) with | some e => decide (e.1 < v) | none => true
  let e1 := if lower then Al.set (fun _ => none) x.ext (2 * h) (some (v, num)) else x.ext
  let e2 := if higher then Al.set (fun _ => none) e1 (2 * h + 1) (some (v, num)) else e1
  { bins := up x.bins (32 * h + bin), tot := up x.tot h, ext := e2 }

/-- Count a whole cycle record. -/
def Hist.addCycle (x : Hist) (num : Nat) (ws : List Nat) : Hist :=
  (List.range 16).foldl (fun y h => match histValue ws h with | some v => y.add num h v | none => y) x

/-- The deltas that a counted cycle record gives the partner (R426, R473): one entry per bin increment and per new extreme. -/
def histDeltas (d num : Nat) (old new : Hist) (ws : List Nat) : List (List Byte) :=
  (List.range 16).flatMap (fun h =>
    match histValue ws h with
    | none => []
    | some v =>
      let base := histBase h
      let bin := (clampI 0 31 ((v - base.1) / (base.2 : Int))).toNat
      let ext := fun k => if Al.get (fun _ => none) old.ext k == Al.get (fun _ => none) new.ext k then []
        else [leBytes 1 d ++ [2] ++ leBytes 1 k ++ [0] ++ leBytes 4 (unsigned 32 v) ++ leBytes 4 num]
      [leBytes 1 d ++ [1] ++ leBytes 1 h ++ leBytes 1 bin ++ leBytes 4 1 ++ [0, 0, 0, 0]] ++ ext (2 * h) ++ ext (2 * h + 1))

/-- Histograms of a doorway number. -/
def State.histOf (s : State) (d : Nat) : Hist := if h : d < 24 then (s.dwy ⟨d, h⟩).hist else {}

/-- Change the histograms of a doorway number. -/
def State.modHist (s : State) (d : Nat) (f : Hist → Hist) : State := if h : d < 24 then s.modDwy ⟨d, h⟩ (fun x => { x with hist := f x.hist }) else s

/-! ## Checkpoints (R467, R468) -/

/-- Hours of operation since area F opened or was refreshed (R467). -/
def State.fHoursNow (s : State) : Nat :=
  if !s.modeSev && s.recd.dir.fState == 0 then s.recd.dir.fHours else s.recd.dir.fHours + (s.now - s.recd.fHoursAt) / msT 3600000

/-- F_HOURS enters the directory, which is a change of it (R467). -/
def State.noteHours (s : State) : State :=
  let n := s.fHoursNow - s.recd.dir.fHours
  if n = 0 then s
  else State.modDir { s with recd := { s.recd with fHoursAt := s.recd.fHoursAt + n * msT 3600000 } } (fun d => { d with fHours := d.fHours + n })

/-- Histograms and extremes in the layout of bytes 128–2623 of R467. -/
def histBytes (h : Hist) : List Byte :=
  (List.range 512).flatMap (fun k => leBytes 4 (Al.get (fun _ => 0) h.bins k)) ++ (List.range 16).flatMap (fun k => leBytes 4 (Al.get (fun _ => 0) h.tot k)) ++
  (List.range 32).flatMap (fun k => match Al.get (fun _ => none) h.ext k with
    | some e => leBytes 4 (unsigned 32 e.1) ++ leBytes 6 e.2 ++ [0, 0]
    | none => List.replicate 12 0)

/-- The 4 KiB of a checkpoint image (R467). -/
def ckBytes (i : CkImg) : List Byte :=
  let d := i.dir
  withCrc (leBytes 4 0x54504B43 ++ leBytes 1 i.dwy ++ leBytes 1 (b2n i.roll) ++ leBytes 2 0 ++ leBytes 4 i.no ++ leBytes 6 i.lastSeq ++ leBytes 2 0 ++
    leBytes 4 d.gen ++ leBytes 1 d.mode ++ leBytes 1 d.fState ++ leBytes 2 d.refreshes ++ leBytes 4 d.fCount ++
    (List.range 16).flatMap (fun k => leBytes 2 (nth d.fBlocks k 0)) ++ leBytes 8 d.fTime ++ leBytes 4 d.fHours ++ leBytes 6 d.epochSeq ++ leBytes 2 0 ++
    List.replicate 44 0 ++ histBytes i.hist ++ List.replicate 1468 0xFF)

/-- Put one image of a doorway number (0xFF: directory only) into slot r of a block; its adaptation offsets are stored with it (R125). -/
def State.putImage (s : State) (blk r d : Nat) (roll : Bool) : State :=
  let s := s.noteHours
  let pos := s.recd.ckImgs.countP (fun i => i.blk == blk && i.slot == r)
  let img : CkImg := { blk := blk, slot := r, pos := pos, dwy := d, roll := roll, no := s.recd.ckNo + 1, lastSeq := Al.get (fun _ => 0) s.recd.ckLast d,
                       dir := s.recd.dir, hist := if h : d < 24 then (s.dwy ⟨d, h⟩).hist else {} }
  let s := if h : d < 24 then s.storeOffsets ⟨d, h⟩ else s
  { s with recd := { s.recd with ckNo := s.recd.ckNo + 1, ckImgs := s.recd.ckImgs ++ [img], ckSince := Al.set (fun _ => 0) s.recd.ckSince d 0 } }

/-- A roll into an erased block (R468): it takes an image of every declared doorway and of every directory-only slot, and becomes current; every image
asked for meanwhile is among them. -/
def State.rollInto (s : State) (b : Nat) : State :=
  let dirs := s.recd.ckImgs.any (fun i => i.dwy == 0xFF && i.blk != b) || s.declaredList.isEmpty
  let s := { s with recd := { s.recd with ckImgs := s.recd.ckImgs.filter (fun i => i.blk != b) } }
  let s := s.declaredList.foldl (fun t d => if t.resOf d poolRec = noRes then t else t.putImage b (t.resOf d poolRec) d.val true) s
  let s := if dirs then s.putImage b 0 0xFF true else s
  State.setF (State.setF { s with recd := { s.recd with ckBlk := b, roll := none, rollBoot := false } } F.REC_STATUS_ROLLING false) F.REC_CTL_CHECKPOINT false

/-- The block that the next roll erases (R468): the next in order that is not retired. -/
def State.nextCk (s : State) : Option Nat :=
  ((List.range 3).map (fun k => (s.recd.ckBlk + 1 + k) % 4)).find? (fun b => !(s.blk b).retired)

/-- The erase of a roll starts as soon as no other erase runs (R455, R468). -/
def State.rollErase (s : State) : State :=
  match s.recd.roll, s.recd.erasing with
  | some (b, false), none => { s with recd := { s.recd with erasing := some (4, b) } }
  | _, _ => s

/-- A roll starts (R468). DEDUCED (log entry 172): one whose block does not erase goes on with the block after it. -/
def State.roll (s : State) : State :=
  match s.nextCk with
  | some b => (State.setF { s with recd := { s.recd with roll := some (b, false) } } F.REC_STATUS_ROLLING true).rollErase
  | none => State.setF { s with recd := { s.recd with roll := none, rollBoot := false } } F.REC_STATUS_ROLLING false

/-- A checkpoint image of a doorway, or a directory-only image to slot 0 (R467, R468). Before READY the histograms are not known yet (R469), and during
a roll the image waits for those of the roll. -/
def State.writeImage (s : State) (d : Nat) : State :=
  let r := if h : d < 24 then s.resOf ⟨d, h⟩ poolRec else 0
  if r = noRes || !s.flag F.REC_STATUS_READY || s.recd.roll.isSome then s
  else if 2 ≤ s.recd.ckImgs.countP (fun i => i.blk == s.recd.ckBlk && i.slot == r) then s.roll
  else s.putImage s.recd.ckBlk r d false

/-- An image of every declared doorway, or a directory-only image where none is declared (R467). -/
def State.writeImages (s : State) : State :=
  if s.declaredList.isEmpty then s.writeImage 0xFF else s.declaredList.foldl (fun t d => t.writeImage d.val) s

/-- A checkpoint slot failed a program or a read-back: the next image goes to the highest-index spare (R375). -/
def State.ckSlotFault (s : State) (r : Nat) : State :=
  if s.fm poolRec r = 3 then s
  else
    let s := s.setFm poolRec r 3
    match s.userOf poolRec r with
    | none => s.faultM
    | some d =>
      let s := s.fault d 0x4C03
      match s.pickSpare d poolRec with
      | some n => ((s.rebind d poolRec n 2).stage 0x4C03 d.val [r, n])
      | none => (s.stage 0x4C03 d.val [r, 0xFF]).unplace d poolRec

/-! ## Numbers (R447, R436) -/

/-- The limit that R436 sets on the next number, if the partner is STANDBY: 4,096 above REC_SEQ of the epoch it acknowledged. -/
def State.numberLimit (s : State) : Option Nat :=
  if s.rd F.RP_STATUS_ROLE = 3 ∧ s.partnerRole = 2 then
    match s.pair.sentSeq.find? (fun e => e.1 == s.pair.ackGen) with
    | some e => some (e.2 + 4096)
    | none => none
  else none

/-- Show REC_NEXT (R460: 0 until READY). -/
def State.showNext (s : State) : State :=
  let n := if s.flag F.REC_STATUS_READY then s.recd.next else 0
  (s.wr F.REC_NEXT_LO (n % 2 ^ 32)).wr F.REC_NEXT_HI_HI (n / 2 ^ 32)

/-- A claim sets the next number to 4,096 above the highest number received or held (R436), and to the last one at most (R447); before READY it waits
for the boot fence. -/
def State.fenceNumbers (s : State) (highest : Nat) : State :=
  if s.flag F.REC_STATUS_READY then State.showNext { s with recd := { s.recd with next := min lastNumber (max s.recd.next highest + 4096) } }
  else { s with recd := { s.recd with claimMax := some (max highest (s.recd.claimMax.getD 0)) } }

/-! ## Queue, buffers and programs (R450–R454) -/

/-- After a loss, LOST_EVENTS is staged as soon as an entry is free (R453). -/
def State.stageLost (s : State) : State :=
  let h := s.recd
  if h.lostN = 0 ∨ 488 ≤ s.stagedN ∨ s.flag F.REC_STATUS_STOPPED then s
  else
    let r : Rec := { code := 0xF004, dwy := sysRec, flags := 3 + 16, rep := 1, gen := s.img.runGen, ws := [h.lostN, 1, h.lostFirst, h.lostLast] }
    State.showFill { s with recd := { h with queue := h.queue ++ [r], lostN := 0, lostFirst := 0, lostLast := 0 } }

/-- Is a page buffer due for programming (R452, R514)? -/
def State.bufDue (s : State) (b : PageBuf) : Bool :=
  decide (8 ≤ b.recs.length) || b.recs.any (fun x => x.2.flags % 4 == 3) || (!b.recs.isEmpty && (s.past b.since (msT 1000) || s.flag F.PWR_STATUS_KEEP_ENTRY))

/-- The record that takes the last number stands in a page buffer: it is written before the recorder stops (R447). -/
def State.lastWaits (s : State) : Bool := s.recd.numbersOut && s.recd.bufs.any (fun b => b.recs.any (fun x => x.1 == lastNumber))

/-- Start programming the buffer of stream i: not in a stopped recorder (R472), nor before a roll found incomplete at BOOT is complete (R468). -/
def State.startProgram (s : State) (i : Nat) : State :=
  let b := nth s.recd.bufs i {}
  match s.recd.prog, (s.strm i).blk with
  | none, some blk =>
    if b.recs.isEmpty || !s.writable i || s.recd.rollBoot || (s.flag F.REC_STATUS_STOPPED && !s.lastWaits) then s
    else
      let p : PageProg := { stream := i, blk := blk, page := (s.strm i).page, areaF := s.intoF i, recs := b.recs }
      let s := { s with recd := { s.recd with prog := some p, bufs := setNth s.recd.bufs i {} } }
      s.modStrm i (fun t => { t with page := t.page + 1 })
  | _, _ => s

/-- The record at the head of the queue opens area F (R456). -/
def State.opensF (s : State) (r : Rec) : Bool := !s.modeSev && s.recd.dir.fState == 0 && r.code == 0x5B03 && s.recd.fGen == some (nth r.ws 0 0)

/-- Start the next program: the due buffer whose first record entered earliest. What stands in the buffer when the opening record of area F
comes to the head is programmed into area C before it (R456). -/
def State.nextProgram (s : State) : State :=
  if s.recd.prog.isSome || (s.flag F.REC_STATUS_STOPPED && !s.lastWaits) then s
  else
    let opening := match s.recd.queue.head? with | some r => s.opensF r | none => false
    let due := (List.range 4).filter (fun i => s.bufDue (nth s.recd.bufs i {}) || (opening && !(nth s.recd.bufs i {}).recs.isEmpty))
    match due.foldl (fun best i => match best with
        | none => some i
        | some j => if (nth s.recd.bufs i {}).since < (nth s.recd.bufs j {}).since then some i else some j) none with
    | some i => (s.advance i).startProgram i
    | none => s

/-- A record takes its number and enters its page buffer (R447, R452, R465, R467). -/
def State.takeNumber (s : State) (r : Rec) : State :=
  let n := s.recd.next
  let i := s.streamOf r
  let b := nth s.recd.bufs i {}
  let b' : PageBuf := { recs := b.recs ++ [(n, r)], since := if b.recs.isEmpty then s.now else b.since }
  let s := State.showNext { s with recd := { s.recd with next := n + 1, bufs := setNth s.recd.bufs i b' } }
  if r.code = 0x1001 ∧ r.dwy < 24 then
    let old := s.histOf r.dwy
    let s := s.modHist r.dwy (fun h => h.addCycle n r.ws)
    let s := { s with pair := { s.pair with deltas := s.pair.deltas ++ histDeltas r.dwy n old (s.histOf r.dwy) r.ws } }
    let c := Al.get (fun _ => 0) s.recd.ckSince r.dwy + 1
    let s := { s with recd := { s.recd with ckSince := Al.set (fun _ => 0) s.recd.ckSince r.dwy c, ckLast := Al.set (fun _ => 0) s.recd.ckLast r.dwy n } }
    if 1024 ≤ c then s.writeImage r.dwy else s
  else s

/-- The recorder can take numbers (R460, R472), and the page buffer of stream i is not being programmed (R452). -/
def State.bufFree (s : State) (i : Nat) : Bool :=
  s.flag F.REC_STATUS_READY && !s.flag F.REC_STATUS_STOPPED && (match s.recd.prog with | some p => p.stream != i | none => true)

/-- May a record leave the queue (R452), under the limit that R436 sets? -/
def State.mayLeave (s : State) (r : Rec) (lim : Option Nat) : Bool :=
  let i := s.streamOf r
  s.bufFree i && decide ((nth s.recd.bufs i {}).recs.length < 8) && s.writable i && !s.opensF r &&
  (match lim with | some l => decide (s.recd.next < l) | none => true)

/-- 0x4F02, which takes the last number (R447). -/
def State.lastRec (s : State) : Rec := { code := 0x4F02, dwy := sysRec, flags := 3, rep := 1, gen := s.img.runGen, ws := [1] }

/-- The head of the queue takes its number and moves to its page buffer, if R452 lets it leave; the last number goes to 0x4F02 ahead of it, and the
recorder stops (R447). Area F opens first for the record that opens it, with the page buffer empty (R456). The Bool says whether it left. -/
def State.headLeaves (s : State) (lim : Option Nat) : State × Bool :=
  match s.recd.queue with
  | [] => (s, false)
  | h :: rest =>
    let last := decide (lastNumber ≤ s.recd.next)
    let r := if last then s.lastRec else h
    let i := s.streamOf r
    let s := s.when (!last && s.opensF r && s.bufFree i && (nth s.recd.bufs i {}).recs.isEmpty) State.openF
    let s := s.advance i
    if !s.mayLeave r lim then (s, false)
    else if last then (State.stopRecorder { (s.takeNumber r) with recd := { (s.takeNumber r).recd with numbersOut := true } } 1, true)
    else (State.showFill (State.takeNumber { s with recd := { s.recd with queue := rest } } r), true)

/-- RECORD_DEQUEUE: the head of the staging queue takes its number and moves to its page buffer once R452 allows it; only a module that holds authority
writes records (R424). -/
def recordDequeue (s : State) : State :=
  s.onM fun s =>
    if s.recd.queue.isEmpty then s.stageLost
    else if !s.hasAuth then s.nextProgram
    else
      let r := s.headLeaves s.numberLimit
      (r.1.when r.2 State.stageLost).nextProgram

/-- PAGE_BUFFER_TIMEOUT: the first record of a page buffer has been in it for 1 s (R452). -/
def pageBufferTimeout (i : Fin 4) (s : State) : State := s.onM fun s => if s.bufDue (nth s.recd.bufs i.val {}) then s.nextProgram else s

/-- Write the slots of a page as they read back. -/
def State.putPage (s : State) (blk page : Nat) (bytes : List (List Byte)) : State :=
  let base := (blk - 4) * 4096 + page * 8
  ((List.range 8).zip bytes).foldl (fun (t : State) x =>
    if x.2.all (· == 0xFF) then t else { t with recd := { t.recd with slots := Al.insert t.recd.slots (base + x.1) x.2 } }) s

/-- The page under way is written: what it reads back, block bounds, area F (R456, R458). -/
def State.commitPage (s : State) (p : PageProg) (bytes : List (List Byte)) (stable : Nat) : State :=
  let base := (p.blk - 4) * 4096 + p.page * 8
  let s := s.putPage p.blk p.page bytes
  let bad := (List.range 8).filter (fun k => decide (k < p.recs.length) && !bitOf stable k)
  let s := { s with recd := { s.recd with prog := none, pages := s.recd.pages + 1, tornIdx := s.recd.tornIdx ++ bad.map (fun k => base + k) } }
  let s := s.modBlk p.blk (fun b => { b with
    used := true, first := if b.first = 0 then (match p.recs.head? with | some x => x.1 | none => 0) else b.first,
    last := match p.recs.getLast? with | some x => x.1 | none => b.last,
    sev := p.recs.foldl (fun m x => max m (x.2.flags % 4)) (if s.modeSev then p.stream else b.sev) })
  if p.areaF then
    let s := s.modDir (fun d => { d with fCount := d.fCount + p.recs.length })
    s.when (decide (511 ≤ p.page)) (fun t => t.endF p.blk)
  else s

/-- The RECORD check-value unit checks the records of a page, bytes 0–59 of each (R406, R408, R472). DEDUCED (log entry 200): a disagreement concerns the
first of them. -/
def State.recordUnit (s : State) (recs : List (List Byte)) (cf : CheckFault) : State :=
  let value := fun (r : List Byte) => crc32c (r.take 60)
  match s.cvuOf 4 0, recs with
  | some u, r :: _ =>
    match cf with
    | .agree => recs.foldl (fun t x => t.cvuCheck u (value x) false) s
    | .unitBad => (s.cvuFails u true).cvuDisagree u false
    | .primaryBad => ((s.cvuCheck u (value r) false).cvuDisagree u true).stopRecorder 2
  | _, _ => s

/-- No record is staged, buffered or being programmed. -/
def State.recDrained (s : State) : Bool := s.recd.queue.isEmpty && s.recd.bufs.all (fun b => b.recs.isEmpty) && s.recd.prog.isNone

/-- Entry to KEEP goes on once every staged record is written: a checkpoint of every declared doorway, which a roll may delay, and then 0x7004 (R454, R468,
R514). -/
def State.keepGoes (s : State) : State :=
  if !s.flag F.PWR_STATUS_KEEP_ENTRY || !s.recDrained || 2 ≤ s.pwr.keepStep then s
  else
    let s := s.when (s.pwr.keepStep == 0) (fun t => State.writeImages { t with pwr := { t.pwr with keepStep := 1 } })
    if s.recd.roll.isSome then s
    else State.stage { s with pwr := { s.pwr with keepStep := 2 } } 0x7004 sysRec [s.pwr.keepHow, s.pwr.keepN]

/-- PAGE_PROGRAM_COMPLETE: the program ends, and the page reads back as `back`, 512 bytes, or as written where `back` is empty; bit k of
`stable` says that two reads of slot k agree (R452, R458–R460). -/
def pageProgramComplete (back : List Byte) (stable : BitVec 8) (cf : CheckFault) (s : State) : State :=
  s.onM fun s =>
    match s.recd.prog with
    | none => s
    | some p =>
      let want := p.recs.map (fun x => recBytes x.1 x.2 p.areaF)
      let got := if back.length = 512 then chunks 64 8 back else want
      let full := want ++ List.replicate (8 - want.length) (List.replicate 64 0xFF)
      let ok := got.take 8 == (if back.length = 512 then full else want) && (List.range want.length).all (bitOf stable.toNat)
      let base := (p.blk - 4) * 4096 + p.page * 8
      let s := s.commitPage p got stable.toNat
      let s := s.recordUnit want cf
      if ok then s.nextProgram
      else
        let lost := (List.range p.recs.length).filter (fun k => s.slotClass (base + k) != .committed)
        let first := (List.range 8).find? (fun k => nth got k [] != nth full k [] || (decide (k < want.length) && !bitOf stable.toNat k))
        let again := lost.filterMap (fun k => (p.recs[k]?).map (·.2))
        let s := s.inc F.REC_ERR_PROG_FAIL
        let s := s.modBlk p.blk (fun b => { b with fails := b.fails + 1, retired := b.retired || decide (4 ≤ b.fails + 1) })
        let s := if (s.blk p.blk).retired then (s.modStrm p.stream (fun t => if t.blk = some p.blk then { t with blk := none, page := 0 } else t)).when p.areaF (fun t => t.endF p.blk) else s
        let s := (s.restage again).faultM
        ((s.showArea).stage 0x4F01 sysRec [1, p.blk, base + first.getD 0]).nextProgram

/-- The block of a roll is erased, and takes the images once the histograms are known (R468, R469); the roll takes another block where the erase
failed. -/
def State.rollErased (s : State) (b : Nat) (ok : Bool) : State :=
  if ok then
    let s := { s with recd := { s.recd with ckImgs := s.recd.ckImgs.filter (fun i => i.blk != b), roll := some (b, true) } }
    s.when (s.flag F.REC_STATUS_READY) (fun t => t.rollInto b)
  else ((s.faultM.modBlk b (fun x => { x with retired := true })).showArea.stage 0x4F01 sysRec [2, b, 0]).roll

/-- A block of the record area is erased: its slots, and what was known of it. -/
def State.dropBlock (s : State) (b : Nat) : State :=
  let inB : Nat → Bool := fun n => blkOfSlot n == b
  let s := { s with recd := { s.recd with slots := s.recd.slots.filter (fun x => !inB x.1), tornIdx := s.recd.tornIdx.filter (fun n => !inB n) } }
  s.modBlk b (fun x => { x with used := false, first := 0, last := 0, sev := 0, areaF := false })

/-- BLOCK_ERASE_COMPLETE: the block under erase becomes writable, or is retired when the erase failed (R458). An erased block that its stream wanted
before area F opened stays in area C (R456). -/
def blockEraseComplete (ok : Bool) (s : State) : State :=
  s.onM fun s =>
    match s.recd.erasing with
    | none => s
    | some (i, b) =>
      let s := { s with recd := { s.recd with erasing := none } }
      if i = 4 then s.rollErased b ok
      else if ok then
        let inF := !s.modeSev && s.recd.dir.fState == 1
        ((s.dropBlock b).when (!inF || s.recd.dir.fBlocks.contains b) (fun t => t.modStrm i (fun x => { x with ready := some b }))).rollErase.advance i
      else ((s.faultM.modBlk b (fun x => { x with retired := true })).showArea.stage 0x4F01 sysRec [2, b, 0]).rollErase.advance i

/-! ## Time anchors (R446) -/

/-- Network time now: the last one received, carried on by the time base, as seconds and nanoseconds. -/
def State.netNow (s : State) : Option (Nat × Nat) :=
  match s.recd.net with
  | none => none
  | some t =>
    let ns := t.ns + (s.now - s.recd.netAt) % 160000000 * 25 / 4
    some (t.sec + (s.now - s.recd.netAt) / 160000000 + ns / 1000000000, ns % 1000000000)

/-- Why an anchor is due now (R446): 1 first, 2 periodic, 3 step; 0 not due. -/
def State.anchorDue (s : State) : Nat :=
  match s.netNow with
  | none => 0
  | some (sec, ns) =>
    let h := s.recd
    if !h.anchored then 1
    else
      let el := s.tb - h.anchorTb
      let want : Int := ((h.anchorSec * 1000000000 + h.anchorNs + el * 25 / 4 : Nat) : Int)
      let is : Int := ((sec * 1000000000 + ns : Nat) : Int)
      if 1000000000 < (is - want).natAbs then 3
      else if msT (60000 * s.rd F.REC_CFG_ANCHOR_MIN) ≤ el then 2
      else 0

/-- TIME_ANCHOR: 0xF001 is staged where R446 asks for it; the first anchor after area F opened gives F_TIME (R467). -/
def timeAnchor (s : State) : State :=
  s.onM fun s =>
    let k := s.anchorDue
    match s.netNow, s.recd.net with
    | some (sec, ns), some t =>
      if k = 0 then s
      else
        let tb := s.tb
        let s := { s with recd := { s.recd with anchored := true, anchorTb := tb, anchorSec := sec, anchorNs := ns } }
        let s := if (s.recd.dir.fState ≠ 0 ∨ (s.modeSev = true ∧ s.recd.dir.refreshes ≠ 0)) ∧ s.recd.dir.fTime = 0 then s.modDir (fun d => { d with fTime := sec }) else s
        s.stage 0xF001 sysRec [tb % 2 ^ 32, tb / 2 ^ 32, sec % 2 ^ 32, sec / 2 ^ 32, ns, t.comId, k]
    | _, _ => s

/-! ## Retention refresh (R471) -/

/-- Copy a block byte for byte into another, whose own content is erased (R471). -/
def State.copyBlock (s : State) (old new : Nat) : State :=
  let shift := fun n => if blkOfSlot n = old then (new - 4) * 4096 + n % 4096 else n
  let s := s.dropBlock new
  let of_ := s.blk old
  let s := { s with recd := { s.recd with
    slots := (s.recd.slots.filter (fun (x : Nat × List Byte) => blkOfSlot x.1 == old)).foldl (fun l (x : Nat × List Byte) => Al.insert l (shift x.1) x.2) s.recd.slots,
    tornIdx := s.recd.tornIdx ++ (s.recd.tornIdx.filter (fun n => blkOfSlot n == old)).map shift } }
  s.modBlk new (fun b => { b with used := of_.used, first := of_.first, last := of_.last, sev := of_.sev, areaF := of_.areaF })

/-- The copy takes the place of its block, which is erased and joins area C; a retired block is never erased (R458, R471). -/
def State.moveBlock (s : State) (old new : Nat) : State :=
  let s := s.copyBlock old new
  let s := { s with recd := { s.recd with strms := s.recd.strms.map (fun (t : Stream) => if t.blk = some old then { t with blk := some new } else t) } }
  s.when (!(s.blk old).retired) (fun t => t.dropBlock old)

/-- The blocks that a refresh copies (R471): those of F; in mode SEV those whose highest number lies below EPOCH_SEQ. -/
def State.refreshOlds (s : State) : List Nat :=
  if s.modeSev then (s.recd.blks.filter (fun (x : Nat × Blk) => x.2.used && !x.2.retired && decide (x.2.last < s.recd.dir.epochSeq))).map (·.1) else s.recd.dir.fBlocks

/-- The refresh makes its copies (R471, step 1); the directory still names the old blocks. -/
def State.startCopies (s : State) : State :=
  s.refreshOlds.foldl (fun t old => match t.pickBlock (t.blk old).sev with
    | some n => State.copyBlock { t with recd := { t.recd with copies := t.recd.copies ++ [(old, n)] } } old n
    | none => t) s

/-- Of two blocks with the same numbers, the one that the directory names stays, in mode SEV the one with the lower index (R471). -/
def State.dropCopy (s : State) (c : Nat × Nat) : State :=
  if s.modeSev && decide (c.2 < c.1) && !(s.blk c.1).retired then s.moveBlock c.1 c.2 else s.dropBlock c.2

/-- A refresh that a restart cut off resumes from the directory (R471). -/
def State.resumeRefresh (s : State) : State :=
  if s.recd.copies.isEmpty then s
  else
    let s := s.recd.copies.foldl State.dropCopy s
    (State.setF { s with recd := { s.recd with copies := [] } } F.REC_STATUS_REFRESHING true).startCopies

/-- A refresh starts. -/
def State.startRefresh (s : State) : State := (s.setF F.REC_STATUS_REFRESHING true).startCopies

/-! ## Restart and READY (R447, R460, R469) -/

/-- The first n bytes of a slot as programmed, the rest still erased. -/
def cutSlot (n : Nat) (b : List Byte) : List Byte := b.take n ++ List.replicate (64 - n) 0xFF

/-- What the flash holds of a page under way when the logic restarts (R460): which of its two operations was cut off, and where each slot stood in it, is
open; a slot of operation 1 has some of its bytes 0–59 and no check word, one of operation 2 has all of them and some of its check word. -/
def State.tearPage (s : State) : State :=
  match s.recd.prog with
  | none => s
  | some p =>
    let free := fun k => (Config.freeValue (s.freeCtr + k)).toNat
    let part := fun (k : Nat) (b : List Byte) => cutSlot (if free 0 % 2 = 0 then free (1 + k) % 61 else 60 + free (1 + k) % 5) b
    let bytes := ((List.range p.recs.length).zip (p.recs.map (fun x => recBytes x.1 x.2 p.areaF))).map (fun x => part x.1 x.2)
    { (s.commitPage p bytes 0xFF) with freeCtr := s.freeCtr + 9 }

/-- The newest valid checkpoint image of a doorway number (R469). -/
def State.newestImg (s : State) (d : Nat) : Option CkImg :=
  (s.recd.ckImgs.filter (fun i => i.dwy == d && !i.bad)).foldl (fun best i => match best with | none => some i | some b => if b.no < i.no then some i else some b) none

/-- The newest directory (R469). -/
def State.newestDir (s : State) : Dir :=
  ((s.recd.ckImgs.filter (fun i => !i.bad)).foldl (fun (best : Option Dir) i => match best with
    | none => some i.dir
    | some b => if b.gen < i.dir.gen then some i.dir else some b) none).getD {}

/-- What a restart takes from the recorder: its volatile state is gone, and the page under way stands somewhere (R454, R460). -/
def State.clearRecorder (s : State) : State :=
  let s := s.tearPage
  { s with recd := { s.recd with
    queue := [], lostN := 0, pages := 0, bufs := [{}, {}, {}, {}], prog := none, next := 0, erasing := none, anchored := false, net := none, scrubAt := none, scrubRun := 0,
    claimMax := none, rollBoot := s.recd.roll.isSome, roll := s.recd.roll.map (fun x => (x.1, false)), histTaken := false } }

/-- A write block resumes at the page after the last one that holds any byte other than 0xFF (R460). -/
def State.resumePage (s : State) (b : Nat) : Nat :=
  s.recd.slots.foldl (fun m x => if blkOfSlot x.1 = b then max m (x.1 % 4096 / 8 + 1) else m) 0

/-- The recorder's part of BOOT: the directory comes from flash, a change of MODE takes effect (R457, R458, R469). -/
def State.bootRecorder (s : State) (mode : Nat) : State :=
  let h := s.recd
  let dir := s.newestDir
  let used := dir.fBlocks.foldl (fun n b => n + h.slots.countP (fun x => blkOfSlot x.1 == b)) 0
  let change := dir.mode ≠ mode
  let s := { s with recd := { h with
    fHoursAt := s.now, dir := { dir with fCount := used },
    strms := if change then [{}, {}, {}, {}] else h.strms.map (fun (t : Stream) => { t with
      ready := none, page := match t.blk with | some b => s.resumePage b | none => 0 }) } }
  let s := if change then s.modDir (fun d => { d with mode := mode }) else s
  let s := (s.showArea.setF F.REC_STATUS_ROLLING s.recd.roll.isSome).rollErase.resumeRefresh
  if h.numbersOut then s.stopRecorder 1 else s

/-- All records in flash that are COMMITTED, with their bytes. -/
def State.committed (s : State) : List (List Byte) := (s.recd.slots.filter (fun x => s.slotClass x.1 == .committed)).map (·.2)

/-- Histograms and extremes of a doorway after a restart (R469); those that a snapshot of the partner gave before READY stay (R473). -/
def State.rebuildHist (s : State) (d : DIx) : State :=
  let img := s.newestImg d.val
  let from_ := match img with | some i => i.lastSeq | none => 0
  let base := match img with | some i => i.hist | none => {}
  let recs := s.committed.filter (fun b => fieldAt b 6 2 == 0x1001 && fieldAt b 8 1 == d.val && decide (from_ < seqOf b))
  let h := recs.foldl (fun (x : Hist) b => x.addCycle (seqOf b) ((List.range 11).map (fun k => fieldAt b (16 + 4 * k) 4))) base
  let s := s.when (!s.recd.histTaken) (fun t => t.modHist d.val (fun _ => h))
  let last := recs.foldl (fun m b => max m (seqOf b)) from_
  let s := { s with recd := { s.recd with ckSince := Al.set (fun _ => 0) s.recd.ckSince d.val recs.length, ckLast := Al.set (fun _ => 0) s.recd.ckLast d.val last } }
  if img.isNone then s.stage 0x4F01 sysRec [4, 0, d.val] else s

/-- The number after the boot fence (R447): 4,096 above the highest number held; 1 where the recorder holds none. -/
def State.bootFence (s : State) : Nat :=
  let m := s.committed.foldl (fun m b => max m (seqOf b)) (s.recd.ckImgs.foldl (fun m i => max m i.lastSeq) 0)
  if m = 0 then 1 else min lastNumber (m + 4096)

/-- RECORDER_READY: the page index is built (R460); the claim of R436 that came before goes on top of the boot fence. -/
def recorderReady (s : State) : State :=
  s.onM fun s =>
    if s.flag F.REC_STATUS_READY ∨ s.modState = 0 then s
    else
      let count := fun c => s.recd.slots.countP (fun x => s.slotClass x.1 == c)
      let s := (s.declaredList).foldl State.rebuildHist s
      let fence := s.bootFence
      let next := match s.recd.claimMax with | some m => min lastNumber (max fence m + 4096) | none => fence
      let s := State.showNext (State.setF { s with recd := { s.recd with next := next, claimMax := none } } F.REC_STATUS_READY true)
      let s := if s.hasAuth then s.wr F.RP_SEQ_FENCE (next % 2 ^ 32) else s
      let s := s.stage 0x0F01 sysRec [count .committed, count .torn, count .uncommitted, next % 2 ^ 32, next / 2 ^ 32, s.tb / 160000]
      -- what waited for the histograms: the images of a roll, or those of a request
      (match s.recd.roll with
        | some (b, true) => s.rollInto b
        | _ => s.when (s.flag F.REC_CTL_CHECKPOINT) (fun t => t.writeImages.setF F.REC_CTL_CHECKPOINT t.writeImages.recd.roll.isSome)).advance 0

/-! ## Snapshot and forensic windows (R461–R464) -/

/-- Where a number is found now (R461). -/
def State.findNumber (s : State) (n : Nat) : Resolved :=
  match s.recd.slots.find? (fun x => seqOf x.2 == n && s.slotClass x.1 != .erased) with
  | some x =>
    match s.slotClass x.1 with
    | .uncommitted => .uncommitted x.1
    | .torn => .tornSlot x.1
    | _ => .slot x.1
  | none =>
    let staged := s.recd.bufs.any (fun b => b.recs.any (fun x => x.1 == n)) || (match s.recd.prog with | some p => p.recs.any (fun x => x.1 == n) | none => false)
    if staged then .staged else .never

/-- The list of a resolution (R461). -/
def State.resolveList (s : State) (first count : Nat) : List Resolved := (List.range count).map (fun j => s.findNumber (first + j))

/-- Numbers resolved to a slot (SNAP_STATUS.FOUND). -/
def foundCount (l : List Resolved) : Nat := l.countP (fun r => match r with | .slot _ => true | .uncommitted _ => true | .tornSlot _ => true | _ => false)

/-- A marker entry, GONE or ABSENT (R462). -/
def markEntry (num code w0 : Nat) : List Byte := withCrc (leBytes 6 num ++ leBytes 2 code ++ List.replicate 8 0 ++ leBytes 4 w0 ++ List.replicate 40 0)

/-- Is a slot in the block being erased? -/
def State.inErase (s : State) (n : Nat) : Bool := match s.recd.erasing with | some e => e.2 == blkOfSlot n | none => false

/-- What entry j of a resolved list reads at this moment (R462). -/
def State.snapEntry (s : State) (first : Nat) (l : List Resolved) (j : Nat) : List Byte :=
  let absent := fun reason => markEntry (first + j) 0xF0FD reason
  let look := fun n =>
    let b := s.slotBytes n
    match s.slotClass n with
    | .erased => markEntry 0xFFFFFFFFFFFF 0xF0FE 0
    | .uncommitted => absent 3
    | .torn => absent 4
    | .committed => if s.inErase n || decide (seqOf b < first) || decide (first + l.length ≤ seqOf b) then markEntry (seqOf b) 0xF0FE 0 else b
  match l[j]? with
  | none => List.replicate 64 0
  | some .never => absent 1
  | some .staged => absent 2
  | some (.uncommitted n) => look n
  | some (.tornSlot n) => look n
  | some (.slot n) => look n

/-- The 32-byte DS8 form of an entry (R463). -/
def exportEntry (b : List Byte) : List Byte :=
  withCrc (bytesIn b 0 4 ++ bytesIn b 6 8 ++ bytesIn b 8 9 ++ bytesIn b 9 10 ++ bytesIn b 10 12 ++ bytesIn b 12 14 ++ bytesIn b 16 32)

/-- Bytes of raw slot n as the forensic window shows them (R464). -/
def State.forEntry (s : State) (n : Nat) : List Byte := if 4177920 ≤ n then List.replicate 64 0xFF else s.slotBytes n

/-- FOR_STATUS for raw slot n (R464); `differ` says that its two reads differ. -/
def State.forStatus (s : State) (n : Nat) (differ : Bool) : Nat :=
  let c := match s.slotClass n with | .erased => 0 | .committed => if differ then 3 else 1 | .uncommitted => 2 | .torn => 3
  let b := blkOfSlot n
  if 4177920 ≤ n then 0
  else c + 4 * b2n differ + 8 * b2n (decide (s.recd.dir.fState ≠ 0) && s.recd.dir.fBlocks.contains b) + 16 * b2n (s.inErase n) +
    32 * b2n (s.blk b).retired

/-! ## Requests of REC_CTL (R467, R470, R471) -/

/-- The images that meet a condition are no longer valid (R469). -/
def State.spoil (s : State) (p : CkImg → Bool) : State := { s with recd := { s.recd with ckImgs := s.recd.ckImgs.map (fun i => if p i then { i with bad := true } else i) } }

/-- The image of slot r fails its program or read-back: it is not valid, and the slot is at fault (R375, R467). -/
def State.imageFails (s : State) (r : Nat) : State :=
  match s.userOf poolRec r with
  | some d =>
    let s := s.writeImage d.val
    (s.spoil (fun i => i.slot == r && i.no == s.recd.ckNo)).ckSlotFault r
  | none => s

/-- CHECKPOINT: REC_CTL.CHECKPOINT is written; bit r of `bad` says that slot r fails its program or read-back (R375, R467). It stays set until every image
is written: until READY, and until a roll that the images need is complete (R468). -/
def checkpoint (bad : Word) (s : State) : State :=
  s.onM fun s =>
    if !s.flag F.REC_STATUS_READY || s.recd.roll.isSome then s.setF F.REC_CTL_CHECKPOINT true
    else
      let s := (((List.range 32).filter (bitOf bad.toNat)).foldl State.imageFails s).writeImages
      s.setF F.REC_CTL_CHECKPOINT s.recd.roll.isSome

/-- SCRUB: REC_CTL.SCRUB is written, or 24 h have passed since the last pass (R470). -/
def scrub (byWrite : Bool) (s : State) : State :=
  s.onM fun s =>
    let due := decide (s.recd.scrubRun + msT 86400000 ≤ s.runTime)
    if byWrite || (due && s.inRun) then (s.setF F.REC_STATUS_SCRUBBING true).setF F.REC_CTL_SCRUB false else s

/-- RECORDER_SCRUB_COMPLETE: the pass ends; `lost` are slots that read back changed, `badImg` the checkpoint slots whose images do
(R375, R470). -/
def recorderScrubComplete (lost : List Nat) (badImg : Word) (s : State) : State :=
  s.onM fun s =>
    if !s.flag F.REC_STATUS_SCRUBBING then s
    else
      let s := lost.foldl (fun t n =>
        if t.slotClass n == .committed then
          let t := { t with recd := { t.recd with tornIdx := t.recd.tornIdx ++ [n] } }
          (t.faultM.inc F.REC_ERR_SCRUB_ERR).stage 0x4F01 sysRec [3, blkOfSlot n, n]
        else t) s
      let s := ((List.range 32).filter (bitOf badImg.toNat)).foldl (fun t r => (t.spoil (fun i => i.slot == r)).ckSlotFault r) s
      State.wr (State.setF { s with recd := { s.recd with scrubAt := some s.now, scrubRun := s.runTime } } F.REC_STATUS_SCRUBBING false) F.REC_SCRUB_HOURS 0

/-- A refresh is due by retention (R471). -/
def State.refreshDue (s : State) : Bool :=
  let d := s.recd.dir
  (s.modeSev || decide (d.fState ≠ 0)) &&
  (if d.fTime ≠ 0 then s.recd.anchored && decide (d.fTime + 315576000 ≤ s.recd.anchorSec) else decide (43830 ≤ s.fHoursNow))

/-- REFRESH: REC_CTL.REFRESH is written, or the retention of area F asks for it (R471). -/
def refresh (byWrite : Bool) (s : State) : State :=
  s.onM fun s =>
    let no := s.flag F.REC_STATUS_REFRESHING || (!s.modeSev && s.recd.dir.fState == 0)
    if byWrite then
      let s := s.setF F.REC_CTL_REFRESH false
      if no then s.setF F.REC_CTL_REFUSED true else s.startRefresh
    else if s.refreshDue && !no then s.startRefresh
    else s

/-- AREA_REFRESH: the refresh completes (R471): the copies take the place of their blocks, the new directory goes out in a roll, and 0xF003 is written.
F_TIME is unknown until the first anchor after it (R467). -/
def areaRefresh (s : State) : State :=
  s.onM fun s =>
    if !s.flag F.REC_STATUS_REFRESHING || !s.flag F.REC_STATUS_READY || s.recd.roll.isSome then s
    else
      let sev := s.modeSev
      let olds := s.refreshOlds
      let step := fun (acc : State × List Nat) old =>
        match ((acc.1.recd.copies.find? (fun c => c.1 == old)).map (·.2)).or (acc.1.pickBlock (acc.1.blk old).sev) with
        | some n => (acc.1.moveBlock old n, acc.2 ++ [n])
        | none => (acc.1, acc.2 ++ [old])
      let r := olds.foldl step (s, [])
      let next := s.recd.next
      let s := { r.1 with recd := { r.1.recd with fHoursAt := s.now, copies := [] } }
      let s := s.modDir (fun d => { d with
        fBlocks := if sev then d.fBlocks else r.2, refreshes := min 65535 (d.refreshes + 1), fTime := 0, fHours := 0, epochSeq := if sev then next else d.epochSeq })
      match s.nextCk with
      | some b =>
        let s := ({ s with recd := { s.recd with ckImgs := s.recd.ckImgs.filter (fun i => i.blk != b) } } : State).rollInto b
        (s.setF F.REC_STATUS_REFRESHING false).stage 0xF003 sysRec [s.recd.dir.refreshes, olds.length, b2n sev]
      | none => s.setF F.REC_STATUS_REFRESHING false

/-! ## Shutdown (R454) -/

/-- One more page from the buffers and, where the module held authority, the head of the queue, at a shutdown. -/
def State.flushPage (auth : Bool) (lim : Option Nat) (s : State) : State :=
  let i := match (List.range 4).find? (fun i => !(nth s.recd.bufs i {}).recs.isEmpty) with
    | some i => i
    | none => match s.recd.queue.head? with | some r => s.streamOf r | none => 0
  let fill := fun (t : State) (_ : Nat) => match t.recd.queue.head? with
    | some r => if auth && t.streamOf r == i then (t.headLeaves lim).1 else t
    | none => t
  let s := (List.range 8).foldl fill (s.advance i)
  let s := s.startProgram i
  match s.recd.prog with
  | some p => s.commitPage p (p.recs.map (fun (x : Nat × Rec) => recBytes x.1 x.2 p.areaF)) 0xFF
  | none => s

/-- The power-fail flush (R454): the page under way, up to four more, and the count of what stays staged, with its first and last code. `auth` and `lim`
are the authority and the limit of R436 as the shutdown began. -/
def State.flushRecorder (auth : Bool) (lim : Option Nat) (s : State) : State :=
  let s := match s.recd.prog with
    | some p => s.commitPage p (p.recs.map (fun (x : Nat × Rec) => recBytes x.1 x.2 p.areaF)) 0xFF
    | none => s
  let s := (List.range 4).foldl (fun t _ => t.flushPage auth lim) s
  let left : List Rec := s.recd.bufs.flatMap (fun (b : PageBuf) => b.recs.map (fun (x : Nat × Rec) => x.2)) ++ s.recd.queue
  let code := fun (r : Option Rec) => match r with | some x => x.code | none => 0
  { s with recd := { s.recd with keepLost := left.length, keepLostFirst := code left.head?, keepLostLast := code left.getLast?,
                                 queue := [], bufs := [{}, {}, {}, {}] } }

/-- Records that a supply loss took are written as LOST_EVENTS at the next BOOT (R454). -/
def State.stageKeepLost (s : State) : State :=
  let h := s.recd
  if h.keepLost = 0 then s
  else
    let s := { s with recd := { h with keepLost := 0, keepLostFirst := 0, keepLostLast := 0 } }
    s.stageSev (3 + 16) 0xF004 sysRec [h.keepLost, 2, h.keepLostFirst, h.keepLostLast]

/-! ## The commands of this file -/

/-- The meaning of RECORD_DEQUEUE (R452). -/
def execRecordDequeue (s : State) : Host.Outcome State Fault Refusal := .next (s.done (recordDequeue s))

/-- The meaning of PAGE_BUFFER_TIMEOUT (R452). -/
def execPageBufferTimeout (i : Fin 4) (s : State) : Host.Outcome State Fault Refusal := .next (s.done (pageBufferTimeout i s))

/-- The meaning of PAGE_PROGRAM_COMPLETE (R458). -/
def execPageProgramComplete (back : List Byte) (stable : BitVec 8) (cf : CheckFault) (s : State) : Host.Outcome State Fault Refusal := .next (s.done (pageProgramComplete back stable cf s))

/-- The meaning of BLOCK_ERASE_COMPLETE (R458). -/
def execBlockEraseComplete (ok : Bool) (s : State) : Host.Outcome State Fault Refusal := .next (s.done (blockEraseComplete ok s))

/-- The meaning of TIME_ANCHOR (R446). -/
def execTimeAnchor (s : State) : Host.Outcome State Fault Refusal := .next (s.done (timeAnchor s))

/-- The meaning of RECORDER_READY (R460). -/
def execRecorderReady (s : State) : Host.Outcome State Fault Refusal := .next (s.done (recorderReady s))

/-- The meaning of CHECKPOINT (R467). -/
def execCheckpoint (bad : Word) (s : State) : Host.Outcome State Fault Refusal := .next (s.done (checkpoint bad s))

/-- The meaning of SCRUB (R470). -/
def execScrub (byWrite : Bool) (s : State) : Host.Outcome State Fault Refusal := .next (s.done (scrub byWrite s))

/-- The meaning of REFRESH (R471). -/
def execRefresh (byWrite : Bool) (s : State) : Host.Outcome State Fault Refusal := .next (s.done (refresh byWrite s))

/-- The meaning of AREA_REFRESH (R471). -/
def execAreaRefresh (s : State) : Host.Outcome State Fault Refusal := .next (s.done (areaRefresh s))

/-- The meaning of RECORDER_SCRUB_COMPLETE (R470). -/
def execRecorderScrubComplete (lost : List Nat) (badImg : Word) (s : State) : Host.Outcome State Fault Refusal := .next (s.done (recorderScrubComplete lost badImg s))

end Sys2Proof.Machine
end

