-- ==== Sys2Proof/Machine/Sequencer.lean ====
section
/-!
DEFINITION. Machine/Sequencer.lean: the doorway sequencer (chapter 1, and chapter 8 for R254, R268–R270, R278–R282): entry to a state, the
1 kHz tick with the priorities of R29, requests, reset edges and the proof stroke.
-/
namespace Sys2Proof.Machine

/-! ## Conditions -/

/-- Condition 4 of R268, live. -/
def State.platOk (s : State) (d : DIx) : Bool := !s.flag (F.SEQ_CFG_NOPLAT_ENF d) || s.flag (F.SEQ_STATUS_PLATFORM d)

/-- RELEASE_OK (R268). -/
def State.releaseOk (s : State) (d : DIx) : Bool :=
  s.sideRel d && s.st d != .isolated && !s.flag (F.PROVE_STATUS_ISO d) && s.st d != .fenced && s.st d != .emergency &&
  (s.seq d).platLatch.getD (s.platOk d)

/-- An open request waits: OPEN_REQ, or a passenger, crew or panel request (R33, R346, R496). -/
def State.openReq (s : State) (d : DIx) : Bool := s.flag (F.SEQ_CMD_OPEN_REQ d) || (s.seq d).openIn

/-- A close demand is present (R33). -/
def State.closeDemand (s : State) (d : DIx) : Bool := !s.sideRel d || s.flag (F.SEQ_CMD_CLOSE_REQ d)

/-- Time in the state has reached n ms. -/
def State.inStateFor (s : State) (d : DIx) (n : Nat) : Bool := s.past (s.seq d).entered (msT n)

/-- The obstacle causes of R42. -/
def obstacleCause (c : Nat) : Bool := c == 6 || c == 7 || c == 8 || c == 9 || c == 0x17

/-- Limit of the sealed-gap proof, ms (R35). -/
def State.sealLimit (s : State) : Nat := if 3 ≤ s.rd F.MOD_STATE_SHED then 3000 else 1500

/-- Both leaves' AT_REST. -/
def State.leavesRest (s : State) (d : DIx) : Bool := s.flag (F.AX_STATUS_AT_REST d 0) && s.flag (F.AX_STATUS_AT_REST d 1)

/-! ## The cycle record (R449) -/

/-- A 12-bit time of the cycle record: 0xFFF when not measured, saturating at 0xFFE. -/
def time12 (t : Option Nat) : Nat := match t with | some x => min x 0xFFE | none => 0xFFF

/-- A 16-bit time of the cycle record. -/
def time16 (t : Option Nat) : Nat := match t with | some x => min x 0xFFFE | none => 0xFFFF

/-- REF_DEV of the cycle record. -/
def dev8 (t : Option Int) : Nat := match t with | some x => unsigned 8 (clampI (-127) 127 x) | none => 0x80

/-- Parameter words of 0x1001 CYCLE (R449). -/
def State.cycleWords (s : State) (d : DIx) : List Nat :=
  let c := s.cyc d
  let o : Nat → Nat := fun i => min (nth c.obst i 0) 255
  [ time16 c.openMs + 65536 * time16 c.closeMs,
    c.peakA.getD 0x8000 + 65536 * c.peakB.getD 0x8000,
    o 0 + 256 * o 1 + 65536 * o 2 + 16777216 * o 3,
    min c.proofMs 65535 + 65536 * (c.retry % 16) + 1048576 * min c.seals 15,
    c.plat,
    c.tgt % 65536 + 65536 * (c.src % 8) + 524288 * b2n c.latched,
    min c.energy 0xFFFFFFFF,
    min c.judged 65535 + 65536 * (if c.judged = 0 then 0xFF else ((2 * 255 * c.unknown + c.judged) / (2 * c.judged)) % 256) + 16777216 * min c.obstructed 255,
    time12 c.unlockMs + 4096 * time12 c.lockMs + 16777216 * dev8 c.refA,
    time12 c.deployMs + 4096 * time12 c.stowMs + 16777216 * dev8 c.refB,
    0x01 + 256 * 0x0B + 65536 * (c.shed % 8) + 524288 * b2n c.deferred + 1048576 * b2n c.creep + 2097152 * b2n c.hold + 4194304 * b2n c.platform ]

/-! ## Entering a state -/

/-- Refuse a request bit of SEQ_CMD (R47). -/
def State.refuseReq (s : State) (d : DIx) (f : Fld) : State := (s.setF f false).setF (F.SEQ_CMD_REFUSED d) true

/-- The lock command of R34 changes; UNLOCK_TIMEOUT and LOCK_TIMEOUT run from here (R255). -/
def State.setLock (s : State) (d : DIx) (on : Bool) : State :=
  if s.flag (F.LOCK_STATUS_CMD d) = on then s.evalChans d
  else
    let s := s.setF (F.LOCK_STATUS_CMD d) on
    let s := s.modSeq d (fun q => { q with lockFrom := s.now })
    let s := s.modCyc d (fun c => if on then { c with unlockFrom := s.now } else { c with lockFrom := s.now })
    s.evalChans d

/-- Drop LOCK_PERMIT (R254). -/
def State.dropPermit (s : State) (d : DIx) : State := (s.setF (F.LOCK_STATUS_PERMIT d) false).evalChans d

/-- Grant LOCK_PERMIT (R254). -/
def State.grantPermit (s : State) (d : DIx) : State := (s.setF (F.LOCK_STATUS_PERMIT d) true).evalChans d

/-- Settings that take effect at an entry to CLOSED_LOCKED, UNPROVEN or ISOLATED (R286, R306, R333). An operated handle keeps its evaluation (R306). -/
def State.applyDoor (s : State) (d : DIx) : State :=
  if s.imgPend.isEmpty || !(s.st d == .closedLocked || s.st d == .unproven || s.st d == .isolated) then s
  else
    let s := s.when (s.flag (F.PD_STATUS_HANDLE_OP d)) (fun t => t.modProt d (fun p => { p with handleOld := some (t.handleIns d) }))
    ((((s.applyRange (dw d 0x704) (dw d 0x714)).applyRange (dw d 0x718) (dw d 0x71C)).applyRange (dw d 0x804) (dw d 0x818)).applyRange (dw d 0xA08) (dw d 0xA18))

/-- The step target T of R269, its source, and whether 0x3109 is due. -/
def State.stepTarget (s : State) (d : DIx) : Nat × Nat :=
  let smax := s.rd (F.STEP_CFG_STEP_MAX d) * 100
  let tmax := (s.travelMax d 2).toNat
  let dflt := s.rd (F.STEP_CFG_STEP_DEFAULT d) * 200
  if s.flag (F.TOPI_STATUS_LEARNING d) && !s.modelOk d then (min (min smax tmax) 30000, 4)
  else if s.flag (F.PLAT_STATUS_LATCHED d) then
    let voff := signed 16 (bitsOf (s.rd (F.PLAT_LATCH d)) 16 16)
    let gap := signed 16 (bitsOf (s.rd (F.PLAT_LATCH d)) 0 16)
    if voff.natAbs * 25 ≤ s.rd (F.STEP_CFG_VOFF_MAX d) * 500 then
      (min (min smax tmax) (gap * 25 + s.rd (F.STEP_CFG_STEP_OVERLAP d) * 100).toNat, 1)
    else (dflt, 3)
  else (dflt, 2)

/-- Entry to STEP_DEPLOY: latch the platform (R118) and fix the step target (R269). -/
def State.enterStepDeploy (s : State) (d : DIx) : State :=
  let take := s.flag (F.PLAT_STATUS_VALID d) && s.flag (F.PLAT_STATUS_STILL d) && !s.flag (F.PLAT_STATUS_NO_PLATFORM d)
  let s := if take then (s.wr (F.PLAT_LATCH d) (s.rd (F.PLAT d))).setF (F.PLAT_STATUS_LATCHED d) true else s.setF (F.PLAT_STATUS_LATCHED d) false
  let t := s.stepTarget d
  let s := (s.wr (F.STEP_STATUS_TARGET d) t.1).wr (F.STEP_STATUS_SRC d) t.2
  let s := s.when (t.2 == 2 || t.2 == 3) (fun u =>
    u.stage 0x3109 d.val [t.2, (u.reg (F.PLAT_STATUS d).addr).toNat, u.rd (F.PLAT_LATCH d)])
  s.modCyc d (fun c => { c with
    deployFrom := s.now, tgt := t.1, src := t.2, latched := take, plat := if take then s.rd (F.PLAT_LATCH d) else 0x80008000 })

/-- Start of a sealed-gap proof (R113–R115). -/
def State.startProof (s : State) (d : DIx) (afterClose : Bool) : State :=
  let s := (((s.wr (F.PROOF_CONSEC d) 0).setF (F.PROOF_FSIG_OK d) false).setF (F.PROOF_PASSED d) false).wr (F.PROOF_PROOF_TIME d) 0
  s.modTopi d (fun t => { t with sealAt := s.tb, counted := none, moved := false, fixed := false, holdA := [], holdB := [], closeRun := afterClose })

/-- A stay in WARNING ends: 0x2702 for its restarts (R240). -/
def State.leaveWarning (s : State) (d : DIx) : State :=
  let o := s.obst d
  let s := s.modObst d (fun o => { o with warnN := 0, warnSrc := 0, warnOn := false })
  if o.warnN = 0 then s
  else s.stageRec { code := 0x2702, dwy := d.val, flags := sevOf 0x2702, rep := min o.warnN 65535, gen := s.img.runGen, ws := [o.warnSrc] }

/-- The end of a proof stroke: PROOF_LAST and 0x1002 (R45, R282). -/
def State.endStroke (s : State) (d : DIx) (pass : Bool) (cause : Nat) : State :=
  let ms := s.msSince (s.seq d).strokeFrom 65535
  let s := (s.setF (F.PROOF_LAST_PASS d) pass).setF (F.PROOF_LAST_VALID d) true
  let s := ((s.wr (F.PROOF_LAST_CAUSE d) cause).wr (F.PROOF_LAST_PHASE d) 0).wr (F.PROOF_LAST_DURATION d) ms
  (s.modSeq d (fun q => { q with phase := 0, fail := none })).stage 0x1002 d.val [b2n pass, cause]

/-- Entry to a state, first part: what ends with the old state, then SEQ. DEDUCED (log entry 52): a stroke that FENCED, EMERGENCY or ISOLATED ends
has cause 10, also where a check of it had failed before and the leaves were still coming to rest. -/
def State.enterSeq (s : State) (d : DIx) (st : SeqState) (cause : Nat) : State :=
  let old := s.st d
  let s := if old == .warning && st != .warning then s.leaveWarning d else s
  -- a stroke that ends in FENCED, EMERGENCY or ISOLATED fails with cause 10
  let s := if old == .proofStroke && (st == .fenced || st == .emergency || st == .isolated) then s.endStroke d false 10 else s
  -- the exit from ISOLATED is recorded whichever way it leads (R44)
  let s := if old == .isolated && st != .isolated then s.stage 0x3005 d.val [0] else s
  ((s.wr (F.SEQ_PREV d) old.code).wr (F.SEQ_STATE d) st.code).wr (F.SEQ_CAUSE d) cause

/-- Entry to a state, the rest: PROVEN, the lock column of R34, latches and the cycle's measurements. -/
def State.enterRest (s : State) (d : DIx) (old st : SeqState) (cause : Nat) : State :=
  let s := s.wr (F.SEQ_TIME d) 0
  let s := s.modSeq d (fun q => { q with
    entered := s.now, presented := false, relStop := false, warnFrom := s.now,
    stowHeld := st == .held && cause == 0x0E, obCause := if st == .obstructed then cause else q.obCause,
    inOpening := if st == .obstructed then old == .opening else q.inOpening,
    platLatch := if st == .closedLocked || st == .unproven then none
      else if st == .released then some (s.platOk d) else q.platLatch,
    sealPath := st == .locking || (q.sealPath && (st == .stepStow || (st == .held && cause == 0x0E))) })
  let unprove := st == .unproven || st == .isolated || st == .emergency || st == .fenced
  let s := s.when (unprove || (st == .held && cause == 0x0F)) (fun t =>
    (t.setF (F.SEQ_STATUS_PROVEN d) false).modSeq d (fun q => { q with seenOpen := false }))
  let s := s.when unprove (fun t => t.setF (F.PROVE_STATUS_SW_LOST d) false)
  let s := s.when (st == .closedLocked || st == .unproven) (fun t => t.setF (F.PLAT_STATUS_LATCHED d) false)
  let s := s.when (st == .opened || st == .closedLocked) (fun t => t.wr (F.SEQ_STATUS_RETRY d) 0)
  let s := s.when (st != .warning && st != .closing && st != .proofStroke) (fun t => t.setF (F.SEQ_STATUS_CREEP d) false)
  let s := s.when (unprove || st == .closedLocked || st == .locking) (fun t => t.dropPermit d)
  let s := match st.lockCmd with
    | some on => s.setLock d on
    | none => s
  let s := s.when (st == .warning) (fun t => t.setF (F.SEQ_CMD_CLOSE_REQ d) false)
  let s := s.when ((old == .held && (st == .opening || st == .stepStow)) || st == .fenced || st == .emergency || st == .isolated) (fun t =>
    t.when (t.flag (F.SEQ_CMD_CLOSE_REQ d)) (fun t => t.refuseReq d (F.SEQ_CMD_CLOSE_REQ d)))
  let s := s.when (old == .emergency || (old == .fenced && !s.flag (F.PD_STATUS_HANDLE_OP d))) (fun t => t.setF (F.PD_STATUS_HANDLE_LOOP d) false)
  let s := s.when (st == .opened) (fun t => t.lcTestStart d)
  let s := s.when (old == .fenced) (fun t => (t.modDwy d (fun x => { x with fencedOnce := false })).setF (F.LOCK_STATUS_STUCK_ON d) false)
  let s := if old == .closedLocked || old == .unproven then s.modCyc d (fun c => { deferred := c.deferred }) else s
  let s := match st with
    | .released => s.modCyc d (fun c => { c with platform := s.flag (F.SEQ_STATUS_PLATFORM d) })
    | .stepDeploy => s.enterStepDeploy d
    | .opening => s.modCyc d (fun c => { c with openFrom := s.now })
    | .opened => s.when (old == SeqState.opening) (fun s => s.modCyc d (fun c => { c with openMs := some ((s.now - c.openFrom) / 160000) }))
    | .closing =>
      let s := (s.wr (F.FORCE_PEAK_PA d) 0).wr (F.FORCE_PEAK_PB d) 0
      (s.modCyc d (fun c => { c with closeFrom := s.now })).modTopi d (fun t => { t with profA := [], profB := [], profLost := false })
    | .sealing =>
      let s := s.modCyc d (fun c => { c with
        closeMs := if old == SeqState.closing then some ((s.now - c.closeFrom) / 160000) else c.closeMs, seals := c.seals + 1,
        peakA := if old == SeqState.closing then some (s.rd (F.FORCE_PEAK_PA d)) else c.peakA,
        peakB := if old == SeqState.closing then some (s.rd (F.FORCE_PEAK_PB d)) else c.peakB, retry := s.rd (F.SEQ_STATUS_RETRY d) })
      s.startProof d (old == SeqState.closing)
    | .locking => s.modCyc d (fun c => { c with proofMs := s.rd (F.PROOF_PROOF_TIME d) })
    | .stepStow => s.modCyc d (fun c => { c with stowFrom := s.now })
    | _ => s
  let s := if st == .fenced then (s.modDwy d (fun x => { x with fencePend := false })) else s
  s.applyDoor d |>.showFenced

/-- Enter a state with a cause. -/
def State.enter (s : State) (d : DIx) (st : SeqState) (cause : Nat) : State := (s.enterSeq d st cause).enterRest d (s.st d) st cause

/-- Enter HELD (R42): 0x1003 when an obstacle or SEAL_TIMEOUT leaves no retry. -/
def State.enterHeld (s : State) (d : DIx) (cause : Nat) : State :=
  let s := s.enter d .held cause
  s.when ((obstacleCause cause || cause == 0x0B) && s.rd (F.SEQ_STATUS_RETRY d) == s.rd (F.SEQ_CFG_RETRY_MAX d)) (fun t => t.stage 0x1003 d.val [])

/-- Enter HELD for lost zero speed (R39): lock channel off, leaves on the stop ramp. -/
def State.heldZeroSpeed (s : State) (d : DIx) : State :=
  let s := (s.stopLeaves d).enter d .held 0x0F
  (s.setLock d false).stage 0x3004 d.val []

/-- Enter EMERGENCY (R41). -/
def State.enterEmergency (s : State) (d : DIx) : State :=
  let s := s.when (s.leafMoving d || s.anyMoving d) (fun t => t.ss1Start d none false 0)
  (s.enter d .emergency 0x10).stage 0x3006 d.val []

/-- Enter ISOLATED (R44). -/
def State.enterIsolated (s : State) (d : DIx) : State :=
  let s := s.when (s.leafMoving d) (fun t => t.ss1Start d none false 0)
  (s.enter d .isolated 0x11).stage 0x3005 d.val [1]

/-- The doorway completes a full cycle or stroke: HOURS returns to 0 (R395). -/
def State.hoursReset (s : State) (d : DIx) : State :=
  ((s.wr (F.FLT_DWY_HOURS d.val) 0).setF (F.FLT_DWY_CYCLE_DUE d.val) false).modSeq d (fun q => { q with hourN := 0 })

/-- End of STEP_STOW (R31, R32, R48, R260). -/
def State.endStow (s : State) (d : DIx) : State :=
  let ok := s.flag (F.PROVE_STATUS_ALL_MADE d) && !s.flag (F.PROVE_STATUS_PLAUS_ERR d)
  let q := s.seq d
  let s := s.modCyc d (fun c => { c with stowMs := some ((s.now - c.stowFrom) / 160000) })
  let s := s.when (ok && q.sealPath && q.seenOpen) (fun t => t.setF (F.SEQ_STATUS_PROVEN d) true)
  let s := s.when ok (fun t => t.setF (F.PROVE_STATUS_SW_LOST d) false)
  if s.flag (F.SEQ_STATUS_PROVEN d) then
    let ws := s.cycleWords d
    let s := s.enter d .closedLocked 0x05
    let n := s.rd (F.SEQ_CYCLES_LO d) + 1
    let s := (s.wr (F.SEQ_CYCLES_LO d) n).when (n == 2 ^ 32) (fun t => t.wr (F.SEQ_CYCLES_HI d) (t.rd (F.SEQ_CYCLES_HI d) + 1))
    let s := (s.hoursReset d).stage 0x1001 d.val ws
    s.modTopi d (fun t => { t with adaptFrom := some s.now, adapted := false })
  else s.enter d .unproven 0x05

/-- The state a release that ends leads to (R32, R40). -/
def State.afterRelease (s : State) (d : DIx) (cause : Nat) : State :=
  s.enter d (if s.flag (F.SEQ_STATUS_PROVEN d) then .closedLocked else .unproven) cause

/-- A state on the main road, or one that leads back to it: from RELEASED to HELD in the codes of R12. -/
def SeqState.onRoad (st : SeqState) : Bool := decide (0x02 ≤ st.code) && decide (st.code ≤ 0x0E)

/-- SEQ, SEQ_TIME and PROOF_LAST have been given from elsewhere: by an epoch (R423), at a takeover (R433), or as the UNPROVEN of a SYNCING module. What
the sequencer keeps beside them follows: timers run from the time in the state, stops and targets begin anew, the way that led to the state is what it
and its cause say (R42, R49, R246). DEDUCED (log entry 163): the module itself sees the locked switches open in UNLOCKING and PROOF_STROKE (R31), as the
holder had where OPENING follows UNLOCKING; condition 4 held at the entry to RELEASED (R268); a phase began when its number was first seen. -/
def State.followSeq (s : State) (d : DIx) : State :=
  let from_ := s.now - msT (s.rd (F.SEQ_TIME d))
  let st := s.st d
  let cause := s.rd (F.SEQ_CAUSE d)
  let prev := s.rd (F.SEQ_PREV d)
  let phase := if st = .proofStroke then s.rd (F.PROOF_LAST_PHASE d) else 0
  let cleared := st == .unproven || st == .isolated || st == .emergency || st == .fenced || (st == .held && cause == 0x0F) || (st == .stepStow && cause == 0x0C)
  let opened := ((st == .unlocking || (st == .proofStroke && phase == 1)) && s.lockedOpen d) ||
    (st == .opening && prev == SeqState.unlocking.code) || (st == .proofStroke && decide (2 ≤ phase))
  s.modSeq d (fun q => { q with
    entered := from_, lockFrom := from_, strokeFrom := from_, warnFrom := from_, phaseFrom := if phase = q.phase then q.phaseFrom else s.now, phase := phase,
    presented := false, relStop := false, openIn := false, fail := none, stowHeld := st == .held && cause == 0x0E,
    obCause := if st == .obstructed || st == .reversing then cause else 0, inOpening := st == .obstructed && prev == SeqState.opening.code,
    sealPath := st == .locking || (st == .stepStow && prev == SeqState.locking.code), seenOpen := !cleared && (opened || q.seenOpen),
    platLatch := if st == .closedLocked || st == .unproven then none else if st.onRoad then some (q.platLatch.getD true) else q.platLatch })

/-- The sequencer of a module that is SYNCING reads UNPROVEN (R423), with what an entry to UNPROVEN clears (R31, R118, R254). -/
def State.readUnproven (s : State) (d : DIx) : State :=
  let s := ((s.wr (F.SEQ d) 0).wr (F.SEQ_TIME d) 0).wr (F.PROOF_LAST_PHASE d) 0
  let s := ((s.setF (F.SEQ_STATUS_PROVEN d) false).setF (F.SEQ_STATUS_CREEP d) false).setF (F.SEQ_STATUS_TAKEOVER_HOLD d) false
  let s := (s.setF (F.SEQ_STATUS_DEFERRED d) false).setF (F.PLAT_STATUS_LATCHED d) false
  (s.lockDrop d).followSeq d

/-! ## The proof stroke (R45, R281, R282) -/

/-- A check of the stroke fails: the leaves stop, the lock goes off. -/
def State.strokeFail (s : State) (d : DIx) (cause : Nat) : State :=
  if (s.seq d).fail.isSome then s
  else
    let s := s.modSeq d (fun q => { q with fail := some cause })
    (s.stopLeaves d).setLock d false

/-- Start a phase. -/
def State.startPhase (s : State) (d : DIx) (n : Nat) : State :=
  let s := (s.modSeq d (fun q => { q with phase := n, phaseFrom := s.now, presented := false })).wr (F.PROOF_LAST_PHASE d) n
  let s := s.when (n == 3) (fun t => t.modTopi d (fun x => { x with profA := [], profB := [], profLost := false }))
  let s := if n = 4 then s.startProof d true else s
  let s := s.when (n != 2 && n != 3) (fun t => t.setF (F.SEQ_STATUS_CREEP d) false)
  if n = 5 then s.setLock d false else s

/-- Limit of a phase, ms. -/
def State.phaseLimit (s : State) (d : DIx) (n : Nat) : Option Nat :=
  match n with
  | 1 => some (10 * s.rd (F.SEQ_LIMITS_UNLOCK_TIMEOUT d))
  | 2 => some 2000
  | 3 => some 2000
  | 4 => some s.sealLimit
  | 5 => some (10 * s.rd (F.SEQ_LIMITS_LOCK_TIMEOUT d))
  | _ => none

/-- The sealed-gap proof has passed (R113). -/
def State.proofOk (s : State) (d : DIx) : Bool := s.rd (F.PROOF_CONSEC d) == 3 && s.flag (F.PROOF_FSIG_OK d)

/-- The condition that passes a phase. -/
def State.phasePasses (s : State) (d : DIx) (n : Nat) : Bool :=
  let dist : Int := s.rd (F.SEQ_LIMITS_PROOF_DIST d) * 100
  match n with
  | 1 => s.lockedOpen d
  | 2 => !s.sw d 0 && !s.sw d 1 && s.atRestAt d 0 dist && s.atRestAt d 1 dist
  | 3 => s.sw d 0 && s.sw d 1 && s.leavesClosed d
  | 4 => s.proofOk d
  | 5 => s.lockedMade d
  | _ => s.sw d 4

/-- Present the targets of phases 2 and 3 once the leaves are at rest. -/
def State.strokeTargets (s : State) (d : DIx) : State :=
  let q := s.seq d
  if (q.phase = 2 ∨ q.phase = 3) ∧ q.presented = false ∧ s.leavesRest d = true then
    let t : Int := if q.phase = 2 then s.rd (F.SEQ_LIMITS_PROOF_DIST d) * 100 else 0
    ((s.present_ d 0 t).present_ d 1 t).modSeq d (fun q => { q with presented := true })
  else s

/-- Clear TAKEOVER_HOLD, as every transition of priorities 1–6 does (R435). -/
def State.endHold (s : State) (d : DIx) : State := s.setF (F.SEQ_STATUS_TAKEOVER_HOLD d) false

/-- The check of R282 that fails at this tick, by its cause code. -/
def State.strokeCheck (s : State) (d : DIx) : Option Nat :=
  let q := s.seq d
  if !s.zeroSpeed then some 8
  else if (s.obst d).cause.isSome && s.rd (F.OBST_STATUS_SS1 d) != 0 then some 7
  else if s.flag (F.PROVE_STATUS_PLAUS_ERR d) then some 9
  else if !s.sw d 4 then some 6
  else if (match s.phaseLimit d q.phase with | some n => s.past q.phaseFrom (msT n) | none => false) && !s.phasePasses d q.phase then some q.phase
  else none

/-- The end of a stroke that has failed: UNPROVEN at the tick that finds the leaves at rest and no SS1 running (R238, R246, R282). -/
def State.strokeEnds (s : State) (d : DIx) (c : Nat) : State :=
  if s.leafMoving d || s.rd (F.OBST_STATUS_SS1 d) == 1 then s else ((s.endStroke d false c).enter d .unproven 0x13).endHold d

/-- The phase of a stroke passes, or its targets are presented. -/
def State.strokeGoes (s : State) (d : DIx) : State :=
  let q := s.seq d
  if s.phasePasses d q.phase then
    let s := s.when (q.phase == 1) (fun t => t.modSeq d (fun q => { q with seenOpen := true }))
    let s := s.when (q.phase == 4) (fun t => t.setF (F.PROOF_PASSED d) true)
    if 6 ≤ q.phase then
      let s := (s.endStroke d true 0).enter d .closedLocked 0x19
      (s.setF (F.SEQ_STATUS_PROVEN d) true).hoursReset d
    else (s.startPhase d (q.phase + 1)).strokeTargets d
  else s.strokeTargets d

/-- What one tick of a proof stroke does (R282). In a hold of R435 its checks go on, but no phase passes and no target is presented. -/
def State.strokeRun (s : State) (d : DIx) : State :=
  match (s.seq d).fail with
  | some c => s.strokeEnds d c
  | none =>
    match s.strokeCheck d with
    | some c => (s.strokeFail d c).strokeEnds d c
    | none => if s.flag (F.SEQ_STATUS_TAKEOVER_HOLD d) then s else s.strokeGoes d

/-- One tick of a proof stroke: PROOF_LAST shows the last or the current stroke. -/
def State.strokeTick (s : State) (d : DIx) : State :=
  (s.wr (F.PROOF_LAST_DURATION d) (s.msSince (s.seq d).strokeFrom 65535)).strokeRun d

/-- Conditions of a proof request (R45, R281). -/
def State.proofAllowed (s : State) (d : DIx) : Bool :=
  s.st d == .unproven && s.zeroSpeed && (s.flag F.TRN_STATUS_DEPOT || (s.seq d).proofNet)

/-- May a stroke start now: fewer than PROOF_CONC run, and no lower doorway waits (R281)? -/
def State.proofTurn (s : State) (d : DIx) : Bool :=
  decide (allD.countP (fun e => s.declared e && s.st e == .proofStroke) < s.rd F.TRN_CFG_PROOF_CONC) &&
  !(allD.any (fun e => decide (e.val < d.val) && s.declared e && s.rd (F.PROOF_LAST_PHASE e) == 0xF))

/-- Accept a proof request: PROOF_STROKE with LOCK_PERMIT granted (R45, R254). -/
def State.strokeStart (s : State) (d : DIx) : State :=
  let s := (s.setF (F.SEQ_CMD_PROOF_REQ d) false).enter d .proofStroke 0x18
  let s := (s.modSeq d (fun q => { q with strokeFrom := s.now, fail := none })).wr (F.PROOF_LAST_DURATION d) 0
  ((s.startPhase d 1).grantPermit d).setLock d true

/-! ## The tick -/

/-- Fix FSIG_OK 20 ms into the seal (R114). DESIGN CHOICE (log entry 192): where no feedback came in those 20 ms the holding force is taken as 0 N. -/
def State.fixSignature (s : State) (d : DIx) : State :=
  let t := s.topi d
  if s.needSet d ≠ 3 ∨ t.fixed = true ∨ ¬ (t.sealAt + msT 20 ≤ s.tb) then s
  else
    let tol : Int := s.rd (F.PROOF_CFG_FSIG_TOL d)
    let within : Int → Int → Bool := fun a b => decide ((a - b).natAbs ≤ tol.toNat)
    let mean : List Int → Int := fun l => if l.isEmpty then 0 else roundDiv (l.foldl (· + ·) 0) l.length
    let prof : Nat → List (Nat × Int) → Bool := fun leaf l => !t.closeRun || l.all (fun x => within x.2 (fsig t.model leaf x.1))
    let ok := s.modelOk d && !t.profLost && prof 0 t.profA && prof 1 t.profB && within (mean t.holdA) (fsigHold t.model 0) &&
      within (mean t.holdB) (fsigHold t.model 1)
    (s.setF (F.PROOF_FSIG_OK d) ok).modTopi d (fun t => { t with fixed := true })

/-- Maintenance access ends at the tick after the guard has closed: each commanded position takes the measured one (R297). -/
def State.endMaint (s : State) (d : DIx) : State :=
  if s.flag (F.PD_STATUS_MAINT d) && !s.flag (F.PD_STATUS_GUARD_OPEN d) then
    allA.foldl (fun t a => if t.flag (F.AX_STATUS_MOVING d a) then t else (t.setX d a (t.pos d a)).wrS (F.TARGET d a) (t.pos d a)) (s.setF (F.PD_STATUS_MAINT d) false)
  else s

/-- What every tick refreshes before it decides: times, the release, the verdict obstacle, creep and the proof. -/
def State.tickPrepare (s : State) (d : DIx) : State :=
  let s := s.wr (F.SEQ_TIME d) (s.msSince (s.seq d).entered (2 ^ 32 - 1))
  let s := s.setF (F.SEQ_STATUS_RELEASE_OK d) (s.releaseOk d)
  let st := s.st d
  let v := s.verdictNow d
  let obs := v.1 == vObst && (s.needSet d == 2 || s.needSet d == 3)
  let s := (s.setF (F.OBST_STATUS_VERDICT d) obs).obstSeen d
  let s := s.when obs (fun t => t.fusion d true)
  let creeping := st == .warning || st == .closing || (st == .proofStroke && ((s.seq d).phase == 2 || (s.seq d).phase == 3))
  let s := s.when creeping (fun t => if v.1 = vClear then t.setF (F.SEQ_STATUS_CREEP d) false
    else if v.1 = vUnknown then t.setF (F.SEQ_STATUS_CREEP d) true else t)
  let s := s.when (s.needSet d == 3) (fun t =>
    let t := t.when (!t.leavesClosed d) (fun t => (t.wr (F.PROOF_CONSEC d) 0).modTopi d (fun x => { x with moved := true }))
    t.when (!t.flag (F.PROOF_PASSED d)) (fun t => t.wrSat (F.PROOF_PROOF_TIME d) ((t.tb - (t.topi d).sealAt) / 160000)))
  let s := s.fixSignature d
  s.modCyc d (fun c => { c with
    shed := max c.shed (s.rd F.MOD_STATE_SHED), deferred := s.flag (F.SEQ_STATUS_DEFERRED d) || (c.deferred && st != .unproven && st != .closedLocked),
    creep := c.creep || s.flag (F.SEQ_STATUS_CREEP d), hold := c.hold || s.flag (F.SEQ_STATUS_TAKEOVER_HOLD d) })

/-- Priorities 1–3 of R29. -/
def State.prio123 (s : State) (d : DIx) : Option State :=
  let st := s.st d
  if (s.dwy d).fencePend || s.modState == 4 then
    if st == .fenced then none else some (s.enter d .fenced 0x12)
  else if s.flag (F.PD_STATUS_HANDLE_OP d) && st != .fenced && st != .emergency then some (s.enterEmergency d)
  else if s.flag (F.PROVE_STATUS_ISO d) && st != .fenced && st != .emergency && st != .isolated then some (s.enterIsolated d)
  else none

/-- Priority 4 of R29: zero speed lost (R39), or the release withdrawn while it holds (R40). -/
def State.prio4 (s : State) (d : DIx) : Option State :=
  let q := s.seq d
  let zs := s.zeroSpeed
  let rel := s.flag (F.SEQ_STATUS_RELEASE_OK d)
  let lost := q.zsPrev && !zs
  match s.st d with
  | .released => if !rel then some (s.afterRelease d (if zs then 0x04 else 0x0F)) else none
  | .stepDeploy =>
    if lost then some ((s.stopAxis d 2 .stopRamp).enter d .stepStow 0x0F)
    else if zs && !rel then some ((s.stopAxis d 2 .stopRamp).enter d .stepStow 0x04)
    else none
  | .unlocking => if lost then some (s.heldZeroSpeed d) else if zs && !rel then some (s.enter d .sealing 0x04) else none
  | .opening =>
    if lost then some (s.heldZeroSpeed d)
    else if q.relStop then (if s.leavesRest d then some (s.enter d .warning 0x04) else none)
    else none
  | .opened => if lost then some (s.heldZeroSpeed d) else if zs && !rel then some (s.enter d .warning 0x04) else none
  | .warning | .closing | .sealing => if lost then some (s.heldZeroSpeed d) else none
  | _ => none

/-- A limit has run since the lock command changed (R255). -/
def State.lockRan (s : State) (d : DIx) (ms : Nat) : Bool := s.past (s.seq d).lockFrom (msT ms)

/-- Priority 6 of R29: the timeout of the current state. -/
def State.prio6 (s : State) (d : DIx) : Option State :=
  match s.st d with
  | .stepDeploy => if s.inStateFor d 1200 && !s.atRestAt d 2 (s.rd (F.STEP_STATUS_TARGET d)) then
      some (((s.stopAxis d 2 .stopRamp).stage 0x3003 d.val [0]).enter d .stepStow 0x0E) else none
  | .unlocking => if s.lockRan d (10 * s.rd (F.SEQ_LIMITS_UNLOCK_TIMEOUT d)) && !s.lockedOpen d then
      some ((((s.setF (F.SEQ_STATUS_PROVEN d) false).modSeq d (fun q => { q with seenOpen := false })).stage 0x3002 d.val [0]).enter d .stepStow 0x0C) else none
  | .warning => if s.past (s.seq d).warnFrom (msT (100 * s.rd (F.SEQ_TIMING_WARN_TIME d))) && !(s.obst d).warnOn then some (s.enter d .closing 0x16) else none
  | .sealing => if s.inStateFor d s.sealLimit then
      let s := s.stage 0x3001 d.val []
      some (if s.flag (F.SEQ_CFG_SEAL_FAIL_REOPEN d) && s.flag (F.SEQ_STATUS_RELEASE_OK d) then s.enter d .opening 0x0B else s.enterHeld d 0x0B)
    else none
  | .locking => if s.lockRan d (10 * s.rd (F.SEQ_LIMITS_LOCK_TIMEOUT d)) && !s.lockedMade d then
      some ((s.stage 0x3002 d.val [1]).enterHeld d 0x0D) else none
  | .stepStow => if s.inStateFor d (10 * s.rd (F.SEQ_LIMITS_STOW_TIMEOUT d)) then
      some (((s.stopAxis d 2 .stopRamp).stage 0x3003 d.val [1]).enterHeld d 0x0E) else none
  | _ => none

/-- Leave REVERSING or OBSTRUCTED with the obstacle cause kept (R49, R245, R246). -/
def State.afterReversal (s : State) (d : DIx) : State :=
  let c := (s.seq d).obCause
  if s.flag (F.SEQ_CFG_REV_REOPEN d) && s.flag (F.SEQ_STATUS_RELEASE_OK d) then s.enter d .opening c else s.enterHeld d c

/-- Priority 5 of R29: an obstacle reported by the fusion (R33, R238, R239). -/
def State.prio5 (s : State) (d : DIx) : Option State :=
  match (s.obst d).cause with
  | none => none
  | some c =>
    if s.rd (F.OBST_STATUS_SS1 d) = 0 then none
    else match s.st d with
      | .opening | .closing | .sealing => some (s.enter d .obstructed c)
      -- the reversal counts as travelled (R238, R245)
      | .reversing => if (s.obst d).sto && s.rd (F.OBST_STATUS_SS1 d) != 1 then some (s.afterReversal d) else none
      | _ => none

/-- Entry to REVERSING: each leaf's commanded position takes the measured one (R245). -/
def State.enterReversing (s : State) (d : DIx) : State :=
  let s := s.enter d .reversing (s.seq d).obCause
  [(0 : AIx), 1].foldl (fun t a => (t.haltAxis d a).setX d a (t.pos d a)) s

/-- Entry to RELEASED, unless a rejoin defers it (R38). -/
def State.tryRelease (s : State) (d : DIx) : Option State :=
  if !s.flag (F.SEQ_STATUS_RELEASE_OK d) then none
  else if s.coppiced then none
  else some ((s.setF (F.SEQ_STATUS_DEFERRED d) false).enter d .released 0x01)

/-- Priority 7 of R29: a motion, proof or switch condition is complete. -/
def State.prio7 (s : State) (d : DIx) : Option State :=
  match s.st d with
  | .unproven | .closedLocked => s.tryRelease d
  | .released => if s.flag (F.SEQ_CFG_AUTO_OPEN d) then some (s.enter d .stepDeploy 0x02) else none
  | .stepDeploy => if s.atRestAt d 2 (s.rd (F.STEP_STATUS_TARGET d)) then
      let s := s.modCyc d (fun c => { c with deployMs := some ((s.now - c.deployFrom) / 160000) })
      some ((s.when (s.flag (F.SEQ_STATUS_RELEASE_OK d)) (fun t => t.grantPermit d)).enter d .unlocking 0x05) else none
  | .unlocking => if s.lockedOpen d then
      let s := s.modCyc d (fun c => { c with unlockMs := some ((s.now - c.unlockFrom) / 160000) })
      some ((s.modSeq d (fun q => { q with seenOpen := true })).enter d .opening 0x05) else none
  | .opening => if s.leavesOpen d && !(s.seq d).relStop then some (s.enter d .opened 0x05) else none
  | .closing => if s.leavesClosed d then some (s.enter d .sealing 0x05) else none
  | .sealing => if s.proofOk d then some ((s.setF (F.PROOF_PASSED d) true).enter d .locking 0x0A) else none
  | .locking => if s.lockedMade d then
      let s := s.modCyc d (fun c => { c with lockMs := some ((s.now - c.lockFrom) / 160000) })
      some (s.enter d .stepStow 0x05) else none
  | .stepStow => if s.sw d 4 then some (s.endStow d) else none
  | .obstructed => if (s.obst d).sto && s.rd (F.OBST_STATUS_SS1 d) != 1 then
      some (if (s.seq d).inOpening then s.enterHeld d (s.seq d).obCause else s.enterReversing d) else none
  | .reversing =>
    let q := s.seq d
    if (q.presented && s.leavesRest d && (s.axis d 0).presented.isNone && (s.axis d 1).presented.isNone) then some (s.afterReversal d) else none
  | .isolated => if !s.flag (F.PROVE_STATUS_ISO d) then some (s.enter d .unproven 0x11) else none
  | .held => none
  | _ => none

/-- The retry row of R42. -/
def State.retryDue (s : State) (d : DIx) : Bool :=
  let c := s.rd (F.SEQ_CAUSE d)
  s.st d == .held && s.inStateFor d (100 * s.rd (F.SEQ_TIMING_RETRY_DELAY d)) && (obstacleCause c || c == 0x0B) && s.closeDemand d &&
  decide (s.rd (F.SEQ_STATUS_RETRY d) < s.rd (F.SEQ_CFG_RETRY_MAX d))

/-- AUTO_CLOSE has elapsed in OPEN (R33); 0 is off. -/
def State.autoCloseDue (s : State) (d : DIx) : Bool :=
  let n := s.rd (F.SEQ_TIMING_AUTO_CLOSE d)
  s.st d == .opened && decide (n ≠ 0) && s.inStateFor d (1000 * n)

/-- Take the waiting open request. -/
def State.takeOpen (s : State) (d : DIx) : State := (s.setF (F.SEQ_CMD_OPEN_REQ d) false).modSeq d (fun q => { q with openIn := false })

/-- Open from HELD: LOCK_PERMIT is granted (R42, R254). -/
def State.openFromHeld (s : State) (d : DIx) (cause : Nat) : State := (s.grantPermit d).enter d .opening cause

/-- Priority 8 of R29: requests. -/
def State.prio8 (s : State) (d : DIx) : Option State :=
  let rel := s.flag (F.SEQ_STATUS_RELEASE_OK d)
  let open_ := s.openReq d
  match s.st d with
  | .unproven => if s.flag (F.SEQ_CMD_PROOF_REQ d) && s.proofAllowed d && s.proofTurn d then some (s.strokeStart d) else none
  | .released => if open_ then some ((s.takeOpen d).enter d .stepDeploy 0x02) else none
  | .opened => if s.closeDemand d || s.autoCloseDue d then some (s.enter d .warning 0x03) else none
  | .warning => if open_ && rel then some ((s.takeOpen d).enter d (if s.leavesOpen d then .opened else .opening) 0x02) else none
  | .closing => if open_ && rel && s.flag (F.SEQ_CFG_REOPEN_ON_REQ d) && decide (3000 ≤ s.leafGap d) then
      some (((s.takeOpen d).stopLeaves d).enter d .opening 0x02) else none
  | .held =>
    if open_ && rel then some ((s.takeOpen d).openFromHeld d 0x02)
    else if s.retryDue d then some ((s.inc (F.SEQ_STATUS_RETRY d)).enter d .warning 0x15)
    else none
  | _ => none

/-- Does a state allow an open request now (R33, R37, R42)? -/
def State.openAllowed (s : State) (d : DIx) : Bool :=
  let rel := s.flag (F.SEQ_STATUS_RELEASE_OK d)
  match s.st d with
  | .released => true
  | .warning | .held => rel
  | .closing => rel && s.flag (F.SEQ_CFG_REOPEN_ON_REQ d) && decide (3000 ≤ s.leafGap d)
  | _ => false

/-- Refuse the open and close requests that are `no` longer allowed (R47), and a proof request that is not allowed; one that waits shows phase 0xF. -/
def State.refuseReqs (s : State) (d : DIx) (noOpen noClose : Bool) : State :=
  let s := s.when (noOpen && s.flag (F.SEQ_CMD_OPEN_REQ d)) (fun t => t.refuseReq d (F.SEQ_CMD_OPEN_REQ d))
  let s := s.when noOpen (fun t => t.modSeq d (fun q => { q with openIn := false }))
  let s := s.when (noClose && s.flag (F.SEQ_CMD_CLOSE_REQ d)) (fun t => t.refuseReq d (F.SEQ_CMD_CLOSE_REQ d))
  if s.flag (F.SEQ_CMD_PROOF_REQ d) then
    if s.proofAllowed d then s.wr (F.PROOF_LAST_PHASE d) 0xF
    else (s.refuseReq d (F.SEQ_CMD_PROOF_REQ d)).when (s.rd (F.PROOF_LAST_PHASE d) == 0xF) (fun t => t.wr (F.PROOF_LAST_PHASE d) 0)
  else s

/-- Requests that no transition of this tick has taken are refused (R47); a CLOSE_REQ in HELD stays (R42). -/
def State.refuseRest (s : State) (d : DIx) : State := s.refuseReqs d true (s.st d != .held)

/-- Requests at a tick whose transition, `s0` to `s`, is not theirs, or that may make none: those that the state before it does not allow are refused
(R47), the others are looked at again at the next tick (R29). -/
def State.refuseOld (s s0 : State) (d : DIx) : State :=
  s.refuseReqs d (!s0.openAllowed d) (s0.st d != .held && s0.st d != .opened)

/-- Targets that the state presents, only at rest (R174, R245, R269, R270), and the step's verdict stop (R247). -/
def State.presentTargets (s : State) (d : DIx) : State :=
  let q := s.seq d
  let clear := (s.verdictNow d).1 == vClear
  let obst := (s.verdictNow d).1 == vObst
  let both : Int → Int → State := fun a b => ((s.present_ d 0 a).present_ d 1 b).modSeq d (fun q => { q with presented := true })
  match s.st d with
  | .stepDeploy | .stepStow =>
    let t : Int := if s.st d == .stepDeploy then s.rd (F.STEP_STATUS_TARGET d) else 0
    if obst && s.flag (F.AX_STATUS_MOVING d 2) then (s.stopAxis d 2 .stopRamp).modSeq d (fun q => { q with relStop := true, presented := false })
    else if !q.presented && s.flag (F.AX_STATUS_AT_REST d 2) && (!q.relStop || clear) then
      (s.present_ d 2 t).modSeq d (fun q => { q with presented := true, relStop := false })
    else s
  | .opening => if !q.presented && !q.relStop && s.leavesRest d then both (s.travelMax d 0) (s.travelMax d 1) else s
  | .closing => if !q.presented && s.leavesRest d then both 0 0 else s
  | .reversing =>
    if !q.presented && s.leavesRest d then
      let r : Int := s.rd (F.REV_CFG_REV_DIST d) * 10
      let t : AIx → Int := fun a => min (s.pos d a + r) (s.travelMax d a)
      both (t 0) (t 1)
    else s
  | _ => s

/-- The drive-enable column of R34 at the end of a tick: fences where it cannot be served (R190, R217), enables high after STO (R243). -/
def State.denService (s : State) (d : DIx) : State :=
  let st := s.st d
  let maint := s.flag (F.PD_STATUS_MAINT d)
  if st == .held && s.needTh d then
    -- the enables go high only for a host move (R297, R300), and not with a signal loss (R217)
    if allA.any (fun a => s.flag (F.POS_STATUS_LOSS d a)) then (if (s.dwy d).fencePend then s else s.fence d 3)
    else if s.rd (F.OBST_STATUS_SS1 d) = 1 || (s.hostAxis d).isSome then s
    else if s.hostMoveOk d && allA.any (fun a => (s.axis d a).hostPresented.isSome) then s.denOnMeasured d
    else s.denOff d
  else if st.denHigh && maint then
    if (s.dwy d).fencePend then s else (s.fence d 7).stage 0x3901 d.val [2, st.code]
  else if st.denHigh then
    if (s.dwy d).fencePend then s
    else if allA.any (fun a => s.flag (F.POS_STATUS_LOSS d a)) then s.fence d 3
    else if s.rd (F.DRV_STATUS_LINK d) < 3 then
      if (s.drv d).retrainOpen then s
      else (s.stage 0x4403 d.val [(s.drv d).step, (s.reg (F.DRV_STATUS d).addr).toNat]).fence d 2
    else if s.rd (F.OBST_STATUS_SS1 d) = 1 then s
    else s.denOn d
  else if s.rd (F.OBST_STATUS_SS1 d) = 1 then s
  else s.denOff d

/-- Decide one tick by the priorities of R29. -/
def State.decide_ (s : State) (d : DIx) : State :=
  match s.prio123 d with
  | some t => (t.endHold d).refuseOld s d
  | none =>
    if s.st d == .proofStroke then (s.strokeTick d).refuseRest d
    else match s.prio4 d with
      | some t => (t.endHold d).refuseOld s d
      | none => match s.prio5 d with
        | some t => (t.endHold d).refuseOld s d
        | none => match s.prio6 d with
          | some t => (t.endHold d).refuseOld s d
          | none =>
            if s.flag (F.SEQ_STATUS_TAKEOVER_HOLD d) then s.refuseOld s d
            else match s.prio7 d with
              | some t => t.refuseOld s d
              | none => match s.prio8 d with
                | some t => t.refuseRest d
                | none => s.refuseRest d

/-- What every tick refreshes before it decides: the values, DEFERRED (R38), and the leaves stopping where the release was withdrawn in
OPENING, before WARNING (R40). -/
def State.tickReady (s : State) (d : DIx) : State :=
  let s := s.tickPrepare d
  let rel := s.flag (F.SEQ_STATUS_RELEASE_OK d)
  let s := s.setF (F.SEQ_STATUS_DEFERRED d) ((s.st d == .unproven || s.st d == .closedLocked) && rel && s.coppiced)
  s.when (s.st d == .opening && s.zeroSpeed && !rel && !(s.seq d).relStop) (fun t =>
    (t.stopLeaves d).modSeq d (fun q => { q with relStop := true }))

/-- New settings of the obstacle registers take effect at a tick with no SS1 running and the leaves at rest (R251). -/
def State.applyObst (s : State) (d : DIx) : State :=
  s.when (!s.imgPend.isEmpty && !s.leafMoving d && s.rd (F.OBST_STATUS_SS1 d) != 1) (fun t => t.applyRange (dw d 0x600) (dw d 0x638))

/-- What a tick decides on: MAINT ends first where its conditions are gone (R297), then the values are refreshed. -/
def State.tickSees (s : State) (d : DIx) : State := ((s.endMaint d).applyObst d).tickReady d

/-- What a tick serves after it has decided: the drive enables of the state and its targets (R34, R174). -/
def State.tickServe (s : State) (d : DIx) : State :=
  let s := s.modSeq d (fun q => { q with zsPrev := s.zeroSpeed })
  let s := s.denService d
  s.when (!s.flag (F.SEQ_STATUS_TAKEOVER_HOLD d)) (fun t => t.presentTargets d)

/-- Does the sequencer of a module outside SAFE run: in RUN, with authority, no handover under way (R423, R437), no KEEP entry or shutdown? -/
def State.sequences (s : State) : Bool := s.inRun && s.hasAuth && !s.pair.hoRun && !s.outputsOff

/-- Requests at a tick of a sequencer that makes no transition of its own (R423): none is allowed, so all are refused but a CLOSE_REQ in HELD (R47). -/
def State.refuseIdle (s : State) (d : DIx) : State :=
  let s := s.when (s.flag (F.SEQ_CMD_PROOF_REQ d)) (fun t => (t.refuseReq d (F.SEQ_CMD_PROOF_REQ d)).when (t.rd (F.PROOF_LAST_PHASE d) == 0xF)
    (fun t => t.wr (F.PROOF_LAST_PHASE d) 0))
  s.refuseRest d

/-- One tick of the sequencer of doorway d (R28–R45). A module without authority makes no transition of its own (R423), except into
FENCED in SAFE (R387, R392). -/
def State.seqTick (t : State) (d : DIx) : State :=
  let s := (t.endMaint d).applyObst d
  if s.modState == 4 then
    (match s.prio123 d with
    | some t => t
    | none => s.wr (F.SEQ_TIME d) (s.msSince (s.seq d).entered (2 ^ 32 - 1))).refuseIdle d
  else if s.sequences then ((t.tickSees d).decide_ d).tickServe d
  else if s.inRun && s.hasAuth then s.refuseOld s d
  else s.refuseIdle d

/-- The zone set and the plan of a tick are kept for 128 ms (R98), in every state of the module. DEDUCED (log entry 149): the state of a tick is the
one that the tick has decided. -/
def State.keepTick (s : State) (d : DIx) : State :=
  s.modTopi d (fun t => { t with
    sets := (s.tb, s.needSet d) :: t.sets.filter (fun x => decide (s.tb ≤ x.1 + msT 128))
    plans := (s.tb, [s.leafPlan d 0, s.leafPlan d 1]) :: t.plans.filter (fun x => decide (s.tb ≤ x.1 + msT 128)) })

/-! ## Timed commands: the tick that finds a timer run out -/

/-- A timed command of the sequencer: the tick acts when its condition is due. -/
def State.dueTick (s : State) (d : DIx) (due : State → Bool) : State := s.onD d (fun s => if due s then (s.seqTick d).keepTick d else s)

/-- PROOF_PHASE_TIMEOUT (R282). -/
def proofPhaseTimeout (d : DIx) (s : State) : State :=
  s.dueTick d (fun s => s.st d == .proofStroke && (match s.phaseLimit d (s.seq d).phase with | some n => s.past (s.seq d).phaseFrom (msT n) | none => false))

/-- SEAL_TIMEOUT (R35). -/
def sealTimeout (d : DIx) (s : State) : State := s.dueTick d (fun s => s.st d == .sealing && s.inStateFor d s.sealLimit)

/-- UNLOCK_TIMEOUT (R43). -/
def unlockTimeout (d : DIx) (s : State) : State :=
  s.dueTick d (fun s => s.st d == .unlocking && s.lockRan d (10 * s.rd (F.SEQ_LIMITS_UNLOCK_TIMEOUT d)))

/-- LOCK_TIMEOUT (R43). -/
def lockTimeout (d : DIx) (s : State) : State :=
  s.dueTick d (fun s => s.st d == .locking && s.lockRan d (10 * s.rd (F.SEQ_LIMITS_LOCK_TIMEOUT d)))

/-- STEP_DEPLOY_TIMEOUT (R43). -/
def stepDeployTimeout (d : DIx) (s : State) : State := s.dueTick d (fun s => s.st d == .stepDeploy && s.inStateFor d 1200)

/-- STOW_TIMEOUT (R43). -/
def stowTimeout (d : DIx) (s : State) : State :=
  s.dueTick d (fun s => s.st d == .stepStow && s.inStateFor d (10 * s.rd (F.SEQ_LIMITS_STOW_TIMEOUT d)))

/-- WARN_TIME_ELAPSED (R33). -/
def warnTimeElapsed (d : DIx) (s : State) : State :=
  s.dueTick d (fun s => s.st d == .warning && s.past (s.seq d).warnFrom (msT (100 * s.rd (F.SEQ_TIMING_WARN_TIME d))))

/-- AUTO_CLOSE_ELAPSED (R33). -/
def autoCloseElapsed (d : DIx) (s : State) : State := s.dueTick d (fun s => s.autoCloseDue d)

/-- RETRY_DELAY_ELAPSED (R42). -/
def retryDelayElapsed (d : DIx) (s : State) : State := s.dueTick d (fun s => s.retryDue d)

/-! ## Requests -/

/-- OPEN_REQ (R46, R47). -/
def openReq (d : DIx) (s : State) : State := s.onD d (fun s => s.setF (F.SEQ_CMD_OPEN_REQ d) true)

/-- CLOSE_REQ (R46, R47). -/
def closeReq (d : DIx) (s : State) : State := s.onD d (fun s => s.setF (F.SEQ_CMD_CLOSE_REQ d) true)

/-- PROOF_REQ; `net` says that the request counts as coming from the train network (R281). -/
def proofReq (d : DIx) (net : Bool) (s : State) : State :=
  s.onD d (fun s => (s.setF (F.SEQ_CMD_PROOF_REQ d) true).modSeq d (fun q => { q with proofNet := net }))

/-- PROOF_ALL: a stroke for every UNPROVEN doorway (R281, R285). -/
def proofAll (net : Bool) (s : State) : State :=
  s.onM fun s => s.declaredList.foldl (fun t d => if t.st d == .unproven then proofReq d net t else t) s

/-- PASSENGER_OPEN_INPUT: a rising filtered edge of PASS_IN or CREW_OPEN_IN that a scan has seen is an open request (R346). -/
def passengerOpenInput (d : DIx) (s : State) : State :=
  s.onD d (fun s => if (s.seq d).openEdge then s.modSeq d (fun q => { q with openEdge := false, openIn := true }) else s)

/-! ## Reset edges (R278–R280) -/

/-- Record a reset edge in RESET_STATUS. -/
def State.resetResult (s : State) (d : DIx) (src res : Nat) (count : Bool) : State :=
  let s := (s.wr (F.RESET_STATUS_LAST_SRC d) src).wr (F.RESET_STATUS_LAST_RESULT d) res
  s.when count (fun t => t.inc (F.RESET_STATUS_COUNT d))

/-- Both leaves closed and locked (R41). -/
def State.closedAndLocked (s : State) (d : DIx) : Bool := s.sw d 0 && s.sw d 1 && s.sw d 2 && s.sw d 3

/-- Is a handle channel operated (R292)? Both restored is the negation. -/
def State.handleRestored (s : State) (d : DIx) : Bool := !s.flag (F.PD_STATUS_HANDLE_OP d)

/-- What a reset edge does to a doorway (R280): the new state and whether it acted. A fault of the same tick is handled first (R400), and so are
module SAFE, the handle and the isolation switch in HELD (R29, priorities 1–3). -/
def State.resetDoor (s : State) (d : DIx) : State × Bool :=
  let fencing := (s.dwy d).fencePend
  let plaus := s.flag (F.PROVE_STATUS_PLAUS_ERR d) && !((s.implausible d).any (·.2))
  let s := s.when plaus (fun t => (t.setF (F.PROVE_STATUS_PLAUS_ERR d) false).modLock d (fun l => { l with plausTold := List.replicate 8 false }))
  let holdOut := s.flag (F.SEQ_STATUS_TAKEOVER_HOLD d) && s.allAtRest d
  let s := s.when holdOut (fun t => t.endHold d)
  let first := s.modState == 4 || s.flag (F.PD_STATUS_HANDLE_OP d) || s.flag (F.PROVE_STATUS_ISO d)
  if (fencing && s.st d != .fenced) || (first && s.st d == .held) then (s, plaus || holdOut)
  else match s.st d with
    | .held =>
      let s := s.setF (F.SEQ_STATUS_RELEASE_OK d) (s.releaseOk d)
      let rel := s.flag (F.SEQ_STATUS_RELEASE_OK d)
      if (s.seq d).stowHeld then (s.enter d .stepStow 0x14, true)
      else if s.openReq d && rel then ((s.takeOpen d).openFromHeld d 0x02, true)
      else if rel && !s.closeDemand d then (s.openFromHeld d 0x14, true)
      else (s.enter d .warning 0x14, true)
    | .fenced =>
      if bitOf (s.fenceSet d) 1 then
        -- CLR_FAULT in one frame; judged at the end of the clearing interval (R190)
        (s.modDrv d (fun v => { v with clrFault := true }), plaus || holdOut)
      else if s.fenceSet d = 0 ∧ s.modState ≠ 4 then (s.enter d .unproven 0x14, true)
      else (s, plaus || holdOut)
    | .emergency =>
      if s.handleRestored d then
        if s.closedAndLocked d then (s.enter d .unproven 0x14, true) else (s.enterHeld d 0x14, true)
      else (s, plaus || holdOut)
    | _ => (s, plaus || holdOut)

/-- Does a reset edge at this doorway wait for the end of the clearing interval (R190)? -/
def State.edgeWaits (s : State) (d : DIx) : Bool := s.st d == .fenced && bitOf (s.fenceSet d) 1

/-- Hold a reset edge until it is judged: its source (R280: 1 CREW_IN, 2 RESET_REQ), its T_high and whether it has acted so far. -/
def State.holdEdge (s : State) (d : DIx) (src ms : Nat) (acted : Bool) : State :=
  s.modDrv d (fun v => { v with edges := v.edges ++ [{ at_ := s.now, src := src, ms := ms, acted := acted }] })

/-- 0x310A of a RESET_REQ edge, once no doorway waits with it (R280). -/
def State.requestRecord (s : State) (ms : Nat) (acted : Bool) : State :=
  if s.declaredList.any (fun d => (s.drv d).edges.any (fun e => e.src == 2)) then
    { s with trn := { s.trn with rstJudge := some (ms, acted) } }
  else ({ s with trn := { s.trn with rstJudge := none } }).stage 0x310A sysRec [2, b2n (!acted), ms]

/-- The result of an edge that has been judged: RESET_STATUS and 0x310A (R190, R280). -/
def State.judgedEdge (s : State) (d : DIx) (e : HeldEdge) (left : Bool) : State :=
  let acts := e.acted || left
  let s := s.resetResult d e.src (b2n (!acts)) true
  if e.src = 1 then s.stage 0x310A d.val [1, b2n (!acts), e.ms]
  else match s.trn.rstJudge with
    | some (ms, a) => s.requestRecord ms (a || acts)
    | none => s

/-- FAULT_CLEAR_INTERVAL_END: 5 ms after a reset edge on fence source 2, the oldest that waits (R190, R280). -/
def faultClearIntervalEnd (d : DIx) (s : State) : State :=
  s.onD d fun s =>
    match (s.drv d).edges with
    | [] => s
    | e :: l =>
      if !s.past e.at_ (msT 5) then s
      else
        let s := s.modDrv d (fun v => { v with edges := l })
        let s := if s.driveClear d && bitOf (s.fenceSet d) 1 then s.fenceClear d 2 else s
        let left := s.st d == .fenced && s.fenceSet d == 0 && !(s.dwy d).fencePend && s.modState != 4
        (if left then s.enter d .unproven 0x14 else s).judgedEdge d e left

/-- RESET_INPUT_HELD_LONG: active for more than 2,000 ms (R278). -/
def resetInputHeldLong (src : ResetSrc) (s : State) : State :=
  match src with
  | .crew d => s.onD d fun s =>
    match (s.lockH d).crewOn with
    | some t => if decide (t + msT 2000 < s.now) then
        ((s.modLock d (fun l => { l with crewReady := false })).setF (F.RESET_STATUS_HELD_LONG d) true).resetResult d 1 3 false
      else s
    | none => s
  | .request => s.onM fun s =>
    match s.trn.rstOn with
    | some t => if decide (t + msT 2000 < s.now) then
        let s := { s with trn := { s.trn with rstReady := false } }
        s.declaredList.foldl (fun u d => (u.setF (F.RESET_STATUS_HELD_LONG d) true).resetResult d 2 3 false) s
      else s
    | none => s

/-! ## The commands of this file -/

/-- The meaning of PROOF_PHASE_TIMEOUT (R282). -/
def execProofPhaseTimeout (d : DIx) (s : State) : Host.Outcome State Fault Refusal := .next (s.done (proofPhaseTimeout d s))

/-- The meaning of SEAL_TIMEOUT (R35). -/
def execSealTimeout (d : DIx) (s : State) : Host.Outcome State Fault Refusal := .next (s.done (sealTimeout d s))

/-- The meaning of UNLOCK_TIMEOUT (R43). -/
def execUnlockTimeout (d : DIx) (s : State) : Host.Outcome State Fault Refusal := .next (s.done (unlockTimeout d s))

/-- The meaning of LOCK_TIMEOUT (R43). -/
def execLockTimeout (d : DIx) (s : State) : Host.Outcome State Fault Refusal := .next (s.done (lockTimeout d s))

/-- The meaning of STEP_DEPLOY_TIMEOUT (R43). -/
def execStepDeployTimeout (d : DIx) (s : State) : Host.Outcome State Fault Refusal := .next (s.done (stepDeployTimeout d s))

/-- The meaning of STOW_TIMEOUT (R43). -/
def execStowTimeout (d : DIx) (s : State) : Host.Outcome State Fault Refusal := .next (s.done (stowTimeout d s))

/-- The meaning of WARN_TIME_ELAPSED (R33). -/
def execWarnTimeElapsed (d : DIx) (s : State) : Host.Outcome State Fault Refusal := .next (s.done (warnTimeElapsed d s))

/-- The meaning of AUTO_CLOSE_ELAPSED (R33). -/
def execAutoCloseElapsed (d : DIx) (s : State) : Host.Outcome State Fault Refusal := .next (s.done (autoCloseElapsed d s))

/-- The meaning of RETRY_DELAY_ELAPSED (R42). -/
def execRetryDelayElapsed (d : DIx) (s : State) : Host.Outcome State Fault Refusal := .next (s.done (retryDelayElapsed d s))

/-- The meaning of OPEN_REQ (R47). -/
def execOpenReq (d : DIx) (s : State) : Host.Outcome State Fault Refusal := .next (s.done (openReq d s))

/-- The meaning of CLOSE_REQ (R42). -/
def execCloseReq (d : DIx) (s : State) : Host.Outcome State Fault Refusal := .next (s.done (closeReq d s))

/-- The meaning of PROOF_REQ (R45). -/
def execProofReq (d : DIx) (net : Bool) (s : State) : Host.Outcome State Fault Refusal := .next (s.done (proofReq d net s))

/-- The meaning of PROOF_ALL (R281). -/
def execProofAll (net : Bool) (s : State) : Host.Outcome State Fault Refusal := .next (s.done (proofAll net s))

/-- The meaning of PASSENGER_OPEN_INPUT (R346). -/
def execPassengerOpenInput (d : DIx) (s : State) : Host.Outcome State Fault Refusal := .next (s.done (passengerOpenInput d s))

/-- The meaning of RESET_INPUT_HELD_LONG (R278). -/
def execResetInputHeldLong (src : ResetSrc) (s : State) : Host.Outcome State Fault Refusal := .next (s.done (resetInputHeldLong src s))

/-- The meaning of FAULT_CLEAR_INTERVAL_END (R190). -/
def execFaultClearIntervalEnd (d : DIx) (s : State) : Host.Outcome State Fault Refusal := .next (s.done (faultClearIntervalEnd d s))

end Sys2Proof.Machine
end

