-- ==== Sys2Proof/Machine/Pair.lean ====
section
/-!
DEFINITION. Machine/Pair.lean: the redundant pair (chapter 14): epochs and the mirror link (R425–R427), resynchronisation (R428), claims and
withdrawals (R429–R432), takeover (R433–R436), handover (R437) and partner restart (R440).
-/
namespace Sys2Proof.Machine

/-- Change the pair state. -/
def State.modPair (s : State) (f : PairH → PairH) : State := { s with pair := f s.pair }

/-- Put frames on the mirror link. -/
def State.send (s : State) (fs : List (List Byte)) : State := s.modPair (fun p => { p with out := p.out ++ fs })

/-- STATUS as 0x6006 carries it. -/
def State.pairStatus (s : State) : Nat := (s.reg F.RP_STATUS.addr).toNat

/-! ## Roles (R423, R438) -/

/-- A heartbeat has arrived within 3 ms (R429). -/
def State.heartbeat (s : State) : Bool := match s.pair.hbAt with | some t => decide (s.now < t + msT 3) | none => false

/-- The holder is ACTIVE while its partner is STANDBY and heartbeating, else SOLO (R9, R423). -/
def State.evalRole (s : State) : State :=
  let s := s.setF F.RP_STATUS_HEARTBEAT s.heartbeat
  if s.hasAuth then
    s.setRole (if s.heartbeat && s.flag F.RP_STATUS_LINK_UP && s.rd F.RP_PARTNER_ROLE == 2 && !s.flag F.RP_STATUS_VARIANT_MISMATCH then 3 else 0)
  else s

/-- A module without authority that leaves its state becomes SYNCING: its sequencers read UNPROVEN (R423), but for the fences of SAFE. -/
def State.toSyncing (s : State) : State :=
  let s := (s.setRole 1).modPair (fun p => { p with hoNow := false })
  if s.modState = 4 then s else s.declaredList.foldl State.readUnproven s

/-- Release the claim: every gated output is high-impedance (R422, R430), and a handover or a takeover window is over (R437, R434). -/
def State.releaseAuth (s : State) : State :=
  let s := (s.dropClaim.closeWin 3 25).toSyncing
  let s := s.declaredList.foldl (fun t d => (t.torqueOff d).evalChans d) s
  s.evalOutputs.modPair (fun p => { p with nextCause := 6 })

/-! ## Epochs (R425, R426) -/

/-- Bits of MOD.STATE as EPOCH carries it. -/
def State.live (s : State) : Bool := (s.modState == 2 || s.modState == 3) && !s.pair.hoRun

/-- A doorway block of an epoch (R426). -/
def State.doorBlock (s : State) (d : DIx) : List Byte :=
  if !s.present d then List.replicate 80 0
  else
    let w := fun a => leBytes 4 (s.reg a).toNat
    let axis := fun (a : AIx) => w (F.XCMD d a).addr ++ w (F.TARGET d a).addr ++ leBytes 2 (s.rd (F.SPEED_VCMD d a)) ++
      leBytes 1 (b2n (s.flag (F.AX_STATUS_MOVING d a)) + 2 * b2n (s.flag (F.AX_STATUS_AT_REST d a)) + 4 * b2n (s.flag (F.AX_STATUS_STOPPING d a)) +
        8 * b2n (s.flag (F.AX_STATUS_REFERENCED d a))) ++ [0]
    leBytes 3 (s.reg (F.SEQ d).addr).toNat ++ leBytes 1 (s.rd (F.OBST_STATUS_SS1 d)) ++ w (F.SEQ_STATUS d).addr ++ w (F.SEQ_TIME d).addr ++
    w (F.FLT_DWY d.val).addr ++ axis 0 ++ axis 1 ++ axis 2 ++ leBytes 1 (s.reg (F.LOCK_STATUS d).addr).toNat ++ [0] ++
    leBytes 2 (s.reg (F.PROVE_STATUS d).addr).toNat ++ leBytes 2 (s.reg (F.IN_STATE d).addr).toNat ++ [0, 0] ++ w (F.PROOF d).addr ++
    w (F.PLAT_LATCH d).addr ++ w (F.PD_STATUS d).addr ++ w (F.STEP_STATUS d).addr ++ w (F.PROOF_LAST d).addr

/-- The epoch of generation `gen` (R426); `handover` marks the one that hands over. -/
def State.epochBytes (s : State) (gen : Nat) (handover : Bool) (deltas : List (List Byte)) : List Byte :=
  let auth := s.hasAuth
  let n := if auth then 24 else 0
  let len := 54 + 80 * n + 12 * deltas.length
  let w := fun a => leBytes 4 (s.reg a).toNat
  withCrc ([0x40, 0x01] ++ leBytes 2 len ++ leBytes 4 gen ++
    leBytes 1 (b2n auth + 2 * b2n (s.live && !handover) + 4 * b2n s.chip.slotB + 8 * b2n handover + 16 * b2n s.coppiced + 32 * b2n (s.modState == 4)) ++
    leBytes 1 (s.rd F.RP_STATUS_ROLE) ++ leBytes 1 s.modState ++ leBytes 1 (s.rd F.MOD_STATE_SHED) ++ leBytes 6 s.recd.next ++
    leBytes 1 s.chip.variant.code ++ leBytes 1 n ++ leBytes 4 s.pair.applied ++ leBytes 4 (s.rd F.PLC_DIGEST) ++ w F.CFG_GEN.addr ++ w F.CFG_CODE.addr ++
    w F.KEYSTORE_GEN.addr ++ leBytes 2 (s.rd F.TL_STATE_FILT) ++ leBytes 1 (s.reg F.SIDE_MAP.addr).toNat ++ leBytes 1 (s.reg F.TRN_STATUS.addr).toNat ++
    leBytes 2 (s.reg F.LOOP_STATUS.addr).toNat ++ leBytes 1 (s.reg F.SO_STATUS.addr).toNat ++ [0] ++
    (if auth then allD.flatMap s.doorBlock else []) ++ leBytes 2 deltas.length ++ deltas.flatten)

/-- Is a frame of TYPE `ty` valid (R425)? -/
def mirrorOk (ty : Nat) (p : List Byte) : Bool :=
  fieldAt p 0 1 == ty && fieldAt p 1 1 == 1 && crcTail p && (if ty = 0x40 then fieldAt p 2 2 == p.length && decide (54 ≤ p.length) else true)

/-- Histograms and extremes read back from that layout. -/
def histOfBytes (b : List Byte) : Hist :=
  let put := fun (l : List (Nat × Nat)) k v => Al.set (fun _ => 0) l k v
  { bins := (List.range 512).foldl (fun l k => put l k (fieldAt b (4 * k) 4)) [],
    tot := (List.range 16).foldl (fun l k => put l k (fieldAt b (2048 + 4 * k) 4)) [],
    ext := (List.range 32).foldl (fun l k =>
      let n := fieldAt b (2112 + 12 * k + 4) 6
      if n = 0 then l else Al.set (fun _ => none) l k (some (signed 32 (fieldAt b (2112 + 12 * k) 4), n))) [] }

/-- Cut bytes into frames of a TYPE with `n` data bytes at most; `hd` gives what stands between byte 4 and the OFFSET. -/
def cutFrames (ty n : Nat) (hd : List Byte) (tail : List Byte) (b : List Byte) : List (List Byte) :=
  (List.range ((b.length + n - 1) / n)).map (fun k =>
    let d := (b.drop (k * n)).take n
    withCrc (leBytes 1 ty ++ [1] ++ leBytes 2 d.length ++ hd ++ leBytes 4 (k * n) ++ tail ++ d))

/-- CONTENT frames of an item (R425). -/
def contentFrames (item d : Nat) (b : List Byte) : List (List Byte) :=
  cutFrames 0x43 4072 (leBytes 1 item ++ leBytes 1 d ++ [0, 0]) (leBytes 4 b.length ++ leBytes 4 (crc32c b)) b

/-- The holder sends what the partner lacks or has not been sent: image and keystore where its epoch differs, models and offsets at each
change (R363, R428; which digests the partner holds is on no frame, log entry 19). -/
def State.sendContent (s : State) : State :=
  if !(s.hasAuth || s.modState == 4) || !s.flag F.RP_STATUS_LINK_UP || s.pair.heard.isEmpty then s
  else
    let e := s.pair.heard
    let img := (s.img.runGen, if s.img.running.isSome then imgCode s.runImage else 0)
    let s := if s.img.running.isSome && (fieldAt e 28 4, fieldAt e 32 4) != img && s.pair.sentImg != some img then
        (s.send (contentFrames 1 0 s.runImage)).modPair (fun p => { p with sentImg := some img }) else s
    let s := if fieldAt e 36 4 != s.img.keyGen && s.pair.sentKey != some s.img.keyGen then
        (s.send (contentFrames 2 0 s.img.keyBytes)).modPair (fun p => { p with sentKey := some s.img.keyGen }) else s
    allD.foldl (fun t d =>
      let m := t.storedModel d.val kindConfirmed
      let o := offBytes (t.storedOffs d.val)
      let put := fun (t : State) (item : Nat) (b : List Byte) =>
        let key := item * 256 + d.val
        if b.isEmpty || Al.get (fun _ => 0) t.pair.sentItems key == crc32c b + 1 then t
        else (t.send (contentFrames item d.val b)).modPair (fun p => { p with sentItems := Al.insert p.sentItems key (crc32c b + 1) })
      put (put t 3 m) 4 o) s

/-- REC_FWD of a record (R424, R425): record bytes 6–59, with the flags it was staged with. -/
def fwdFrame (r : Rec) : List Byte :=
  let b := recBytes 0 r false
  withCrc ([0x44, 1, 0, 0] ++ bytesIn b 6 9 ++ leBytes 1 r.flags ++ bytesIn b 10 60 ++ [0, 0])

/-- A module without authority sends the records of its staging queue to the partner that holds it, and holds them until they are acknowledged; while no
link is available, or the partner has no authority to write them, they stay in the queue (R424). -/
def State.sendFwd (s : State) : State :=
  if s.flag F.RP_STATUS_LINK_UP && !s.hasAuth && bitOf (fieldAt s.pair.heard 8 1) 0 then
    let s : State := { s with pair := { s.pair with fwd := s.pair.fwd ++ s.recd.queue }, recd := { s.recd with queue := [] } }
    let new := s.pair.fwd.drop s.pair.fwdSent
    (s.send (new.map fwdFrame)).modPair (fun p => { p with fwdSent := p.fwd.length })
  else s

/-- EPOCH_SEND: every 1 ms from entry to CONFIG an epoch leaves on both lanes (R425, R426), and with it the snapshot of this generation where
one was asked for (R428), content and forwarded records. -/
def epochSend (s : State) : State :=
  s.onM fun s =>
    if s.modState = 0 then s
    else
      let auth := s.hasAuth
      let gen := if auth then (s.pair.gen + 1) % 2 ^ 32 else s.pair.applied
      let ds := if auth then s.pair.deltas.take 128 else []
      let b := s.epochBytes gen s.pair.hoNow ds
      let s := s.modPair (fun p => { p with
        gen := if auth then gen else p.gen, out := [b], deltas := if auth then p.deltas.drop 128 else p.deltas, hoNow := if auth then false else p.hoNow,
        sentSeq := if auth then (gen, s.recd.next) :: p.sentSeq.take 1023 else p.sentSeq })
      let s := if auth then s.wr F.RP_MIRROR gen else s
      let s := if s.pair.snapReq ∧ (auth ∨ s.modState = 4) then
          let data := b ++ allD.flatMap (fun d => histBytes (s.dwy d).hist)
          (s.send (cutFrames 0x42 4080 (leBytes 4 gen) [] data)).modPair (fun p => { p with snapReq := false })
        else s
      s.sendContent.sendFwd

/-! ## Receiving a frame (R425, R406) -/

/-- Count an invalid copy on a lane. -/
def State.laneCopy (s : State) (lane : Nat) (ok : List Byte → Bool) (c : List Byte) : State :=
  if c.isEmpty then s
  else if ok c then s.modPair (fun p => { p with laneAt := setNth p.laneAt lane (some s.now) })
  else s.inc (if lane = 0 then F.RP_MIRROR_ERR_LANE0 else F.RP_MIRROR_ERR_LANE1)

/-- The link is lost (R425, R427): the holder is SOLO, a STANDBY partner SYNCING; records to forward go back to staging (R424). -/
def State.linkLost (s : State) (cause : Nat) : State :=
  if !s.flag F.RP_STATUS_LINK_UP then s
  else
    let gen := if s.hasAuth then s.pair.gen else s.pair.applied
    let lane := b2n (s.flag F.RP_STATUS_LANE_FAULT)
    let back := s.pair.fwd
    let s := (s.faultM.setF F.RP_STATUS_LINK_UP false).modPair (fun p => { p with
      fwd := [], fwdSent := 0, fwdAcked := 0, fwdTaken := 0, sentImg := none, sentKey := none, sentItems := [], content := [], snap := [], phase := 0, nextCause := cause,
      agreeSince := none, hoNow := false })
    let s := (s.setF F.RP_STATUS_RESYNCING false).setF F.RP_STATUS_CONTENT false
    let s := (s.closeWin 4 24).restage back
    let s := s.stage 0x6004 sysRec [gen, lane]
    if s.hasAuth then s.evalRole else if s.rd F.RP_STATUS_ROLE = 2 then s.toSyncing else s

/-- The MIRROR unit of a lane checks the copy that arrived there, if one did (R406): whether it and the receiver agree. A disagreement is handled as a
lost link (R427). -/
def State.laneUnit (s : State) (lane : Nat) (ok : Bool) (c : List Byte) (cf : CheckFault) : Bool × State :=
  match c, s.cvuOf 3 lane with
  | _ :: _, some u =>
    let v := crc32c (c.take (c.length - 4))
    match cf with
    | .agree => (true, s.cvuCheck u v (!ok))
    | .unitBad => (false, ((s.cvuFails u ok).cvuDisagree u false).linkLost 5)
    | .primaryBad => (false, ((s.cvuCheck u v (!ok)).cvuDisagree u true).linkLost 5)
  | _, _ => (true, s)

/-- The copies of one frame on the two lanes, empty where none arrived: the first valid copy, after the check of every copy by the MIRROR unit of its
lane (R406, R425). `cf` is about the copy that is taken, or else the first that arrived. -/
def State.takeCopy (s : State) (ty : Nat) (c0 c1 : List Byte) (cf : CheckFault) : Option (List Byte) × State :=
  let ok := mirrorOk ty
  let s := (s.laneCopy 0 ok c0).laneCopy 1 ok c1
  let first := ok c0 || (!ok c1 && !c0.isEmpty)
  let c := if ok c0 then c0 else c1
  let a := s.laneUnit 0 (ok c0) c0 (if first then cf else .agree)
  let b := a.2.laneUnit 1 (ok c1) c1 (if first then .agree else cf)
  (if ok c && a.1 && b.1 then some c else none, b.2)

/-- ACK for a frame of TYPE `ty` (R425). -/
def ackFrame (ty n : Nat) : List Byte := withCrc ([0x45, 1, 0, 0] ++ leBytes 1 ty ++ [0, 0, 0] ++ leBytes 4 n)

/-! ## Applying epochs (R423, R427, R428) -/

/-- Block of doorway d in an epoch with doorway blocks. -/
def blockOf (e : List Byte) (d : DIx) : List Byte := (e.drop (48 + 80 * d.val)).take 80

/-- LAST_SEQ of a doorway whose cycles the holder counts (R467, R473): no frame carries the number of a counted cycle record, only that the next number
of the holder is `hi`; a free value among those that the record can have (log entry 202). -/
def State.lastMirrored (s : State) (d hi : Nat) : State :=
  let l := Al.get (fun _ => 0) s.recd.ckLast d
  if hi ≤ l then s
  else
    let n := l + (Config.freeValue s.freeCtr).toNat % (hi - l)
    { s with freeCtr := s.freeCtr + 1, recd := { s.recd with ckLast := Al.set (fun _ => 0) s.recd.ckLast d n } }

/-- `n` cycles of a doorway that the holder has counted: an image is due after every 1,024 in the partner's own flash too (R467, R473). Every cycle
record counts once in histogram 4. -/
def State.countMirrored (d n hi : Nat) (s : State) : State :=
  if n = 0 then s
  else
    let c := Al.get (fun _ => 0) s.recd.ckSince d + n
    let s := s.lastMirrored d hi
    let s := { s with recd := { s.recd with ckSince := Al.set (fun _ => 0) s.recd.ckSince d c } }
    if 1024 ≤ c then s.writeImage d else s

/-- Apply the deltas of an epoch to the histograms (R473). The number of an extreme takes its high bits from REC_SEQ. -/
def State.applyDeltas (s : State) (e : List Byte) : State :=
  let at_ := 48 + 80 * fieldAt e 19 1
  (chunksUpTo 12 (min 128 (fieldAt e at_ 2)) (e.drop (at_ + 2))).foldl (fun t x =>
    let k := fieldAt x 2 1
    let v := fieldAt x 4 4
    State.countMirrored (fieldAt x 0 1) (if fieldAt x 1 1 = 1 ∧ k = 4 then v else 0) (fieldAt e 12 6) <| t.modHist (fieldAt x 0 1) (fun h =>
      if fieldAt x 1 1 = 1 then
        let b := 32 * k + fieldAt x 3 1
        { h with bins := Al.set (fun _ => 0) h.bins b (min 0xFFFFFFFF (Al.get (fun _ => 0) h.bins b + v)),
                 tot := Al.set (fun _ => 0) h.tot k (min 0xFFFFFFFF (Al.get (fun _ => 0) h.tot k + v)) }
      else { h with ext := Al.set (fun _ => none) h.ext k (some (signed 32 v, fieldAt e 16 2 * 2 ^ 32 + fieldAt x 8 4)) })) s

/-- Doorway d takes the sequencer state of its block (R423, R433), and what the sequencer keeps beside it follows. -/
def State.takeSeq (s : State) (d : DIx) (b : List Byte) : State :=
  let s := ((s.wr (F.SEQ d) (fieldAt b 0 3)).wr (F.SEQ_STATUS d) (fieldAt b 4 4)).wr (F.SEQ_TIME d) (fieldAt b 8 4)
  (((s.wr (F.PLAT_LATCH d) (fieldAt b 64 4)).wr (F.STEP_STATUS d) (fieldAt b 72 4)).wr (F.PROOF_LAST d) (fieldAt b 76 4)).followSeq d

/-- Sequencer state of every doorway as an epoch gives it (R423). -/
def State.followDoors (s : State) (e : List Byte) : State :=
  if fieldAt e 19 1 ≠ 24 then s else s.declaredList.foldl (fun t d => t.takeSeq d (blockOf e d)) s

/-- Apply an epoch (R427): ACK_GEN, histograms, and in STANDBY the doorways. -/
def State.applyEpoch (s : State) (e : List Byte) : State :=
  let s := (s.modPair (fun p => { p with applied := fieldAt e 4 4, last := e })).wr F.RP_MIRROR (fieldAt e 4 4)
  let s := s.applyDeltas e
  let s := if s.rd F.RP_STATUS_ROLE = 2 then s.followDoors e else s
  -- the epoch that hands over (R429)
  s.modPair (fun p => { p with hoNow := bitOf (fieldAt e 8 1) 3 && s.rd F.RP_STATUS_ROLE == 2 })

/-- A state phase starts: RESYNC_REQ, window 4 (R428). -/
def State.startState (s : State) (cause : Nat) : State :=
  let s := (s.setF F.RP_STATUS_RESYNCING true).setF F.RP_STATUS_CONTENT false
  let s := s.modPair (fun p => { p with phase := 2, resyncAt := s.now, resyncCause := cause, snap := [], bufEpochs := [], consec := 0, hoNow := false })
  let s := (s.closeWin 4 24).openWin 4 24
  s.send [withCrc ([0x41, 1, 0, 0] ++ leBytes 4 s.pair.applied ++ leBytes 1 cause ++ [0, 0, 0])]

/-- Is the own content that of the partner's epoch (R428)? -/
def State.contentSame (s : State) (e : List Byte) : Bool :=
  fieldAt e 28 4 == s.rd F.CFG_GEN && fieldAt e 32 4 == s.rd F.CFG_CODE && fieldAt e 36 4 == s.img.keyGen

/-- The content phase is over (R428): image and keystore are the partner's, and no item is coming in. DESIGN CHOICE (log entry 19): which models the
partner has is on no frame, so that no CONTENT frame for 3 ms ends the phase. -/
def State.contentDone (s : State) (e : List Byte) : Bool :=
  s.inRun && s.contentSame e && s.pair.content.isEmpty && (match s.pair.contentAt with | some t => s.past t (msT 3) | none => true)

/-- The state phase ends in STANDBY (R428). -/
def State.endState (s : State) : State :=
  let ms := (s.now - s.pair.resyncAt) / 160000
  let cause := s.pair.resyncCause
  let s := ((s.setF F.RP_STATUS_RESYNCING false).setF F.RP_CTL_RESYNC false).modPair (fun p => { p with phase := 0, snap := [], bufEpochs := [] })
  let s := (s.closeWin 4 24).inc F.RP_COUNTS_RESYNCS
  let s := (s.stage 0x6005 sysRec [cause, ms, 1]).setRole 2
  s.followDoors s.pair.last

/-- An epoch of the holder at a module without authority (R427, R428). -/
def State.followEpoch (s : State) (e : List Byte) : State :=
  let g := fieldAt e 4 4
  let ahead := (g + 2 ^ 32 - s.pair.applied) % 2 ^ 32
  if s.modState = 4 ∨ s.flag F.RP_STATUS_VARIANT_MISMATCH ∨ s.flag F.RP_STATUS_SLOT_CONFLICT then s
  else if s.rd F.RP_STATUS_ROLE = 2 then
    if ahead = 1 then s.applyEpoch e
    else if 1 < ahead ∧ ahead < 2 ^ 31 then s.toSyncing.startState 1
    else s
  else match s.pair.phase with
    | 0 =>
      if s.inRun && s.pair.firstDone then
        let s := (s.setF F.RP_STATUS_CONTENT true).modPair (fun p => { p with phase := 1 })
        if s.contentDone e then s.startState s.pair.nextCause else s
      else s
    | 1 => if s.contentDone e then s.startState s.pair.nextCause else s
    | 2 => s.modPair (fun p => { p with bufEpochs := p.bufEpochs ++ [e] })
    | _ =>
      if ahead = 1 then
        let s := (s.applyEpoch e).modPair (fun p => { p with consec := p.consec + 1 })
        if 2 ≤ s.pair.consec then s.endState else s
      else if 1 < ahead ∧ ahead < 2 ^ 31 then s.startState 1
      else s

/-- EPOCH_RECEIVED: the copies of an epoch on lanes 0 and 1, empty where none came (R425–R427, R9, R432). -/
def epochReceived (c0 c1 : List Byte) (cf : CheckFault) (s : State) : State :=
  s.onM fun s =>
    if s.modState = 0 then s
    else match s.takeCopy 0x40 c0 c1 cf with
    | (none, s) => s
    | (some e, s) =>
      let flags := fieldAt e 8 1
      let auth := bitOf flags 0
      let slot := bitOf flags 2
      let sameVariant := fieldAt e 18 1 == s.chip.variant.code
      let both := nth s.pair.laneAt 0 none == some s.now && nth s.pair.laneAt 1 none == some s.now
      let s := (s.setF F.RP_STATUS_LINK_UP true).when both (fun t => t.setF F.RP_STATUS_LANE_FAULT false)
      -- a holder that has only now claimed has written none of the records sent before (R424)
      let s := s.modPair (fun p => { p with
        epochAt := some s.now, heard := e, fwdSent := if auth && !bitOf (fieldAt p.heard 8 1) 0 then 0 else p.fwdSent, ackGen := fieldAt e 20 4, maxSeq := max p.maxSeq (fieldAt e 12 6),
        hbAt := if bitOf flags 1 then some s.now else p.hbAt, hbEver := p.hbEver || bitOf flags 1,
        agreeSince := if s.flag F.RP_STATUS_PARTNER_AUTH == auth && s.flag F.RP_STATUS_AUTH == p.claim then (match p.agreeSince with | some t => some t | none => some s.now) else none })
      let s := (((s.wr F.RP_PARTNER_VARIANT (fieldAt e 18 1)).wr F.RP_PARTNER_ROLE (fieldAt e 9 1)).wr F.RP_PARTNER_STATE (fieldAt e 10 1)).setF F.RP_PARTNER_SLOT slot
      let s := s.setF F.RP_PARTNER_LIVE (bitOf flags 1)
      let s := s.when (slot == s.chip.slotB && !s.flag F.RP_STATUS_SLOT_CONFLICT) (fun t =>
        let t := t.setF F.RP_STATUS_SLOT_CONFLICT true
        t.stage 0x6006 sysRec [4, t.pairStatus])
      let s := s.when (!sameVariant && !s.flag F.RP_STATUS_VARIANT_MISMATCH) (fun t =>
        let t := t.setF F.RP_STATUS_VARIANT_MISMATCH true
        t.stage 0x6006 sysRec [5, t.pairStatus])
      let line := auth && !s.flag F.RP_STATUS_PARTNER_AUTH && (match s.pair.partFreeSince with | some t => s.past t (msT 2) | none => false)
      let s := s.when (line && !s.flag F.RP_STATUS_AUTH_LINE) (fun t =>
        let t := t.setF F.RP_STATUS_AUTH_LINE true
        t.stage 0x6006 sysRec [2, t.pairStatus])
      let s := s.setF F.RP_STATUS_AUTH_LINE line
      let s := s.evalRole
      if auth && !s.hasAuth then s.followEpoch e else s

/-! ## Resynchronisation frames (R428) -/

/-- RESYNC_REQ_RECEIVED: the holder freezes a snapshot at its next epoch; a module in SAFE keeps serving. -/
def resyncReqReceived (c0 c1 : List Byte) (cf : CheckFault) (s : State) : State :=
  s.onM fun s =>
    match s.takeCopy 0x41 c0 c1 cf with
    | (none, s) => s
    | (some _, s) => if s.hasAuth || s.modState == 4 then s.modPair (fun p => { p with snapReq := true }) else s

/-- Bytes collected from pieces by offset, when they reach `len` without a gap. -/
def joinPieces (len : Nat) (ps : List (Nat × List Byte)) : Option (List Byte) :=
  let b := ps.foldl (fun acc x => if x.1 = acc.length then acc ++ x.2 else acc) []
  if b.length = len then some b else none

/-- The snapshot is complete: it is applied, then the buffered epochs in order (R428). -/
def State.applySnap (s : State) (data : List Byte) : State :=
  let len := fieldAt data 2 2
  let e := data.take len
  let s := (s.modPair (fun p => { p with applied := fieldAt e 4 4, last := e, phase := 3, consec := 0 })).wr F.RP_MIRROR (fieldAt e 4 4)
  let s := allD.foldl (fun t d => (t.modHist d.val (fun _ => histOfBytes ((data.drop (len + 2496 * d.val)).take 2496))).lastMirrored d.val (fieldAt e 12 6)) s
  let s : State := { s with recd := { s.recd with histTaken := true } }
  let buf := s.pair.bufEpochs
  (buf.foldl (fun t x => if (fieldAt x 4 4 + 2 ^ 32 - t.pair.applied) % 2 ^ 32 = 1 then t.applyEpoch x else t) s).modPair (fun p => { p with bufEpochs := [] })

/-- SNAP_RECEIVED (R425, R428). -/
def snapReceived (c0 c1 : List Byte) (cf : CheckFault) (s : State) : State :=
  s.onM fun s =>
    match s.takeCopy 0x42 c0 c1 cf with
    | (none, s) => s
    | (some p, s) =>
      let gen := fieldAt p 4 4
      let off := fieldAt p 8 4
      let d := (p.drop 12).take (fieldAt p 2 2)
      let s := s.send [ackFrame 0x42 off]
      if s.pair.phase ≠ 2 then s
      else
        let old := if s.pair.snapGen = gen then s.pair.snap else []
        if old.any (fun x => x.1 == off) then s
        else
          let snap := Al.insert old off d
          let s := s.modPair (fun q => { q with snap := snap, snapGen := gen })
          let head := match snap.head? with | some x => if x.1 = 0 then fieldAt x.2 2 2 else 0 | none => 0
          match (if head = 0 then none else joinPieces (head + 24 * 2496) snap) with
          | some data => s.applySnap data
          | none => s

/-- What a copied image declares that this ordering code lacks (R7): check 8, or a hint that names an absent resource. -/
def State.copyBad (s : State) (b : List Byte) : Option Bad :=
  match checkHdr b with
  | some x => some x
  | none => match s.resourceBad b with
    | some x => some x
    | none => (s.hintBad b).map (fun n => (9, 5, n))

/-- The partner's running image has come in: it goes to the load slot and becomes the running image, a structural one through CONFIG (R363, R428, R509)
once no move of a fault is under way (R376). What this ordering code lacks is refused (R7). -/
def State.takeImage (s : State) (b : List Byte) : State :=
  if s.img.running.isSome && b == s.runImage then s
  else
    let slot := s.loadSlot
    let s := s.discardImg 1
    let cls := s.classOf b
    let s := { s with img := { s.img with
      slotA := if slot then s.img.slotA else b, slotB := if slot then b else s.img.slotB, loadClass := cls, loadKind := 0, checked := false } }
    match s.copyBad b with
    | some x => s.refuseImg b x
    | none => if cls ≠ 3 then s.imageRuns else if s.faultMoves then s.setLoad .waitingImg else s.activateStruct

/-- A received item takes its place in the own flash (R363, R428). -/
def State.takeItem (s : State) (item d : Nat) (b : List Byte) : State :=
  match item with
  | 1 => s.takeImage b
  | 2 => if b.length < 176 ∨ b = s.img.keyBytes then s else (s.setKeys b).tellKeys 0xFF 0xFF
  | 3 =>
    if h : d < 24 then
      let s := (s.dropModel d kindConfirmed).putModel d kindConfirmed b
      let s := s.modTopi ⟨d, h⟩ (fun t => { t with model := b })
      (s.wr (F.TOPI_STATUS_MODEL ⟨d, h⟩) 1).wr (F.MODEL_DIGEST ⟨d, h⟩) (modelDigest b)
    else s
  | 4 =>
    if h : d < 24 then
      let o := b.map (fun x => x.toInt)
      let s := s.putOffs d o
      (s.modTopi ⟨d, h⟩ (fun t => { t with offs := o })).wr (F.TOPI_STATUS_ADAPT_MAX ⟨d, h⟩) (maxOff o)
    else s
  | _ => s

/-- CONTENT_RECEIVED (R363, R425, R428). -/
def contentReceived (c0 c1 : List Byte) (cf : CheckFault) (s : State) : State :=
  s.onM fun s =>
    match s.takeCopy 0x43 c0 c1 cf with
    | (none, s) => s
    | (some p, s) =>
      let item := fieldAt p 4 1
      let d := fieldAt p 5 1
      let off := fieldAt p 8 4
      let data := (p.drop 20).take (fieldAt p 2 2)
      let key := 256 * item + d
      let s := s.send [ackFrame 0x43 off]
      if s.hasAuth || s.modState == 0 || s.modState == 4 then s
      else
        let s := s.modPair (fun q => { q with contentAt := some s.now })
        let have_ := if off = 0 then [] else Al.get (fun _ => []) s.pair.content key
        if have_.length ≠ off then s
        else
          let b := have_ ++ data
          if b.length = fieldAt p 12 4 then
            let s := s.modPair (fun q => { q with content := Al.set (fun _ => []) q.content key [] })
            if crc32c b = fieldAt p 16 4 then s.takeItem item d b else s
          else s.modPair (fun q => { q with content := Al.set (fun _ => []) q.content key b })

/-- REC_FWD_RECEIVED: the holder stages the partner's record, marked PARTNER (R424, R444, R473). -/
def recFwdReceived (c0 c1 : List Byte) (cf : CheckFault) (s : State) : State :=
  s.onM fun s =>
    match s.takeCopy 0x44 c0 c1 cf with
    | (none, s) => s
    | (some p, s) =>
      if p.length ≠ 64 ∨ s.hasAuth = false then s
      else
        let r : Rec := { code := fieldAt p 4 2, dwy := fieldAt p 6 1, flags := Nat.lor (Nat.land (fieldAt p 7 1) 0x13) 4, rep := fieldAt p 8 2, gen := fieldAt p 10 4,
                         ws := (List.range 11).map (fun k => fieldAt p (14 + 4 * k) 4) }
        let s := (s.enqueue r).modPair (fun q => { q with fwdTaken := q.fwdTaken + 1 })
        s.send [ackFrame 0x44 s.pair.fwdTaken]

/-- MIRROR_ACK_RECEIVED: an acknowledged record needs no forwarding any more (R424, R425). -/
def mirrorAckReceived (c0 c1 : List Byte) (cf : CheckFault) (s : State) : State :=
  s.onM fun s =>
    match s.takeCopy 0x45 c0 c1 cf with
    | (none, s) => s
    | (some p, s) =>
      if fieldAt p 4 1 = 0x44 then
        let n := min (fieldAt p 8 4 - s.pair.fwdAcked) s.pair.fwdSent
        s.modPair (fun q => { q with fwd := q.fwd.drop n, fwdSent := q.fwdSent - n, fwdAcked := q.fwdAcked + n })
      else s

/-- MIRROR_LOST: no valid EPOCH for 3 ms (R425). -/
def mirrorLost (s : State) : State :=
  s.onM fun s => match s.pair.epochAt with | some t => if s.past t (msT 3) then (s.linkLost 2).evalRole else s | none => s

/-- MIRROR_LANE_FAULT: a lane has delivered nothing valid for 3 ms while the other does (R425). -/
def mirrorLaneFault (lane : Fin 2) (s : State) : State :=
  s.onM fun s =>
    let at_ := fun n => nth s.pair.laneAt n none
    let old := match at_ lane.val with | some t => s.past t (msT 3) | none => true
    let fresh := match at_ (1 - lane.val) with | some t => !s.past t (msT 3) | none => false
    if old && fresh then s.setF F.RP_STATUS_LANE_FAULT true else s

/-- RESYNC_WINDOW_EXPIRED: the 300 ms of the state phase have run out; a new one starts (R428). -/
def resyncWindowExpired (s : State) : State :=
  s.onM fun s =>
    if (s.pair.phase = 2 ∨ s.pair.phase = 3) ∧ s.past s.pair.resyncAt (msT 300) = true then
      let c := s.pair.resyncCause
      (s.stage 0x6005 sysRec [c, (s.now - s.pair.resyncAt) / 160000, 0]).startState c
    else s

/-! ## Claiming (R429, R433, R434, R436) -/

/-- How long the partner's line has read unclaimed, at least n ms? -/
def State.partnerFree (s : State) (n : Nat) : Bool :=
  !s.flag F.RP_STATUS_PARTNER_AUTH && (match s.pair.partFreeSince with | some t => s.past t (msT n) | none => false)

/-- May the module claim at all (R429, R9)? -/
def State.mayClaim (s : State) : Bool :=
  (s.modState == 2 || s.modState == 3) && !s.flag F.RP_STATUS_SLOT_CONFLICT && !(s.chip.slotB && s.flag F.RP_STATUS_VARIANT_MISMATCH) && !s.hasAuth

/-- No heartbeat for n ms. -/
def State.noHeartbeat (s : State) (n : Nat) : Bool := match s.pair.hbAt with | some t => s.past t (msT n) | none => true

/-- Why a STANDBY partner finds the line free (R441): 2 the holder yielded, 4 its heartbeat goes on, else 1. -/
def State.takeoverCause (s : State) : Nat :=
  let yielded := s.flag F.RP_STATUS_LINK_UP && (match s.pair.epochAt with | some t => decide (s.now < t + msT 3) | none => false) && !bitOf (fieldAt s.pair.heard 8 1) 1
  if yielded then 2 else if s.heartbeat then 4 else 1

/-- The claim that R429 allows now, by its cause; `first` is the first role decision. -/
def State.claimDue (s : State) (first : Bool) : Option Nat :=
  if !s.mayClaim then none
  else
    let free := if s.chip.slotB then s.partnerFree 10 && s.noHeartbeat 3 else s.partnerFree 2
    if first then (if free then some 5 else none)
    else if s.rd F.RP_STATUS_ROLE = 2 then (if s.pair.hoNow then some 3 else if free then some s.takeoverCause else none)
    else if s.pair.firstDone && s.partnerFree 1000 && s.noHeartbeat 1000 then some 5
    else none

/-- The sealed-gap proof goes on from the block (R433): CONSEC restarts at 0, FSIG_OK is that of the epoch, 0 in the first 20 ms of the seal, and the proof's
time runs on. Of a close that has begun, the samples below 30 mm were taken by the partner, and count as missed (R114; log entry 163). -/
def State.takeProof (s : State) (d : DIx) (b : List Byte) : State :=
  let s := s.wr (F.PROOF d) (fieldAt b 60 4)
  let stroke := s.st d == .proofStroke
  let ms := if stroke then s.rd (F.PROOF_PROOF_TIME d) else fieldAt b 8 4
  let sealing := s.needSet d == 3
  let closing := s.st d == .closing || (stroke && (s.seq d).phase == 3)
  let near := [(0 : AIx), 1].any (fun a => decide (s.pos d a < 3000))
  let s := (s.wr (F.PROOF_CONSEC d) 0).when (sealing && decide (ms < 20)) (fun t => t.setF (F.PROOF_FSIG_OK d) false)
  s.modTopi d (fun t => { t with
    fixed := sealing, sealAt := s.tb - msT ms, counted := none, moved := false, holdA := [], holdB := [], profA := [], profB := [],
    profLost := closing && near, closeRun := closing })

/-- Doorway d takes the state of its block (R433). -/
def State.takeBlock (s : State) (d : DIx) (b : List Byte) : State :=
  let s := (s.takeSeq d b).modSeq d (fun q => { q with zsPrev := s.zeroSpeed })
  -- an axis goes on from the commanded position and the target of the epoch; REFERENCED stays that of the own counter (log entry 163)
  let s := allA.foldl (fun t a =>
    (t.setX d a (signed 32 (fieldAt b (16 + 12 * a.val) 4))).wrS (F.TARGET d a) (signed 32 (fieldAt b (20 + 12 * a.val) 4))) s
  let s := s.takeProof d b
  let s := s.wr (F.FLT_DWY_FENCE_SET d.val) (Nat.lor (s.fenceSet d) (fldGet (BitVec.ofNat 32 (fieldAt b 12 4)) (F.FLT_DWY_FENCE_SET d.val).lo (F.FLT_DWY_FENCE_SET d.val).w))
  let s := (s.setF (F.LOCK_STATUS_CMD d) (bitOf (fieldAt b 52 1) (F.LOCK_STATUS_CMD d).lo)).setF (F.LOCK_STATUS_PERMIT d) (bitOf (fieldAt b 52 1) (F.LOCK_STATUS_PERMIT d).lo)
  -- an SS1 of phase 1 counts as ended in STO with END 4 (R433); one that had ended before goes on with its end
  let ph := fieldAt b 3 1 % 8
  let s := s.modObst d (fun o => { o with
    edge0 := { readyAt := s.now + usT 100 }, edge1 := { readyAt := s.now + usT 100 }, cause := none, t0Set := false, twoHand := false, sto := ph != 0 })
  if ph = 1 then (s.wr (F.OBST_STATUS_SS1 d) 4).wr (F.SS1_LAST_END d) 4 else s.wr (F.OBST_STATUS_SS1 d) ph

/-- Axis a of doorway d goes on from its measured position and speed with a hold stop, if its block has it moving or it measures 5 mm/s
(R433). -/
def State.holdAxis (s : State) (d : DIx) (a : AIx) : State :=
  let v := (s.rdS (F.MSPEED d a)).natAbs
  let scale := s.rd (F.SCALE d a)
  let s := (s.setX d a (s.pos d a)).modAx d a (fun y => { y with
    v := v * scale * 4000, up := decide (0 ≤ s.rdS (F.MSPEED d a)), gen := .holdStop, v0 := v, ss1On := false, breachN := 0, presented := none })
  let s := s.modObst d (fun o => { o with t0 := s.now })
  (s.setF (F.AX_STATUS_MOVING d a) true).setF (F.AX_STATUS_STOPPING d a) true

/-- Does axis a need a hold stop? -/
def holdNeeded (s : State) (d : DIx) (b : List Byte) (a : AIx) : Bool :=
  bitOf (fieldAt b (16 + 12 * a.val + 10) 1) 0 || decide (50 ≤ (s.rdS (F.MSPEED d a)).natAbs)

/-- Doorway d settles in the takeover window once its pod applies the module's frames: its enables follow its state and its hold stops start
(R433, R434). -/
def State.settle (s : State) (d : DIx) : State :=
  if s.rd (F.DRV_STATUS_LINK d) ≠ 3 ∨ s.authFrames = false ∨ bitOf (s.drv d).status 5 = false then s
  else
    let b := blockOf s.pair.epochIn d
    let held := s.pair.held.contains d.val
    let s := if (s.st d).denHigh || (held && s.rd (F.OBST_STATUS_SS1 d) == 0) then s.denOn d else s
    let starts := held && s.denHigh d
    let s := if starts then allA.foldl (fun t a => if holdNeeded t d b a then t.holdAxis d a else t) s else s
    if held && !starts then s else s.modPair (fun p => { p with holdWait := p.holdWait.filter (· != d.val) })

/-- Close the takeover window (R434). -/
def State.closeTakeover (s : State) : State :=
  match s.pair.claimAt with
  | some t => ((s.wrSat F.RP_TAKEOVER_WINDOW ((s.now - t) / 160)).closeWin 3 25).modPair (fun p => { p with holdWait := [] })
  | none => s

/-- Settle every doorway that waits, and close the window when none waits any more. -/
def State.pairTick (s : State) : State :=
  if !s.winOpen 3 25 then s
  else
    let s := s.declaredList.foldl (fun t d => if t.pair.holdWait.contains d.val then t.settle d else t) s
    if s.pair.holdWait.isEmpty then s.closeTakeover else s

/-- The state that R433 takes over, doorway by doorway. -/
def State.takeState (s : State) : State :=
  let e := s.pair.epochIn
  let ds := if fieldAt e 19 1 = 24 then s.declaredList else []
  let s := ds.foldl (fun t d => t.takeBlock d (blockOf e d)) s
  let held := ds.filter (fun d => allA.any (holdNeeded s d (blockOf e d)) && s.rd (F.OBST_STATUS_SS1 d) != 4)
  let s := held.foldl (fun t d => t.setF (F.SEQ_STATUS_TAKEOVER_HOLD d) true) s
  let s := (s.modPair (fun p => { p with held := held.map (·.val), disagreed := [] })).wr F.RP_TAKEOVER_HELD held.length
  s

/-- After the line is asserted: outputs follow, locks drop without zero speed, own fences act (R433). -/
def State.actOnState (s : State) : State :=
  let s := s.declaredList.foldl (fun t d =>
    let t := if t.zeroSpeed then t else t.lockDrop d
    let t := if t.fenceSet d ≠ 0 ∧ t.st d ≠ .fenced then t.modDwy d (fun x => { x with fencePend := true }) else t
    let t := t.setF (F.SEQ_STATUS_LOOP_CONTRIB d) (t.contribution d)
    -- in a handover the enables follow at once, for both modules drive them (R437 step 2)
    let t := if t.pair.authHold && (t.st d).denHigh then t.denOn d else t
    t.evalChans d) s
  s.evalOutputs

/-- The module claims authority (R429, R433, R436): number fence, first record 0x6001 ahead of every held record, line, role, and for a
takeover the state of the last applied epoch. -/
def State.claim (s : State) (cause : Nat) : State :=
  let takeover := cause ≠ 5
  let high := max s.pair.maxSeq s.recd.next
  let s := s.modPair (fun p => { p with epochIn := if takeover then p.last else [], held := [], holdWait := s.declaredList.map (·.val) })
  let s := if takeover then s.takeState else s.wr F.RP_TAKEOVER_HELD 0
  let s := s.fenceNumbers high
  let s := if s.flag F.REC_STATUS_READY then s.wr F.RP_SEQ_FENCE (s.recd.next % 2 ^ 32) else s
  let first : Rec := { code := 0x6001, dwy := sysRec, flags := 2, rep := 1, gen := s.img.runGen,
                       ws := [s.pair.maxSeq % 2 ^ 32, s.pair.maxSeq / 2 ^ 32, cause, s.pair.applied, s.pair.held.length] }
  let sent := s.pair.fwd
  let s := (s.modPair (fun p => { p with fwd := [], fwdSent := 0 })).restage (first :: sent)
  let s := (s.modPair (fun p => { p with
    claim := true, claimAt := some s.now, hoNow := false, phase := 0, gen := p.applied, releasedAt := none,
    bothSince := if s.flag F.RP_STATUS_PARTNER_AUTH then some s.now else none, authHold := cause == 3, authFrom := none })).setF F.RP_STATUS_AUTH true
  let s := (((s.wr F.RP_TAKEOVER_CAUSE cause).wr F.RP_TAKEOVER_WINDOW 0).inc F.RP_COUNTS_CLAIMS).when (cause == 3) (fun t => t.inc F.RP_COUNTS_HANDOVERS)
  let s := ((s.setF F.RP_STATUS_RESYNCING false).setF F.RP_STATUS_CONTENT false).closeWin 4 24
  let s := s.setRole 0
  let s := s.openWin 3 25
  s.actOnState.pairTick.rejoinStart 8

/-- CLAIM_AUTHORITY: a claim condition of R429 holds. After a cold claim every doorway is UNPROVEN, as at a start-up. -/
def claimAuthority (s : State) : State :=
  s.onM fun s =>
    match s.claimDue false with
    | some c =>
      let s := s.claim c
      if c = 5 ∧ s.inRun = true then s.declaredList.foldl (fun t d => t.enter d .unproven 0) s else s
    | none => s

/-- The first role decision, at the exit from CONFIG (R429, R507). -/
def State.firstRole (s : State) : State :=
  let s := s.modPair (fun p => { p with firstDone := true })
  match s.claimDue true with
  | some c => s.claim c
  | none => s

/-- The tick that leaves SAFE claims at once where R429 lets it, else the module is SYNCING. -/
def State.claimAfterSafe (s : State) : State :=
  if s.mayClaim && s.partnerFree 0 && s.noHeartbeat 3 then s.claim 5 else s.toSyncing

/-- BOTH_CLAIMED: both lines claimed for more than 2 ms; slot B withdraws (R430). -/
def bothClaimed (s : State) : State :=
  s.onM fun s =>
    match s.pair.bothSince with
    | some t =>
      if s.chip.slotB && s.pair.claim && s.past t (msT 2 + 1) then
        let st := s.pairStatus
        (s.releaseAuth).stage 0x6006 sysRec [1, st]
      else s
    | none => s

/-- TAKEOVER_WINDOW_EXPIRED: at 20 ms after the claim the doorways that have not settled are fenced (R434). -/
def takeoverWindowExpired (s : State) : State :=
  s.onM fun s =>
    match s.pair.claimAt with
    | some t =>
      if s.winOpen 3 25 && s.past t (msT 20) then
        let late := s.declaredList.filter (fun d => s.pair.holdWait.contains d.val)
        (late.foldl (fun u d => u.fence d 2) s).closeTakeover
      else s
    | none => s

/-- Do the inputs of doorway d agree with the epoch (R435)? -/
def State.inputsAgree (s : State) (d : DIx) : Bool :=
  let e := s.pair.epochIn
  let b := blockOf e d
  let roles := [s.rd (F.PROVE_IN2_ISO_IN d), s.rd (F.PROVE_IN2_ISO_IN2 d), s.rd (F.PD_IN_HANDLE1 d), s.rd (F.PD_IN_HANDLE2 d), s.rd (F.PD_IN_GUARD1 d),
    s.rd (F.PD_IN_GUARD2 d)].filter (· < 16)
  let trn := fieldAt e 43 1
  let rel := if s.flag (F.SEQ_CFG_CAR_SIDE d) then F.TRN_STATUS_SIDE2_REL else F.TRN_STATUS_SIDE1_REL
  !((s.implausible d).any (·.2)) && roles.all (fun i => bitOf (fieldAt b 56 2) i == bitOf (s.rd (F.IN_STATE_FILT d)) i) &&
  bitOf trn F.TRN_STATUS_ZS_VALID.lo == s.zeroSpeed && bitOf trn rel.lo == s.flag rel

/-- TAKEOVER_INPUT_CHECK: from 200 ms after the claim, once the axes of doorway d are at rest (R435). -/
def takeoverInputCheck (d : DIx) (s : State) : State :=
  s.onD d fun s =>
    match s.pair.claimAt with
    | some t =>
      if s.flag (F.SEQ_STATUS_TAKEOVER_HOLD d) && s.past t (msT 200) && s.allAtRest d then
        if s.inputsAgree d then s.endHold d
        else if s.pair.disagreed.contains d.val then s
        else
          let b := blockOf s.pair.epochIn d
          (s.modPair (fun p => { p with disagreed := d.val :: p.disagreed })).stage 0x6007 d.val
            [(s.reg (F.PROVE_STATUS d).addr).toNat, fieldAt b 54 2, (s.reg F.TRN_STATUS.addr).toNat]
      else s
    | none => s

/-! ## Handover (R437) -/

/-- A waiting handover is withdrawn. -/
def State.cancelHandover (s : State) : State :=
  if s.pair.hoReq && !s.pair.hoRun then s.handoverOver else s

/-- HANDOVER_REQ: REMOVE was pressed for `ms`, or CTL.HANDOVER_REQ is written; a second press withdraws (R437). A press that
stood with COMMIT counts for nothing (R544). -/
def handoverReq (remove : Bool) (ms : Nat) (s : State) : State :=
  s.onM fun s =>
    if remove && s.pwr.bothR then ({ s with pwr := { s.pwr with bothR := false } } : State).setF F.PANEL_REMOVE false
    else if remove && decide (ms < 200) then s
    else if remove && s.pair.hoReq then s.cancelHandover
    else if s.rd F.RP_STATUS_ROLE ≠ 3 then (s.setF F.RP_CTL_REFUSED true).setF F.RP_CTL_HANDOVER_REQ false
    else ((s.modPair (fun p => { p with hoReq := true, hoSrc := if remove then 1 else 2 })).setF F.RP_STATUS_HANDOVER true).setF F.RP_CTL_HANDOVER_REQ true

/-- CANCEL: CTL.CANCEL is written (R437). -/
def cancel (s : State) : State := s.onM fun s => (s.cancelHandover).setF F.RP_CTL_CANCEL false

/-- No axis moves and no proof stroke runs (R437). -/
def State.stillAll (s : State) : Bool := s.declaredList.all (fun d => !s.anyMoving d && s.st d != .proofStroke)

/-- HANDOVER_START: the first tick with no motion and no proof stroke; transitions stop and the epoch that hands over leaves next (R437). -/
def handoverStart (s : State) : State :=
  s.onM fun s =>
    if s.pair.hoReq && !s.pair.hoRun && s.hasAuth && s.stillAll then
      (s.modPair (fun p => { p with hoRun := true, hoNow := true })).stage 0x6002 sysRec [s.pair.hoSrc]
    else s

/-- PARTNER_AUTH_LINE_CHANGE: the partner's AUTH line reads claimed or not (R421, R429, R437). -/
def partnerAuthLineChange (claimed : Bool) (s : State) : State :=
  (s.modPair (fun p => { p with authPin := claimed })).onM fun s =>
    let s := s.setF F.RP_STATUS_PARTNER_AUTH claimed
    let s := s.modPair (fun p => { p with
      partFreeSince := if claimed then none else some s.now, bothSince := if claimed && p.claim then some s.now else none,
      authFrom := if !claimed && p.authHold then some (s.now + usT 275) else p.authFrom, authHold := if claimed then p.authHold else false,
      agreeSince := none })
    if s.pair.hoRun && s.pair.claim then
      if claimed then s.releaseAuth.inc F.RP_COUNTS_HANDOVERS
      else
        let st := s.pairStatus
        s.handoverOver.stage 0x6006 sysRec [1, st]
    else s

/-! ## Requests, presence and clearing -/

/-- RESYNC: CTL.RESYNC is written; refused with authority (R428, R441). -/
def resync (s : State) : State :=
  s.onM fun s =>
    if s.hasAuth || !s.flag F.RP_STATUS_LINK_UP then (s.setF F.RP_CTL_REFUSED true).setF F.RP_CTL_RESYNC false
    else
      let s := (s.setF F.RP_CTL_RESYNC true).when (s.rd F.RP_STATUS_ROLE == 2) State.toSyncing
      s.startState 4

/-- A pulse on RESTART_OUT (R440). -/
def State.pulseRestart (s : State) (kind : Nat) : State :=
  let s := (s.modPair (fun p => { p with restartPulse := some s.now })).inc F.RP_COUNTS_RESTARTS
  s.stage 0x6008 sysRec [kind, s.rd F.RP_COUNTS_RESTARTS]

/-- PARTNER_RESTART: CTL.PARTNER_RESTART is written (R440). -/
def partnerRestart (s : State) : State :=
  s.onM fun s =>
    let s := s.setF F.RP_CTL_PARTNER_RESTART false
    if s.hasAuth && s.flag F.RP_STATUS_PARTNER_PRESENT then s.pulseRestart 1 else s.setF F.RP_CTL_REFUSED true

/-- AUTO_PARTNER_RESTART: RESTART_WAIT without a heartbeat of a fitted partner, at most once per 10 min (R440). -/
def autoPartnerRestart (s : State) : State :=
  s.onM fun s =>
    let wait := 1000 * s.rd F.RP_CFG_RESTART_WAIT
    let fitted := match s.pair.fittedAt with | some t => s.past t (msT wait) | none => false
    let again := match s.pair.autoAt with | some t => s.past t (msT 600000) | none => true
    if s.hasAuth && s.flag F.RP_CFG_AUTO_RESTART && s.flag F.RP_STATUS_PARTNER_PRESENT && fitted && s.noHeartbeat wait && again then
      (s.modPair (fun p => { p with autoAt := some s.now })).pulseRestart 2
    else s

/-- PARTNER_PRESENCE_CHANGE: PRES shows the partner fitted or removed (R421, R440). -/
def partnerPresenceChange (fitted : Bool) (s : State) : State :=
  (s.modPair (fun p => { p with presPin := fitted })).onM fun s => (s.setF F.RP_STATUS_PARTNER_PRESENT fitted).modPair (fun p => { p with fittedAt := if fitted then some s.now else none })

/-- SAFE_CAUSE_PAIR_CLEAR: both lines have agreed with the partner's epochs for 10 s (R432). -/
def safeCausePairClear (s : State) : State :=
  s.onM fun s => match s.pair.agreeSince with | some t => if s.past t (msT 10000) then s.clearCause 9 else s | none => s

/-- VARIANT_MISMATCH_CLEAR: 1 s without a valid epoch (R9). -/
def variantMismatchClear (s : State) : State :=
  s.onM fun s => match s.pair.epochAt with | some t => if s.past t (msT 1000) then s.setF F.RP_STATUS_VARIANT_MISMATCH false else s | none => s

/-! ## The commands of this file -/

/-- The meaning of EPOCH_SEND (R426). -/
def execEpochSend (s : State) : Host.Outcome State Fault Refusal := .next (s.done (epochSend s))

/-- The meaning of EPOCH_RECEIVED (R427). -/
def execEpochReceived (c0 c1 : List Byte) (cf : CheckFault) (s : State) : Host.Outcome State Fault Refusal := .next (s.done (epochReceived c0 c1 cf s))

/-- The meaning of RESYNC_REQ_RECEIVED (R428). -/
def execResyncReqReceived (c0 c1 : List Byte) (cf : CheckFault) (s : State) : Host.Outcome State Fault Refusal := .next (s.done (resyncReqReceived c0 c1 cf s))

/-- The meaning of SNAP_RECEIVED (R428). -/
def execSnapReceived (c0 c1 : List Byte) (cf : CheckFault) (s : State) : Host.Outcome State Fault Refusal := .next (s.done (snapReceived c0 c1 cf s))

/-- The meaning of CONTENT_RECEIVED (R428). -/
def execContentReceived (c0 c1 : List Byte) (cf : CheckFault) (s : State) : Host.Outcome State Fault Refusal := .next (s.done (contentReceived c0 c1 cf s))

/-- The meaning of REC_FWD_RECEIVED (R424). -/
def execRecFwdReceived (c0 c1 : List Byte) (cf : CheckFault) (s : State) : Host.Outcome State Fault Refusal := .next (s.done (recFwdReceived c0 c1 cf s))

/-- The meaning of MIRROR_ACK_RECEIVED (R425). -/
def execMirrorAckReceived (c0 c1 : List Byte) (cf : CheckFault) (s : State) : Host.Outcome State Fault Refusal := .next (s.done (mirrorAckReceived c0 c1 cf s))

/-- The meaning of MIRROR_LOST (R425). -/
def execMirrorLost (s : State) : Host.Outcome State Fault Refusal := .next (s.done (mirrorLost s))

/-- The meaning of RESYNC_WINDOW_EXPIRED (R428). -/
def execResyncWindowExpired (s : State) : Host.Outcome State Fault Refusal := .next (s.done (resyncWindowExpired s))

/-- The meaning of CLAIM_AUTHORITY (R429). -/
def execClaimAuthority (s : State) : Host.Outcome State Fault Refusal := .next (s.done (claimAuthority s))

/-- The meaning of BOTH_CLAIMED (R430). -/
def execBothClaimed (s : State) : Host.Outcome State Fault Refusal := .next (s.done (bothClaimed s))

/-- The meaning of TAKEOVER_WINDOW_EXPIRED (R434). -/
def execTakeoverWindowExpired (s : State) : Host.Outcome State Fault Refusal := .next (s.done (takeoverWindowExpired s))

/-- The meaning of TAKEOVER_INPUT_CHECK (R435). -/
def execTakeoverInputCheck (d : DIx) (s : State) : Host.Outcome State Fault Refusal := .next (s.done (takeoverInputCheck d s))

/-- The meaning of HANDOVER_REQ (R437). -/
def execHandoverReq (remove : Bool) (ms : Nat) (s : State) : Host.Outcome State Fault Refusal := .next (s.done (handoverReq remove ms s))

/-- The meaning of CANCEL (R437). -/
def execCancel (s : State) : Host.Outcome State Fault Refusal := .next (s.done (cancel s))

/-- The meaning of HANDOVER_START (R437). -/
def execHandoverStart (s : State) : Host.Outcome State Fault Refusal := .next (s.done (handoverStart s))

/-- The meaning of RESYNC (R428). -/
def execResync (s : State) : Host.Outcome State Fault Refusal := .next (s.done (resync s))

/-- The meaning of PARTNER_RESTART (R440). -/
def execPartnerRestart (s : State) : Host.Outcome State Fault Refusal := .next (s.done (partnerRestart s))

/-- The meaning of AUTO_PARTNER_RESTART (R440). -/
def execAutoPartnerRestart (s : State) : Host.Outcome State Fault Refusal := .next (s.done (autoPartnerRestart s))

/-- The meaning of SAFE_CAUSE_PAIR_CLEAR (R432). -/
def execSafeCausePairClear (s : State) : Host.Outcome State Fault Refusal := .next (s.done (safeCausePairClear s))

/-- The meaning of VARIANT_MISMATCH_CLEAR (R9). -/
def execVariantMismatchClear (s : State) : Host.Outcome State Fault Refusal := .next (s.done (variantMismatchClear s))

/-- The meaning of MIRROR_LANE_FAULT (R425). -/
def execMirrorLaneFault (lane : Fin 2) (s : State) : Host.Outcome State Fault Refusal := .next (s.done (mirrorLaneFault lane s))

/-- The meaning of PARTNER_AUTH_LINE_CHANGE (R437). -/
def execPartnerAuthLineChange (claimed : Bool) (s : State) : Host.Outcome State Fault Refusal := .next (s.done (partnerAuthLineChange claimed s))

/-- The meaning of PARTNER_PRESENCE_CHANGE (R440). -/
def execPartnerPresenceChange (fitted : Bool) (s : State) : Host.Outcome State Fault Refusal := .next (s.done (partnerPresenceChange fitted s))

end Sys2Proof.Machine
end

