-- ==== Sys2Proof/Machine/Net.lean ====
section
/-!
DEFINITION. Machine/Net.lean: the network ports (R477), TRDP process data (R478–R483) and SDTv2 (R484, R485).
-/
namespace Sys2Proof.Machine

/-- Row r of the PD table. -/
def State.pdRow (s : State) (r : Nat) : PdRowH := nth s.net.rows r {}

/-- Change row r of the PD table. -/
def State.modPd (s : State) (r : Nat) (f : PdRowH → PdRowH) : State := { s with net := { s.net with rows := setNth s.net.rows r (f (nth s.net.rows r {})) } }

/-- Row n of the SDT table. -/
def State.sdt (s : State) (n : Nat) : SdtH := nth s.net.sdt n {}

/-- Change row n of the SDT table. -/
def State.modSdt (s : State) (n : Nat) (f : SdtH → SdtH) : State := { s with net := { s.net with sdt := setNth s.net.sdt n (f (nth s.net.sdt n {})) } }

/-- TIME of a row, ms, and its IP (R480). -/
def State.pdTime (s : State) (r : Nat) : Nat := fieldAt (imgPdRow s.runImage r) 10 2
def State.pdIp (s : State) (r : Nat) : Nat := fieldAt (imgPdRow s.runImage r) 12 4

/-- UDV and TIMEOUT of an SDT row (R484). -/
def State.sdtUdv (s : State) (n : Nat) : Nat := fieldAt (imgSdtRow s.runImage n) 4 2
def State.sdtTime (s : State) (n : Nat) : Nat := fieldAt (imgSdtRow s.runImage n) 6 2

/-- Is an SDT row used: its row of the image is not empty. -/
def State.sdtOn (s : State) (n : Nat) : Bool := s.img.running.isSome && sdtUsed (imgSdtRow s.runImage n)

/-! ## Links (R477, R521) -/

/-- Field of a port's link. -/
def linkFld (p : Nat) : Fld := if p = 0 then F.NET_STATUS_ECN0_LINK else if p = 1 then F.NET_STATUS_ECN1_LINK else F.NET_STATUS_SVC_LINK

/-- Code of a port (R505). -/
def portCode : Port → Nat
  | .ecn0 => 0
  | .ecn1 => 1
  | .service => 2

/-- Show the links; the ports are down while the NET PLL relocks (R517, R521). Each change writes 0x0E01. -/
def State.showLinks (s : State) : State :=
  (List.range 3).foldl (fun t p =>
    let up := nth t.net.links p false && t.flag F.CLK_STATUS_NET_LOCK
    if t.flag (linkFld p) = up then t else (t.setF (linkFld p) up).stage 0x0E01 sysRec [p, b2n up]) s

/-- ECN_LINK_CHANGE: the PHY of a port reports its link up or down (R477). -/
def ecnLinkChange (p : Port) (up : Bool) (s : State) : State :=
  ({ s with net := { s.net with links := setNth s.net.links (portCode p) up } } : State).onM State.showLinks

/-- Does a port take telegrams now? -/
def State.portUp (s : State) (p : Port) : Bool := s.flag (linkFld (portCode p))

/-! ## Functions of the subscribed rows (R481, R482) -/

/-- Bit BIT of byte OFS of the dataset of a row. -/
def State.pdBit (s : State) (r : Nat) : Bool := bitOf (fieldAt (s.pdRow r).data (s.rd (F.NPD_CFG_OFS r)) 1) (s.rd (F.NPD_CFG_BIT r))

/-- The used subscribe row of a function, if any. -/
def State.pdFunc (s : State) (func : Nat) : Option Nat :=
  (List.range 64).find? (fun r => s.rd (F.PD_COMID r) != 0 && s.rd (F.NPD_CFG_FUNC r) == func)

/-- The network column of R264 (R482): 0 UNAVAILABLE, 1 SAME, 2 INVERSE. -/
def State.orientNow (s : State) (etb : Nat) (r : Nat) : Nat :=
  if !(s.pdRow r).valid || etb == 0 || etb != s.rd F.TOPO then 0 else if s.pdBit r then 2 else 1

/-- Show approaching stop, time and orientation after a change of a row; `etb` is the etbTopoCnt of the telegram taken, 0 when none. -/
def State.pdEffects (s : State) (r etb : Nat) : State :=
  let v := (s.pdRow r).valid
  match s.rd (F.NPD_CFG_FUNC r) with
  | 1 => s.setF F.NET_STATUS_APPROACH (v && s.pdBit r)
  | 2 => s.setF F.NET_STATUS_TIME_VALID v
  | 3 =>
    let o := s.orientNow etb r
    ((s.wr F.NET_STATUS_ORIENT o).wr F.SIDE_MAP_NET o).mapUpdate.sideRelUpdate
  | _ => s

/-- An ORIENT telegram brings an etbTopoCnt: a new value is in use after three consecutive telegrams that carry it (R482). DESIGN CHOICE (log entry
204): the value in use, come back, ends a change that has begun. -/
def State.topoTake (s : State) (r etb : Nat) : State :=
  if etb = 0 ∨ etb = s.rd F.TOPO then { s with net := { s.net with topoN := 0 } }
  else
    let n := if s.net.topoNew = etb then s.net.topoN + 1 else 1
    if n < 3 then { s with net := { s.net with topoNew := etb, topoN := n } }
    else
      let old := s.rd F.TOPO
      (({ s with net := { s.net with topoNew := 0, topoN := 0 } } : State).wr F.TOPO etb).stage 0x5E01 sysRec [etb, old, b2n (s.pdBit r)]

/-! ## SDTv2 (R484, R485) -/

/-- Show an SDT row, and the releases that rows with FUNC 1 and 2 carry (R485). -/
def State.showSdt (s : State) (n : Nat) : State :=
  let x := s.sdt n
  let set := x.valid && x.set
  let s := (s.setF (F.SDT_STATUS_VALID n) x.valid).setF (F.SDT_STATUS_SET n) set
  match s.rd (F.SDT_CFG_FUNC n) with
  | 1 => (State.setF { s with trn := { s.trn with sdtL := set } } F.NET_STATUS_SDT_REL_LEFT set).sideRelUpdate
  | 2 => (State.setF { s with trn := { s.trn with sdtR := set } } F.NET_STATUS_SDT_REL_RIGHT set).sideRelUpdate
  | _ => s

/-- A valid SDT row turns invalid: cause 1 timeout, 2 safety code, 3 UDV, 4 counter. -/
def State.sdtInvalid (s : State) (n cause : Nat) : State :=
  if (s.sdt n).valid then
    ((s.modSdt n (fun x => { x with valid := false })).showSdt n).stage 0x4E02 sysRec [n, s.rd (F.SDT_CFG_FUNC n), cause]
  else s

/-- ERROR clears after 1 s without a failure and two consecutive passing telegrams (R484). -/
def State.sdtErrorClear (s : State) (n : Nat) : State :=
  match (s.sdt n).failAt with
  | some t => if s.past t (msT 1000) && decide (2 ≤ (s.sdt n).passes) then (s.modSdt n (fun x => { x with failAt := none })).setF (F.SDT_STATUS_ERROR n) false else s
  | none => s

/-- Is counter `a` later than `b`, by serial comparison in a 2³¹ window? -/
def serialLater (a b : Nat) : Bool := let d := (a + 2 ^ 32 - b) % 2 ^ 32; decide (0 < d) && decide (d < 2 ^ 31)

/-- The trailer of a dataset (R484): userDataVersion, safeSequCount and safety code are the last 2 + 4 + 4 bytes (log entry 9). -/
def sdtTrailer (data : List Byte) : Nat × Nat × Nat :=
  let n := data.length
  (beFieldAt data (n - 10) 2, beFieldAt data (n - 8) 4, beFieldAt data (n - 4) 4)

/-- SDT row n checks the dataset that its PD row has accepted (R484). -/
def State.sdtCheck (s : State) (n opTrn : Nat) (data : List Byte) : State :=
  let (udv, ssc, code) := sdtTrailer data
  let old := (s.sdt n).ssc
  if code ≠ Config.sdtSafetyCode (s.rd (F.SDT_SMI n)) opTrn (data.take (data.length - 4)) then
    let s := (s.inc (F.SDT_ERR_CODE n)).setF (F.SDT_STATUS_ERROR n) true
    (s.modSdt n (fun x => { x with failAt := some s.now, passes := 0, why := 2 })).sdtInvalid n 2
  else if udv ≠ s.sdtUdv n then (s.inc (F.SDT_ERR_UDV n)).modSdt n (fun x => { x with passes := 0, why := 3 })
  else match (match old with | some o => if ssc = o then some false else if serialLater ssc o then none else some true | none => none) with
  | some false => s
  | some true => (s.inc (F.SDT_ERR_COUNTER n)).modSdt n (fun x => { x with passes := 0, why := 4 })
  | none =>
    let set := bitOf (fieldAt data (s.rd (F.SDT_CFG_OFS n)) 1) (s.rd (F.SDT_CFG_BIT n))
    let s := s.modSdt n (fun x => { x with valid := true, set := set, at_ := s.now, ssc := some ssc, why := 1, passes := x.passes + 1 })
    (s.showSdt n).sdtErrorClear n

/-- SDT_TIMEOUT: TIMEOUT ms without a passing telegram (R484). -/
def sdtTimeout (n : Fin 16) (s : State) : State :=
  s.onM fun s =>
    let x := s.sdt n.val
    if x.valid && s.past x.at_ (msT (s.sdtTime n.val)) then
      (s.inc (F.SDT_ERR_TIMEOUT n.val)).sdtInvalid n.val x.why
    else s

/-! ## Receiving (R478, R479) -/

/-- A subscribed row takes a telegram (R479). -/
def State.pdAccept (s : State) (r : Nat) (t : PdTel) : State :=
  let x := s.pdRow r
  let seq := t.seq.toNat
  if x.valid && !serialLater seq x.ctr then s.inc (F.PD_ERR_SEQ_DUP r)
  else
    let gap := x.valid && decide (1 < (seq + 2 ^ 32 - x.ctr) % 2 ^ 32)
    let s := if gap then s.inc (F.PD_ERR_SEQ_GAP r) else s
    let s := s.modPd r (fun y => { y with at_ := s.now, valid := true, seen := true, fmt := false, ctr := seq, data := t.data })
    let s := (s.setF (F.NPD_STATUS_VALID r) true).setF (F.NPD_STATUS_SEEN r) true
    let s := if s.rd (F.NPD_CFG_FUNC r) = 3 then s.topoTake r t.etb.toNat else s
    let ofs := s.rd (F.NPD_CFG_OFS r)
    let s := if s.rd (F.NPD_CFG_FUNC r) = 2 then
        { s with recd := { s.recd with net := some { sec := beFieldAt t.data ofs 8, ns := beFieldAt t.data (ofs + 8) 4, comId := t.comId.toNat }, netAt := s.now } }
      else s
    let s := s.pdEffects r t.etb.toNat
    (List.range 16).foldl (fun u n => if u.sdtOn n && u.rd (F.SDT_CFG_ROW n) == r then u.sdtCheck n t.opTrn.toNat t.data else u) s

/-- PD_TELEGRAM_RECEIVED on a consist port (R477–R479); "Pr" requests and unknown ComIds are ignored. -/
def pdTelegramReceived (p : Fin 2) (t : PdTel) (s : State) : State :=
  s.onM fun s =>
    if !s.flag (linkFld p.val) || !t.isPd then s
    else match (List.range 64).find? (fun r => t.comId.toNat != 0 && s.rd (F.PD_COMID r) == t.comId.toNat) with
    | none => s
    | some r =>
      let len := s.rd (F.NPD_CFG_LEN r)
      let ip := s.pdIp r
      if !t.fcsOk || decide (t.major ≠ 1#8) || decide (t.len.toNat ≠ len) || decide (t.data.length ≠ len) || (ip != 0 && decide (ip ≠ t.src.toNat)) then
        (s.inc (F.PD_ERR_FORMAT r)).modPd r (fun y => { y with fmt := true })
      else s.pdAccept r t

/-- PD_ROW_TIMEOUT: TIME ms without an accepted telegram; the data keeps its last value (R479). -/
def pdRowTimeout (r : Fin 64) (s : State) : State :=
  s.onM fun s =>
    let x := s.pdRow r.val
    let func := s.rd (F.NPD_CFG_FUNC r.val)
    if x.valid && s.past x.at_ (msT (s.pdTime r.val)) then
      let s := ((s.modPd r.val (fun y => { y with valid := false })).setF (F.NPD_STATUS_VALID r.val) false).inc (F.PD_ERR_TIMEOUT r.val)
      let s := s.pdEffects r.val 0
      let s := if func = 2 then { s with recd := { s.recd with net := none } } else s
      if 1 ≤ func ∧ func ≤ 3 then s.stage 0x4E03 sysRec [r.val, func, if x.fmt then 2 else 1] else s
    else s

/-- What follows time and a change of the tables (R481, R482, R484): a function without its row is not set, and errors of SDT rows clear. -/
def State.netSweep (s : State) : State :=
  let live := fun (t : State) (func : Nat) => match t.pdFunc func with | some r => (t.pdRow r).valid | none => false
  let s := if s.flag F.NET_STATUS_APPROACH && !live s 1 then s.setF F.NET_STATUS_APPROACH false else s
  let s := if s.flag F.NET_STATUS_TIME_VALID && !live s 2 then State.setF { s with recd := { s.recd with net := none } } F.NET_STATUS_TIME_VALID false else s
  let lost := fun (t : State) (func : Nat) (held : Bool) =>
    held && !(List.range 16).any (fun n => t.sdtOn n && (t.sdt n).valid && (t.sdt n).set && t.rd (F.SDT_CFG_FUNC n) == func)
  let s := s.when (lost s 1 s.trn.sdtL) (fun t => (State.setF { t with trn := { t.trn with sdtL := false } } F.NET_STATUS_SDT_REL_LEFT false).sideRelUpdate)
  let s := s.when (lost s 2 s.trn.sdtR) (fun t => (State.setF { t with trn := { t.trn with sdtR := false } } F.NET_STATUS_SDT_REL_RIGHT false).sideRelUpdate)
  let s := if s.rd F.NET_STATUS_ORIENT != 0 && !live s 3 then ((s.wr F.NET_STATUS_ORIENT 0).wr F.SIDE_MAP_NET 0).mapUpdate.sideRelUpdate else s
  (List.range 16).foldl (fun u n =>
    let u := u.sdtErrorClear n
    if (u.sdt n).valid && !u.sdtOn n then (u.modSdt n (fun x => { x with valid := false })).showSdt n else u) s

/-! ## Publishing (R483) -/

/-- Flag byte of a doorway (R483): PROVEN, RELEASE_OK, PLATFORM, LOOP_CONTRIB, CREEP, fenced. DESIGN CHOICE (log entry 204): fenced is
SEQ.STATE FENCED. -/
def State.doorFlags (s : State) (d : DIx) : Nat :=
  b2n (s.flag (F.SEQ_STATUS_PROVEN d)) + 2 * b2n (s.flag (F.SEQ_STATUS_RELEASE_OK d)) + 4 * b2n (s.flag (F.SEQ_STATUS_PLATFORM d)) +
  8 * b2n (s.flag (F.SEQ_STATUS_LOOP_CONTRIB d)) + 16 * b2n (s.flag (F.SEQ_STATUS_CREEP d)) + 32 * b2n (s.st d == .fenced)

/-- Milliseconds, tenths of a second or seconds since a time, saturating; the value for none. -/
def State.ageOf (s : State) (t : Option Nat) (unit max_ none_ : Nat) : Nat := match t with | some x => min max_ ((s.now - x) / unit) | none => none_

/-- OCC_AGE and SEAM_SUM.AGE of a doorway (R160). -/
def State.occAge (s : State) (d : DIx) : Nat := s.ageOf ((s.cop.occAt.find? (fun x => x.1 == d.val)).map (·.2)) 16000000 0xFFFF 0xFFFF
def State.seamSum (s : State) (d : DIx) : Nat :=
  s.rd (F.SEAM_SUM d) % 2 ^ 22 + s.ageOf ((s.cop.seamAt.find? (fun x => x.1 == d.val)).map (·.2)) 160000000 1023 0 * 2 ^ 22

/-- GLB.ID (R10). -/
def State.idWord (s : State) : Nat := 0xB4 * 2 ^ 24 + 0x0D24 * 2 ^ 8 + s.chip.variant.code

/-- Content of a publish function (R483), in network byte order. -/
def State.pubContent (s : State) (func : Nat) : List Byte :=
  let per := fun (n : Nat) (f : DIx → Nat) => allD.flatMap (fun d => if s.declared d then beBytes n (f d) else List.replicate n 0)
  match func with
  | 1 => per 1 (fun d => s.rd (F.SEQ_STATE d)) ++ per 1 s.doorFlags ++ beBytes 1 s.modState ++ beBytes 1 (s.rd F.RP_STATUS_ROLE) ++
      beBytes 1 ((s.reg F.LOOP_STATUS_L1_CLOSED.addr).toNat % 256) ++ beBytes 1 ((s.reg F.LOOP_STATUS_L1_CLOSED.addr).toNat / 256 % 256)
  | 2 => allD.flatMap (fun d => if s.declared d then beBytes 4 (s.reg (F.OCC d).addr).toNat ++ beBytes 2 (s.occAge d) else List.replicate 6 0)
  | 3 => per 4 s.seamSum
  | 4 => beBytes 4 s.idWord ++ beBytes 4 (s.reg F.FLT_STATUS.addr).toNat ++ beBytes 4 (s.reg F.REC_NEXT_LO.addr).toNat ++ beBytes 4 (s.rd F.CFG_GEN)
  | _ => []

/-- PD_PUBLISH of row 64 + k: every TIME ms, with authority (R483); on both consist ports (R477). -/
def pdPublish (k : Fin 16) (s : State) : State :=
  s.onM fun s =>
    let r := 64 + k.val
    let x := s.pdRow r
    if s.rd (F.PD_COMID r) = 0 ∨ s.hasAuth = false ∨ (x.seen = true ∧ s.past x.at_ (msT (s.pdTime r)) = false) then s
    else
      let seq := if x.seen then (x.ctr + 1) % 2 ^ 32 else x.ctr
      let data := padTo (s.rd (F.NPD_CFG_LEN r)) (s.pubContent (s.rd (F.NPD_CFG_FUNC r)))
      let s := s.modPd r (fun y => { y with at_ := s.now, valid := true, seen := true, ctr := seq, data := data })
      { s with net := { s.net with sent := some (r, seq, s.pdIp r, data) } }

/-! ## The commands of this file -/

/-- The meaning of PD_TELEGRAM_RECEIVED (R479). -/
def execPdTelegramReceived (p : Fin 2) (t : PdTel) (s : State) : Host.Outcome State Fault Refusal := .next (s.done (pdTelegramReceived p t s))

/-- The meaning of PD_ROW_TIMEOUT (R479). -/
def execPdRowTimeout (r : Fin 64) (s : State) : Host.Outcome State Fault Refusal := .next (s.done (pdRowTimeout r s))

/-- The meaning of SDT_TIMEOUT (R484). -/
def execSdtTimeout (n : Fin 16) (s : State) : Host.Outcome State Fault Refusal := .next (s.done (sdtTimeout n s))

/-- The meaning of PD_PUBLISH (R483). -/
def execPdPublish (k : Fin 16) (s : State) : Host.Outcome State Fault Refusal := .next (s.done (pdPublish k s))

/-- The meaning of ECN_LINK_CHANGE (R477). -/
def execEcnLinkChange (p : Port) (up : Bool) (s : State) : Host.Outcome State Fault Refusal := .next (s.done (ecnLinkChange p up s))

end Sys2Proof.Machine
end

