-- ==== Sys2Proof/Machine/Can.lean ====
section
/-!
DEFINITION. Machine/Can.lean: the panel bus (R489–R497): reception and filters, the queues and slots, transmission, bus-off, restricted mode
and the panel profile.
-/
namespace Sys2Proof.Machine

/-- Both controllers. -/
def allC : List CIx := [0, 1]

/-- Hidden state of a controller. -/
def State.canH (s : State) (c : CIx) : CanH := s.can[c.val]

/-- Change the hidden state of a controller. -/
def State.modCan (s : State) (c : CIx) (f : CanH → CanH) : State := { s with can := s.can.set c.val (f s.can[c.val]) }

/-- The controller runs the panel profile: it has a CAN_MAP instance (R496). -/
def State.panelProfile (s : State) (c : CIx) : Bool := s.img.insts.any (fun i => i.ty == 0x10 && i.unit == c.val)

/-- The controller runs: enabled, its clock locked (R517), not bus-off and not recovering. -/
def State.canRuns (s : State) (c : CIx) : Bool :=
  s.alive && s.img.running.isSome && s.flag (F.CAN_CFG_EN c) && s.flag F.CLK_STATUS_CAN_LOCK && !(s.canH c).off && !(s.canH c).recovering

/-- Restricted mode (R495). -/
def State.canRestricted (s : State) (c : CIx) : Bool := s.flag (F.CAN_CTL_RESTRICT c) || !s.hasAuth

/-- Show CAN_STATUS and the queue counts. -/
def State.showCan (s : State) (c : CIx) : State :=
  let h := s.canH c
  let st := if h.off then 2 else if !s.canRuns c then 3 else if 128 ≤ h.tec ∨ 128 ≤ h.rec_ then 1 else 0
  let s := (s.wr (F.CAN_STATUS_STATE c) st).setF (F.CAN_STATUS_RESTRICTED c) (s.canRestricted c)
  let s := ((s.wrSat (F.CAN_STATUS_TEC c) h.tec).wrSat (F.CAN_STATUS_REC c) h.rec_).wr (F.CAN_STATUS_LEC c) h.lec
  (s.wr (F.RXQ0_STATUS_N c) h.q0.length).wr (F.RXQ1_STATUS_N c) h.q1.length

/-! ## Frame entries (R497) -/

/-- Words of a frame entry: FHDR, FINFO, FTICK and 16 data words. -/
def CanEnt.words (e : CanEnt) : List Nat :=
  let f := e.f
  let data := padTo 64 f.data
  [f.id.toNat + b2n f.ide * 2 ^ 29 + b2n f.rtr * 2 ^ 30,
   f.dlc.toNat + b2n f.fdf * 2 ^ 4 + b2n f.brs * 2 ^ 5 + b2n f.esi * 2 ^ 6 + b2n e.new_ * 2 ^ 7 + b2n e.lost * 2 ^ 8 + f.data.length * 2 ^ 16 + e.filter * 2 ^ 24,
   e.tick] ++ (List.range 16).map (fun k => fieldAt data (4 * k) 4)

/-- Bytes of a data length code (ISO 11898-1). -/
def dlcLen (dlc : Nat) : Nat := nth [0, 1, 2, 3, 4, 5, 6, 7, 8, 12, 16, 20, 24, 32, 48, 64] dlc 0

/-- The frame that a transmit buffer holds. -/
def State.txFrame (s : State) (c : CIx) (b : Nat) : CanFrame :=
  let h := s.rd (F.TXB c b 0)
  let i := s.rd (F.TXB c b 1)
  let fdf := bitOf i 4 && s.flag (F.CAN_CFG_FD c)
  let n := if fdf then dlcLen (i % 16) else min 8 (i % 16)
  { id := BitVec.ofNat 29 h, ide := bitOf h 29, rtr := bitOf h 30 && !fdf, fdf := fdf, brs := bitOf i 5 && fdf, esi := bitOf i 6 && fdf,
    dlc := BitVec.ofNat 4 i, data := ((List.range 16).flatMap (fun k => leBytes 4 (s.rd (F.TXB c b (3 + k))))).take n }

/-- Arbitration value: the bits that arbitration compares, dominant 0, so the lower wins (R493). -/
def canArb (f : CanFrame) : Nat :=
  let i := f.id.toNat
  if f.ide then (i / 2 ^ 18) * 2 ^ 21 + 3 * 2 ^ 19 + i % 2 ^ 18 * 2 + b2n f.rtr else i % 2048 * 2 ^ 21 + b2n f.rtr * 2 ^ 20

/-! ## Transmission (R493, R495) -/

/-- Is buffer b requested? -/
def State.txReq (s : State) (c : CIx) (b : Nat) : Bool := bitOf (s.rd (F.TX_CTL_REQ c)) b

/-- The requested buffer that goes next (R493). -/
def State.txNext (s : State) (c : CIx) : Option Nat :=
  let reqs := (List.range 3).filter (s.txReq c)
  if s.flag (F.CAN_CFG_TX_ORDER c) then reqs.head?
  else reqs.foldl (fun best b => match best with | none => some b | some x => if canArb (s.txFrame c b) < canArb (s.txFrame c x) then some b else some x) none

/-- A controller whose bus is idle puts the next requested frame on it (DESIGN CHOICE, log entry 29); restricted mode sends none. -/
def State.txStart (s : State) (c : CIx) : State :=
  if (s.canH c).bus.isSome || !s.canRuns c || s.canRestricted c then s
  else match s.txNext c with
    | some b => s.modCan c (fun h => { h with bus := some b, aborting := false })
    | none => s

/-- The next status frame of the profile takes buffer 0 (R496). -/
def State.panelLoad (s : State) (c : CIx) : State :=
  if s.txReq c 0 then s
  else match (s.canH c).panelQ with
    | [] => s
    | f :: rest =>
      let ws := ({ f := f, filter := 0, tick := 0 } : CanEnt).words
      let s := ((List.range 19).zip ws).foldl (fun t x => t.wr (F.TXB c 0 x.1) x.2) s
      ((s.modCan c (fun h => { h with panelQ := rest })).setBit (F.TX_CTL_REQ c) 0 true).txStart c

/-- REQ[b]: transmission of buffer b is requested (R493); buffer 0 belongs to the panel profile where it runs (R496). -/
def req (c : CIx) (b : Fin 3) (s : State) : State :=
  s.onM fun s =>
    if b.val = 0 ∧ s.panelProfile c = true then s
    else (s.setBit (F.TX_CTL_REQ c) b.val true).txStart c

/-- ABORT[b]: the request goes at once, unless the frame is on the bus (R493). -/
def abort (c : CIx) (b : Fin 3) (s : State) : State :=
  s.onM fun s =>
    if b.val = 0 ∧ s.panelProfile c = true then s
    else if (s.canH c).bus = some b.val then (s.setBit (F.TX_CTL_ABORT c) b.val true).modCan c (fun h => { h with aborting := true })
    else ((s.setBit (F.TX_CTL_REQ c) b.val false).setBit (F.TX_CTL_ABORT c) b.val false).txStart c

/-- CAN_TX_COMPLETE: the frame on the bus is sent (R493). -/
def canTxComplete (c : CIx) (s : State) : State :=
  s.onM fun s =>
    match (s.canH c).bus with
    | none => s
    | some b =>
      let f := s.txFrame c b
      let s := ((s.setBit (F.TX_CTL_REQ c) b false).setBit (F.TX_CTL_ABORT c) b false).setBit (F.TX_CTL_DONE c) b true
      let s := s.modCan c (fun h => { h with bus := none, aborting := false, sent := some f, tec := h.tec - 1 })
      ((s.panelLoad c).txStart c).showCan c

/-! ## Reception (R490–R492) -/

/-- Does filter element n match (R490)? -/
def State.filterMatch (s : State) (c : CIx) (n : Nat) (f : CanFrame) : Bool :=
  s.flag (F.FLT_ID_EN c n) && s.flag (F.FLT_ID_IDE c n) == f.ide &&
  Nat.land (Nat.xor f.id.toNat (s.rd (F.FLT_ID_ID c n))) (s.rd (F.FLT_MASK c n) % 2 ^ 29) == 0

/-- Doorway and request bit of a panel request (R496). -/
def State.panelRequest (s : State) (c : CIx) (f : CanFrame) : Option (DIx × Bool) :=
  let base := s.rd (F.CAN_CFG_BASE_ID c) + (if s.img.level = 0 then 0x10 else 0x20)
  let i := f.id.toNat
  if h : !f.ide && !f.rtr && decide (base ≤ i) && decide (i - base < 24) && decide (0 < f.data.length) && (s.img.level == 0 || !f.fdf) then
    some (⟨i - base, by simp at h; omega⟩, bitOf (fieldAt f.data 0 1) 0)
  else none

/-- A frame goes to queue q (R491). -/
def State.toQueue (s : State) (c : CIx) (second : Bool) (e : CanEnt) : State :=
  let q := if second then (s.canH c).q1 else (s.canH c).q0
  if 16 ≤ q.length then s.inc (F.CAN_ERR_RXQ_OVF c)
  else s.modCan c (fun h => if second then { h with q1 := q ++ [e] } else { h with q0 := q ++ [e] })

/-- A frame goes to slot k (R492). -/
def State.toSlot (s : State) (c : CIx) (k : Nat) (e : CanEnt) : State :=
  let lost := match nth (s.canH c).slots k none with | some o => o.new_ | none => false
  let s := s.when lost (fun t => t.inc (F.CAN_ERR_SLOT_LOST c))
  s.modCan c (fun h => { h with slots := setNth h.slots k (some { e with new_ := true, lost := lost }) })

/-- CAN_FRAME_RECEIVED (R490). The panel profile takes its requests at elements 14 and 15, after the elements before (R496). -/
def canFrameReceived (c : CIx) (f : CanFrame) (s : State) : State :=
  s.onM fun s =>
    if !s.canRuns c || (f.fdf && !s.flag (F.CAN_CFG_FD c)) then s
    else
      let s := s.modCan c (fun h => { h with rec_ := if 127 < h.rec_ then 127 else h.rec_ - 1 })
      let prof := s.panelProfile c
      let e := fun n => ({ f := f, filter := n, tick := s.tick } : CanEnt)
      let s := match (List.range (if prof then 14 else 16)).find? (fun n => s.filterMatch c n f) with
        | some n =>
          let t := s.rd (F.FLT_TGT c n)
          if t = 0 then s.toQueue c false (e n) else if t = 1 then s.toQueue c true (e n) else if t < 10 then s.toSlot c (t - 2) (e n) else s
        | none => match (if prof then s.panelRequest c f else none) with
          | some (d, b) =>
            let rise := b && nth (s.canH c).reqBits d.val none == some false
            let s := s.modCan c (fun h => { h with reqBits := setNth h.reqBits d.val (some b) })
            if rise && s.declared d then s.modSeq d (fun q => { q with openIn := true }) else s
          | none => s.inc (F.CAN_ERR_UNMATCHED c)
      s.showCan c

/-- POP: the oldest entry of a queue goes (R491). -/
def pop (c : CIx) (q : Fin 2) (s : State) : State :=
  s.onM fun s => (s.modCan c (fun h => if q.val = 1 then { h with q1 := h.q1.drop 1 } else { h with q0 := h.q0.drop 1 })).showCan c

/-! ## Errors and bus-off (R494) -/

/-- CAN_BUS_ERROR: an error of a frame sent or received, its LEC and by how much ISO 11898-1 raises the counter (R489, R494). A frame being
sent is tried again, unless its abort waits (R493). -/
def canBusError (c : CIx) (tx : Bool) (lec : Fin 7) (by_ : Fin 9) (s : State) : State :=
  s.onM fun s =>
    if !s.canRuns c then s
    else
      let s := s.modCan c (fun h => if tx then { h with tec := h.tec + by_.val, lec := lec.val } else { h with rec_ := h.rec_ + by_.val, lec := lec.val })
      let s := match (if tx then (s.canH c).bus else none) with
        | some b =>
          let ab := (s.canH c).aborting
          let s := s.modCan c (fun h => { h with bus := none, aborting := false })
          (s.when ab (fun t => (t.setBit (F.TX_CTL_REQ c) b false).setBit (F.TX_CTL_ABORT c) b false)).txStart c
        | none => s
      s.showCan c

/-- CAN_BUS_OFF: the transmit error count has passed 255 (R494). -/
def canBusOff (c : CIx) (s : State) : State :=
  s.onM fun s =>
    if s.canRuns c && decide (256 ≤ (s.canH c).tec) then
      let s := (s.modCan c (fun h => { h with off := true, bus := none, aborting := false })).inc (F.CAN_ERR_BUS_OFF c)
      (s.showCan c).stage 0x4E01 sysRec [c.val, (s.canH c).lec]
    else s

/-- RECOVER: recovery from bus-off starts; elsewhere it has no effect and clears (R494). -/
def recover (c : CIx) (s : State) : State :=
  s.onM fun s =>
    if (s.canH c).off then ((s.setF (F.CAN_CTL_RECOVER c) true).modCan c (fun h => { h with off := false, recovering := true })).showCan c
    else s.setF (F.CAN_CTL_RECOVER c) (s.canH c).recovering

/-- CAN_RECOVERY_COMPLETE: 128 times 11 recessive bits have passed (R494). -/
def canRecoveryComplete (c : CIx) (s : State) : State :=
  s.onM fun s =>
    if (s.canH c).recovering then
      let s := (s.modCan c (fun h => { h with recovering := false, tec := 0, rec_ := 0 })).setF (F.CAN_CTL_RECOVER c) false
      ((s.panelLoad c).txStart c).showCan c
    else s

/-! ## The panel profile (R496) -/

/-- DS8 code of a doorway. -/
def State.ds8Code (s : State) (d : DIx) : Nat :=
  if !s.declared d then 0xFF
  else match s.st d with
    | .closedLocked => 0
    | .opened => 1
    | .obstructed | .held | .fenced => 3
    | .isolated => 4
    | .emergency => 5
    | _ => 2

/-- What the status frames say, without the counter. -/
def State.panelContent (s : State) : List Byte :=
  let per := fun (f : DIx → Nat) => allD.map (fun d => if s.declared d then BitVec.ofNat 8 (f d) else 0)
  if s.img.level = 0 then per (fun d => s.rd (F.SEQ_STATE d)) ++ per s.doorFlags ++ [BitVec.ofNat 8 s.modState, BitVec.ofNat 8 (s.rd F.RP_STATUS_ROLE)]
  else allD.map (fun d => BitVec.ofNat 8 (s.ds8Code d))

/-- PANEL_STATUS_SEND: every 100 ms, and on a change (R496). -/
def panelStatusSend (c : CIx) (s : State) : State :=
  s.onM fun s =>
    let h := s.canH c
    let body := s.panelContent
    let due := (match h.panelAt with | some t => s.past t (msT 100) | none => true) || body != h.panelLast
    if !s.panelProfile c || !s.canRuns c || !due then s
    else
      let base := s.rd (F.CAN_CFG_BASE_ID c)
      let frames : List CanFrame :=
        if s.img.level = 0 then
          [{ id := BitVec.ofNat 29 base, ide := false, rtr := false, fdf := true, brs := true, esi := false, dlc := 15,
             data := body ++ beBytes 2 h.panelCtr ++ List.replicate 12 0 }]
        else (List.range 3).map (fun k =>
          { id := BitVec.ofNat 29 (base + k), ide := false, rtr := false, fdf := false, brs := false, esi := false, dlc := 8, data := (body.drop (8 * k)).take 8 })
      (s.modCan c (fun h => { h with panelQ := frames, panelLast := body, panelCtr := (h.panelCtr + 1) % 65536, panelAt := some s.now })).panelLoad c

/-- What follows a change of authority, clock or image: a controller that may send again goes on, one that may not leaves
the bus (R495). DESIGN CHOICE (log entry 204): a frame on the bus is cut. -/
def State.canSweep (s : State) : State :=
  allC.foldl (fun t c =>
    let t := if (t.canH c).bus.isSome && (!t.canRuns c || t.canRestricted c) then t.modCan c (fun h => { h with bus := none }) else t
    ((t.panelLoad c).txStart c).showCan c) s

/-! ## The commands of this file -/

/-- The meaning of CAN_FRAME_RECEIVED (R490). -/
def execCanFrameReceived (c : CIx) (f : CanFrame) (s : State) : Host.Outcome State Fault Refusal := .next (s.done (canFrameReceived c f s))

/-- The meaning of POP (R491). -/
def execPop (c : CIx) (q : Fin 2) (s : State) : Host.Outcome State Fault Refusal := .next (s.done (pop c q s))

/-- The meaning of REQ (R493). -/
def execReq (c : CIx) (b : Fin 3) (s : State) : Host.Outcome State Fault Refusal := .next (s.done (req c b s))

/-- The meaning of ABORT (R493). -/
def execAbort (c : CIx) (b : Fin 3) (s : State) : Host.Outcome State Fault Refusal := .next (s.done (abort c b s))

/-- The meaning of CAN_TX_COMPLETE (R493). -/
def execCanTxComplete (c : CIx) (s : State) : Host.Outcome State Fault Refusal := .next (s.done (canTxComplete c s))

/-- The meaning of CAN_BUS_OFF (R494). -/
def execCanBusOff (c : CIx) (s : State) : Host.Outcome State Fault Refusal := .next (s.done (canBusOff c s))

/-- The meaning of RECOVER (R494). -/
def execRecover (c : CIx) (s : State) : Host.Outcome State Fault Refusal := .next (s.done (recover c s))

/-- The meaning of CAN_RECOVERY_COMPLETE (R494). -/
def execCanRecoveryComplete (c : CIx) (s : State) : Host.Outcome State Fault Refusal := .next (s.done (canRecoveryComplete c s))

/-- The meaning of PANEL_STATUS_SEND (R496). -/
def execPanelStatusSend (c : CIx) (s : State) : Host.Outcome State Fault Refusal := .next (s.done (panelStatusSend c s))

/-- The meaning of CAN_BUS_ERROR (R494). -/
def execCanBusError (c : CIx) (tx : Bool) (lec : Fin 7) (by_ : Fin 9) (s : State) : Host.Outcome State Fault Refusal := .next (s.done (canBusError c tx lec by_ s))

end Sys2Proof.Machine
end

