-- ==== Sys2Proof/Machine/Power.lean ====
section
/-!
DEFINITION. Machine/Power.lean: the module states (R506–R509), BOOT tests and restarts (R414–R417), the main supply (R510–R513), KEEP and
wake (R514–R516), clocks and relocks (R517–R521), and thermal shedding (R523–R525).
-/
namespace Sys2Proof.Machine

/-! ## Restart and BOOT (R417, R506, R508) -/

/-- Is a register kept through a restart? The field ASICs run limp-home on (R327, R513): they hold LH_CFG and CH_CFG of the channels bound to it, which
have no reset value (R325, R328). -/
def State.keptReg (s : State) (addr : Nat) : Bool :=
  (decide (0x6080 ≤ addr) && decide (addr < 0x60C0)) || allD.any (fun d => allK.any (fun k => (s.chan d k).limp && addr == ch d k 0))

/-- What a doorway keeps through a restart: that a channel is under limp-home, and the levels at its encoder pins. Everything else of a channel starts
anew, for the field ASICs restart with the module (R323). -/
def Dwy.reboot (x : Dwy) : Dwy :=
  { ch := x.ch.map (fun c => { limp := c.limp }), enc := x.enc.map (fun e => { a := e.a, b := e.b, z := e.z }) }

/-- What the image flash and the model store keep: the slots and the copies, from which the rest is read again (R336). -/
def ImgH.reboot (i : ImgH) : ImgH :=
  ImgH.readCopies { slotA := i.slotA, slotB := i.slotB, models := i.models, offsets := i.offsets, com0 := i.com0, com1 := i.com1, key0 := i.key0,
                    key1 := i.key1, loaded := i.loaded }

/-- The keep-alive domain has lost VKEEP (R413, R515, R516): its latches read nothing. -/
def State.dropKeepAlive (s : State) : State :=
  if s.pwr.vkLost then
    { s with
      flt := { s.flt with qtBits := 0, qtS := false, qtA := false, qtTrips := 0, qtTripped := false, restarts := 0 },
      recd := { s.recd with keepLost := 0, keepLostFirst := 0, keepLostLast := 0 },
      pwr := { s.pwr with powerFail := false, latch := 0 } }
  else s

/-- Everything volatile returns to its value at entry to BOOT (R18); flash, the keep-alive domain, the pins and what the field ASICs hold stay. -/
def State.clearVolatile (s : State) : State :=
  let p := s.pair
  { s with
    regs := s.regs.filter (fun e => s.keptReg e.1), imgPend := [], dwys := s.dwys.map Dwy.reboot, img := s.img.reboot, plc := {},
    flt := { qtBits := s.flt.qtBits, qtS := s.flt.qtS, qtA := s.flt.qtA, qtTrips := s.flt.qtTrips, qtTripped := s.flt.qtTripped,
             restarts := s.flt.restarts, wdogAt := s.now },
    pwr := { lines := s.pwr.lines, wakeOff := s.pwr.wakeOff, vkLost := s.pwr.vkLost, powerFail := s.pwr.powerFail, pfPages := s.pwr.pfPages,
             pfLatched := s.pwr.pfLatched, holdMs := s.pwr.holdMs, latch := s.pwr.latch, keepRc := s.pwr.keepRc, lhIn := s.pwr.lhIn },
    pair := { authPin := p.authPin, presPin := p.presPin, partFreeSince := if p.authPin then none else some s.now,
              fittedAt := if p.presPin then some s.now else none },
    trn := {}, asics := s.asics.map (fun (a : AsicH) => { lhEn := a.lhEn, lostSince := a.lostSince, told := false }), engs := Vector.replicate 32 {}, cop := {},
    net := {}, can := Vector.replicate 2 {}, rap := {}, tb0 := s.now, rail := true, qtHeld := false }

/-- What BOOT shows at once: pins, clocks and keep-alive latches (R508 step 1). -/
def State.bootShow (s : State) (how : Nat) : State :=
  let s := ((s.setF F.RP_STATUS_SLOT s.chip.slotB).setF F.RP_STATUS_PARTNER_AUTH s.pair.authPin).setF F.RP_STATUS_PARTNER_PRESENT s.pair.presPin
  let s := ((s.setReg F.FLT_CLK.addr 0x1F).setReg F.CLK_STATUS.addr 0x3F).setF F.PWR_STATUS_KEEP_RC s.pwr.keepRc
  let s := (s.wr F.FLT_RESTART_HOW how).wrSat F.FLT_RESTART_COUNT s.flt.restarts
  let s := ((s.setF F.FLT_QT_TRIPPED s.flt.qtTripped).wr F.FLT_QT_CAUSE s.flt.qtBits).wrSat F.FLT_QT_TRIPS s.flt.qtTrips
  let s := (s.setF F.FLT_QT_BY_S s.flt.qtS).setF F.FLT_QT_BY_A s.flt.qtA
  let s := (s.setF F.PWR_WAKE_POWER_ON s.pwr.vkLost).setF F.PWR_WAKE_POWER_FAIL s.pwr.powerFail
  -- a module without authority has its SWAP LED steady (R438)
  let s := s.setF F.RP_STATUS_SWAP_OK true
  ((s.setF F.PWR_WAKE_WAKE (bitOf s.pwr.latch 0)).setF F.PWR_WAKE_HANDLE (bitOf s.pwr.latch 1)).setF F.PWR_WAKE_BUTTON (bitOf s.pwr.latch 2)

/-- The records of a restart, 0x0D03 first (R413, R417, R454, R511, R516). -/
def State.bootRecords (s : State) (how : Nat) : State :=
  let s := s.stage 0x0D03 sysRec [(s.reg F.FLT_RESTART.addr).toNat, (s.reg F.FLT_QT.addr).toNat]
  let s := s.when s.flt.qtTripped (fun t => t.stage 0x4D01 sysRec [t.flt.qtBits, b2n t.flt.qtS + 2 * b2n t.flt.qtA, t.flt.qtTrips])
  let s := s.when s.pwr.powerFail (fun t => t.stage 0x7003 sysRec [t.pwr.pfPages, t.pwr.pfLatched, t.pwr.holdMs])
  let s := s.when (how == 4) (fun t => t.stage 0x7005 sysRec [(t.reg F.PWR_WAKE.addr).toNat])
  s.stageKeepLost

/-- Entry to BOOT by path `how` of R417; with keep-alive lost it is path 1 (R413). The keep-alive latches are read, then cleared. -/
def State.bootEntry (s : State) (how : Nat) : State :=
  let s := (allJ.foldl (fun t j => t.asicOff j) s).dropKeepAlive
  let how := if s.pwr.vkLost then 1 else how
  let s := if how = 1 then s else { s with flt := { s.flt with restarts := min 65535 (s.flt.restarts + 1) } }
  let s := ((s.clearRecorder.clearVolatile).bootShow how).bootRecords how
  { s with
    flt := { s.flt with qtBits := 0, qtS := false, qtA := false, qtTripped := false },
    pwr := { s.pwr with vkLost := false, powerFail := false, latch := 0 } }

/-- POWER_GOOD: the main rail has been good for 50 ms (R506). In KEEP only a wake switches it on (R516); where VMAIN returns after a shutdown has started,
the module restarts once the shutdown holds it in reset (R511). -/
def powerGood (s : State) : State :=
  if (s.rail && !s.heldInReset) || (s.pwr.keep && !s.pwr.railCmd) then s else s.bootEntry (if s.pwr.keep then 4 else 2)

/-- PARTNER_RESTART_IN: a low pulse of `ms` on RESTART_IN; outside 10–100 ms it is ignored (R417). KEEP entry and a shutdown, once started,
complete (R511, R514). -/
def partnerRestartIn (ms : Nat) (s : State) : State :=
  if !s.rail || ms < 10 || 100 < ms || s.outputsOff then s else s.bootEntry 3

/-! ## BOOT tests (R414, R416) -/

/-- A failing BOOT test writes 0x4D09 and takes its resource out, or keeps the module in CONFIG, or fences a doorway from entry to RUN. -/
def State.bootFailure (s : State) (f : BootFail) (late : Bool) : State :=
  let out := if late then 2 else 1
  let rec_ := fun (t : State) (pool n : Nat) => t.stage 0x4D09 sysRec [pool, n, out]
  let hold := fun (t : State) => t.modPwr (fun p => { p with stay := true })
  match f with
  | .quickthorn impl trig spurious =>
    let s := rec_ s 0 impl.val
    let s := s.stage 0x4D05 sysRec [impl.val + 1, trig.val, if spurious then 2 else 1]
    hold ((s.setF (if impl.val = 0 then F.FLT_QT_S_PASS else F.FLT_QT_A_PASS) false).setF F.FLT_STATUS_ATTN true)
  | .enginePair p => if s.pairHere p then ((rec_ s poolEng p.val).setFm poolEng p.val 3).setPair p 7 0x1F else s
  | .evalSlot n => if n.val < s.nPair then (rec_ s poolSes n.val).setFm poolSes n.val 3 else s
  | .sysSlot n => hold (rec_ s poolSys n.val)
  | .sequencer d =>
    if s.present d then
      ((rec_ s poolSeq d.val).setF (F.FLT_DWY_SEQ_FAULT d.val) true).modPwr (fun p => { p with seqBad := d.val :: p.seqBad })
    else s
  | .dram r => if r.val < s.nPair then (rec_ s poolDram r.val).setFm poolDram r.val 3 else s
  | .dramSystem => hold (rec_ s 0 0)
  | .ckptSlot n => (rec_ s poolRec n.val).setFm poolRec n.val 3
  | .cvu u => (rec_ s poolCvu u.val).setFm poolCvu u.val 3
  | .fieldAsic j => hold (rec_ s 0 j.val)

/-- BOOT_COMPLETE: the BOOT tests of R416, with those that failed and whether without a result in time, and the image checks of R357 are complete,
whatever their outcome (R506). -/
def bootComplete (fails : List (BootFail × Bool)) (s : State) : State :=
  s.onM fun s =>
    if s.modState ≠ 0 then s
    else
      let s := (s.setF F.FLT_QT_S_PASS true).setF F.FLT_QT_A_PASS true
      let s := fails.foldl (fun t x => t.bootFailure x.1 x.2) s
      let s := s.bootImage
      (s.bootRecorder (valOf (imgRegs s.runImage) F.REC_CFG_MODE.addr % 2)).enterConfig

/-! ## CONFIG, PROVE and RUN (R506, R507, R509) -/

/-- The link conditions of R507: each link in service or its window run out, and the mirror link trained or 50 ms passed. -/
def State.linksReady (s : State) : Bool :=
  s.declaredList.all (fun d =>
    (s.rd (F.DRV_STATUS_LINK d) == 3 || (s.drv d).failedAt.isSome) && (s.rd (F.HEAD_STATUS_LINK d) == 3 || (s.head d).failedAt.isSome)) &&
  (s.flag F.RP_STATUS_LINK_UP || s.past s.pwr.configAt (msT 50))

/-- CONFIG_EXIT: the conditions of R506 and R507 hold; PROVE starts with the first role decision and the placement. -/
def configExit (s : State) : State :=
  s.onM fun s =>
    if s.modState = 1 ∧ s.img.running.isSome = true ∧ s.flag F.CFG_STATUS_BOOT_FAIL = false ∧ s.pwr.stay = false ∧ s.outputsOff = false ∧
        s.linksReady = true then
      let s := (s.reloadImg.mapUpdate.wr F.MOD_STATE_STATE 2).modPwr (fun p => { p with proveAt := s.now, scrubbed := [] })
      let s := { s with trn := { s.trn with slotN := List.replicate 12 0 } }
      let s := allD.foldl (fun t d => t.modDrv d (fun v => { v with denN := [0, 0], denAt := [none, none] })) s
      (s.firstRole).computePlacement 1
    else s

/-- Every switch of the loop and safety outputs, and both drive enables of every declared doorway, have been read back at two successive test slots since
entry to PROVE (R192, R273, R507); a reading that fails is handled where it is taken. The outputs of a module without authority are gated, so it checks
none (R422). DEDUCED (log entry 205): no command of the table reads a test-pulse source back. -/
def State.outputsProven (s : State) : Bool :=
  !s.hasAuth || (s.trn.slotN.all (2 ≤ ·) && s.declaredList.all (fun d => (s.drv d).denN.all (2 ≤ ·)))

/-- Is PROVE complete (R507)? Matching first scrubs, ASICs armed where they can be, two test slots passed, verdicts published or 2.0 s. -/
def State.proveDone (s : State) : Bool :=
  let t := s.pwr.proveAt
  ([24, 25] ++ s.declaredList.map (fun (d : DIx) => d.val)).all (fun (r : Nat) => (s.cvuOf 6 r).isNone || s.pwr.scrubbed.contains r) &&
  s.declaredList.all (fun d =>
    let j := asicOf d
    (s.asic j).armed || !s.flag (F.FIO_STATUS_LINK_OK j) || !s.flag (F.FIO_STATUS_ALIVE_OK j)) &&
  s.outputsProven && s.past t (msT 50) &&
  (s.past t (msT 2000) || s.declaredList.all (fun d => s.rd (F.HEAD_STATUS_LINK d) != 3 || (s.topi d).held))

/-- Doorway d at entry to RUN: UNPROVEN (R33), axes referenced (R167), the curtain tested (R302), its BOOT fence (R416). -/
def State.doorRuns (s : State) (d : DIx) : State :=
  let s := allA.foldl (fun t a => t.restReference d a) (s.enter d .unproven 0)
  let s := (s.modProt d (fun p => { p with lcPassAt := some s.runTime })).lcTestStart d
  let s := s.when (s.pwr.seqBad.contains d.val) (fun t => t.fence d 9)
  let s := s.when (!(s.asic (asicOf d)).armed) (fun t => t.fence d 5)
  -- a fence request that still stands is served at the next tick (R387)
  s.when (s.fenceSet d != 0) (fun t => t.modDwy d (fun x => { x with fencePend := true }))

/-- PROVE_COMPLETE: R507 is complete; RUN, or SAFE while a MODULE-scope fault is pending (R506). -/
def proveComplete (s : State) : State :=
  s.onM fun s =>
    if s.modState ≠ 2 ∨ s.outputsOff = true ∨ s.proveDone = false then s
    else
      let s := (s.wr F.MOD_STATE_STATE 3).modPwr (fun p => { p with runFrom := s.now })
      let s := s.declaredList.foldl State.doorRuns s
      let pend := s.rd F.FLT_SAFE_PENDING
      if pend = 0 then s.evalOutputs
      else match (List.range 9).find? (fun n => bitOf pend n) with
        | some n => s.goSafe (n + 1) 2
        | none => s

/-- STRUCTURAL_ACTIVATION: a waiting structural image becomes running through CONFIG (R355, R509). The module keeps the authority it holds: no
rule releases it there (R429 limits claiming alone). -/
def structuralActivation (s : State) : State :=
  s.onM fun s =>
    let union := Nat.lor s.img.decl (imgDecl (s.slot s.loadSlot))
    let calm := fun (d : DIx) => match s.st d with | .closedLocked | .unproven | .isolated | .fenced => true | _ => false
    let ok := (s.modState == 3 || s.modState == 1) && s.img.load == .waitingImg && s.img.loadClass == 3 && s.zeroSpeed && !s.outputsOff && !s.faultMoves &&
      allD.all (fun d => !(s.present d && bitOf union d.val) || calm d)
    if ok then s.activateStruct else s

/-! ## Main supply (R510, R511, R512) -/

/-- VMAIN is measured, 10 mV; SUPPLY_EVT keeps the lowest, 0.1 V (R528). -/
def State.seeVmain (s : State) (v : Nat) : State :=
  let s := s.wr F.VMAIN_V v
  s.when (decide (v / 10 < s.rd F.SUPPLY_EVT_LOWEST)) (fun t => t.wr F.SUPPLY_EVT_LOWEST (v / 10))

/-- Region of VMAIN, 10 mV (R510): 0 NORMAL, 1 EXCURSION, 2 LOSS. -/
def vmainRegion (v : Nat) : Nat :=
  if 1680 ≤ v ∧ v ≤ 3000 then 0 else if 1440 ≤ v ∧ v ≤ 3360 then 1 else 2

/-- MAIN_SUPPLY_LOSS: VMAIN, 10 mV, is in LOSS; the module runs on its hold-up bank (R511 step 1). -/
def mainSupplyLoss (vmain : BitVec 16) (s : State) : State :=
  if !s.rail || s.pwr.lossAt.isSome || vmainRegion vmain.toNat != 2 then s
  else
    let s := s.faultM
    let s := s.modPwr (fun p => { p with lossAt := some s.now, pfPages := s.recd.pages })
    (s.wr F.PWR_STATUS_MAIN 2).seeVmain vmain.toNat

/-- A power-fail shutdown starts (R511 step 2): POWER_FAIL is latched, the outputs go off, the authority is released, the recorder flushes. -/
def State.shutdown (s : State) : State :=
  let auth := s.hasAuth
  let lim := s.numberLimit
  let s := (s.modPwr (fun p => { p with down := p.lossAt, powerFail := true })).setF F.PWR_STATUS_SHUTDOWN true
  let s := if s.modState = 3 ∨ s.modState = 4 then s.enterSafe 8 else s.dropOutputs
  let s := if s.hasAuth then s.releaseAuth else s
  let s := allD.foldl State.storeOffsets (s.flushRecorder auth lim)
  s.modPwr (fun p => { p with pfPages := s.recd.pages - p.pfPages, pfLatched := s.recd.keepLost, holdMs := s.rd F.PWR_STATUS_HOLDUP_MS })

/-- RIDE_THROUGH_END: 10 ms after the LOSS, with VMAIN now, µs spent in LOSS and the lowest VMAIN, 10 mV (R511 step 2). -/
def rideThroughEnd (vmain us low : BitVec 16) (s : State) : State :=
  match s.pwr.lossAt with
  | none => s
  | some t =>
    if !s.rail || s.pwr.down.isSome || !s.past t (msT 10) then s
    else
      let r := vmainRegion vmain.toNat
      if r ≠ 2 then
        let s := (s.modPwr (fun p => { p with lossAt := none })).wr F.PWR_STATUS_MAIN r
        s.onM (fun t => (((t.seeVmain low.toNat).seeVmain vmain.toNat).inc F.SUPPLY_EVT_DIPS).stage 0x7001 sysRec [us.toNat, low.toNat])
      else s.onM State.shutdown

/-- SUPPLY_EXCURSION: VMAIN has been outside NORMAL for `ms`; `extreme` is its extreme, 10 mV (R510). -/
def supplyExcursion (vmain extreme : BitVec 16) (ms : BitVec 16) (s : State) : State :=
  s.onM fun s =>
    if vmainRegion vmain.toNat ≠ 1 ∨ s.pwr.lossAt.isSome = true then s
    else
      let s := (s.wr F.PWR_STATUS_MAIN 1).seeVmain vmain.toNat
      if ms.toNat ≤ 100 ∨ s.pwr.excSeen = true then s
      else
        let s := s.modPwr (fun p => { p with excSeen := true, exc8 := true })
        ((s.inc F.SUPPLY_EVT_EXCURSIONS).stage 0x7002 sysRec [extreme.toNat, ms.toNat]).enterSafe 8

/-- SUPPLY_NORMAL_RESTORED: VMAIN has been NORMAL for `ms`; 1 s clears cause 8 (R510). -/
def supplyNormalRestored (vmain ms : BitVec 16) (s : State) : State :=
  s.onM fun s =>
    if vmainRegion vmain.toNat ≠ 0 ∨ s.pwr.lossAt.isSome = true then s
    else
      let s := ((s.wr F.PWR_STATUS_MAIN 0).seeVmain vmain.toNat).modPwr (fun p => { p with excSeen := false })
      if s.pwr.exc8 = true ∧ 1000 ≤ ms.toNat then (s.modPwr (fun p => { p with exc8 := false })).clearCause 8 else s

/-- HOLDUP_MEASUREMENT: bridging time at 118 W and the bank voltage, 0.1 V, once in BOOT and every 24 h of RUN (R512). -/
def holdupMeasurement (ms volts : BitVec 16) (s : State) : State :=
  s.onM fun s =>
    let due := match s.pwr.holdAt with | none => s.modState == 0 || s.inRun | some t => s.inRun && decide (t + msT 86400000 ≤ s.runTime)
    if !due then s
    else
      let s := s.modPwr (fun p => { p with holdAt := some s.runTime })
      let s := ((s.wrSat F.PWR_STATUS_HOLDUP_MS ms.toNat).setF F.PWR_STATUS_HOLDUP_OK (decide (25 ≤ ms.toNat))).wr F.VMAIN_BANK volts.toNat
      s.when (decide (ms.toNat < 25)) (fun t => t.stage 0x7008 sysRec [t.rd F.PWR_STATUS_HOLDUP_MS, volts.toNat])

/-! ## KEEP (R514–R516) -/

/-- Wake inputs that PWR_CFG enables, as bits of WakeIn (R515). -/
def State.wakeEnables (s : State) : Nat :=
  b2n (s.flag F.PWR_CFG_WAKE_EN) + 2 * b2n (s.flag F.PWR_CFG_HANDLE_WAKE_EN) + 4 * b2n (s.flag F.PWR_CFG_BUTTON_WAKE_EN)

/-- May KEEP be entered now (R514)? -/
def State.keepOk (s : State) : Bool :=
  let m := s.modState
  (m == 1 || m == 3 || m == 4) && (m == 1 || s.zeroSpeed) && !s.outputsOff &&
  s.declaredList.all (fun d => !s.anyMoving d && s.st d != .proofStroke && !s.flag (F.TOPI_STATUS_LEARNING d)) &&
  Nat.land s.pwr.lines s.wakeEnables == 0

/-- KEEP entry is accepted (R514): outputs off; the staged records, a checkpoint and 0x7004 follow. -/
def State.keepAccept (s : State) (how : Nat) : State :=
  let s := s.modPwr (fun p => { p with keepHow := how, keepAt := s.now, keepN := s.recd.queue.length, keepStep := 0 })
  (s.setF F.PWR_STATUS_KEEP_ENTRY true).dropOutputs.keepGoes

/-- KEEP_REQ: PWR_CTL.KEEP_REQ is written (R514, R528). -/
def keepReq (s : State) : State :=
  s.onM fun s =>
    let s := s.setF F.PWR_CTL_KEEP_REQ false
    if s.keepOk then s.keepAccept 1 else s.setF F.PWR_CTL_REFUSED true

/-- AUTO_KEEP: the WAKE line has been inactive for KEEP_DELAY; entry waits until its conditions hold (R514). -/
def autoKeep (s : State) : State :=
  s.onM fun s =>
    let n := s.rd F.PWR_CFG_KEEP_DELAY
    if n ≠ 0 ∧ bitOf s.pwr.lines 0 = false ∧ s.past s.pwr.wakeOff (msT (1000 * n)) = true ∧ s.keepOk = true then s.keepAccept 2 else s

/-- The main rail goes off: alive pulses stop, every module output is off, ATTN is released (R326, R390). -/
def State.railOff (s : State) : State :=
  let s := s.setF F.FLT_STATUS_ATTN false
  let s := ({ s with rail := false } : State).modPwr (fun p => { p with lossAt := none, down := none, offAt := s.now })
  let s := (s.modPair (fun p => { p with claim := false })).setF F.RP_STATUS_AUTH false
  allJ.foldl (fun t j => t.asicOff j) s

/-- KEEP entry ends: authority released, rail off; the keep-alive domain keeps the enables (R514, R515). -/
def State.keepOff (s : State) : State :=
  let s := if s.hasAuth then s.releaseAuth else s
  (s.modPwr (fun p => { p with keep := true, railCmd := false, enables := s.wakeEnables })).railOff

/-- MAIN_RAIL_OFF: the hold-up is exhausted 25 ms or more after the LOSS, or KEEP entry has written its records and checkpoints (R511, R514). -/
def mainRailOff (s : State) : State :=
  if !s.rail then s
  else
    let out := match s.pwr.lossAt with | some t => (s.pwr.down.isSome || s.qtHeld) && s.past t (msT 25) | none => false
    if out then s.railOff
    else if s.flag F.PWR_STATUS_KEEP_ENTRY && s.pwr.keepStep == 2 && s.recDrained then s.keepOff
    else s

/-- KEEP_ENTRY_TIMEOUT: 5 s after acceptance the rail goes off; what is still staged is latched (R514). -/
def keepEntryTimeout (s : State) : State :=
  s.onM fun s =>
    if s.flag F.PWR_STATUS_KEEP_ENTRY && s.past s.pwr.keepAt (msT 5000) then
      let left : List Rec := s.recd.bufs.flatMap (fun (b : PageBuf) => b.recs.map (fun (x : Nat × Rec) => x.2)) ++ s.recd.queue
      let code := fun (r : Option Rec) => match r with | some x => x.code | none => 0
      let s : State := { s with recd := { s.recd with keepLost := left.length, keepLostFirst := code left.head?, keepLostLast := code left.getLast? } }
      s.keepOff
    else s

/-- Bit of a wake input in PWR_WAKE less 1. -/
def wakeBit : WakeIn → Nat
  | .wake => 0
  | .handle => 1
  | .button => 2

/-- WAKE: a wake input has a new filtered level (R515). The first active one that is enabled is latched in KEEP or during its entry; it switches
the rail on at once, or is held until the rail has been off for 100 ms (R516). -/
def wake (i : WakeIn) (active : Bool) (s : State) : State :=
  let k := wakeBit i
  let s := s.modPwr (fun p => { p with
    lines := if bitOf p.lines k = active then p.lines else if active then p.lines + 2 ^ k else p.lines - 2 ^ k,
    wakeOff := if k = 0 ∧ active = false ∧ bitOf p.lines 0 = true then s.now else p.wakeOff })
  let enabled := if s.pwr.keep then bitOf s.pwr.enables k else bitOf s.wakeEnables k
  let parking := s.pwr.keep || s.flag F.PWR_STATUS_KEEP_ENTRY
  if active && enabled && parking && s.pwr.latch == 0 then
    s.modPwr (fun p => { p with latch := 2 ^ k, railCmd := p.keep && s.past p.offAt (msT 100) })
  else s

/-- WAKE_HOLD_ELAPSED: the rail has been off for 100 ms; a held wake switches it on (R516). -/
def wakeHoldElapsed (s : State) : State :=
  if s.pwr.keep && s.pwr.latch != 0 && s.past s.pwr.offAt (msT 100) then s.modPwr (fun p => { p with railCmd := true }) else s

/-- VKEEP_LOSS: in KEEP the module boots at once with HOW 1 (R516); elsewhere the keep-alive contents are gone for the next BOOT (R413). -/
def vkeepLoss (s : State) : State :=
  let s := s.modPwr (fun p => { p with vkLost := true })
  if s.pwr.keep && !s.rail then s.bootEntry 1 else s

/-- KEEP_CRYSTAL_STOPPED: the keep-alive domain runs on its RC oscillator (R517). -/
def keepCrystalStopped (s : State) : State := (s.modPwr (fun p => { p with keepRc := true })).onM (fun t => t.setF F.PWR_STATUS_KEEP_RC true)

/-! ## Clocks (R517, R520, R521) -/

/-- Number of a domain in 0x7007 less 1. -/
def domIx : ClkDom → Nat
  | .eng => 0
  | .net => 1
  | .can => 2

/-- Lock bit of a domain. -/
def domLock : ClkDom → Fld
  | .eng => F.CLK_STATUS_ENG_LOCK
  | .net => F.CLK_STATUS_NET_LOCK
  | .can => F.CLK_STATUS_CAN_LOCK

/-- What follows a change of a domain's lock: ports and controllers stop and go on with their clock (R517). -/
def State.domFollow (s : State) : ClkDom → State
  | .eng => s
  | .net => s.showLinks
  | .can => s.canSweep

/-- A relock starts (R520, R521): cause 1 SHED, 2 lock loss. ENG runs on its bypass meanwhile. -/
def State.relockStart (s : State) (d : ClkDom) (cause : Nat) : State :=
  let s := s.setF (domLock d) false
  let s := s.modPwr (fun p => { p with relock := setNth p.relock (domIx d) (some (s.now, cause)), failAt := setNth p.failAt (domIx d) none })
  (s.when (d == .eng) (fun t => t.setF F.CLK_STATUS_ENG_BYPASS true)).domFollow d

/-- PLL_LOCK_LOSS: a lock detector drops (R520, R521). -/
def pllLockLoss (d : ClkDom) (s : State) : State := s.onM fun s => if s.flag (domLock d) then s.relockStart d 2 else s

/-- CLOCK_RELOCK: a relock ends, locked or, 2 ms after its start, failed (R521). The head rate follows the ENG clock (R525). -/
def clockRelock (d : ClkDom) (locked : Bool) (s : State) : State :=
  s.onM fun s =>
    match nth s.pwr.relock (domIx d) none with
    | none => s
    | some (t, cause) =>
      let us := (s.now - t) / 160
      let w := [domIx d + 1, cause, us, b2n locked]
      if locked then
        let s := (s.setF (domLock d) true).when (d == .eng) (fun u => u.setF F.CLK_STATUS_ENG_BYPASS false)
        let s := s.modPwr (fun p => { p with
          relock := setNth p.relock (domIx d) none, rate25 := if d = ClkDom.eng then s.flag F.CLK_STATUS_ENG_HALF else p.rate25 })
        ((s.inc F.PWR_RELOCKS_N).domFollow d).stageSev 0 0x7007 sysRec w
      else if s.past t (msT 2) then
        let s := s.modPwr (fun p => { p with relock := setNth p.relock (domIx d) none, failAt := setNth p.failAt (domIx d) (some (s.now, cause)) })
        ((s.inc F.PWR_RELOCKS_N).inc F.PWR_RELOCKS_FAILED).stageSev 2 0x7007 sysRec w
      else s

/-- RELOCK_RETRY: 100 ms after a failed relock (R521). -/
def relockRetry (d : ClkDom) (s : State) : State :=
  s.onM fun s =>
    match nth s.pwr.failAt (domIx d) none with
    | some (t, cause) => if s.past t (msT 100) then s.relockStart d cause else s
    | none => s

/-- ENG_CLOCK_RESTORED: the ENG clock has been in tolerance for 10 ms (R391 cause 4). -/
def engClockRestored (s : State) : State :=
  s.onM fun s =>
    if s.flt.engLostAt.isSome && !s.flag F.FLT_CLK_ENG then
      State.engClear { (s.setF F.FLT_CLK_ENG true) with flt := { s.flt with engBackAt := some (s.now - msT 10) } }
    else s

/-! ## Thermal shedding (R523–R525) -/

/-- Is sensor k of the eight valid (R523)? In range, and within 10 K of the median of the seven others. -/
def sensorOk (xs : List Int) (k : Nat) : Bool :=
  let x := nth xs k 0
  decide (-800 ≤ x) && decide (x ≤ 2400) && decide ((x - median (xs.take k ++ xs.drop (k + 1))).natAbs ≤ 160)

/-- Entry and exit thresholds of levels 1–4, 1/16 °C (R524). -/
def shedIn (n : Nat) : Int := nth [0, 1760, 1888, 2000, 2160] n 0
def shedOut (n : Nat) : Int := nth [0, 1680, 1808, 1920, 2080] n 0

/-- Highest level whose threshold is reached (R524). -/
def shedReached (j : Int) : Nat := if shedIn 4 ≤ j then 4 else if shedIn 3 ≤ j then 3 else if shedIn 2 ≤ j then 2 else if shedIn 1 ≤ j then 1 else 0

/-- The SHED level changes (R524, R525): 0x7006, the ENG relock of S3, SAFE cause 7 of S4. -/
def State.shedChange (s : State) (new : Nat) : State :=
  let old := s.rd F.SHED_LEVEL
  let j := s.rdS F.TEMP_JUNCTION
  let s := ((s.wr F.SHED_LEVEL new).wr F.MOD_STATE_SHED new).modPwr (fun p => { p with
    shedAt := s.now, belowAt := if j ≤ shedOut new then some s.now else none })
  let s := s.when (decide (old < 2) && decide (2 ≤ new)) (fun t => t.inc F.SHED_S2_CNT)
  let s := s.stageSev (if new ≤ 1 then 0 else if new ≤ 3 then 2 else 3) 0x7006 sysRec [new, old, unsigned 32 j]
  let s := s.when (decide (old < 3) != decide (new < 3)) (fun t => (t.setF F.CLK_STATUS_ENG_HALF (decide (3 ≤ new))).relockStart .eng 1)
  if new = 4 then s.enterSafe 7 else if old = 4 then s.clearCause 7 else s

/-- TEMPERATURE_SAMPLE: the eight sensors and the board sensor, s16 in 1/16 °C (R523, R524). -/
def temperatureSample (x0 x1 x2 x3 x4 x5 x6 x7 board : BitVec 16) (s : State) : State :=
  s.onM fun s =>
    let xs := [x0.toInt, x1.toInt, x2.toInt, x3.toInt, x4.toInt, x5.toInt, x6.toInt, x7.toInt]
    let good := (List.range 8).filter (sensorOk xs)
    let fault := decide (good.length < 4)
    let top := good.foldl (fun m k => max m (nth xs k 0)) (-32768)
    let hist := if fault then s.pwr.temps else (top :: s.pwr.temps).take 16
    let j := if fault then 2000 else roundDiv (hist.foldl (· + ·) 0) hist.length
    let s := s.modPwr (fun p => { p with temps := hist })
    let s := ((s.wrS F.TEMP_JUNCTION j).wrS F.TEMP_BOARD board.toInt).when (decide (s.rdS F.TEMP_MAX_T < j)) (fun t => t.wrS F.TEMP_MAX_T j)
    let s := (s.wr F.SHED_SENSORS good.length).setF F.SHED_SENSOR_FAULT fault
    let lvl := s.rd F.SHED_LEVEL
    let s := s.modPwr (fun p => { p with
      belowAt := if j ≤ shedOut lvl then (match p.belowAt with | some t => some t | none => some s.now) else none })
    let reached := shedReached j
    if lvl < reached then s.shedChange reached else s

/-- SHED_LEVEL_EXIT: 10 s in the level and 10 s at or below its exit threshold; one level down (R524). -/
def shedLevelExit (s : State) : State :=
  s.onM fun s =>
    let lvl := s.rd F.SHED_LEVEL
    match s.pwr.belowAt with
    | some t => if 1 ≤ lvl ∧ s.past t (msT 10000) = true ∧ s.past s.pwr.shedAt (msT 10000) = true then s.shedChange (lvl - 1) else s
    | none => s

/-! ## Buttons (R544) -/

/-- BOTH_BUTTONS_HELD: COMMIT and REMOVE have been held together for 50 ms: neither counts as a press (R544). -/
def bothButtonsHeld (s : State) : State :=
  s.onM fun s => ((s.modPwr (fun p => { p with bothC := true, bothR := true })).setF F.PANEL_COMMIT true).setF F.PANEL_REMOVE true

/-! ## The commands of this file -/

/-- The meaning of STRUCTURAL_ACTIVATION (R509). -/
def execStructuralActivation (s : State) : Host.Outcome State Fault Refusal := .next (s.done (structuralActivation s))

/-- The meaning of PARTNER_RESTART_IN (R417). -/
def execPartnerRestartIn (ms : Nat) (s : State) : Host.Outcome State Fault Refusal := .next (s.done (partnerRestartIn ms s))

/-- The meaning of POWER_GOOD (R506). -/
def execPowerGood (s : State) : Host.Outcome State Fault Refusal := .next (s.done (powerGood s))

/-- The meaning of BOOT_COMPLETE (R506). -/
def execBootComplete (fails : List (BootFail × Bool)) (s : State) : Host.Outcome State Fault Refusal := .next (s.done (bootComplete fails s))

/-- The meaning of CONFIG_EXIT (R507). -/
def execConfigExit (s : State) : Host.Outcome State Fault Refusal := .next (s.done (configExit s))

/-- The meaning of PROVE_COMPLETE (R507). -/
def execProveComplete (s : State) : Host.Outcome State Fault Refusal := .next (s.done (proveComplete s))

/-- The meaning of MAIN_SUPPLY_LOSS (R511). -/
def execMainSupplyLoss (vmain : BitVec 16) (s : State) : Host.Outcome State Fault Refusal := .next (s.done (mainSupplyLoss vmain s))

/-- The meaning of RIDE_THROUGH_END (R511). -/
def execRideThroughEnd (vmain us low : BitVec 16) (s : State) : Host.Outcome State Fault Refusal := .next (s.done (rideThroughEnd vmain us low s))

/-- The meaning of SUPPLY_EXCURSION (R510). -/
def execSupplyExcursion (vmain extreme : BitVec 16) (ms : BitVec 16) (s : State) : Host.Outcome State Fault Refusal := .next (s.done (supplyExcursion vmain extreme ms s))

/-- The meaning of SUPPLY_NORMAL_RESTORED (R510). -/
def execSupplyNormalRestored (vmain ms : BitVec 16) (s : State) : Host.Outcome State Fault Refusal := .next (s.done (supplyNormalRestored vmain ms s))

/-- The meaning of HOLDUP_MEASUREMENT (R512). -/
def execHoldupMeasurement (ms volts : BitVec 16) (s : State) : Host.Outcome State Fault Refusal := .next (s.done (holdupMeasurement ms volts s))

/-- The meaning of KEEP_REQ (R514). -/
def execKeepReq (s : State) : Host.Outcome State Fault Refusal := .next (s.done (keepReq s))

/-- The meaning of AUTO_KEEP (R514). -/
def execAutoKeep (s : State) : Host.Outcome State Fault Refusal := .next (s.done (autoKeep s))

/-- The meaning of WAKE (R516). -/
def execWake (i : WakeIn) (active : Bool) (s : State) : Host.Outcome State Fault Refusal := .next (s.done (wake i active s))

/-- The meaning of VKEEP_LOSS (R516). -/
def execVkeepLoss (s : State) : Host.Outcome State Fault Refusal := .next (s.done (vkeepLoss s))

/-- The meaning of TEMPERATURE_SAMPLE (R523). -/
def execTemperatureSample (x0 x1 x2 x3 x4 x5 x6 x7 board : BitVec 16) (s : State) : Host.Outcome State Fault Refusal := .next (s.done (temperatureSample x0 x1 x2 x3 x4 x5 x6 x7 board s))

/-- The meaning of SHED_LEVEL_EXIT (R524). -/
def execShedLevelExit (s : State) : Host.Outcome State Fault Refusal := .next (s.done (shedLevelExit s))

/-- The meaning of PLL_LOCK_LOSS (R521). -/
def execPllLockLoss (d : ClkDom) (s : State) : Host.Outcome State Fault Refusal := .next (s.done (pllLockLoss d s))

/-- The meaning of CLOCK_RELOCK (R521). -/
def execClockRelock (d : ClkDom) (locked : Bool) (s : State) : Host.Outcome State Fault Refusal := .next (s.done (clockRelock d locked s))

/-- The meaning of RELOCK_RETRY (R521). -/
def execRelockRetry (d : ClkDom) (s : State) : Host.Outcome State Fault Refusal := .next (s.done (relockRetry d s))

/-- The meaning of BOTH_BUTTONS_HELD (R544). -/
def execBothButtonsHeld (s : State) : Host.Outcome State Fault Refusal := .next (s.done (bothButtonsHeld s))

/-- The meaning of ENG_CLOCK_RESTORED (R391). -/
def execEngClockRestored (s : State) : Host.Outcome State Fault Refusal := .next (s.done (engClockRestored s))

/-- The meaning of KEEP_CRYSTAL_STOPPED (R517). -/
def execKeepCrystalStopped (s : State) : Host.Outcome State Fault Refusal := .next (s.done (keepCrystalStopped s))

/-- The meaning of MAIN_RAIL_OFF (R511). -/
def execMainRailOff (s : State) : Host.Outcome State Fault Refusal := .next (s.done (mainRailOff s))

/-- The meaning of KEEP_ENTRY_TIMEOUT (R514). -/
def execKeepEntryTimeout (s : State) : Host.Outcome State Fault Refusal := .next (s.done (keepEntryTimeout s))

/-- The meaning of WAKE_HOLD_ELAPSED (R516). -/
def execWakeHoldElapsed (s : State) : Host.Outcome State Fault Refusal := .next (s.done (wakeHoldElapsed s))

end Sys2Proof.Machine
end

