-- ==== Sys2Proof/Machine/Rap.lean ====
section
/-!
DEFINITION. Machine/Rap.lean: host access (R498–R504, R486): sessions, the items of a telegram, posted writes and their application by access
code (R17, R502), reads of registers and windows (R531–R535), and the front panel (R538, R539).
-/
namespace Sys2Proof.Machine

/-- Session i. -/
def State.sess (s : State) (i : Nat) : Sess := s.rap.sess[i]?.getD {}

/-- Change session i. -/
def State.modSess (s : State) (i : Nat) (f : Sess → Sess) : State :=
  { s with rap := { s.rap with sess := s.rap.sess.setIfInBounds i (f (s.rap.sess[i]?.getD {})) } }

/-- The session's port is a consist port (R504). -/
def Sess.consist (x : Sess) : Bool := x.port != .service

/-! ## The front panel (R354, R438, R538, R539) -/

/-- What the display shows: its source, and the code. An armed confirmation goes before a pending image, and that before the pending model of
the lowest doorway; BOOT shows the status (R18, R538). -/
def State.dispSrc (s : State) : Nat × Nat :=
  match s.img.arm with
  | some a => (1, a.code)
  | none =>
    if s.modState == 0 then (0, 0)
    else if s.img.load == .pendingImg then (2, imgCode (s.slot s.loadSlot))
    else match s.declaredList.find? (fun d => s.flag (F.TOPI_STATUS_PENDING d)) with
      | some d => (3, s.rd (F.PENDING_DIGEST d))
      | none => (0, 0)

/-- Upper-case hexadecimal digit, ASCII. -/
def hexDigit (n : Nat) : Nat := if n < 10 then 0x30 + n else 0x37 + n

/-- Characters 0–3 for a module state and 4–7 for a role, character 0 in the low byte. -/
def stateText (m : Nat) : Nat := nth [0x544F4F42, 0x464E4F43, 0x564F5250, 0x204E5552, 0x45464153] m 0
def roleText (r : Nat) : Nat := nth [0x4F4C4F53, 0x434E5953, 0x59425453, 0x56544341] r 0

/-- DISP_LO and DISP_HI. -/
def State.dispWord (s : State) (hi : Bool) : Nat :=
  let (src, code) := s.dispSrc
  if src = 0 then (if hi then roleText (s.rd F.RP_STATUS_ROLE) else stateText s.modState)
  else
    let base := if hi then 0 else 16
    leNat ((List.range 4).map (fun k => BitVec.ofNat 8 (hexDigit (code / 2 ^ (base + 12 - 4 * k) % 16))))

/-- PANEL. -/
def State.panelWord (s : State) : Nat :=
  let m := s.modState
  let role := s.rd F.RP_STATUS_ROLE
  let run := nth [0, 2, 2, 1, 3] m 0
  let roleLed := if m = 0 ∨ m = 1 then 0 else if role = 2 then 2 else if role = 1 then 3 else 1
  let swap := if !s.hasAuth then 1 else if s.flag F.RP_STATUS_HANDOVER then 2 else 0
  let src := s.dispSrc.1
  run + 4 * (if m = 4 then 1 else 0) + 16 * roleLed + 64 * swap + 256 * src + 2048 * (if src = 0 then 0 else 1) +
    (s.reg F.PANEL.addr).toNat / 65536 % 4 * 65536

/-! ## What an address is (R532, R533) -/

/-- Is a register absent on this ordering code (R533)? -/
def State.absentReg (s : State) (addr : Nat) : Bool :=
  if 0x10000 ≤ addr ∧ addr < 0x28000 then
    let o := (addr - 0x10000) % 0x1000
    decide (s.nDwy ≤ (addr - 0x10000) / 0x1000) || (!s.hasPd && (o == 0x808 || o == 0x80C || o == 0x814 || o == 0x818))
  else if 0x1040 ≤ addr ∧ addr < 0x10A0 then decide (s.nDwy ≤ (addr - 0x1040) / 4)
  else if 0x3100 ≤ addr ∧ addr < 0x3160 then decide (s.nDwy ≤ (addr - 0x3100) / 4)
  else if 0xB000 ≤ addr ∧ addr < 0xC000 then decide (s.nPair ≤ (addr - 0xB000) / 0x80)
  else false

/-- Status of one word of a range: 0 present, 3 ABSENT, 9 UNDEFINED (R532, R533). -/
def State.addrClass (s : State) (addr : Nat) : Nat :=
  if 0x1000000 ≤ addr then 9
  else if 0x100000 ≤ addr then
    if addr < 0x200000 then 0 else if addr < 0xB00000 then (if (addr - 0x200000) / 0x60000 < s.nDwy then 0 else 3) else 9
  else if (regDef addr).isNone then 9
  else if s.absentReg addr then 3 else 0

/-! ## Windows (R95, R462–R464) -/

/-- Word of the Topiary model window of doorway d (R95). DESIGN CHOICE (log entry 175): gaps read 0, and a pending model has offsets of 0. -/
def State.topiWord (s : State) (d : DIx) (o : Nat) : Nat :=
  let t := s.topi d
  let pend := s.flag (F.TOPI_CTL_WIN_PENDING d)
  let m := if pend then t.pending else t.model
  let offs := padTo 16384 (if pend then [] else offBytes t.offs)
  if m.isEmpty then 0xFFFFFFFF
  else if o < 0x4EA00 then fieldAt m o 4
  else if 0x50000 ≤ o ∧ o < 0x54000 then fieldAt offs (o - 0x50000) 4
  else if o = 0x54000 then crc32c offs
  else 0

/-- Entry size of the snapshot window, 32 bytes in export (R462, R463). -/
def Sess.entrySize (x : Sess) : Nat := if x.export_ then 32 else 64

/-- The 64 bytes of snapshot entry j: as held for the session, else as they stand now (R462). -/
def State.snapBytes (s : State) (x : Sess) (j : Nat) : List Byte :=
  match x.held.find? (fun h => h.1 == j) with
  | some h => h.2
  | none => s.snapEntry x.snapFirst x.list j

/-- The bytes of forensic entry j, as held or as they stand (R464). -/
def State.forBytes (s : State) (x : Sess) (j : Nat) : List Byte :=
  match x.forHeld.find? (fun h => h.1 == j) with
  | some h => h.2
  | none => s.forEntry (x.forBase + j)

/-- Word of the snapshot window; beyond the list it reads 0. -/
def State.snapWord (s : State) (x : Sess) (o : Nat) : Nat :=
  let j := o / x.entrySize
  if x.list.length ≤ j then 0
  else
    let b := s.snapBytes x j
    fieldAt (if x.export_ then exportEntry b else b) (o % x.entrySize) 4

/-! ## Values (R17, R19, R383, R475, R492) -/

/-- MAP_DATA of instance f (R383, R384). -/
def State.mapData (s : State) (f : Nat) : Nat :=
  match s.img.insts.find? (fun i => i.f == f) with
  | none => 0
  | some i =>
    let ps := poolsOf i
    let bind := fun p => s.plc.binds.find? (fun b => b.f == f && b.pool == p)
    let idx := fun p => match bind p with | some b => b.idx % 64 | none => 0x3F
    let any := fun (g : Bind → Bool) => s.plc.binds.any (fun b => b.f == f && g b)
    let hw := ps.any (fun p => p.1 == 0)
    let a := nth ps 0 (0, none)
    let b := nth ps 1 (0, none)
    let ia := if hw then i.unit % 64 else idx a.1
    let ib := if hw then i.unit / 64 else if b.1 = 0 then 0x3F else idx b.1
    a.1 + ia * 2 ^ 4 + b.1 * 2 ^ 10 + ib * 2 ^ 14 + b2n (any (·.pinned)) * 2 ^ 20 + b2n (any (·.unmet)) * 2 ^ 21 +
      b2n (!hw && any (fun x => x.idx == noRes)) * 2 ^ 22 + b2n (ps.any (fun p => p.2.isSome)) * 2 ^ 23 + i.ty * 2 ^ 24

/-- What a write of HIST_SEL fixes for histogram h of doorway d (R475): TOTAL, the extremes, the checkpoint fields and the 32 bins. -/
def State.histWords (s : State) (d h : Nat) : List Nat :=
  let x := s.histOf d
  let ext := fun k => match Al.get (fun _ => none) x.ext k with
    | some e => [unsigned 32 e.1, e.2 % 2 ^ 32, e.2 / 2 ^ 32]
    | none => [0, 0, 0]
  let ck := match s.newestImg d with | some i => i.lastSeq | none => 0
  [Al.get (fun _ => 0) x.tot h] ++ ext (2 * h) ++ ext (2 * h + 1) ++
    [min 1023 (Al.get (fun _ => 0) s.recd.ckSince d), ck % 2 ^ 32, ck / 2 ^ 32] ++ (List.range 32).map (fun n => Al.get (fun _ => 0) x.bins (32 * h + n))

/-- Registers of the histogram group that a session reads. -/
def Sess.histWord (x : Sess) (d o : Nat) : Nat :=
  let fix := match x.histFix.find? (fun p => p.1 == d) with | some p => p.2 | none => []
  if o = 0xC00 then Al.get (fun _ => 0) x.histSel d
  else if o < 0xC40 then nth fix ((o - 0xC04) / 4) 0
  else nth fix (10 + (o - 0xC40) / 4) 0

/-- VERDICT as it reads now (R107–R110). -/
def State.verdictWord (s : State) (d : DIx) : Nat :=
  let v := (s.reg (F.VERDICT d).addr).toNat
  if (s.topi d).held then
    let (w, c) := s.verdictNow d
    w + v / 2 ^ 8 % 2 ^ 8 * 2 ^ 8 + c * 2 ^ 16 + v / 2 ^ 24 * 2 ^ 24
  else v

/-- FRAME_AGE (R89): 0.1 ms units. -/
def State.frameAge (s : State) (d : DIx) : Nat := match (s.head d).lastT with | some t => min 0xFFFF ((s.tb - t) / 16000) | none => 0xFFFF

/-- A register of the window of a declared doorway. -/
def State.doorWord (s : State) (x : Sess) (d : DIx) (o addr : Nat) : Nat :=
  if o = 0x134 then s.frameAge d
  else if o = 0x200 then s.verdictWord d
  else if o = 0x250 then s.seamSum d
  else if o = 0x258 then s.occAge d
  else if 0xC00 ≤ o then x.histWord d.val o
  else (s.reg addr).toNat

/-- Words of a CAN queue or slot that a session reads: slots from the session latch where this item has taken it (R492). -/
def State.canWord (s : State) (x : Sess) (c o addr : Nat) : Nat :=
  let h := s.can[c]?.getD {}
  let entry := fun (e : Option CanEnt) k => match e with | some e => nth e.words k 0 | none => 0
  if 0x200 ≤ o ∧ o < 0x24C then entry h.q0.head? ((o - 0x200) / 4)
  else if 0x280 ≤ o ∧ o < 0x2CC then entry h.q1.head? ((o - 0x280) / 4)
  else if 0x300 ≤ o ∧ o < 0x580 then
    let n := (o - 0x300) / 0x50
    let k := (o - 0x300) % 0x50 / 4
    match x.slots.find? (fun p => p.1 == 8 * c + n) with
    | some p => nth p.2 k 0
    | none => entry (nth h.slots n none) k
  else (s.reg addr).toNat

/-- A register outside the doorway windows. -/
def State.globalWord (s : State) (x : Sess) (addr : Nat) : Nat :=
  let reg := (s.reg addr).toNat
  if addr = 0 then s.idWord
  else if addr = 8 then s.chip.fw.toNat
  else if addr = 0xC then s.chip.serial.toNat
  else if addr = 0x10 then s.panelWord
  else if addr = 0x14 then s.dispWord false
  else if addr = 0x18 then s.dispWord true
  else if addr = 0x1010 then x.mapSel
  else if addr = 0x1014 then s.mapData x.mapSel
  else if addr = 0x2038 then
    match s.img.arm with
    | some a => reg % 65536 + min 600 ((a.until_ - s.now) / 16000000) * 65536
    | none => 0
  else if addr = 0x203C then s.freeSectors 0xFF + reg / 4096 % 2 * 4096
  else if addr = 0x5024 then match s.recd.scrubAt with | some t => min 0xFFFF ((s.now - t) / (160000 * 3600000)) | none => 0xFFFF
  else if addr = 0x5040 then x.snapLo
  else if addr = 0x5044 then x.snapHi
  else if addr = 0x5048 then x.snapCount
  else if addr = 0x504C then b2n x.resolving + 2 * b2n x.export_ + 65536 * b2n x.snapRefused
  else if addr = 0x5050 then if x.snapDone then 1 + 65536 * foundCount x.list else 0
  else if addr = 0x5054 then x.forBase
  else if addr = 0x5058 then x.forStatus
  else if 0x7108 ≤ addr ∧ addr < 0x7200 ∧ addr % 0x10 = 8 then
    let n := (addr - 0x7108) / 0x10
    reg % 65536 + (if s.sdtOn n && (s.sdt n).ssc.isSome then min 0xFFFF ((s.now - (s.sdt n).at_) / 160000) else 0) * 65536
  else if 0x7208 ≤ addr ∧ addr < 0x7700 ∧ addr % 0x10 = 8 then
    let r := (addr - 0x7208) / 0x10
    let y := s.pdRow r
    let valid := if 64 ≤ r then s.rd (F.PD_COMID r) != 0 && s.hasAuth else reg % 2 == 1
    b2n valid + 2 * b2n y.seen + (if y.seen then min 0xFFFF ((s.now - y.at_) / 160000) else 0) * 65536
  else if 0x7800 ≤ addr ∧ addr < 0x8000 then fieldAt (s.pdRow ((addr - 0x7800) / 0x20)).data ((addr - 0x7800) % 0x20) 4
  else if 0x8000 ≤ addr ∧ addr < 0x9000 then s.canWord x ((addr - 0x8000) / 0x800) ((addr - 0x8000) % 0x800) addr
  else if addr = 0xC000 then s.tb % 2 ^ 32
  else if addr = 0xC004 then s.tb / 2 ^ 32 % 2 ^ 32
  else reg

/-- The value of a word for session i, before the high-word latch. -/
def State.wordNow (s : State) (i addr : Nat) : Nat :=
  let x := s.sess i
  if s.addrClass addr ≠ 0 then 0
  else if 0x200000 ≤ addr then
    let d := (addr - 0x200000) / 0x60000
    if h : d < 24 then s.topiWord ⟨d, h⟩ ((addr - 0x200000) % 0x60000) else 0
  else if 0x180000 ≤ addr then fieldAt (s.forBytes x ((addr - 0x180000) / 64)) (addr % 64) 4
  else if 0x100000 ≤ addr then s.snapWord x (addr - 0x100000)
  else if 0x10000 ≤ addr ∧ addr < 0x28000 then
    let d := (addr - 0x10000) / 0x1000
    if h : d < 24 then
      if s.declared ⟨d, h⟩ then s.doorWord x ⟨d, h⟩ ((addr - 0x10000) % 0x1000) addr else (resetWord addr).toNat
    else 0
  else s.globalWord x addr

/-- Is an address the low word of a 64-bit counter (R19)? -/
def lowWord (addr : Nat) : Bool :=
  let o := (addr - 0x10000) % 0x1000
  addr == 0xC000 || addr == 0x500C || (decide (0xB000 ≤ addr) && decide (addr < 0xC000) && (addr - 0xB000) % 0x80 == 0x10) ||
  (decide (0x10000 ≤ addr) && decide (addr < 0x28000) && (o == 0x1C || o == 0xC0C || o == 0xC18 || o == 0xC24))

/-- What a word reads for session i: a high word from its latch, if the session has read the low word (R19). -/
def State.readWord (s : State) (i addr : Nat) : Nat :=
  if 4 ≤ addr ∧ lowWord (addr - 4) = true then
    match (s.sess i).hi.find? (fun p => p.1 == addr) with | some p => p.2 | none => s.wordNow i addr
  else s.wordNow i addr

/-! ## What a read does (R17, R19, R462, R464, R492, R534, R535) -/

/-- Replace or add the entry of a key. -/
def putKey {α : Type} (l : List (Nat × α)) (k : Nat) (v : α) : List (Nat × α) := (k, v) :: l.filter (fun p => p.1 != k)

/-- A read that fixes what it reads: an entry of the snapshot window at its word 0 or where none is held, a forensic entry with FOR_STATUS,
a CAN slot at its FHDR. -/
def State.preRead (s : State) (i addr : Nat) (differ : Bool) : State :=
  let x := s.sess i
  if 0x180000 ≤ addr ∧ addr < 0x200000 then
    let j := (addr - 0x180000) / 64
    if addr % 64 = 0 ∨ !x.forHeld.any (fun h => h.1 == j) then
      let n := x.forBase + j
      let b := s.forEntry n
      let st := s.forStatus n differ
      s.modSess i (fun y => { y with forHeld := putKey y.forHeld j b, forStatus := st })
    else s
  else if 0x100000 ≤ addr ∧ addr < 0x180000 then
    let j := (addr - 0x100000) / x.entrySize
    if j < x.list.length ∧ ((addr - 0x100000) % x.entrySize = 0 ∨ !x.held.any (fun h => h.1 == j)) then
      let b := s.snapEntry x.snapFirst x.list j
      s.modSess i (fun y => { y with held := putKey y.held j b })
    else s
  else if 0x8000 ≤ addr ∧ addr < 0x9000 ∧ 0x300 ≤ (addr - 0x8000) % 0x800 ∧ (addr - 0x8000) % 0x800 < 0x580 ∧ ((addr - 0x8000) % 0x800 - 0x300) % 0x50 = 0 then
    let c := (addr - 0x8000) / 0x800
    let n := ((addr - 0x8000) % 0x800 - 0x300) / 0x50
    let ws := match nth (s.can[c]?.getD {}).slots n none with | some e => e.words | none => List.replicate 19 0
    let h : CanH := s.can[c]?.getD {}
    let seen := (nth h.slots n none).map (fun (e : CanEnt) => { e with new_ := false })
    let h' : CanH := { h with slots := setNth h.slots n seen }
    let s := { s with can := s.can.setIfInBounds c h' }
    s.modSess i (fun y => { y with slots := putKey y.slots (8 * c + n) ws })
  else s

/-- What follows the read of a word: RC fields clear (SUPPLY_EVT to its reset value, R528), a low word latches its high word. -/
def State.postRead (s : State) (i addr : Nat) : State :=
  let s := if lowWord addr then
      let v := s.wordNow i (addr + 4)
      s.modSess i (fun y => { y with hi := putKey y.hi (addr + 4) v })
    else s
  let live := if 0x10000 ≤ addr ∧ addr < 0x28000 then
      (let d := (addr - 0x10000) / 0x1000
       if h : d < 24 then s.declared ⟨d, h⟩ else false)
    else true
  if !live then s
  else if addr = F.SUPPLY_EVT.addr then s.setReg addr (resetWord addr)
  else match regDef addr with
    | some r => if r.rc = 0 then s else s.setReg addr (BitVec.ofNat 32 (Nat.land (s.reg addr).toNat (Nat.xor 0xFFFFFFFF r.rc)))
    | none => s

/-- Read n words from an address in ascending order (R535). A range with absent or undefined words clears and latches nothing (R534). -/
def State.readRange (s : State) (i addr n : Nat) (differ : Bool) : List Nat × State :=
  let as := (List.range n).map (fun k => addr + 4 * k)
  let clean := as.all (fun a => s.addrClass a == 0)
  let s := s.modSess i (fun y => { y with slots := [] })
  as.foldl (fun (p : List Nat × State) a =>
    if clean then
      let t := p.2.preRead i a differ
      (p.1 ++ [t.readWord i a], t.postRead i a)
    else (p.1 ++ [p.2.readWord i a], p.2)) ([], s)

/-! ## Writing (R17, R502, R504) -/

/-- Is an address a per-session register (R501)? -/
def sessionReg (addr : Nat) : Bool :=
  addr == 0x1010 || (decide (0x5040 ≤ addr) && decide (addr < 0x5050)) || addr == 0x5054 ||
  (decide (0x10000 ≤ addr) && decide (addr < 0x28000) && (addr - 0x10000) % 0x1000 == 0xC00)

/-- The RWL bits of a register. -/
def rwlMask (addr : Nat) : Nat := match regDef addr with | some r => r.rwl | none => 0

/-- Would a write change an RWL field (R17)? -/
def State.rwlChange (s : State) (addr w : Nat) : Bool := Nat.land (Nat.xor (s.reg addr).toNat w) (rwlMask addr) != 0

/-- The snapshot request of a session starts (R461). -/
def State.startResolve (s : State) (i : Nat) : State := s.modSess i (fun y => { y with resolving := true, snapDone := false })

/-- EXPORT is written (R463): 1 is refused at effective behaviour level 0. -/
def State.setExport (s : State) (i : Nat) (on : Bool) : State :=
  if on && s.img.level == 0 then s.modSess i (fun y => { y with snapRefused := true }) else s.modSess i (fun y => { y with export_ := on })

/-- A write of a per-session register. -/
def State.writeSession (s : State) (i addr w : Nat) : State :=
  if addr = 0x1010 then s.modSess i (fun y => { y with mapSel := w % 512 })
  else if addr = 0x5040 then s.modSess i (fun y => { y with snapLo := w })
  else if addr = 0x5044 then s.modSess i (fun y => { y with snapHi := w % 65536 })
  else if addr = 0x5048 then s.modSess i (fun y => { y with snapCount := w % 16384 })
  else if addr = 0x504C then
    let s := if bitOf w 16 then s.modSess i (fun y => { y with snapRefused := false }) else s
    let s := s.setExport i (bitOf w 1)
    if bitOf w 0 then s.startResolve i else s
  else if addr = 0x5054 then s.modSess i (fun y => { y with forBase := w % 2 ^ 22, forHeld := [] })
  else
    let d := (addr - 0x10000) / 0x1000
    let ws := s.histWords d (w % 16)
    s.modSess i (fun y => { y with histSel := Al.set (fun _ => 0) y.histSel d (w % 16), histFix := putKey y.histFix d ws })

/-- Requests of a doorway register that a written 1 makes (R17, W1S). -/
def State.doorRequest (s : State) (consist : Bool) (d : DIx) (o w : Nat) : State :=
  let b := fun k (f : State → State) (t : State) => if bitOf w k then f t else t
  let s := if o = 0x008 then b 2 (proofReq d consist) (b 1 (closeReq d) (b 0 (Machine.openReq d) s))
    else if o = 0x100 then b 0 (headRetrainReq d) s
    else if o = 0x214 then b 2 (discardPending d) (b 1 (learnAbort d) (b 0 (learnStart d) s))
    else if o = 0x484 then b 0 (driveRetrainReq d) s
    else if o = 0x818 then b 0 (lcTest d) s
    else s
  let s := allA.foldl (fun t a =>
    if o = 0x304 + 0x80 * a.val then b 1 (stop d a) (b 0 (move d a) t) else if o = 0x504 + 0x40 * a.val then b 0 (snap d a) t else t) s
  allK.foldl (fun t k => if o = 0xB04 + 0x10 * k.val then b 1 (clear d k) (t.evalCh d k) else t) s

/-- Requests of a CAN register: every REQ bit is set before the controller chooses (R493). -/
def State.canRequest (s : State) (c : CIx) (o w : Nat) : State :=
  let b := fun k (f : State → State) (t : State) => if bitOf w k then f t else t
  if o = 0x010 then State.canSweep (b 0 (recover c) s)
  else if o = 0x250 then b 0 (pop c 0) s
  else if o = 0x2D0 then b 0 (pop c 1) s
  else if o = 0x6F0 then
    let own := fun k => k == 0 && s.panelProfile c
    let s := (List.range 3).foldl (fun t k => if bitOf w k && !own k then t.setBit (F.TX_CTL_REQ c) k true else t) s
    let s := (s.txStart c)
    b 6 (abort c 2) (b 5 (abort c 1) (b 4 (abort c 0) s))
  else if o < 0x010 then s.canSweep
  else s

/-- Requests of any other register. -/
def State.globalRequest (s : State) (consist : Bool) (addr w : Nat) : State :=
  let b := fun k (f : State → State) (t : State) => if bitOf w k then f t else t
  if addr = 0x1808 then b 0 coppiceRejoin s
  else if addr = 0x2004 then b 1 discard (b 0 (imageVerify .agree) s)
  else if addr = 0x4004 then b 3 partnerRestart (b 2 resync (b 1 cancel (b 0 (handoverReq false 0) s)))
  else if addr = 0x5008 then b 2 (scrub true) (b 1 (refresh true) (b 0 (checkpoint 0) s))
  else if addr = 0x6030 then b 0 (proofAll consist) s
  else if addr = 0xA004 then b 0 keepReq s
  else s

/-- The axis whose ENC_CFG, ENC_SCALE, INDEX_CFG or REF_CFG lies at an address (R225). -/
def encAxis (addr : Nat) : Option (DIx × AIx) :=
  let o := (addr - 0x10000) % 0x1000
  if 0x10000 ≤ addr ∧ addr < 0x28000 ∧ 0x500 ≤ o ∧ o < 0x5C0 ∧ 0x30 ≤ (o - 0x500) % 0x40 then
    some (Fin.ofNat 24 ((addr - 0x10000) / 0x1000), Fin.ofNat 3 ((o - 0x500) / 0x40))
  else none

/-- A new value of a register. An encoder setting takes effect when the axis is next at rest, and a new ENC_SCALE or REF_POS clears REFERENCED (R225). -/
def State.putReg (s : State) (addr new : Nat) : State :=
  let v := BitVec.ofNat 32 new
  match encAxis addr with
  | none => s.setReg addr v
  | some (d, a) =>
    if s.flag (F.AX_STATUS_AT_REST d a) then
      let t := s.setReg addr v
      t.when (t.rd (F.ENC_SCALE d a) != s.rd (F.ENC_SCALE d a) || t.rd (F.REF_CFG_REF_POS d a) != s.rd (F.REF_CFG_REF_POS d a))
        (fun u => u.setF (F.AX_STATUS_REFERENCED d a) false)
    else { s with imgPend := (addr, v) :: s.imgPend.filter (fun p => p.1 != addr) }

/-- Fields that a write sets: RW, RWL in CONFIG, and RW1C bits written with 1 clear (R17). -/
def State.setFields (s : State) (addr w : Nat) : State :=
  match regDef addr with
  | none => s
  | some r =>
    let take := Nat.lor r.rw (if s.modState = 1 then r.rwl else 0)
    let w := pdWindow s.hasPd addr w
    let gone := Nat.land r.w1c w
    let old := (s.reg addr).toNat
    let new := Nat.lor (Nat.land (Nat.land old (Nat.xor 0xFFFFFFFF take)) (Nat.xor 0xFFFFFFFF gone)) (Nat.land w take)
    if new = old then s else s.putReg addr new

/-- A word of a transmit buffer, word k of buffer b (R493, R496, R497): blocked while the buffer is requested; FTICK is ignored. -/
def State.writeTxb (s : State) (c : CIx) (b k w : Nat) : State :=
  if b = 0 ∧ s.panelProfile c = true then s
  else if s.txReq c b then s.setF (F.TX_CTL_WR_BLOCKED c) true
  else if k = 2 then s
  else s.wr (F.TXB c b k) (Nat.land w (if k = 0 then 0x7FFFFFFF else if k = 1 then 0x0F7F007F else 0xFFFFFFFF))

/-- One register of an entry is written for session i (R17, R502). -/
def State.writeWord (s : State) (i addr w : Nat) : State :=
  let consist := (s.sess i).consist
  if s.addrClass addr ≠ 0 ∨ 0x100000 ≤ addr then s
  else if sessionReg addr then s.writeSession i addr w
  else if 0x10000 ≤ addr ∧ addr < 0x28000 then
    let d := (addr - 0x10000) / 0x1000
    if h : d < 24 then
      if s.declared ⟨d, h⟩ then (s.setFields addr w).doorRequest consist ⟨d, h⟩ ((addr - 0x10000) % 0x1000) w else s
    else s
  else if 0x8000 ≤ addr ∧ addr < 0x9000 then
    let c : CIx := Fin.ofNat 2 ((addr - 0x8000) / 0x800)
    let o := (addr - 0x8000) % 0x800
    if 0x600 ≤ o ∧ o < 0x6F0 then s.writeTxb c ((o - 0x600) / 0x50) ((o - 0x600) % 0x50 / 4) w
    else if 0x100 ≤ o ∧ o < 0x120 ∧ s.panelProfile c = true then s
    else (s.setFields addr w).canRequest c o w
  else if 0xB000 ≤ addr ∧ addr < 0xC000 then
    let p : PIx := Fin.ofNat 32 ((addr - 0xB000) / 0x80)
    let s := s.setFields addr w
    if (addr - 0xB000) % 0x80 = 4 then (if bitOf w 0 then pairSelftest p s else s).showSigs p else s
  else (s.setFields addr w).globalRequest consist addr w

/-- Why a write item would be refused at queueing (R502, R504), 0 when it is not: the lowest applicable code. -/
def State.writeStatus (s : State) (x : Sess) (addr : Nat) (ws : List Nat) : Nat :=
  let as := (List.range ws.length).map (fun k => addr + 4 * k)
  let codes : List (Bool × Nat) := [
    (addr % 4 != 0, 2),
    (as.any (fun a => s.addrClass a == 3), 3),
    (s.modState != 1 && (as.zip ws).any (fun p => s.rwlChange p.1 p.2), 4),
    (!s.hasAuth && !(s.recovers && as.all (· == F.CFG_CTL.addr)) && !as.all (fun a => sessionReg a || (decide (0x4000 ≤ a) && decide (a < 0x4024))), 5),
    (x.consist && !s.flag F.NET_CFG_CONSIST_WR && !as.all sessionReg, 8),
    (as.any (fun a => s.addrClass a == 9), 9)]
  match codes.find? (·.1) with | some c => c.2 | none => 0

/-- An entry of session i is applied whole (R502). An entry whose RWL fields are dropped counts in RAP_ERR and in DEFERRED. -/
def State.applyEntry (s : State) (i : Nat) (e : WEntry) : State :=
  match e.load with
  | some b => s.loadBytes e.addr b
  | none =>
    let ps := (List.range e.words.length).zip e.words
    let drop := if s.modState = 1 then none else ps.find? (fun p => s.rwlChange (e.addr + 4 * p.1) p.2)
    let s := ps.foldl (fun t p => t.writeWord i (e.addr + 4 * p.1) p.2) s
    match drop with
    | none => s
    | some p =>
      (s.inc F.RAP_ERR_DROPPED).modSess i (fun y => { y with
        dropped := min 255 (y.dropped + 1), dropAddr := if y.dropped = 0 then e.addr + 4 * p.1 else y.dropAddr })

/-! ## Sessions (R501) -/

/-- Show RAP_SESS. -/
def State.showSess (s : State) : State := s.wr F.RAP_SESS_OPEN (s.rap.sess.toList.countP (·.open_))

/-- 0x0E02 RAP_SESSION. -/
def State.sessRecord (s : State) (kind i : Nat) : State :=
  let x := s.sess i
  s.stage 0x0E02 sysRec [kind, i + 1, portCode x.port, x.ip]

/-- A session that can be opened: one whose queue and telegrams are all done. -/
def State.freeSess (s : State) : Option Nat :=
  (List.range 8).find? (fun i => let x := s.sess i; !x.open_ && x.queue.isEmpty && x.flights.isEmpty)

/-- Open session i. -/
def State.openSess (s : State) (i : Nat) (port : Port) (ip tag : Nat) : State :=
  ((s.modSess i (fun _ => { open_ := true, port := port, ip := ip, lastAt := s.now, lastTag := some tag })).showSess).sessRecord 1 i

/-- Close session i: 2 by CLOSE, 3 timed out. -/
def State.closeSess (s : State) (i kind : Nat) : State := ((s.modSess i (fun y => { y with open_ := false })).showSess).sessRecord kind i

/-- The open session of a SESSION number for a port; both consist ports count as one port. -/
def State.findSess (s : State) (port : Port) (n : Nat) : Option Nat :=
  if 1 ≤ n ∧ n ≤ 8 then
    let x := s.sess (n - 1)
    if x.open_ && x.consist == (port != .service) then some (n - 1) else none
  else none

/-! ## Items (R499, R500) -/

/-- A telegram as it runs: its peer, its session if it has one, what is left, and the results. -/
structure Run where
  port : Port
  ip : Nat
  tag : Nat
  sess : Option Nat
  left : List RapItem
  res : List Byte := []
  n : Nat := 0

/-- The result of an item (R498). -/
def itemResult (op status count : Nat) (more : List Byte) (data : List Byte) : List Byte :=
  leBytes 1 op ++ leBytes 1 status ++ leBytes 2 count ++ padTo 4 more ++ data

/-- An item is done: its result joins the response, and a non-zero STATUS counts in RAP_ERR. -/
def Run.done (r : Run) (s : State) (it : RapItem) (status : Nat) (more data : List Byte) (left : List RapItem) : Run × State :=
  ({ r with left := left, res := r.res ++ itemResult it.op.toNat status it.count.toNat more data, n := r.n + 1 },
   s.when (status != 0) (fun t => t.inc F.RAP_ERR_ITEMS))

/-- Does a byte range overlap a queued write of any session (R503)? -/
def State.readWaits (s : State) (addr n : Nat) : Bool :=
  s.rap.sess.toList.any (fun x => x.queue.any (fun e => e.load.isNone && decide (addr < e.addr + 4 * e.words.length) && decide (e.addr < addr + 4 * n)))

/-- A READ item (R503, R534): its status and words. -/
def State.readItem (s : State) (i addr n size : Nat) : Nat × List Nat × State :=
  if n = 0 ∨ 256 < n then (1, [], s)
  else if addr % 4 ≠ 0 then (2, [], s)
  else if 1472 < size + 4 * n then (11, [], s)
  else
    let cs := (List.range n).map (fun k => s.addrClass (addr + 4 * k))
    let st := if cs.contains 3 then 3 else if cs.contains 9 then 9 else 0
    let r := s.readRange i addr n false
    (st, r.1, r.2)

/-- Does an item wait (R499, R503)? -/
def State.itemWaits (s : State) (i : Nat) (it : RapItem) : Bool :=
  match it.op.toNat with
  | 0x10 => s.readWaits it.addr.toNat it.count.toNat
  | 0x12 | 0x30 => !(s.sess i).queue.isEmpty
  | _ => false

/-- A WRITE or LOAD item: its status, and the entry it queues. -/
def State.postItem (s : State) (x : Sess) (it : RapItem) : Nat × WEntry :=
  let n := it.count.toNat
  let full := decide (8 ≤ x.queue.length)
  if it.op = 0x11 then
    let ws := (List.range n).map (fun k => fieldAt it.data (4 * k) 4)
    let st := if n = 0 ∨ 64 < n ∨ it.data.length ≠ 4 * n then 1 else s.writeStatus x it.addr.toNat ws
    (if full && (st == 0 || decide (6 < st)) then 6 else st, { addr := it.addr.toNat, words := ws })
  else
    let st := if n < 4 ∨ 1024 < n ∨ n % 4 ≠ 0 ∨ it.data.length ≠ n then 1
      else if !(s.hasAuth || s.recovers) then 5
      else if full then 6
      else if x.consist && !s.flag F.NET_CFG_CONSIST_WR then 8
      else if 0x400000 < it.addr.toNat + n then 9 else 0
    (st, { addr := it.addr.toNat, load := some it.data })

/-- A CONFIRM item of session x: its status and the cause of a refusal (R353, R354, R504). -/
def State.confirmItem (s : State) (x : Sess) (it : RapItem) : Nat × Nat × State :=
  let b := it.data
  if it.count.toNat ≠ 72 ∨ b.length ≠ 72 then (1, 0, s)
  else if !(s.hasAuth || s.recovers) then (5, 0, s)
  else if x.consist && !s.flag F.NET_CFG_CONSIST_WR then (8, 0, s)
  else
    let cause := s.confirmCause x.consist (fieldAt b 0 1) (fieldAt b 1 1) (fieldAt b 4 4) (fieldAt b 2 1) (b.drop 8)
    (if cause = 0 then 0 else 10, cause, s.confirm x.consist (fieldAt b 0 1) (fieldAt b 1 1) (fieldAt b 4 4) (fieldAt b 2 1) (b.drop 8))

/-- One item of a session that it has: OPEN is bad there. -/
def Run.item (r : Run) (s : State) (i : Nat) (it : RapItem) (left : List RapItem) : Run × State :=
  let x := s.sess i
  match it.op.toNat with
  | 0x02 =>
    if it.count ≠ 0 then r.done s it 1 [] [] left
    else
      let p := r.done (s.closeSess i 2) it 0 [] [] left
      ({ p.1 with sess := none }, p.2)
  | 0x10 =>
    let q := s.readItem i it.addr.toNat it.count.toNat (16 + r.res.length + 8 + 8 * left.length)
    r.done q.2.2 it q.1 [] (q.2.1.flatMap (leBytes 4)) left
  | 0x11 | 0x20 =>
    let q := s.postItem x it
    r.done (if q.1 = 0 then s.modSess i (fun y => { y with queue := y.queue ++ [q.2] }) else s) it q.1 [] [] left
  | 0x12 => r.done s it (if it.count = 0 then 0 else 1) [] [] left
  | 0x30 =>
    let q := s.confirmItem x it
    r.done q.2.2 it q.1 (leBytes 4 q.2.1) [] left
  | _ => r.done s it 1 [] [] left

/-- One item of a telegram that has no session: OPEN opens one, anything else fails with NO_SESSION. -/
def Run.noSess (r : Run) (s : State) (it : RapItem) (left : List RapItem) (zero : Bool) : Run × State :=
  if it.op = 0x01 ∧ zero = true then
    if it.count ≠ 0 then r.done s it 1 [] [] left
    else match s.freeSess with
      | none => r.done s it 6 [] [] left
      | some i =>
        let p := r.done (s.openSess i r.port r.ip r.tag) it 0 (leBytes 4 (i + 1)) [] left
        ({ p.1 with sess := some i }, p.2)
  else r.done s it 7 [] [] left

/-- Run the items in order, up to one that waits; `zero` says that the telegram came with SESSION 0. -/
def runItems (zero : Bool) : List RapItem → Run × State → Run × State
  | [], p => ({ p.1 with left := [] }, p.2)
  | it :: left, (r, s) =>
    match r.sess with
    | none => runItems zero left (r.noSess s it left zero)
    | some i => if s.itemWaits i it then ({ r with left := it :: left }, s) else runItems zero left (r.item s i it left)

/-! ## Telegrams (R498, R501) -/

/-- The response (R498) with DEFERRED of the session. -/
def response (session tag n deferred : Nat) (res : List Byte) : List Byte :=
  withCrc ([0x71, 0x01] ++ leBytes 2 session ++ leBytes 2 tag ++ leBytes 1 n ++ [0] ++ leBytes 4 deferred ++ res)

/-- The ports that a response to a request of a port leaves on: both consist ports for a consist port (R477). -/
def rapPorts (p : Port) : List Port := match p with
  | .service => [.service]
  | _ => [.ecn0, .ecn1]

/-- A response leaves. -/
def State.sendRap (s : State) (port : Port) (ip : Nat) (b : List Byte) : State :=
  { s with rap := { s.rap with out := s.rap.out ++ [(rapPorts port, ip, b)] } }

/-- Every item of a telegram is done: its response leaves, twice where it was repeated meanwhile. `i` is the session that it ran in. -/
def State.answer (s : State) (i : Option Nat) (session : Nat) (r : Run) (twice : Bool) : State :=
  match i with
  | none => s.sendRap r.port r.ip (response session r.tag r.n 0 r.res)
  | some k =>
    let x := s.sess k
    let b := response (k + 1) r.tag r.n (x.dropped + x.dropAddr % 2 ^ 24 * 256) r.res
    let s := s.modSess k (fun y => { y with dropped := 0, dropAddr := 0, resp := if y.lastTag = some r.tag then b else y.resp })
    let s := s.sendRap r.port r.ip b
    if twice then s.sendRap r.port r.ip b else s

/-- A telegram that ran as far as it could: it is answered, or waits as a flight of its session. -/
def State.settleRun (s : State) (session : Nat) (r : Run) (was : Option Nat) : State :=
  let own := match r.sess with | some i => some i | none => was
  if r.left.isEmpty then s.answer own session r false
  else match own with
    | some i => s.modSess i (fun y => { y with flights := y.flights ++ [{ tag := r.tag, left := r.left, res := r.res, n := r.n }] })
    | none => s

/-- A request telegram (R498–R504). -/
def State.telegram (s : State) (port : Port) (ip session tag : Nat) (items : List RapItem) : State :=
  let s := { s with rap := { s.rap with out := [], read := [] } }
  match s.findSess port session with
  | none =>
    let p := runItems (session == 0) items ({ port := port, ip := ip, tag := tag, sess := none, left := items }, s)
    p.2.settleRun session p.1 none
  | some i =>
    let x := s.sess i
    let s := s.modSess i (fun y => { y with lastAt := s.now })
    if x.lastTag = some tag then
      if x.flights.any (fun f => f.tag == tag) then
        s.modSess i (fun y => { y with flights := y.flights.map (fun (f : Flight) => if f.tag = tag then { f with twice := true } else f) })
      else s.sendRap port ip x.resp
    else
      let s := s.modSess i (fun y => { y with lastTag := some tag, resp := [] })
      let p := runItems false items ({ port := port, ip := ip, tag := tag, sess := some i, left := items }, s)
      p.2.settleRun session p.1 (some i)

/-- The waiting telegrams of session i go on as far as they can. -/
def State.resume (s : State) (i : Nat) : State :=
  let x := s.sess i
  x.flights.foldl (fun (t : State) f =>
    let r : Run := { port := x.port, ip := x.ip, tag := f.tag, sess := some i, left := f.left, res := f.res, n := f.n }
    let p := runItems false f.left (r, t)
    let t := p.2.modSess i (fun y => { y with flights := y.flights.filter (fun g => g.tag != f.tag) })
    if p.1.left.isEmpty then t.answer (some i) (i + 1) p.1 f.twice
    else t.modSess i (fun y => { y with flights := y.flights ++ [{ f with left := p.1.left, res := p.1.res, n := p.1.n }] })) s

/-- A telegram that a port takes now. -/
def State.onPort (s : State) (p : Port) (f : State → State) : State := if s.alive && s.portUp p then f s else s

/-- A telegram whose first item is given. -/
def State.request (s : State) (t : RapTel) (it : RapItem) : State :=
  s.onPort t.port fun s => s.telegram t.port t.ip.toNat t.session.toNat t.tag.toNat (it :: t.rest)

/-- OPEN as the first item of a telegram (R499). -/
def open_ (t : RapTel) (count : BitVec 16) (s : State) : State := s.request t { op := 0x01, count := count, addr := 0, data := [] }

/-- CLOSE (R499). -/
def close (t : RapTel) (count : BitVec 16) (s : State) : State := s.request t { op := 0x02, count := count, addr := 0, data := [] }

/-- READ of `count` words at an address (R503, R534). -/
def read (t : RapTel) (count : BitVec 16) (addr : Word) (s : State) : State := s.request t { op := 0x10, count := count, addr := addr, data := [] }

/-- WRITE of words at an address (R502, R504). -/
def write (t : RapTel) (count : BitVec 16) (addr : Word) (data : List Byte) (s : State) : State :=
  s.request t { op := 0x11, count := count, addr := addr, data := data }

/-- SYNC (R499). -/
def sync (t : RapTel) (count : BitVec 16) (s : State) : State := s.request t { op := 0x12, count := count, addr := 0, data := [] }

/-- LOAD of image bytes at an offset of the load slot (R499). -/
def load (t : RapTel) (count : BitVec 16) (ofs : Word) (data : List Byte) (s : State) : State :=
  s.request t { op := 0x20, count := count, addr := ofs, data := data }

/-- CONFIRM (R353, R354). -/
def confirm (t : RapTel) (count : BitVec 16) (data : List Byte) (s : State) : State := s.request t { op := 0x30, count := count, addr := 0, data := data }

/-- Length of an item's payload (R499). -/
def payloadLen (op count : Nat) : Nat := if op = 0x11 then 4 * count else if op = 0x20 then count else if op = 0x30 then 72 else 0

/-- Cut n items out of bytes; none where the framing fails. -/
def parseItems : Nat → List Byte → Option (List RapItem)
  | 0, b => if b.isEmpty then some [] else none
  | n + 1, b =>
    if b.length < 8 then none
    else
      let op := fieldAt b 0 1
      let count := fieldAt b 2 2
      let k := payloadLen op count
      if b.length < 8 + k then none
      else match parseItems n (b.drop (8 + k)) with
        | some l => some ({ op := BitVec.ofNat 8 op, count := BitVec.ofNat 16 count, addr := BitVec.ofNat 32 (fieldAt b 4 4), data := (b.drop 8).take k } :: l)
        | none => none

/-- MD_REQUEST: a TRDP "Mr" with a RAP telegram as its dataset arrives on a consist port (R486, R498). -/
def mdRequest (p : Fin 2) (ip comId : Word) (b : List Byte) (s : State) : State :=
  let port := if p.val = 0 then Port.ecn0 else Port.ecn1
  s.onPort port fun s =>
    let n := fieldAt b 6 1
    let s := { s with rap := { s.rap with out := [], read := [] } }
    if s.rd F.MD_COMID = 0 ∨ comId.toNat ≠ s.rd F.MD_COMID then s
    else if b.length < 16 ∨ 1472 < b.length ∨ fieldAt b 0 1 ≠ 0x70 ∨ fieldAt b 1 1 ≠ 1 ∨ n = 0 ∨ 32 < n ∨ crcTail b = false then s
    else match parseItems n ((b.take (b.length - 4)).drop 12) with
      | some items => s.telegram port ip.toNat (fieldAt b 2 2) (fieldAt b 4 2) items
      | none => s

/-- POSTED_WRITE_APPLY: the oldest entry of a session's queue is applied (R502); reads that waited for it go on (R503). -/
def postedWriteApply (i : Fin 8) (s : State) : State :=
  s.onM fun s =>
    let s := { s with rap := { s.rap with out := [], read := [] } }
    match (s.sess i.val).queue with
    | [] => s
    | e :: rest =>
      let s := (s.modSess i.val (fun y => { y with queue := rest })).applyEntry i.val e
      (List.range 8).foldl State.resume s

/-- RAP_SESSION_TIMEOUT: 30 s without a telegram (R501). -/
def rapSessionTimeout (i : Fin 8) (s : State) : State :=
  s.onM fun s => if (s.sess i.val).open_ && s.past (s.sess i.val).lastAt (msT 30000) then s.closeSess i.val 3 else s

/-! ## Register accesses of a session, one at a time -/

/-- An access of an open session. -/
def State.onSess (s : State) (i : Fin 8) (f : State → State) : State := if s.alive && (s.sess i.val).open_ then f s else s

/-- Words that a read command returns. -/
def State.returns (s : State) (p : List Nat × State) : State := if s.alive then { p.2 with rap := { p.2.rap with read := p.1 } } else s

/-- REGISTER_WRITE: a write to a register sets its fields by their access codes (R17), once the checks of R502 and R504 let it. -/
def registerWrite (i : Fin 8) (addr value : Word) (s : State) : State :=
  s.onSess i fun s =>
    if s.writeStatus (s.sess i.val) addr.toNat [value.toNat] = 0 then s.writeWord i.val addr.toNat value.toNat else s.inc F.RAP_ERR_ITEMS

/-- RC_REGISTER_READ: returns the value and clears it (R17). -/
def rcRegisterRead (i : Fin 8) (addr : Word) (s : State) : State :=
  s.onSess i fun s => if addr.toNat % 4 = 0 then s.returns (s.readRange i.val addr.toNat 1 false) else s

/-- LOW_WORD_READ: latches the high word for the session (R19). -/
def lowWordRead (i : Fin 8) (addr : Word) (s : State) : State :=
  s.onSess i fun s => if lowWord addr.toNat then s.returns (s.readRange i.val addr.toNat 1 false) else s

/-- RESOLVE: SNAP_CTL.RESOLVE is written (R461). -/
def resolve (i : Fin 8) (s : State) : State := s.onSess i fun s => s.startResolve i.val

/-- SNAPSHOT_RESOLVED: the list is fixed from the page index and DONE is set (R461). -/
def snapshotResolved (i : Fin 8) (s : State) : State :=
  s.onM fun s =>
    let x := s.sess i.val
    if x.resolving && s.flag F.REC_STATUS_READY then
      let first := x.snapLo + x.snapHi * 2 ^ 32
      let l := s.resolveList first (min 8192 x.snapCount)
      s.modSess i.val (fun y => { y with resolving := false, snapDone := true, snapFirst := first, list := l, held := [] })
    else s

/-- SNAPSHOT_ENTRY_READ: word 0 of entry j is read (R462). -/
def snapshotEntryRead (i : Fin 8) (j : Fin 8192) (s : State) : State :=
  s.onSess i fun s => s.returns (s.readRange i.val (0x100000 + (s.sess i.val).entrySize * j.val) 1 false)

/-- EXPORT: SNAP_CTL.EXPORT is written (R463). -/
def export_ (i : Fin 8) (on : Bool) (s : State) : State := s.onSess i fun s => s.setExport i.val on

/-- FORENSIC_ENTRY_READ: word 0 of entry j is read; `differ` says that the two reads of the slot differ (R464). -/
def forensicEntryRead (i : Fin 8) (j : Fin 8192) (differ : Bool) (s : State) : State :=
  s.onSess i fun s => s.returns (s.readRange i.val (0x180000 + 64 * j.val) 1 differ)

/-- SLOT_FHDR_READ: the FHDR of slot n is read (R492). -/
def slotFhdrRead (i : Fin 8) (c : CIx) (n : Fin 8) (s : State) : State :=
  s.onSess i fun s => s.returns (s.readRange i.val (0x8300 + 0x800 * c.val + 0x50 * n.val) 1 false)

/-! ## The commands of this file -/

/-- The meaning of RESOLVE (R461). -/
def execResolve (i : Fin 8) (s : State) : Host.Outcome State Fault Refusal := .next (s.done (resolve i s))

/-- The meaning of SNAPSHOT_RESOLVED (R461). -/
def execSnapshotResolved (i : Fin 8) (s : State) : Host.Outcome State Fault Refusal := .next (s.done (snapshotResolved i s))

/-- The meaning of SNAPSHOT_ENTRY_READ (R462). -/
def execSnapshotEntryRead (i : Fin 8) (j : Fin 8192) (s : State) : Host.Outcome State Fault Refusal := .next (s.done (snapshotEntryRead i j s))

/-- The meaning of EXPORT (R463). -/
def execExport (i : Fin 8) (on : Bool) (s : State) : Host.Outcome State Fault Refusal := .next (s.done (export_ i on s))

/-- The meaning of FORENSIC_ENTRY_READ (R464). -/
def execForensicEntryRead (i : Fin 8) (j : Fin 8192) (differ : Bool) (s : State) : Host.Outcome State Fault Refusal := .next (s.done (forensicEntryRead i j differ s))

/-- The meaning of MD_REQUEST (R486). -/
def execMdRequest (p : Fin 2) (ip comId : Word) (b : List Byte) (s : State) : Host.Outcome State Fault Refusal := .next (s.done (mdRequest p ip comId b s))

/-- The meaning of SLOT_FHDR_READ (R492). -/
def execSlotFhdrRead (i : Fin 8) (c : CIx) (n : Fin 8) (s : State) : Host.Outcome State Fault Refusal := .next (s.done (slotFhdrRead i c n s))

/-- The meaning of OPEN (R499). -/
def execOpen (t : RapTel) (count : BitVec 16) (s : State) : Host.Outcome State Fault Refusal := .next (s.done (open_ t count s))

/-- The meaning of CLOSE (R499). -/
def execClose (t : RapTel) (count : BitVec 16) (s : State) : Host.Outcome State Fault Refusal := .next (s.done (close t count s))

/-- The meaning of READ (R503). -/
def execRead (t : RapTel) (count : BitVec 16) (addr : Word) (s : State) : Host.Outcome State Fault Refusal := .next (s.done (read t count addr s))

/-- The meaning of WRITE (R502). -/
def execWrite (t : RapTel) (count : BitVec 16) (addr : Word) (data : List Byte) (s : State) : Host.Outcome State Fault Refusal := .next (s.done (write t count addr data s))

/-- The meaning of SYNC (R499). -/
def execSync (t : RapTel) (count : BitVec 16) (s : State) : Host.Outcome State Fault Refusal := .next (s.done (sync t count s))

/-- The meaning of LOAD (R499). -/
def execLoad (t : RapTel) (count : BitVec 16) (ofs : Word) (data : List Byte) (s : State) : Host.Outcome State Fault Refusal := .next (s.done (load t count ofs data s))

/-- The meaning of CONFIRM (R354). -/
def execConfirm (t : RapTel) (count : BitVec 16) (data : List Byte) (s : State) : Host.Outcome State Fault Refusal := .next (s.done (confirm t count data s))

/-- The meaning of POSTED_WRITE_APPLY (R502). -/
def execPostedWriteApply (i : Fin 8) (s : State) : Host.Outcome State Fault Refusal := .next (s.done (postedWriteApply i s))

/-- The meaning of RAP_SESSION_TIMEOUT (R501). -/
def execRapSessionTimeout (i : Fin 8) (s : State) : Host.Outcome State Fault Refusal := .next (s.done (rapSessionTimeout i s))

/-- The meaning of REGISTER_WRITE (R17). -/
def execRegisterWrite (i : Fin 8) (addr value : Word) (s : State) : Host.Outcome State Fault Refusal := .next (s.done (registerWrite i addr value s))

/-- The meaning of RC_REGISTER_READ (R17). -/
def execRcRegisterRead (i : Fin 8) (addr : Word) (s : State) : Host.Outcome State Fault Refusal := .next (s.done (rcRegisterRead i addr s))

/-- The meaning of LOW_WORD_READ (R19). -/
def execLowWordRead (i : Fin 8) (addr : Word) (s : State) : Host.Outcome State Fault Refusal := .next (s.done (lowWordRead i addr s))

end Sys2Proof.Machine
end

