-- ==== Sys2Proof/Machine/Tick.lean ====
section
/-!
DEFINITION. Machine/Tick.lean: the two cyclic commands, the 1 kHz sequencer tick (R28) and the evaluation cycle of a doorway (R248), with
the reset edges that act at a tick (R278–R280, R392) and the recovery windows that run out (R397).
-/
namespace Sys2Proof.Machine

/-! ## The evaluation cycle (R248, R259, R260, R267, R272) -/

/-- A proving switch that opens while the state gives "Closed" sets SW_LOST, one record each (R260). In ISOLATED the proving switches are
ignored (R44). -/
def State.provingLost (s : State) (d : DIx) : State :=
  let old := (s.lockH d).swSeen
  let sw := s.rd (F.PROVE_STATUS_SW d)
  let s := s.modLock d (fun l => { l with swSeen := sw })
  if s.stateClosed d && s.st d != .isolated then
    (List.range 5).foldl (fun (t : State) n =>
      if bitOf old n && !bitOf sw n then
        let t := (t.setF (F.PROVE_STATUS_SW_LOST d) true).fault d 0x3103
        t.stage 0x3103 d.val [n, (t.st d).code]
      else t) s
  else s

/-- The safety path of doorway d, evaluated once: fence sources, side releases, proving, the loop contribution, RELEASE_OK, and the fusion
where the module may move the doorway. A doorway whose slot may not evaluate it is fenced and stays so (R378). -/
def State.evalCycle (s : State) (d : DIx) : State :=
  let s := (s.sideRelUpdate).fenceSweep d
  if !s.slotReady d then ((s.setF (F.SEQ_STATUS_LOOP_CONTRIB d) false).setF (F.SEQ_STATUS_RELEASE_OK d) false).evalOutputs
  else
  let s := (s.maintDoor d).provingLost d
  let s := if s.inRun && s.hasAuth then s.fusion d false else s.obstLevels d
  let s := s.setF (F.SEQ_STATUS_LOOP_CONTRIB d) (s.contribution d && !(s.dwy d).fencePend)
  let s := s.setF (F.SEQ_STATUS_RELEASE_OK d) (s.releaseOk d)
  s.evalOutputs

/-- SAFETY_EVAL_CYCLE of the slot of doorway d (R248). An unplaced doorway has no slot (R371) and is fenced. -/
def safetyEvalCycle (d : DIx) (s : State) : State := s.onD d fun s => s.evalCycle d

/-! ## The tick (R28, R29) -/

/-- The conditions of R395 hold. -/
def State.sfgHolds (s : State) : Bool :=
  s.img.running.isSome && s.rd F.PWR_STATUS_MAIN == 0 && decide (s.rd F.MOD_STATE_SHED < 4) &&
  s.declaredList.all (fun d => s.modelOk d && s.supplyOk d && (s.st d == .isolated || !s.flag (F.FLT_DWY_CYCLE_DUE d.val)))

/-- HOURS of a doorway counts RUN outside ISOLATED (R395), one millisecond a tick. -/
def State.hoursTick (s : State) (d : DIx) : State :=
  if !s.inRun || s.st d == .isolated then s
  else
    let n := (s.seq d).hourN + 1
    if n < 3600000 then s.modSeq d (fun q => { q with hourN := n })
    else (s.inc (F.FLT_DWY_HOURS d.val)).modSeq d (fun q => { q with hourN := 0 })

/-- What every tick of the module follows: the pair, the clock, Coppice, the networks, entry to KEEP, and the flags of R395. -/
def State.moduleTick (s : State) : State :=
  let s := ((s.evalRole).pairTick).engClear.replaceLate.frameStart
  let s := ((s.coppiceTick).netSweep).canSweep.keepGoes
  let s := s.setF F.FLT_STATUS_CYCLE_DUE (s.declaredList.any (fun d => s.flag (F.FLT_DWY_CYCLE_DUE d.val)))
  s.setF F.FLT_STATUS_SFG s.sfgHolds

/-- What a tick of doorway d follows: the evaluation, its transitions, learning, moves given up in SAFE, STALE and HOURS. -/
def State.doorTick (s : State) (d : DIx) : State :=
  let s := ((s.evalCycle d).seqTick d).keepTick d
  let s := (s.learnTick d).when (s.modState == 4) (fun t => t.abandonMoves d)
  let s := (s.showStale d).hoursTick d
  s.setF (F.SEQ_STATUS_LOOP_CONTRIB d) (s.slotReady d && s.contribution d && !(s.dwy d).fencePend) |>.evalOutputs

/-- SEQUENCER_TICK of doorway d (R28): the module's part, then the doorway's where it is declared. -/
def sequencerTick (d : DIx) (s : State) : State :=
  s.onM fun s => if s.declared d then s.moduleTick.doorTick d else s.moduleTick

/-! ## Reset edges (R278–R280, R392) -/

/-- What a reset edge does to a doorway beside its state: HANDLE_XS (R292). -/
def State.resetDoorAll (s : State) (d : DIx) : State × Bool :=
  let xs := s.flag (F.PD_STATUS_HANDLE_XS d)
  let s := s.handleShortReset d
  let gone := xs && !s.flag (F.PD_STATUS_HANDLE_XS d)
  let r := s.resetDoor d
  (r.1, r.2 || gone)

/-- The module leaves SAFE (R392). -/
def State.leaveSafe (s : State) : State :=
  let causes := s.flt.safeCauses
  let ms := s.msSince s.flt.safeAt (2 ^ 32 - 1)
  let s := { (s.wr F.MOD_STATE_STATE 3) with pwr := { s.pwr with runFrom := s.now } }
  let s := (s.setF F.FLT_STATUS_ATTN false).showSafe
  let s := s.declaredList.foldl (fun t d => t.fenceClear d 13) s
  let s := s.stage 0x0D02 sysRec [causes * 2, ms]
  let s := s.claimAfterSafe
  let s := s.declaredList.foldl (fun t d => (t.resumeMoves d).evalChans d) s
  let s := s.resumeUnits
  s.evalOutputs

/-- A crew edge of doorway d with T_high `ms` (R278–R280). -/
def State.crewEdge (s : State) (d : DIx) (ms : Nat) : State :=
  let s := s.modLock d (fun l => { l with crewEdge := none })
  if ms < 100 then s.resetResult d 1 2 false
  else if 2000 < ms then s.resetResult d 1 3 false
  else
    let may := s.hasAuth || s.modState == 4
    let r := if may then s.resetDoorAll d else (s, false)
    if may && s.edgeWaits d then r.1.holdEdge d 1 ms r.2
    else (r.1.resetResult d 1 (b2n (!r.2)) true).stage 0x310A d.val [1, b2n (!r.2), ms]

/-- The effect of a RESET_REQ edge: SAFE is left first where every cause has cleared, then outputs and doorways; whether it acted. -/
def State.requestActs (s : State) (ms : Nat) : State × Bool :=
  let may := s.hasAuth || s.modState == 4
  let leaves := s.modState == 4 && s.flag F.FLT_STATUS_CLEAR_OK
  let s := if leaves then s.leaveSafe else s
  let outs := (List.range 6).filter s.outFault
  let s := s.clearOutputs
  let cleared := outs.any (fun o => !s.outFault o)
  let r := s.declaredList.foldl (fun (a : State × Bool) d =>
    let x := if may then a.1.resetDoorAll d else (a.1, false)
    (if may && a.1.edgeWaits d then x.1.holdEdge d 2 ms x.2 else x.1.resetResult d 2 (b2n (!x.2)) true, a.2 || x.2)) (s, leaves || cleared)
  (r.1.evalOutputs, r.2)

/-- A RESET_REQ edge with T_high `ms` (R278–R280, R392). -/
def State.requestEdge (s : State) (ms : Nat) : State :=
  let s := { s with trn := { s.trn with rstEdge := none } }
  if ms < 100 then s.declaredList.foldl (fun t d => t.resetResult d 2 2 false) s
  else if 2000 < ms then s.declaredList.foldl (fun t d => t.resetResult d 2 3 false) s
  else
    let r := s.requestActs ms
    r.1.requestRecord ms r.2

/-- RESET_EDGE: the tick that sees a reset input inactive again (R278). -/
def resetEdge (src : ResetSrc) (s : State) : State :=
  match src with
  | .crew d => s.onD d fun s => match (s.lockH d).crewEdge with | some ms => s.crewEdge d ms | none => s
  | .request => s.onM fun s => match s.trn.rstEdge with | some ms => s.requestEdge ms | none => s

/-! ## Recovery windows (R397) -/

/-- Has the window of a kind for a doorway number run out? -/
def State.winRanOut (s : State) (kind d : Nat) : Bool :=
  match s.winOf kind d with
  | some w => s.past w.opened (msT (winLen kind))
  | none => false

/-- A move that has not completed in its window leaves its doorway unplaced (R371, R375). -/
def State.moveRanOut (s : State) (kind : Nat) (d : DIx) (p : Nat) : State :=
  if s.winRanOut kind d.val then ((s.moveEnded d p).closeWin kind d.val).unplace d p else s

/-- A rebind that has not completed in its window leaves its units unplaced (R371, R380). -/
def State.rebindRanOut (s : State) (n : Nat) : State :=
  if s.winRanOut 7 n then
    let s := s.closeWin 7 n
    (List.range 64).foldl (fun (t : State) k =>
      let u : UIx := Fin.ofNat 64 k
      if t.rd (F.CVU_STATUS_STATE u) == 2 && t.cvuDoor u == n then
        let t := (t.wr (F.CVU_STATUS_PHYS u) noRes).wr (F.CVU_STATUS_STATE u) 3
        match t.img.insts.find? (fun i => i.ty == 0x11 && i.unit == k) with
        | some i =>
          let bs := t.plc.binds.map (fun b => if b.pool == poolCvu && b.f == i.f then { b with idx := noRes, pinned := false } else b)
          let old := Al.get (fun _ => noRes) t.flt.cvuOld k
          let t := ({ t with plc := { t.plc with binds := bs } } : State).placementChanged 2 poolCvu 0x1F (t.plcUnit i.f) noRes
          (t.stage 0x4D0C sysRec [k, old, 0xFF]).short i.f poolCvu
        | none => t
      else t) s
  else s

/-- RECOVERY_WINDOW_EXPIRED: the window of a kind (R397) for doorway `n`, 24 for no doorway, has run out and closes with its outcome: fences
of R144, R190 and R371, the standing fault of R80, and the ends of R428 and R434. -/
def recoveryWindowExpired (kind : Fin 8) (n : Fin 25) (s : State) : State :=
  s.onM fun s =>
    let d : DIx := Fin.ofNat 24 n.val
    let on := decide (n.val < 24)
    match kind.val with
    | 0 => s.when on (migrationTimeout d)
    | 1 => s.when on (driveRetrainWindowExpired d)
    | 2 => s.when on (headRetrainWindowExpired d)
    | 3 => takeoverWindowExpired s
    | 4 => resyncWindowExpired s
    | 5 => s.when on (fun t => t.onD d (fun t => t.moveRanOut 5 d poolSes))
    | 6 => s.when on (fun t => t.onD d (fun t => t.moveRanOut 6 d poolDram))
    | _ => s.rebindRanOut n.val

/-! ## The commands of this file -/

/-- The meaning of SEQUENCER_TICK (R28). -/
def execSequencerTick (d : DIx) (s : State) : Host.Outcome State Fault Refusal := .next (s.done (sequencerTick d s))

/-- The meaning of RESET_EDGE (R280). -/
def execResetEdge (src : ResetSrc) (s : State) : Host.Outcome State Fault Refusal := .next (s.done (resetEdge src s))

/-- The meaning of SAFETY_EVAL_CYCLE (R248). -/
def execSafetyEvalCycle (d : DIx) (s : State) : Host.Outcome State Fault Refusal := .next (s.done (safetyEvalCycle d s))

/-- The meaning of RECOVERY_WINDOW_EXPIRED (R397). -/
def execRecoveryWindowExpired (kind : Fin 8) (n : Fin 25) (s : State) : Host.Outcome State Fault Refusal := .next (s.done (recoveryWindowExpired kind n s))

end Sys2Proof.Machine
end

