-- ==== Sys2Proof/Machine/Dispatch.lean ====
section
/-!
DEFINITION. Machine/Dispatch.lean: the one match that gives each command its meaning.
-/
namespace Sys2Proof.Machine

def exec (i : Instr) (s : State) : Host.Outcome State Fault Refusal :=
  match i with
  | .sequencerTick d => Sys2Proof.Machine.execSequencerTick d s
  | .proofPhaseTimeout d => Sys2Proof.Machine.execProofPhaseTimeout d s
  | .sealTimeout d => Sys2Proof.Machine.execSealTimeout d s
  | .unlockTimeout d => Sys2Proof.Machine.execUnlockTimeout d s
  | .lockTimeout d => Sys2Proof.Machine.execLockTimeout d s
  | .stepDeployTimeout d => Sys2Proof.Machine.execStepDeployTimeout d s
  | .stowTimeout d => Sys2Proof.Machine.execStowTimeout d s
  | .warnTimeElapsed d => Sys2Proof.Machine.execWarnTimeElapsed d s
  | .autoCloseElapsed d => Sys2Proof.Machine.execAutoCloseElapsed d s
  | .retryDelayElapsed d => Sys2Proof.Machine.execRetryDelayElapsed d s
  | .openReq d => Sys2Proof.Machine.execOpenReq d s
  | .closeReq d => Sys2Proof.Machine.execCloseReq d s
  | .proofReq d net => Sys2Proof.Machine.execProofReq d net s
  | .proofAll net => Sys2Proof.Machine.execProofAll net s
  | .passengerOpenInput d => Sys2Proof.Machine.execPassengerOpenInput d s
  | .resetEdge src => Sys2Proof.Machine.execResetEdge src s
  | .resetInputHeldLong src => Sys2Proof.Machine.execResetInputHeldLong src s
  | .syncSend d => Sys2Proof.Machine.execSyncSend d s
  | .lineReceived d ok p cf => Sys2Proof.Machine.execLineReceived d ok p cf s
  | .helloReceived d ok src p => Sys2Proof.Machine.execHelloReceived d ok src p s
  | .headStatusReceived d ok p => Sys2Proof.Machine.execHeadStatusReceived d ok p s
  | .cfgAckReceived d ok p => Sys2Proof.Machine.execCfgAckReceived d ok p s
  | .calHdrReceived d ok p => Sys2Proof.Machine.execCalHdrReceived d ok p s
  | .calDataReceived d ok p => Sys2Proof.Machine.execCalDataReceived d ok p s
  | .frameLineDeadline d => Sys2Proof.Machine.execFrameLineDeadline d s
  | .depthFrameReady d => Sys2Proof.Machine.execDepthFrameReady d s
  | .headPhyLinkLoss d => Sys2Proof.Machine.execHeadPhyLinkLoss d s
  | .headPhyLinkUp d => Sys2Proof.Machine.execHeadPhyLinkUp d s
  | .headRetrainStart d cause => Sys2Proof.Machine.execHeadRetrainStart d cause s
  | .headFramesMissing d => Sys2Proof.Machine.execHeadFramesMissing d s
  | .headStatusMissing d => Sys2Proof.Machine.execHeadStatusMissing d s
  | .headRetrain d => Sys2Proof.Machine.execHeadRetrain d s
  | .headRetrainWindowExpired d => Sys2Proof.Machine.execHeadRetrainWindowExpired d s
  | .headBringupRepeat d => Sys2Proof.Machine.execHeadBringupRepeat d s
  | .tileSignatureCompare p stage tile badU badR skipU skipR ovfU ovfR words dur => Sys2Proof.Machine.execTileSignatureCompare p stage tile badU badR skipU skipR ovfU ovfR words dur s
  | .binderSelftest p pass => Sys2Proof.Machine.execBinderSelftest p pass s
  | .stageSkewTimeout p stage => Sys2Proof.Machine.execStageSkewTimeout p stage s
  | .residentImageLoaded p ok => Sys2Proof.Machine.execResidentImageLoaded p ok s
  | .migrationTimeout d => Sys2Proof.Machine.execMigrationTimeout d s
  | .goldenTestStart p => Sys2Proof.Machine.execGoldenTestStart p s
  | .goldenTestComplete p pass => Sys2Proof.Machine.execGoldenTestComplete p pass s
  | .goldenTestPeriodic p => Sys2Proof.Machine.execGoldenTestPeriodic p s
  | .pairSelftest p => Sys2Proof.Machine.execPairSelftest p s
  | .localMemoryEccError p => Sys2Proof.Machine.execLocalMemoryEccError p s
  | .pairSplit p => Sys2Proof.Machine.execPairSplit p s
  | .coppiceRejoin => Sys2Proof.Machine.execCoppiceRejoin s
  | .rejoinStepComplete p ok => Sys2Proof.Machine.execRejoinStepComplete p ok s
  | .rejoinComplete => Sys2Proof.Machine.execRejoinComplete s
  | .sealSeamTask d ovf => Sys2Proof.Machine.execSealSeamTask d ovf s
  | .occupancyTask d ovf => Sys2Proof.Machine.execOccupancyTask d ovf s
  | .learnStart d => Sys2Proof.Machine.execLearnStart d s
  | .learnAbort d => Sys2Proof.Machine.execLearnAbort d s
  | .discardPending d => Sys2Proof.Machine.execDiscardPending d s
  | .modelLearned d => Sys2Proof.Machine.execModelLearned d s
  | .adaptationPass d => Sys2Proof.Machine.execAdaptationPass d s
  | .driveFrame d => Sys2Proof.Machine.execDriveFrame d s
  | .atRestReached d a => Sys2Proof.Machine.execAtRestReached d a s
  | .move d a => Sys2Proof.Machine.execMove d a s
  | .stop d a => Sys2Proof.Machine.execStop d a s
  | .driveFbReceived d ok p cf => Sys2Proof.Machine.execDriveFbReceived d ok p cf s
  | .driveFeedbackTimeout d => Sys2Proof.Machine.execDriveFeedbackTimeout d s
  | .drivePhyLinkLoss d => Sys2Proof.Machine.execDrivePhyLinkLoss d s
  | .driveRetrain d => Sys2Proof.Machine.execDriveRetrain d s
  | .drivePhyLinkUp d => Sys2Proof.Machine.execDrivePhyLinkUp d s
  | .driveRetrainWindowExpired d => Sys2Proof.Machine.execDriveRetrainWindowExpired d s
  | .driveBringupRepeat d => Sys2Proof.Machine.execDriveBringupRepeat d s
  | .authConflictTimeout d => Sys2Proof.Machine.execAuthConflictTimeout d s
  | .faultClearIntervalEnd d => Sys2Proof.Machine.execFaultClearIntervalEnd d s
  | .denTestPulse d out on => Sys2Proof.Machine.execDenTestPulse d out on s
  | .denReadbackTimeout d out on => Sys2Proof.Machine.execDenReadbackTimeout d out on s
  | .encoderCount d a va vb na nb => Sys2Proof.Machine.execEncoderCount d a va vb na nb s
  | .indexEvent d a z n => Sys2Proof.Machine.execIndexEvent d a z n s
  | .lineFaultSample d a fa fb fz => Sys2Proof.Machine.execLineFaultSample d a fa fb fz s
  | .lossClear d a => Sys2Proof.Machine.execLossClear d a s
  | .referenceMakeEdge d a => Sys2Proof.Machine.execReferenceMakeEdge d a s
  | .snap d a => Sys2Proof.Machine.execSnap d a s
  | .fieldScan j fails valid down ins tls lim pulse => Sys2Proof.Machine.execFieldScan j fails valid down ins tls lim pulse s
  | .safetyEvalCycle d => Sys2Proof.Machine.execSafetyEvalCycle d s
  | .ss1Timeout d => Sys2Proof.Machine.execSs1Timeout d s
  | .adcASequence j codes ovr => Sys2Proof.Machine.execAdcASequence j codes ovr s
  | .edgeFault d n => Sys2Proof.Machine.execEdgeFault d n s
  | .edgeFaultClear d n => Sys2Proof.Machine.execEdgeFaultClear d n s
  | .adcBPass j codes ovr => Sys2Proof.Machine.execAdcBPass j codes ovr s
  | .lockCurrent d => Sys2Proof.Machine.execLockCurrent d s
  | .lockStuckOn d => Sys2Proof.Machine.execLockStuckOn d s
  | .switchPlausibility d => Sys2Proof.Machine.execSwitchPlausibility d s
  | .trainLineChange levels => Sys2Proof.Machine.execTrainLineChange levels s
  | .zeroSpeedDiscrepancy => Sys2Proof.Machine.execZeroSpeedDiscrepancy s
  | .depotModeActive => Sys2Proof.Machine.execDepotModeActive s
  | .sideMapStable => Sys2Proof.Machine.execSideMapStable s
  | .sideMapMismatch => Sys2Proof.Machine.execSideMapMismatch s
  | .sideMapMismatchClear => Sys2Proof.Machine.execSideMapMismatchClear s
  | .loopTestPulse w conducting => Sys2Proof.Machine.execLoopTestPulse w conducting s
  | .loopReadbackTimeout o hs ls mA supply => Sys2Proof.Machine.execLoopReadbackTimeout o hs ls mA supply s
  | .isolationDiscrepancy d => Sys2Proof.Machine.execIsolationDiscrepancy d s
  | .handleOperated d => Sys2Proof.Machine.execHandleOperated d s
  | .handleDiscrepancy d => Sys2Proof.Machine.execHandleDiscrepancy d s
  | .tpsPulseCheck d src ch shown => Sys2Proof.Machine.execTpsPulseCheck d src ch shown s
  | .guardOpen d => Sys2Proof.Machine.execGuardOpen d s
  | .guardClosed d => Sys2Proof.Machine.execGuardClosed d s
  | .guardFault d => Sys2Proof.Machine.execGuardFault d s
  | .twoHandChange d => Sys2Proof.Machine.execTwoHandChange d s
  | .twoHandFault d dev => Sys2Proof.Machine.execTwoHandFault d dev s
  | .ossdChange d => Sys2Proof.Machine.execOssdChange d s
  | .lcDiscrepancy d => Sys2Proof.Machine.execLcDiscrepancy d s
  | .lcTest d => Sys2Proof.Machine.execLcTest d s
  | .lcTestResponseTimeout d => Sys2Proof.Machine.execLcTestResponseTimeout d s
  | .lcTestOverdue d => Sys2Proof.Machine.execLcTestOverdue d s
  | .fieldSupplyChange d st => Sys2Proof.Machine.execFieldSupplyChange d st s
  | .aliveLost j => Sys2Proof.Machine.execAliveLost j s
  | .asicRearm j => Sys2Proof.Machine.execAsicRearm j s
  | .thermalShutdown d k => Sys2Proof.Machine.execThermalShutdown d k s
  | .channelCooled d k => Sys2Proof.Machine.execChannelCooled d k s
  | .inrushWindowEnd d k => Sys2Proof.Machine.execInrushWindowEnd d k s
  | .clampEnd d k cur => Sys2Proof.Machine.execClampEnd d k cur s
  | .clear d k => Sys2Proof.Machine.execClear d k s
  | .limpHomeChange j en => Sys2Proof.Machine.execLimpHomeChange j en s
  | .imageVerify cf => Sys2Proof.Machine.execImageVerify cf s
  | .imageVerified => Sys2Proof.Machine.execImageVerified s
  | .discard => Sys2Proof.Machine.execDiscard s
  | .commitPress ms => Sys2Proof.Machine.execCommitPress ms s
  | .confirmLapsed => Sys2Proof.Machine.execConfirmLapsed s
  | .structuralActivation => Sys2Proof.Machine.execStructuralActivation s
  | .evalSlotFault d kind => Sys2Proof.Machine.execEvalSlotFault d kind s
  | .slotMoveComplete d ok => Sys2Proof.Machine.execSlotMoveComplete d ok s
  | .dramRegionDegraded r => Sys2Proof.Machine.execDramRegionDegraded r s
  | .deferredMoveStart d => Sys2Proof.Machine.execDeferredMoveStart d s
  | .deferredMoveComplete d pool => Sys2Proof.Machine.execDeferredMoveComplete d pool s
  | .dramUncorrectable addr region scrub => Sys2Proof.Machine.execDramUncorrectable addr region scrub s
  | .fabricFault port data => Sys2Proof.Machine.execFabricFault port data s
  | .configScrubPass region ref val us kat => Sys2Proof.Machine.execConfigScrubPass region ref val us kat s
  | .sequencerMismatch d => Sys2Proof.Machine.execSequencerMismatch d s
  | .comparatorSelftest slot flagged => Sys2Proof.Machine.execComparatorSelftest slot flagged s
  | .cvuRebound u pass => Sys2Proof.Machine.execCvuRebound u pass s
  | .watchdogService right => Sys2Proof.Machine.execWatchdogService right s
  | .watchdogExpiry => Sys2Proof.Machine.execWatchdogExpiry s
  | .quickthornTrip bit byS byA => Sys2Proof.Machine.execQuickthornTrip bit byS byA s
  | .engClockLoss => Sys2Proof.Machine.execEngClockLoss s
  | .cycleDue d => Sys2Proof.Machine.execCycleDue d s
  | .recoveryWindowExpired kind n => Sys2Proof.Machine.execRecoveryWindowExpired kind n s
  | .partnerRestartIn ms => Sys2Proof.Machine.execPartnerRestartIn ms s
  | .epochSend => Sys2Proof.Machine.execEpochSend s
  | .epochReceived c0 c1 cf => Sys2Proof.Machine.execEpochReceived c0 c1 cf s
  | .resyncReqReceived c0 c1 cf => Sys2Proof.Machine.execResyncReqReceived c0 c1 cf s
  | .snapReceived c0 c1 cf => Sys2Proof.Machine.execSnapReceived c0 c1 cf s
  | .contentReceived c0 c1 cf => Sys2Proof.Machine.execContentReceived c0 c1 cf s
  | .recFwdReceived c0 c1 cf => Sys2Proof.Machine.execRecFwdReceived c0 c1 cf s
  | .mirrorAckReceived c0 c1 cf => Sys2Proof.Machine.execMirrorAckReceived c0 c1 cf s
  | .mirrorLost => Sys2Proof.Machine.execMirrorLost s
  | .resyncWindowExpired => Sys2Proof.Machine.execResyncWindowExpired s
  | .claimAuthority => Sys2Proof.Machine.execClaimAuthority s
  | .bothClaimed => Sys2Proof.Machine.execBothClaimed s
  | .takeoverWindowExpired => Sys2Proof.Machine.execTakeoverWindowExpired s
  | .takeoverInputCheck d => Sys2Proof.Machine.execTakeoverInputCheck d s
  | .handoverReq remove ms => Sys2Proof.Machine.execHandoverReq remove ms s
  | .cancel => Sys2Proof.Machine.execCancel s
  | .handoverStart => Sys2Proof.Machine.execHandoverStart s
  | .resync => Sys2Proof.Machine.execResync s
  | .partnerRestart => Sys2Proof.Machine.execPartnerRestart s
  | .autoPartnerRestart => Sys2Proof.Machine.execAutoPartnerRestart s
  | .safeCausePairClear => Sys2Proof.Machine.execSafeCausePairClear s
  | .variantMismatchClear => Sys2Proof.Machine.execVariantMismatchClear s
  | .recordDequeue => Sys2Proof.Machine.execRecordDequeue s
  | .pageBufferTimeout n => Sys2Proof.Machine.execPageBufferTimeout n s
  | .pageProgramComplete back stable cf => Sys2Proof.Machine.execPageProgramComplete back stable cf s
  | .blockEraseComplete ok => Sys2Proof.Machine.execBlockEraseComplete ok s
  | .timeAnchor => Sys2Proof.Machine.execTimeAnchor s
  | .recorderReady => Sys2Proof.Machine.execRecorderReady s
  | .resolve n => Sys2Proof.Machine.execResolve n s
  | .snapshotResolved n => Sys2Proof.Machine.execSnapshotResolved n s
  | .snapshotEntryRead n j => Sys2Proof.Machine.execSnapshotEntryRead n j s
  | .export_ n on => Sys2Proof.Machine.execExport n on s
  | .forensicEntryRead n j differ => Sys2Proof.Machine.execForensicEntryRead n j differ s
  | .checkpoint bad => Sys2Proof.Machine.execCheckpoint bad s
  | .scrub byWrite => Sys2Proof.Machine.execScrub byWrite s
  | .refresh byWrite => Sys2Proof.Machine.execRefresh byWrite s
  | .areaRefresh => Sys2Proof.Machine.execAreaRefresh s
  | .pdTelegramReceived p t => Sys2Proof.Machine.execPdTelegramReceived p t s
  | .pdRowTimeout r => Sys2Proof.Machine.execPdRowTimeout r s
  | .sdtTimeout n => Sys2Proof.Machine.execSdtTimeout n s
  | .pdPublish k => Sys2Proof.Machine.execPdPublish k s
  | .mdRequest p ip comId b => Sys2Proof.Machine.execMdRequest p ip comId b s
  | .canFrameReceived c f => Sys2Proof.Machine.execCanFrameReceived c f s
  | .pop c q => Sys2Proof.Machine.execPop c q s
  | .slotFhdrRead k c n => Sys2Proof.Machine.execSlotFhdrRead k c n s
  | .req c b => Sys2Proof.Machine.execReq c b s
  | .abort c b => Sys2Proof.Machine.execAbort c b s
  | .canTxComplete c => Sys2Proof.Machine.execCanTxComplete c s
  | .canBusOff c => Sys2Proof.Machine.execCanBusOff c s
  | .recover c => Sys2Proof.Machine.execRecover c s
  | .canRecoveryComplete c => Sys2Proof.Machine.execCanRecoveryComplete c s
  | .panelStatusSend c => Sys2Proof.Machine.execPanelStatusSend c s
  | .open_ t count => Sys2Proof.Machine.execOpen t count s
  | .close t count => Sys2Proof.Machine.execClose t count s
  | .read t count addr => Sys2Proof.Machine.execRead t count addr s
  | .write t count addr data => Sys2Proof.Machine.execWrite t count addr data s
  | .sync t count => Sys2Proof.Machine.execSync t count s
  | .load t count ofs data => Sys2Proof.Machine.execLoad t count ofs data s
  | .confirm t count data => Sys2Proof.Machine.execConfirm t count data s
  | .postedWriteApply n => Sys2Proof.Machine.execPostedWriteApply n s
  | .rapSessionTimeout n => Sys2Proof.Machine.execRapSessionTimeout n s
  | .registerWrite n addr value => Sys2Proof.Machine.execRegisterWrite n addr value s
  | .rcRegisterRead n addr => Sys2Proof.Machine.execRcRegisterRead n addr s
  | .lowWordRead n addr => Sys2Proof.Machine.execLowWordRead n addr s
  | .ecnLinkChange p up => Sys2Proof.Machine.execEcnLinkChange p up s
  | .powerGood => Sys2Proof.Machine.execPowerGood s
  | .bootComplete fails => Sys2Proof.Machine.execBootComplete fails s
  | .configExit => Sys2Proof.Machine.execConfigExit s
  | .proveComplete => Sys2Proof.Machine.execProveComplete s
  | .mainSupplyLoss vmain => Sys2Proof.Machine.execMainSupplyLoss vmain s
  | .rideThroughEnd vmain us low => Sys2Proof.Machine.execRideThroughEnd vmain us low s
  | .supplyExcursion vmain extreme ms => Sys2Proof.Machine.execSupplyExcursion vmain extreme ms s
  | .supplyNormalRestored vmain ms => Sys2Proof.Machine.execSupplyNormalRestored vmain ms s
  | .holdupMeasurement ms volts => Sys2Proof.Machine.execHoldupMeasurement ms volts s
  | .keepReq => Sys2Proof.Machine.execKeepReq s
  | .autoKeep => Sys2Proof.Machine.execAutoKeep s
  | .wake n active => Sys2Proof.Machine.execWake n active s
  | .vkeepLoss => Sys2Proof.Machine.execVkeepLoss s
  | .temperatureSample x0 x1 x2 x3 x4 x5 x6 x7 board => Sys2Proof.Machine.execTemperatureSample x0 x1 x2 x3 x4 x5 x6 x7 board s
  | .shedLevelExit => Sys2Proof.Machine.execShedLevelExit s
  | .pllLockLoss d => Sys2Proof.Machine.execPllLockLoss d s
  | .clockRelock d locked => Sys2Proof.Machine.execClockRelock d locked s
  | .relockRetry d => Sys2Proof.Machine.execRelockRetry d s
  | .bothButtonsHeld => Sys2Proof.Machine.execBothButtonsHeld s
  | .mirrorLaneFault lane => Sys2Proof.Machine.execMirrorLaneFault lane s
  | .engClockRestored => Sys2Proof.Machine.execEngClockRestored s
  | .keepCrystalStopped => Sys2Proof.Machine.execKeepCrystalStopped s
  | .handleDiscrepancyClear d => Sys2Proof.Machine.execHandleDiscrepancyClear d s
  | .guardFaultClear d => Sys2Proof.Machine.execGuardFaultClear d s
  | .twoHandFaultClear d => Sys2Proof.Machine.execTwoHandFaultClear d s
  | .clampWindowBucket d k => Sys2Proof.Machine.execClampWindowBucket d k s
  | .limpHomeInputChange n level => Sys2Proof.Machine.execLimpHomeInputChange n level s
  | .partnerAuthLineChange claimed => Sys2Proof.Machine.execPartnerAuthLineChange claimed s
  | .partnerPresenceChange fitted => Sys2Proof.Machine.execPartnerPresenceChange fitted s
  | .dramCorrectableError r => Sys2Proof.Machine.execDramCorrectableError r s
  | .recorderScrubComplete lost badImg => Sys2Proof.Machine.execRecorderScrubComplete lost badImg s
  | .mainRailOff => Sys2Proof.Machine.execMainRailOff s
  | .keepEntryTimeout => Sys2Proof.Machine.execKeepEntryTimeout s
  | .wakeHoldElapsed => Sys2Proof.Machine.execWakeHoldElapsed s
  | .canBusError c tx lec by_ => Sys2Proof.Machine.execCanBusError c tx lec by_ s

end Sys2Proof.Machine
end

