-- ==== Sys2Proof/Machine/Step.lean ====
section
/-!
DEFINITION. Machine/Step.lean: one step takes the command at the front of the queue; with none waiting, time passes.
-/
namespace Sys2Proof.Machine

/-- Ticks of the 160 MHz time base that an idle step lasts: one drive frame of 25 µs (R165; DESIGN CHOICE, log entry 5). -/
def idleTicks : Nat := 4000

/-- No command waits: only time passes. -/
def State.idle (s : State) : State := { s with now := s.now + idleTicks }

/-- One step: the command at the front of the queue runs on the state with the queue's rest; an empty queue lets time pass. -/
def step (s : State) : Host.Outcome State Fault Refusal :=
  match s.pending with
  | [] => .next s.idle.gate
  | c :: rest => exec c { s with pending := rest }

/-- The state with the command that a word spells in front of its queue: unchanged, as no word spells a command. -/
def State.withFetchWord (s : State) (nbits w : Nat) : State :=
  match decodeTableWord nbits w with
  | some c => { s with pending := c :: s.pending }
  | none => s

end Sys2Proof.Machine
end

