-- ==== Sys2Proof/Safety.lean ====
section
/-!
DEFINITION. Safety.lean: the terms in which claims speak of a safe machine: the gated outputs of R422, the closed loop of R272, the fenced doorway
of R387, and the canonical form of the register file.
-/
namespace Sys2Proof.Machine

/-- The own AUTH line reads claimed and the logic runs: the gate of R422 is open. -/
def State.gateOpen (s : State) : Bool := s.flag F.RP_STATUS_AUTH && s.alive

/-- The drive enables of a doorway read low. -/
def State.denLow (s : State) (d : DIx) : Prop := s.flag (F.DEN_STATUS_DEN_A d) = false ∧ s.flag (F.DEN_STATUS_DEN_B d) = false

/-- While the gate is closed, both loops and every SO output are open and every drive enable is low. -/
def State.Gated (s : State) : Prop :=
  s.gateOpen = false →
    s.flag F.LOOP_STATUS_L1_CLOSED = false ∧ bitOf (s.rd F.LOOP_STATUS_L2) 0 = false ∧ s.rd F.SO_STATUS_ON = 0 ∧ ∀ d : DIx, s.denLow d

/-- The registers whose fields the gate may clear: LOOP_STATUS, SO_STATUS and each DEN_STATUS. -/
def gatedReg (a : Nat) : Bool :=
  a == F.LOOP_STATUS_L1_CLOSED.addr || a == F.LOOP_STATUS_L2.addr || a == F.SO_STATUS_ON.addr || allD.any (fun d => a == (F.DEN_STATUS_DEN_A d).addr)

/-- A member doorway that does not contribute closed keeps a loop open (R272). -/
def State.loopsSafe (s : State) : Prop :=
  (s.flag F.LOOP_STATUS_L1_CLOSED = true → ∀ d : DIx, (bitOf (s.rd F.LOOP1_MEMBERS % 2 ^ 24) d.val && s.declared d) = true → s.flag (F.SEQ_STATUS_LOOP_CONTRIB d) = true) ∧
  (bitOf (s.rd F.LOOP_STATUS_L2) 0 = true → ∀ d : DIx, (bitOf (s.rd F.LOOP2_MEMBERS % 2 ^ 24) d.val && s.declared d) = true → s.flag (F.SEQ_STATUS_LOOP_CONTRIB d) = true)

/-- What every run keeps of the outputs: the gate and the wiring of the loops. -/
def State.Inv (s : State) : Prop := s.Gated ∧ s.loopsSafe

/-- The command answers a next state, and `P` holds of it. -/
def Runs (c : Instr) (s : State) (P : State → Prop) : Prop := ∃ t, exec c s = .next t ∧ P t

/-- Two fields share no bit. -/
def Fld.apart (f g : Fld) : Prop := g.addr ≠ f.addr ∨ g.lo + g.w ≤ f.lo ∨ f.lo + f.w ≤ g.lo

/-- Every register field that shares no bit with those of the list reads as before. -/
def State.fieldsBut (s t : State) (l : List Fld) : Prop := ∀ g : Fld, (∀ f ∈ l, f.apart g) → t.rd g = s.rd g

/-- Behind the registers, `t` is as `u`. -/
def State.hiddenAs (u t : State) : Prop := ({ t with regs := u.regs } : State) = u

/-- Nothing has changed but the fields of the list. -/
def State.sameBut (s t : State) (l : List Fld) : Prop := s.hiddenAs t ∧ s.fieldsBut t l

/-- Nothing has changed. -/
def State.same (s t : State) : Prop := s.sameBut t []

/-- An address lies in the register window of a doorway other than d (R540). -/
def otherDoor (d : DIx) (a : Nat) : Bool :=
  decide (0x10000 ≤ a) && decide (a < 0x28000) && (decide (a < dw d 0) || decide (dw d 0x1000 ≤ a))

/-- Every other doorway is as before: the registers of its window and the state behind them. -/
def State.othersKept (s t : State) (d : DIx) : Prop :=
  (∀ a, otherDoor d a = true → t.reg a = s.reg a) ∧ ∀ e : DIx, e ≠ d → t.dwy e = s.dwy e

/-- The tick of doorway d that finds a timer run out decides by it: the sequencer runs, the timer has run out before and after the tick's
refresh, and no rule of the priorities 1 to 5 of R29 takes the tick. -/
def State.tickDue (s : State) (d : DIx) (due : State → Bool) : Bool :=
  let p := s.tickSees d
  s.on d && ((s.endMaint d).applyObst d).modState != 4 && ((s.endMaint d).applyObst d).sequences && due s && due p && (p.prio123 d).isNone && (p.prio4 d).isNone && (p.prio5 d).isNone

/-- The commands that act on one doorway alone, through what the image declares of it (R343), with that doorway. -/
def Instr.door : Sys2Proof.Instr → Option DIx
  | .proofPhaseTimeout d => some d
  | .sealTimeout d => some d
  | .unlockTimeout d => some d
  | .lockTimeout d => some d
  | .stepDeployTimeout d => some d
  | .stowTimeout d => some d
  | .warnTimeElapsed d => some d
  | .autoCloseElapsed d => some d
  | .retryDelayElapsed d => some d
  | .openReq d => some d
  | .closeReq d => some d
  | .proofReq d _ => some d
  | .passengerOpenInput d => some d
  | .syncSend d => some d
  | .lineReceived d _ _ _ => some d
  | .helloReceived d _ _ _ => some d
  | .headStatusReceived d _ _ => some d
  | .cfgAckReceived d _ _ => some d
  | .calHdrReceived d _ _ => some d
  | .calDataReceived d _ _ => some d
  | .frameLineDeadline d => some d
  | .depthFrameReady d => some d
  | .headPhyLinkLoss d => some d
  | .headPhyLinkUp d => some d
  | .headRetrainStart d _ => some d
  | .headFramesMissing d => some d
  | .headStatusMissing d => some d
  | .headRetrain d => some d
  | .headRetrainWindowExpired d => some d
  | .headBringupRepeat d => some d
  | .migrationTimeout d => some d
  | .sealSeamTask d _ => some d
  | .occupancyTask d _ => some d
  | .learnStart d => some d
  | .learnAbort d => some d
  | .discardPending d => some d
  | .modelLearned d => some d
  | .adaptationPass d => some d
  | .atRestReached d _ => some d
  | .move d _ => some d
  | .stop d _ => some d
  | .driveFbReceived d _ _ _ => some d
  | .driveFeedbackTimeout d => some d
  | .drivePhyLinkLoss d => some d
  | .driveRetrain d => some d
  | .drivePhyLinkUp d => some d
  | .driveRetrainWindowExpired d => some d
  | .driveBringupRepeat d => some d
  | .authConflictTimeout d => some d
  | .faultClearIntervalEnd d => some d
  | .denTestPulse d _ _ => some d
  | .denReadbackTimeout d _ _ => some d
  | .lineFaultSample d _ _ _ _ => some d
  | .lossClear d _ => some d
  | .referenceMakeEdge d _ => some d
  | .snap d _ => some d
  | .safetyEvalCycle d => some d
  | .ss1Timeout d => some d
  | .edgeFault d _ => some d
  | .edgeFaultClear d _ => some d
  | .lockCurrent d => some d
  | .lockStuckOn d => some d
  | .switchPlausibility d => some d
  | .isolationDiscrepancy d => some d
  | .handleOperated d => some d
  | .handleDiscrepancy d => some d
  | .tpsPulseCheck d _ _ _ => some d
  | .guardOpen d => some d
  | .guardClosed d => some d
  | .guardFault d => some d
  | .twoHandChange d => some d
  | .twoHandFault d _ => some d
  | .ossdChange d => some d
  | .lcDiscrepancy d => some d
  | .lcTest d => some d
  | .lcTestResponseTimeout d => some d
  | .lcTestOverdue d => some d
  | .evalSlotFault d _ => some d
  | .slotMoveComplete d _ => some d
  | .deferredMoveStart d => some d
  | .deferredMoveComplete d _ => some d
  | .sequencerMismatch d => some d
  | .cycleDue d => some d
  | .takeoverInputCheck d => some d
  | .handleDiscrepancyClear d => some d
  | .guardFaultClear d => some d
  | .twoHandFaultClear d => some d
  | _ => none

/-- The commands with an effect that needs no logic: the supply and the keep-alive domain (R511, R515), what the field ASICs do alone (R309), and
the levels at the pins. -/
def Instr.needsNoLogic : Sys2Proof.Instr → Bool
  | .fieldSupplyChange _ _ => true
  | .thermalShutdown _ _ => true
  | .channelCooled _ _ => true
  | .inrushWindowEnd _ _ => true
  | .clampEnd _ _ _ => true
  | .limpHomeChange _ _ => true
  | .partnerRestartIn _ => true
  | .ecnLinkChange _ _ => true
  | .powerGood => true
  | .mainSupplyLoss _ => true
  | .rideThroughEnd _ _ _ => true
  | .wake _ _ => true
  | .vkeepLoss => true
  | .keepCrystalStopped => true
  | .clampWindowBucket _ _ => true
  | .limpHomeInputChange _ _ => true
  | .partnerAuthLineChange _ => true
  | .partnerPresenceChange _ => true
  | .mainRailOff => true
  | .wakeHoldElapsed => true
  | _ => false

/-- The canonical form of the register file: addresses strictly rising, no word equal to its reset value. -/
def State.regsWf (s : State) : Prop := Al.wf resetWord s.regs = true

end Sys2Proof.Machine
end

