-- ==== Sys2Proof/Certificates/Slice0/Obligations.lean ====
section
/-!
DEFINITION. Certificates/Slice0/Obligations.lean: the statements about the DS24 block, for the provers. `Runs c s P` says that the command c
answers a next state of which P holds; `s.sameBut t l` that t differs from s in the register fields of l alone.
-/
open Sys2Proof Sys2Proof.Machine

/-! ## The block -/

/-- The command at the front of the queue is what a step runs, on the state with the queue's rest; an empty queue only lets time pass, 25 µs
a step (log 5). -/
def Obligations.StepRunsFrontCommand : Prop :=
  (∀ (s : State) (c : Instr) (rest : List Instr), s.pending = c :: rest → step s = exec c { s with pending := rest }) ∧
  (∀ s : State, s.pending = [] → step s = .next ({ s with now := s.now + 4000 } : State).gate)

/-- Every command answers a next state, in every state, and touches neither the queue, nor the fuses and straps, nor the clock. -/
def Obligations.EveryCommandCompletes : Prop :=
  ∀ (c : Instr) (s : State), Runs c s fun t => t.pending = s.pending ∧ t.chip = s.chip ∧ t.now = s.now

/-- R422, R411, R511 and R272 as an invariant: every step from a state that has it leaves the gated outputs off while the gate is closed, and
no loop closed that has a member contributing open. -/
def Obligations.StepKeepsOutputsInvariant : Prop :=
  ∀ s t : State, s.Inv → step s = .next t → t.Inv

/-- The state after reset has the invariant of the outputs. -/
def Obligations.ResetHasOutputsInvariant : Prop := State.reset.Inv

/-- Whatever the state before, a command leaves the drive enables, the loops and the SO outputs off while the own AUTH line reads unclaimed
(R422). -/
def Obligations.UnclaimedLineTurnsOutputsOff : Prop :=
  ∀ (c : Instr) (s : State), Runs c s fun t => t.flag F.RP_STATUS_AUTH = false →
    t.flag F.LOOP_STATUS_L1_CLOSED = false ∧ bitOf (t.rd F.LOOP_STATUS_L2) 0 = false ∧ t.rd F.SO_STATUS_ON = 0 ∧
    ∀ d : DIx, t.flag (F.DEN_STATUS_DEN_A d) = false ∧ t.flag (F.DEN_STATUS_DEN_B d) = false


/-! ## The doorway -/

/-- R46, R47, R281, R285, R346: a request of a participating doorway only sets its bit in SEQ_CMD, or the open request that a
passenger input makes; the next tick takes or refuses it.
R33: AUTO_CLOSE elapsed in OPEN is a close demand, and the tick enters WARNING with cause 0x03; 0 switches it off. R42: RETRY_DELAY elapsed in
HELD starts a retry, WARNING with cause 0x15, where no open request comes first. R282: a limit that a phase of a proof stroke has not met in
time is the failure of the stroke, which ends in UNPROVEN with cause 0x13, at once where the leaves are at rest and no SS1 runs. That a timer acts through a command of its own, which runs the tick, is the model's choice (log 23, 27). -/
def Obligations.RequestsWaitAndTimersEnd : Prop :=
  (∀ (s : State) (d : DIx),
    s.on d = true →
    Runs (.openReq d) s fun t => t.flag (F.SEQ_CMD_OPEN_REQ d) = true ∧
      (s.Inv → s.sameBut t [F.SEQ_CMD_OPEN_REQ d])) ∧
  (∀ (s : State) (d : DIx),
    s.on d = true →
    Runs (.closeReq d) s fun t => t.flag (F.SEQ_CMD_CLOSE_REQ d) = true ∧
      (s.Inv → s.sameBut t [F.SEQ_CMD_CLOSE_REQ d])) ∧
  (∀ (s : State) (d : DIx) (net : Bool),
    s.on d = true →
    Runs (.proofReq d net) s fun t => t.flag (F.SEQ_CMD_PROOF_REQ d) = true ∧
      (s.Inv → (s.modSeq d (fun q => { q with proofNet := net })).hiddenAs t ∧ s.fieldsBut t [F.SEQ_CMD_PROOF_REQ d])) ∧
  (∀ (s : State) (d : DIx) (net : Bool),
    s.on d = true →
    s.st d = .unproven →
    Runs (.proofAll net) s fun t => t.flag (F.SEQ_CMD_PROOF_REQ d) = true) ∧
  (∀ (s : State) (d : DIx),
    s.on d = true →
    (s.seq d).openEdge = true →
    Runs (.passengerOpenInput d) s fun t => (t.seq d).openIn = true ∧
      (s.Inv → (s.modSeq d (fun q => { q with openEdge := false, openIn := true })).hiddenAs t ∧ s.fieldsBut t [])) ∧
  (∀ (s : State) (d : DIx),
    s.tickDue d (fun p => p.autoCloseDue d && !p.flag (F.SEQ_STATUS_TAKEOVER_HOLD d)) = true →
    Runs (.autoCloseElapsed d) s fun t => t.st d = .warning ∧
      t.rd (F.SEQ_CAUSE d) = 0x03) ∧
  (∀ (s : State) (d : DIx),
    s.tickDue d (fun p => p.retryDue d && !(p.openReq d && p.flag (F.SEQ_STATUS_RELEASE_OK d)) && !p.flag (F.SEQ_STATUS_TAKEOVER_HOLD d)) = true →
    Runs (.retryDelayElapsed d) s fun t => t.st d = .warning ∧
      t.rd (F.SEQ_CAUSE d) = 0x15) ∧
  (∀ (s : State) (d : DIx),
    s.tickDue d (fun p => p.st d == SeqState.proofStroke && (p.seq d).fail == none && p.zeroSpeed && !((p.obst d).cause.isSome && p.rd (F.OBST_STATUS_SS1 d) != 0) &&
      !p.flag (F.PROVE_STATUS_PLAUS_ERR d) && p.sw d 4 && !p.phasePasses d (p.seq d).phase &&
      (match p.phaseLimit d (p.seq d).phase with | some n => p.past (p.seq d).phaseFrom (msT n) | none => false)) = true →
    Runs (.proofPhaseTimeout d) s fun t => (if (s.tickSees d).leafMoving d = true ∨ (s.tickSees d).rd (F.OBST_STATUS_SS1 d) = 1 then (t.seq d).fail = some ((s.tickSees d).seq d).phase
       else t.st d = SeqState.unproven ∧ t.rd (F.SEQ_CAUSE d) = 0x13 ∧ t.flag (F.PROOF_LAST_PASS d) = false ∧ t.rd (F.PROOF_LAST_CAUSE d) = ((s.tickSees d).seq d).phase % 16))

/-- R33, R35, R42, R43: where the tick that finds a timer of a state run out is free to act on it (`tickDue`), it enters the state the table
gives, with its cause: SEALING to OPENING or HELD with 0x0B, UNLOCKING to STEP_STOW with 0x0C, LOCKING to HELD with 0x0D, STEP_DEPLOY to
STEP_STOW and STEP_STOW to HELD with 0x0E, WARNING to CLOSING with 0x16.
R248, R259, R268: after an evaluation cycle of a participating doorway, and after its sequencer tick, SEQ_STATUS.LOOP_CONTRIB says what the
conditions of the loop contribution give in the state that is left, closed while a fence waits for none; the cycle shows RELEASE_OK as the release conditions give it. That a timer acts through a command of its own, which runs the tick, is the model's choice (log 23, 27). -/
def Obligations.TicksEndStates : Prop :=
  (∀ (s : State) (d : DIx),
    s.tickDue d (fun p => p.st d == SeqState.sealing && p.inStateFor d p.sealLimit) = true →
    Runs (.sealTimeout d) s fun t => t.st d = (if (s.tickSees d).flag (F.SEQ_CFG_SEAL_FAIL_REOPEN d) && (s.tickSees d).flag (F.SEQ_STATUS_RELEASE_OK d) then SeqState.opening else SeqState.held) ∧
      t.rd (F.SEQ_CAUSE d) = 0x0B) ∧
  (∀ (s : State) (d : DIx),
    s.tickDue d (fun p => p.st d == SeqState.unlocking && !p.lockedOpen d && p.lockRan d (10 * p.rd (F.SEQ_LIMITS_UNLOCK_TIMEOUT d))) = true →
    Runs (.unlockTimeout d) s fun t => t.st d = .stepStow ∧
      t.rd (F.SEQ_CAUSE d) = 0x0C) ∧
  (∀ (s : State) (d : DIx),
    s.tickDue d (fun p => p.st d == SeqState.locking && !p.lockedMade d && p.lockRan d (10 * p.rd (F.SEQ_LIMITS_LOCK_TIMEOUT d))) = true →
    Runs (.lockTimeout d) s fun t => t.st d = .held ∧
      t.rd (F.SEQ_CAUSE d) = 0x0D) ∧
  (∀ (s : State) (d : DIx),
    s.tickDue d (fun p => p.st d == SeqState.stepDeploy && !p.atRestAt d 2 (p.rd (F.STEP_STATUS_TARGET d)) && p.inStateFor d 1200) = true →
    Runs (.stepDeployTimeout d) s fun t => t.st d = .stepStow ∧
      t.rd (F.SEQ_CAUSE d) = 0x0E) ∧
  (∀ (s : State) (d : DIx),
    s.tickDue d (fun p => p.st d == SeqState.stepStow && !p.sw d 4 && p.inStateFor d (10 * p.rd (F.SEQ_LIMITS_STOW_TIMEOUT d))) = true →
    Runs (.stowTimeout d) s fun t => t.st d = .held ∧
      t.rd (F.SEQ_CAUSE d) = 0x0E) ∧
  (∀ (s : State) (d : DIx),
    s.tickDue d (fun p => p.st d == SeqState.warning && p.past (p.seq d).warnFrom (msT (100 * p.rd (F.SEQ_TIMING_WARN_TIME d)))) = true →
    Runs (.warnTimeElapsed d) s fun t => t.st d = .closing ∧
      t.rd (F.SEQ_CAUSE d) = 0x16) ∧
  (∀ (s : State) (d : DIx),
    s.on d = true →
    Runs (.sequencerTick d) s fun t => t.flag (F.SEQ_STATUS_LOOP_CONTRIB d) = (t.contribution d && !(t.dwy d).fencePend)) ∧
  (∀ (s : State) (d : DIx),
    s.on d = true →
    Runs (.safetyEvalCycle d) s fun t => t.flag (F.SEQ_STATUS_LOOP_CONTRIB d) = (t.contribution d && !(t.dwy d).fencePend) ∧
      t.flag (F.SEQ_STATUS_RELEASE_OK d) = t.releaseOk d)

/-- R278, R280, R392: a crew edge that was high for less than 100 ms or more than 2,000 ms only shows in RESET_STATUS, as does a RESET_REQ edge, for
every participating doorway; a valid crew edge at a doorway in FENCED whose sources have cleared enters UNPROVEN with cause 0x14.
R278: a reset input active for more than 2,000 ms sets HELD_LONG, shows result 3 and is not ready for another edge. R190, R280: 5 ms after a
reset edge on a doorway fenced by source 2 alone, the source clears where the drive is clear, and the doorway enters UNPROVEN. What a clear drive is, and that a module without authority acts on no doorway, is read as logs 30 and 45 say. -/
def Obligations.ResetEdgesAct : Prop :=
  (∀ (s : State) (d : DIx) (ms : Nat),
    s.on d = true →
    (s.lockH d).crewEdge = some ms →
    ms < 100 ∨ 2000 < ms →
    Runs (.resetEdge (.crew d)) s fun t => (t.lockH d).crewEdge = none ∧
      t.rd (F.RESET_STATUS_LAST_SRC d) = 1 ∧
      t.rd (F.RESET_STATUS_LAST_RESULT d) = (if ms < 100 then 2 else 3) ∧
      (s.Inv → (s.modLock d (fun l => { l with crewEdge := none })).hiddenAs t ∧ s.fieldsBut t [F.RESET_STATUS_LAST_SRC d, F.RESET_STATUS_LAST_RESULT d])) ∧
  (∀ (s : State) (d : DIx) (ms : Nat),
    s.on d = true →
    (s.lockH d).crewEdge = some ms →
    100 ≤ ms →
    ms ≤ 2000 →
    s.hasAuth = true →
    s.st d = .fenced →
    s.fenceSet d = 0 →
    s.modState ≠ 4 →
    Runs (.resetEdge (.crew d)) s fun t => t.st d = .unproven ∧
      t.rd (F.SEQ_CAUSE d) = 0x14) ∧
  (∀ (s : State) (d : DIx) (ms : Nat),
    s.on d = true →
    s.trn.rstEdge = some ms →
    ms < 100 ∨ 2000 < ms →
    Runs (.resetEdge .request) s fun t => t.trn.rstEdge = none ∧
      t.rd (F.RESET_STATUS_LAST_SRC d) = 2 ∧
      t.rd (F.RESET_STATUS_LAST_RESULT d) = (if ms < 100 then 2 else 3)) ∧
  (∀ (s : State) (d : DIx) (t0 : Nat),
    s.on d = true →
    (s.lockH d).crewOn = some t0 →
    t0 + msT 2000 < s.now →
    Runs (.resetInputHeldLong (.crew d)) s fun t => (t.lockH d).crewReady = false ∧
      t.flag (F.RESET_STATUS_HELD_LONG d) = true ∧
      t.rd (F.RESET_STATUS_LAST_RESULT d) = 3 ∧
      (s.Inv → (s.modLock d (fun l => { l with crewReady := false })).hiddenAs t ∧ s.fieldsBut t [F.RESET_STATUS_HELD_LONG d, F.RESET_STATUS_LAST_SRC d, F.RESET_STATUS_LAST_RESULT d])) ∧
  (∀ (s : State) (d : DIx) (t0 : Nat),
    s.on d = true →
    s.trn.rstOn = some t0 →
    t0 + msT 2000 < s.now →
    Runs (.resetInputHeldLong .request) s fun t => t.trn.rstReady = false ∧
      t.flag (F.RESET_STATUS_HELD_LONG d) = true ∧
      t.rd (F.RESET_STATUS_LAST_RESULT d) = 3) ∧
  (∀ (s : State) (d : DIx) (e : HeldEdge) (l : List HeldEdge),
    s.on d = true →
    (s.drv d).edges = e :: l →
    e.at_ + msT 5 ≤ s.now →
    s.driveClear d = true →
    s.fenceSet d = 2 →
    s.st d = .fenced →
    (s.dwy d).fencePend = false →
    s.modState ≠ 4 →
    Runs (.faultClearIntervalEnd d) s fun t => t.st d = .unproven ∧
      t.rd (F.SEQ_CAUSE d) = 0x14 ∧
      (t.drv d).edges = l) ∧
  (∀ (s : State) (d : DIx) (e : HeldEdge) (l : List HeldEdge),
    s.on d = true →
    (s.drv d).edges = e :: l →
    e.at_ + msT 5 ≤ s.now →
    e.src = 1 →
    s.driveClear d = true →
    s.fenceSet d = 2 →
    s.st d = .fenced →
    (s.dwy d).fencePend = false →
    s.modState ≠ 4 →
    Runs (.faultClearIntervalEnd d) s fun t => t.rd (F.RESET_STATUS_LAST_SRC d) = 1 ∧
      t.rd (F.RESET_STATUS_LAST_RESULT d) = 0)

/-! ## Depth heads, Topiary and the engine pairs -/

/-- R56: where the PHY link of the head is up, a LINE, HELLO, STATUS, CFG_ACK, CAL_HDR or CAL_DATA telegram that fails its check changes nothing but ERR_CRC, which counts it and
stays at its largest value. A LINE of which a checker unit takes a copy is judged by that unit too (R406) and is not meant here.
R61, R66, R72, R74, R76, R77: a HELLO shows the head's identity and HELLO_OK says whether it is the expected one; a STATUS shows lock, following and fault bits and
answers the SYNCs; a CFG_ACK counts for the HEAD_CFG that it answers; CAL_HDR and CAL_DATA are stored; a LINE is stored with its frame. That a frame waits for its deadline, and what lines of a row that does not exist count as, are the model's readings (log 75, 143). -/
def Obligations.HeadTelegramsAreTaken : Prop :=
  (∀ (s : State) (d : DIx) (ok : Bool) (src : BitVec 48) (p : List Byte),
    s.on d = true →
    (s.head d).phyUp = true →
    headTelegram 0x11 ok p = false →
    Runs (.helloReceived d ok src p) s fun t => t.rd (F.ERR_CRC d) = min (s.rd (F.ERR_CRC d) + 1) (2 ^ 32 - 1) ∧
      (s.Inv → s.sameBut t [F.ERR_CRC d])) ∧
  (∀ (s : State) (d : DIx) (ok : Bool) (p : List Byte),
    s.on d = true →
    (s.head d).phyUp = true →
    headTelegram 0x12 ok p = false →
    Runs (.headStatusReceived d ok p) s fun t => t.rd (F.ERR_CRC d) = min (s.rd (F.ERR_CRC d) + 1) (2 ^ 32 - 1) ∧
      (s.Inv → s.sameBut t [F.ERR_CRC d])) ∧
  (∀ (s : State) (d : DIx) (ok : Bool) (p : List Byte),
    s.on d = true →
    (s.head d).phyUp = true →
    headTelegram 0x13 ok p = false →
    Runs (.cfgAckReceived d ok p) s fun t => t.rd (F.ERR_CRC d) = min (s.rd (F.ERR_CRC d) + 1) (2 ^ 32 - 1) ∧
      (s.Inv → s.sameBut t [F.ERR_CRC d])) ∧
  (∀ (s : State) (d : DIx) (ok : Bool) (p : List Byte),
    s.on d = true →
    (s.head d).phyUp = true →
    headTelegram 0x14 ok p = false →
    Runs (.calHdrReceived d ok p) s fun t => t.rd (F.ERR_CRC d) = min (s.rd (F.ERR_CRC d) + 1) (2 ^ 32 - 1) ∧
      (s.Inv → s.sameBut t [F.ERR_CRC d])) ∧
  (∀ (s : State) (d : DIx) (ok : Bool) (p : List Byte),
    s.on d = true →
    (s.head d).phyUp = true →
    headTelegram 0x15 ok p = false →
    Runs (.calDataReceived d ok p) s fun t => t.rd (F.ERR_CRC d) = min (s.rd (F.ERR_CRC d) + 1) (2 ^ 32 - 1) ∧
      (s.Inv → s.sameBut t [F.ERR_CRC d])) ∧
  (∀ (s : State) (d : DIx) (ok : Bool) (p : List Byte) (cf : CheckFault),
    s.on d = true →
    (s.head d).phyUp = true →
    s.cvuOf 1 d.val = none →
    (ok && p.length == 980 && fieldAt p 0 1 == 0x10 && fieldAt p 1 1 == 1 && crcTail p) = false →
    Runs (.lineReceived d ok p cf) s fun t => t.rd (F.ERR_CRC d) = min (s.rd (F.ERR_CRC d) + 1) (2 ^ 32 - 1) ∧
      (s.Inv → s.sameBut t [F.ERR_CRC d])) ∧
  (∀ (s : State) (d : DIx) (ok : Bool) (src : BitVec 48) (p : List Byte),
    s.on d = true →
    (s.head d).phyUp = true →
    headTelegram 0x11 ok p = true →
    Runs (.helloReceived d ok src p) s fun t => t.rd (F.HEAD_ID_VENDOR d) = fieldAt p 2 2 % 2 ^ 16 ∧
      t.rd (F.HEAD_ID_MODEL d) = fieldAt p 4 2 % 2 ^ 16 ∧
      t.rd (F.HEAD_FW_VERSION d) = fieldAt p 6 2 % 2 ^ 16 ∧
      t.rd (F.HEAD_SERIAL d) = fieldAt p 8 4 % 2 ^ 32 ∧
      t.flag (F.HEAD_STATUS_HELLO_OK d) = decide (fieldAt p 2 2 = s.rd (F.HEAD_EXPECT_VENDOR d) ∧ fieldAt p 4 2 = s.rd (F.HEAD_EXPECT_MODEL d) ∧
        fieldAt p 16 2 = 640 ∧ fieldAt p 18 2 = 480 ∧ (s.rd (F.HEAD_EXPECT_SN d) = 0 ∨ s.rd (F.HEAD_EXPECT_SN d) = fieldAt p 8 4))) ∧
  (∀ (s : State) (d : DIx) (ok : Bool) (p : List Byte),
    s.on d = true →
    (s.head d).phyUp = true →
    headTelegram 0x12 ok p = true →
    Runs (.headStatusReceived d ok p) s fun t => t.flag (F.HEAD_STATUS_SYNC_LOCK d) = bitOf (fieldAt p 8 1) 0 ∧
      t.flag (F.HEAD_STATUS_FOLLOW d) = bitOf (fieldAt p 8 1) 1 ∧
      t.rd (F.HEAD_STATUS_FAULT d) = fieldAt p 9 1 % 64 ∧
      t.rd (F.HEAD_TEMP_SENSOR d) = fieldAt p 10 2 % 2 ^ 16 ∧
      t.rd (F.HEAD_TEMP_ILLUM d) = fieldAt p 12 2 % 2 ^ 16) ∧
  (∀ (s : State) (d : DIx) (ok : Bool) (p : List Byte),
    s.on d = true →
    (s.head d).phyUp = true →
    headTelegram 0x13 ok p = true →
    (fieldAt p 2 2 + 1) % 65536 = (s.head d).cfgSeq →
    Runs (.cfgAckReceived d ok p) s fun t => (t.head d).cfgAck = (fieldAt p 8 1 == 0 && (s.head d).cfgSent == some (fieldAt p 4 4)) ∧
      (s.Inv → s.fieldsBut t [])) ∧
  (∀ (s : State) (d : DIx) (ok : Bool) (p : List Byte),
    s.on d = true →
    (s.head d).phyUp = true →
    headTelegram 0x14 ok p = true →
    0 < (s.head d).calTry →
    Runs (.calHdrReceived d ok p) s fun t => (s.Inv → (s.modHead d (fun h => { h with calHdr := (p.drop 4).take 64, calData := [] })).hiddenAs t ∧ s.fieldsBut t [])) ∧
  (∀ (s : State) (d : DIx) (ok : Bool) (p : List Byte),
    s.on d = true →
    (s.head d).phyUp = true →
    headTelegram 0x15 ok p = true →
    0 < (s.head d).calTry →
    (s.head d).opening = true →
    (s.head d).calHdr ≠ [] →
    s.flag (F.HEAD_STATUS_CAL_OK d) = false →
    fieldAt p 4 4 % 1024 = 0 →
    fieldAt p 4 4 ≠ 1024 * 1199 →
    Runs (.calDataReceived d ok p) s fun t => (s.Inv → (s.modHead d (fun h => { h with calData := Al.insert h.calData (fieldAt p 4 4 / 1024) ((p.drop 8).take 1024) })).hiddenAs t ∧ s.fieldsBut t [])) ∧
  (∀ (s : State) (d : DIx) (ok : Bool) (p : List Byte) (cf : CheckFault) (c : Cap),
    s.on d = true →
    (s.head d).phyUp = true →
    s.cvuOf 1 d.val = none →
    (ok && p.length == 980 && fieldAt p 0 1 == 0x10 && fieldAt p 1 1 == 1 && crcTail p) = true →
    fieldAt p 6 2 < 480 →
    c ∈ (s.head d).caps →
    c.ctr = some (fieldAt p 2 2) →
    s.tb ≤ c.start + usT 19000 →
    Runs (.lineReceived d ok p cf) s fun t => { c with ctr := some (fieldAt p 2 2), lines := Al.insert c.lines (480 * (fieldAt p 4 1 % 8) + fieldAt p 6 2) p, lastAt := s.tb } ∈ (t.head d).caps ∧
      (s.Inv → s.fieldsBut t []))

/-- R59, R79, R80: with PHY up, LINK 1 becomes 2 and SYNC goes out every 20 ms with a rising sequence number; a bring-up that has run 400 ms without reaching service sets
HEAD_FAULT, and one that has failed is repeated after 2 s.
R78, R79: PHY loss in service, five missing frames, five missing STATUS and a host request each start a bring-up of the head link: LINK reads 1, the
bring-up runs from now and recovery window 2 of the doorway is open. HEAD_RETRAIN_START does so for the trigger it names, where that trigger holds. The moment counted from and the triggers outside service are read as logs 51 and 76 say. -/
def Obligations.HeadLinkRetrains : Prop :=
  (∀ (s : State) (d : DIx),
    s.on d = true →
    (s.head d).phyUp = false →
    Runs (.headPhyLinkUp d) s fun t => (t.head d).phyUp = true ∧
      t.rd (F.HEAD_STATUS_LINK d) = (if s.rd (F.HEAD_STATUS_LINK d) = 1 then 2 else s.rd (F.HEAD_STATUS_LINK d)) ∧
      (s.Inv → s.fieldsBut t [F.HEAD_STATUS_LINK d])) ∧
  (∀ (s : State) (d : DIx),
    s.on d = true →
    (s.head d).phyUp = true →
    ((s.head d).lastSync = none ∨ ∃ x, (s.head d).lastSync = some x ∧ x + msT 20 ≤ s.now) →
    Runs (.syncSend d) s fun t => (t.head d).lastSync = some s.now ∧
      (t.head d).seq = ((s.head d).seq + 1) % 65536 ∧
      (t.head d).answered = false ∧
      (t.head d).syncs = (((s.head d).seq, s.tb) :: (s.head d).syncs).take 8 ∧
      t.rd (F.HEAD_STATUS_LINK d) = (if s.rd (F.HEAD_STATUS_LINK d) = 1 then 2 else s.rd (F.HEAD_STATUS_LINK d)) ∧
      (s.Inv → s.fieldsBut t [F.HEAD_STATUS_LINK d, F.HEAD_STATUS_CFG_OK d])) ∧
  (∀ (s : State) (d : DIx),
    s.on d = true →
    (s.head d).opening = true →
    (s.head d).trig + msT 400 ≤ s.now →
    Runs (.headRetrainWindowExpired d) s fun t => t.flag (F.HEAD_STATUS_HEAD_FAULT d) = true) ∧
  (∀ (s : State) (d : DIx) (t0 : Nat),
    s.on d = true →
    (s.head d).failedAt = some t0 →
    t0 + msT 2000 ≤ s.now →
    (s.head d).opening = false →
    Runs (.headBringupRepeat d) s fun t => (t.head d).failedAt = some s.now ∧
      (t.head d).opening = true ∧
      t.rd (F.HEAD_STATUS_LINK d) = 1) ∧
  (∀ (s : State) (d : DIx) (cause : Fin 5),
    s.on d = true →
    (cause = 0 ∧ s.rd (F.HEAD_STATUS_LINK d) = 0 ∧ s.modState ≠ 0) ∨ (cause = 1 ∧ s.rd (F.HEAD_STATUS_LINK d) = 3 ∧ (s.head d).phyUp = false) ∨
      (cause = 2 ∧ s.framesMissing d = true) ∨ (cause = 3 ∧ s.statusMissing d = true) ∨ (cause = 4 ∧ s.flag (F.HEAD_CTL_RETRAIN d) = true) →
    Runs (.headRetrainStart d cause) s fun t => t.winOpen 2 d.val = true ∧
      (t.head d).opening = true ∧
      (t.head d).trig = s.now ∧
      t.rd (F.HEAD_STATUS_LINK d) = 1) ∧
  (∀ (s : State) (d : DIx),
    s.on d = true →
    s.framesMissing d = true →
    Runs (.headFramesMissing d) s fun t => t.winOpen 2 d.val = true ∧
      (t.head d).opening = true ∧
      (t.head d).trig = s.now ∧
      t.rd (F.HEAD_STATUS_LINK d) = 1) ∧
  (∀ (s : State) (d : DIx),
    s.on d = true →
    s.statusMissing d = true →
    Runs (.headStatusMissing d) s fun t => t.winOpen 2 d.val = true ∧
      (t.head d).opening = true ∧
      (t.head d).trig = s.now ∧
      t.rd (F.HEAD_STATUS_LINK d) = 1) ∧
  (∀ (s : State) (d : DIx),
    s.on d = true →
    Runs (.headRetrain d) s fun t => t.winOpen 2 d.val = true ∧
      (t.head d).opening = true ∧
      (t.head d).trig = s.now ∧
      t.rd (F.HEAD_STATUS_LINK d) = 1) ∧
  (∀ (s : State) (d : DIx),
    s.on d = true →
    (s.head d).phyUp = true →
    s.rd (F.HEAD_STATUS_LINK d) ≠ 0 →
    Runs (.headPhyLinkLoss d) s fun t => t.winOpen 2 d.val = true ∧
      (t.head d).opening = true ∧
      (t.head d).trig = s.now ∧
      t.rd (F.HEAD_STATUS_LINK d) = 1 ∧
      (t.head d).phyUp = false ∧
      t.rd (F.PATH_DELAY d) = 0 ∧
      t.rd (F.RETRAINS d) = min (s.rd (F.RETRAINS d) + 1) (2 ^ 32 - 1)) ∧
  (∀ (s : State) (d : DIx),
    s.on d = true →
    (s.head d).phyUp = false ∨ s.rd (F.HEAD_STATUS_LINK d) = 0 →
    Runs (.headPhyLinkLoss d) s fun t => (t.head d).phyUp = false ∧
      t.rd (F.PATH_DELAY d) = 0 ∧
      (s.Inv → (s.modHead d (fun x => { x with phyUp := false, delays := [], syncs := [], lastSync := none })).hiddenAs t ∧ s.fieldsBut t [F.PATH_DELAY d]))

/-- R65, R69: at T_START + 19.0 ms a frame of which no line has come is rejected, from step 7 of a bring-up on: its 3,840 lines count as missing, it counts in ERR_FRAMES, and no run of accepted
frames lasts. R87, R143: a depth frame of the newest raw frame enters the stages of the pair of its doorway, as both copies have it, with nothing compared yet.
R134, R138, R141: equal signatures of a tile that does not complete the frame are kept with it, with the longest tile time, and change nothing else; of a tile that both copies skip nothing is kept; a self-test that passes shows in
BINDER_OK and moves to the next bit.
R137, R138, R139, R141: while a pair works on a frame, signatures that differ are a mismatch of kind 0, differing verdict words of S7 one of kind 1, an overflow of one copy
of kind 2, a tile that one copy skipped of kind 3, a stage that one copy completed 10 ms before the other of kind 4, a failed self-test of kind 5; MISMATCH holds the kind, the stage
and the tile, 0x1FF for a list stage. The deadline and the frame signature are read as logs 75 and 77 say. -/
def Obligations.BinderComparesFrames : Prop :=
  (∀ (s : State) (d : DIx) (c : Cap) (rest : List Cap),
    s.on d = true →
    (s.head d).caps = c :: rest →
    c.start + usT 19000 ≤ s.tb →
    7 ≤ (s.head d).step →
    c.ctr = none →
    c.lines = [] →
    Runs (.frameLineDeadline d) s fun t => (t.head d).accN = 0 ∧
      (t.head d).caps = rest ∧
      t.rd (F.ERR_LINES d) = min (s.rd (F.ERR_LINES d) + 3840) (2 ^ 32 - 1) ∧
      t.rd (F.ERR_FRAMES d) = min (s.rd (F.ERR_FRAMES d) + 1) (2 ^ 32 - 1)) ∧
  (∀ (s : State) (d : DIx) (p : PIx) (r : RawFrame),
    s.on d = true →
    s.pairOf d = some p →
    s.pairReady p = true →
    s.regionReady d = true →
    s.nextRaw p d = some r →
    Runs (.depthFrameReady d) s fun t => (t.eng p).cur.isSome = true ∧
      (t.eng p).sigs = [] ∧
      (t.eng p).curAt = s.now ∧
      (t.eng p).doneT = some r.trefTb) ∧
  (∀ (s : State) (p : PIx) (stage : Fin 8) (tile : Fin 300) (badU badR : Word) (skipU skipR ovfU ovfR words : Bool) (dur : BitVec 16) (c : CopyOut × CopyOut) (d : DIx) (u r : Word) (skU skR oU oR : Bool),
    s.alive = true →
    s.pairHere p = true →
    (s.eng p).cur = some c →
    s.pairDwy p = some d →
    u = c.1.sig stage.val tile.val ^^^ badU →
    r = c.2.sig stage.val tile.val ^^^ badR →
    skU = (tileStage stage.val && decide (stage.val ≠ 0) && (c.1.skipped stage.val (if tileStage stage.val then tile.val else 0x1FF) != skipU)) →
    skR = (tileStage stage.val && decide (stage.val ≠ 0) && (c.2.skipped stage.val (if tileStage stage.val then tile.val else 0x1FF) != skipR)) →
    oU = (ovfU || c.1.ovf.contains stage.val) →
    oR = (ovfR || c.2.ovf.contains stage.val) →
    u = r →
    oU = false →
    oR = false →
    skU = false →
    skR = false →
    stage ≠ 7 ∨ (words = true ∧ c.1.res.word = c.2.res.word) →
    EngH.complete { (s.eng p) with sigs := Al.insert (s.eng p).sigs (sigKey stage.val tile.val) (u, u) } = false →
    Runs (.tileSignatureCompare p stage tile badU badR skipU skipR ovfU ovfR words dur) s fun t => t.rd (F.TILE_MAX_T p) = max (s.rd (F.TILE_MAX_T p)) dur.toNat ∧
      (s.Inv → (s.modEng p (fun e => { e with sigs := Al.insert (s.eng p).sigs (sigKey stage.val tile.val) (u, u) })).hiddenAs t ∧ s.fieldsBut t [F.TILE_MAX_T p])) ∧
  (∀ (s : State) (p : PIx) (stage : Fin 8) (tile : Fin 300) (badU badR : Word) (skipU skipR ovfU ovfR words : Bool) (dur : BitVec 16) (c : CopyOut × CopyOut) (d : DIx) (u r : Word) (skU skR oU oR : Bool),
    s.alive = true →
    s.pairHere p = true →
    (s.eng p).cur = some c →
    s.pairDwy p = some d →
    u = c.1.sig stage.val tile.val ^^^ badU →
    r = c.2.sig stage.val tile.val ^^^ badR →
    skU = (tileStage stage.val && decide (stage.val ≠ 0) && (c.1.skipped stage.val (if tileStage stage.val then tile.val else 0x1FF) != skipU)) →
    skR = (tileStage stage.val && decide (stage.val ≠ 0) && (c.2.skipped stage.val (if tileStage stage.val then tile.val else 0x1FF) != skipR)) →
    oU = (ovfU || c.1.ovf.contains stage.val) →
    oR = (ovfR || c.2.ovf.contains stage.val) →
    oU = false →
    oR = false →
    skU = true →
    skR = true →
    Runs (.tileSignatureCompare p stage tile badU badR skipU skipR ovfU ovfR words dur) s fun t => t.rd (F.TILE_MAX_T p) = max (s.rd (F.TILE_MAX_T p)) dur.toNat ∧
      (s.Inv → s.sameBut t [F.TILE_MAX_T p])) ∧
  (∀ (s : State) (p : PIx),
    s.alive = true →
    s.pairHere p = true →
    s.joined p = true →
    Runs (.binderSelftest p true) s fun t => t.flag (F.PAIR_STATUS_BINDER_OK p) = true ∧
      (s.Inv → (s.modEng p (fun e => { e with selfPos := (e.selfPos + 1) % 32 })).hiddenAs t ∧ s.fieldsBut t [F.PAIR_STATUS_BINDER_OK p])) ∧
  (∀ (s : State) (p : PIx) (stage : Fin 8) (tile : Fin 300) (badU badR : Word) (skipU skipR ovfU ovfR words : Bool) (dur : BitVec 16) (c : CopyOut × CopyOut) (d : DIx) (u r : Word) (skU skR oU oR : Bool) (kind : Nat),
    s.alive = true →
    s.pairHere p = true →
    (s.eng p).cur = some c →
    s.pairDwy p = some d →
    u = c.1.sig stage.val tile.val ^^^ badU →
    r = c.2.sig stage.val tile.val ^^^ badR →
    skU = (tileStage stage.val && decide (stage.val ≠ 0) && (c.1.skipped stage.val (if tileStage stage.val then tile.val else 0x1FF) != skipU)) →
    skR = (tileStage stage.val && decide (stage.val ≠ 0) && (c.2.skipped stage.val (if tileStage stage.val then tile.val else 0x1FF) != skipR)) →
    oU = (ovfU || c.1.ovf.contains stage.val) →
    oR = (ovfR || c.2.ovf.contains stage.val) →
    (kind = 2 ∧ oU ≠ oR) ∨ (kind = 3 ∧ oU = false ∧ oR = false ∧ skU ≠ skR) ∨
      (kind = 0 ∧ oU = false ∧ oR = false ∧ skU = false ∧ skR = false ∧ u ≠ r) ∨
      (kind = 1 ∧ oU = false ∧ oR = false ∧ stage = 7 ∧ u = r ∧ (words = false ∨ c.1.res.word ≠ c.2.res.word)) →
    Runs (.tileSignatureCompare p stage tile badU badR skipU skipR ovfU ovfR words dur) s fun t => t.rd (F.MISMATCH_KIND p) = (if s.pst p = pRejoining then 6 else kind) ∧
      t.rd (F.MISMATCH_STAGE p) = stage.val ∧
      t.rd (F.MISMATCH_TILE p) = (if tileStage stage.val then tile.val else 0x1FF)) ∧
  (∀ (s : State) (p : PIx) (stage : Fin 8),
    s.alive = true →
    s.pairHere p = true →
    (s.eng p).cur.isSome = true →
    s.joined p = true →
    (s.eng p).stageDone stage.val = false →
    (s.eng p).curAt + msT 10 ≤ s.now →
    Runs (.stageSkewTimeout p stage) s fun t => t.rd (F.MISMATCH_KIND p) = (if s.pst p = pRejoining then 6 else 4) ∧
      t.rd (F.MISMATCH_STAGE p) = stage.val ∧
      t.rd (F.MISMATCH_TILE p) = 0x1FF) ∧
  (∀ (s : State) (p : PIx),
    s.alive = true →
    s.pairHere p = true →
    s.joined p = true →
    Runs (.binderSelftest p false) s fun t => t.rd (F.MISMATCH_KIND p) = 5 ∧
      t.rd (F.MISMATCH_STAGE p) = 0 ∧
      t.rd (F.MISMATCH_TILE p) = 0x1FF)

/-- R143, R144: with the image of the new pair verified, the pair runs, and with no raw frame in DRAM the migration is complete: the pair is BOUND to its doorway and
the window is closed. 80 ms after the start the doorway is fenced with source 1.
R145, R146: a vacated pair, a spare pair every 600 s and a spare pair at a host request take the golden test; a request for any other pair is refused. A pass with fewer
than three mismatches returns a pair without a doorway to SPARE, anything else makes it FAULTY. The fence of the timeout is read as log 81 says. -/
def Obligations.MigrationsAndTestsEnd : Prop :=
  (∀ (s : State) (p : PIx) (d : DIx),
    s.alive = true →
    s.pairHere p = true →
    s.pairDwy p = some d →
    s.pst p = pMigrating →
    (s.eng p).job = .loading →
    s.modState ≠ 4 →
    (s.head d).raws = [] →
    Runs (.residentImageLoaded p true) s fun t => t.pst p = pBound ∧
      t.pairDwy p = some d ∧
      t.winOpen 0 d.val = false) ∧
  (∀ (s : State) (p : PIx) (d : DIx),
    s.alive = true →
    s.pairHere p = true →
    s.pairDwy p = some d →
    s.pst p = pMigrating →
    (s.eng p).job = .loading →
    s.modState ≠ 4 →
    (s.head d).raws ≠ [] →
    Runs (.residentImageLoaded p true) s fun t => (s.Inv → (s.modEng p (fun e => { e with job := .running })).hiddenAs t ∧ s.fieldsBut t [])) ∧
  (∀ (s : State) (d : DIx) (p : PIx),
    s.on d = true →
    s.pairOf d = some p →
    s.pst p = pMigrating →
    (s.eng p).jobAt + msT 80 ≤ s.now →
    (s.eng p).late = false →
    Runs (.migrationTimeout d) s fun t => bitOf (t.fenceSet d) 0 = true ∧
      (t.eng p).late = true) ∧
  (∀ (s : State) (p : PIx),
    s.alive = true →
    s.pairHere p = true →
    s.flag (F.PAIR_STATUS_TESTING p) = false →
    (s.eng p).vacated = true →
    s.pst p ≠ pFaulty →
    Runs (.goldenTestStart p) s fun t => t.flag (F.PAIR_STATUS_TESTING p) = true ∧
      (t.eng p).job = .golden ∧
      (t.eng p).jobAt = s.now) ∧
  (∀ (s : State) (p : PIx),
    s.alive = true →
    s.pairHere p = true →
    s.inRun = true →
    s.pst p = pSpare →
    s.fm poolEng p.val = 0 →
    (s.eng p).testDue + msT 590000 ≤ s.now →
    Runs (.goldenTestPeriodic p) s fun t => t.flag (F.PAIR_STATUS_TESTING p) = true ∧
      (t.eng p).job = .golden ∧
      (t.eng p).jobAt = s.now) ∧
  (∀ (s : State) (p : PIx),
    s.alive = true →
    s.pairHere p = true →
    s.pst p = pSpare →
    s.fm poolEng p.val = 0 →
    Runs (.pairSelftest p) s fun t => t.flag (F.PAIR_STATUS_TESTING p) = true ∧
      (t.eng p).job = .golden ∧
      (t.eng p).jobAt = s.now ∧
      t.flag (F.PAIR_CTL_SELFTEST p) = true) ∧
  (∀ (s : State) (p : PIx),
    s.alive = true →
    s.pairHere p = true →
    s.pst p ≠ pSpare ∨ s.fm poolEng p.val ≠ 0 →
    Runs (.pairSelftest p) s fun t => t.flag (F.PAIR_CTL_REFUSED p) = true ∧
      (s.Inv → s.sameBut t [F.PAIR_CTL_REFUSED p])) ∧
  (∀ (s : State) (p : PIx) (pass : Bool),
    s.alive = true →
    s.pairHere p = true →
    s.flag (F.PAIR_STATUS_TESTING p) = true →
    s.pairDwy p = none →
    Runs (.goldenTestComplete p pass) s fun t => t.pst p = (if pass = true ∧ s.rd (F.MISMATCH_CNT p) < 3 then pSpare else pFaulty) ∧
      t.fm poolEng p.val = (if pass = true ∧ s.rd (F.MISMATCH_CNT p) < 3 then 0 else 3) ∧
      t.flag (F.SELFTEST_LAST p) = pass ∧
      t.pairDwy p = none)

/-- R145, R148, R149, R150, R151: an uncorrectable error in a pair's local memory takes it out of service, a split pair to SUSPECT until its rejoin; after the decision a spare pair splits;
a rejoin starts at a host write; its steps lead a pair from SPLIT over REJOINING to BOUND; with no pair left it ends. -/
def Obligations.PairsSplitAndRejoin : Prop :=
  (∀ (s : State) (p : PIx),
    s.alive = true →
    s.pairHere p = true →
    Runs (.localMemoryEccError p) s fun t => t.pst p = (if s.pst p = pSplit then pSuspect else pFaulty)) ∧
  (∀ (s : State) (p : PIx) (t0 : Nat),
    s.alive = true →
    s.pairHere p = true →
    s.cop.decided = some t0 →
    s.pst p = pSpare →
    s.flag (F.PAIR_STATUS_TESTING p) = false →
    Runs (.pairSplit p) s fun t => t.pst p = pSplit ∧
      t.flag F.MOD_STATE_COPPICE = true ∧
      t.rd (F.TASKS_DONE p) = 0) ∧
  (∀ (s : State),
    s.alive = true →
    s.flag F.MOD_STATE_COPPICE = true →
    s.flag F.COPPICE_STATUS_REJOINING = false →
    s.outputsOff = false →
    Runs (.coppiceRejoin) s fun t => t.flag F.COPPICE_STATUS_REJOINING = true ∧
      t.flag F.COPPICE_CTL_REJOIN = true ∧
      t.cop.rejoinAt = some s.now ∧
      t.cop.trigger = 6) ∧
  (∀ (s : State),
    s.alive = true →
    s.flag F.MOD_STATE_COPPICE = false →
    s.flag F.COPPICE_STATUS_REJOINING = false →
    Runs (.coppiceRejoin) s fun t => t.flag F.COPPICE_CTL_REJOIN = false ∧
      (s.Inv → s.sameBut t [F.COPPICE_CTL_REJOIN])) ∧
  (∀ (s : State) (p : PIx) (ok : Bool),
    s.alive = true →
    s.pairHere p = true →
    (s.eng p).job = .rejoin 1 →
    (s.eng p).upEcc = false →
    Runs (.rejoinStepComplete p ok) s fun t => t.pst p = pRejoining ∧
      (t.eng p).job = .rejoin 3) ∧
  (∀ (s : State) (p : PIx) (ok : Bool),
    s.alive = true →
    s.pairHere p = true →
    (s.eng p).job = .rejoin 3 →
    Runs (.rejoinStepComplete p ok) s fun t => (s.Inv → (s.modEng p (fun e => { e with job := .rejoin 4 })).hiddenAs t ∧ s.fieldsBut t [])) ∧
  (∀ (s : State) (p : PIx) (d : DIx),
    s.alive = true →
    s.pairHere p = true →
    (s.eng p).job = .rejoin 4 →
    s.pairDwy p = some d →
    (s.head d).raws.length < 2 →
    Runs (.rejoinStepComplete p true) s fun t => t.pst p = pBound ∧
      (t.eng p).job = .none) ∧
  (∀ (s : State) (t0 : Nat),
    s.alive = true →
    s.cop.rejoinAt = some t0 →
    s.pairsIn pSplit = 0 →
    s.pairsIn pRejoining = 0 →
    Runs (.rejoinComplete) s fun t => t.flag F.MOD_STATE_COPPICE = false ∧
      t.flag F.COPPICE_STATUS_REJOINING = false ∧
      t.flag F.COPPICE_CTL_REJOIN = false ∧
      t.cop.rejoinAt = none ∧
      t.cop.endAt = some s.now)

/-! ## Learning, motion and position -/

/-- R155: a seal-seam task that is due takes the openings of the 32 bands from the newest depth frame: MAX_OPEN is no less than any of them, WARN says whether it exceeds SEAM_WARN, the age starts again.
R156: an occupancy task that is due counts persons from the area, and shows the share of valid floor pixels. A task that is not due changes nothing; of one whose accumulator overflows (R149) the result is discarded and the overflow is counted and shown.
R125, R126: 500 ms after the stroke, in CLOSED_LOCKED with a model, no drift and a bound pair, each adaptive pixel's offset moves by at most one step towards the median residual, once for the close; the new
offsets come into use at the next frame boundary, at once where the head delivers no frames (log 155). R173: AT_REST reads 1 once an axis that does not move has been within REST_WIN for REST_TIME.
R119, R121, R122, R124: a run starts at standstill under DEPOT in UNPROVEN, RELEASED or OPEN with 79 free sectors, with nothing accepted yet; otherwise it is refused and nothing else
happens. An abort ends it. After eight accepted cycles the build leaves a pending model; DISCARD_PENDING forgets it. The moment of rest, the task shown, the bands and the floor, and the frame boundary are read as logs 35, 159, 160, 161 and 155 say. -/
def Obligations.LearningAndTasksRun : Prop :=
  (∀ (s : State) (d : DIx) (r : RawFrame) (l : List RawFrame),
    s.on d = true →
    s.taskDue d s.cop.seamAt F.COPPICE_CFG_SEAM_EN = true →
    (s.head d).raws = r :: l →
    Runs (.sealSeamTask d false) s fun t => ((s.seamOpenings d r).all (fun b => match b with | some v => decide (min v 65535 ≤ t.rd (F.SEAM_SUM_MAX_OPEN d)) | none => true)) = true ∧
      t.rd (F.SEAM_SUM_MAX_OPEN d) = min (largestBand (s.seamOpenings d r)).1 65535 ∧
      t.flag (F.SEAM_SUM_WARN d) = decide (2 * s.rd F.COPPICE_CFG_SEAM_WARN < 5 * (largestBand (s.seamOpenings d r)).1) ∧
      t.rd (F.SEAM_SUM_AGE d) = 0 ∧
      (t.cop.seamAt.find? (fun x => x.1 == d.val)) = some (d.val, s.now)) ∧
  (∀ (s : State) (d : DIx) (ovf : Bool),
    s.on d = true →
    s.taskDue d s.cop.seamAt F.COPPICE_CFG_SEAM_EN = false ∨ (s.head d).raws = [] →
    Runs (.sealSeamTask d ovf) s fun t => (s.Inv → s.sameBut t [])) ∧
  (∀ (s : State) (d : DIx) (r : RawFrame) (l : List RawFrame),
    s.on d = true →
    s.taskDue d s.cop.occAt F.COPPICE_CFG_OCC_EN = true →
    s.taskDue d s.cop.seamAt F.COPPICE_CFG_SEAM_EN = false →
    (s.head d).raws = r :: l →
    Runs (.occupancyTask d false) s fun t => t.rd (F.OCC_AREA d) = min (s.occupiedArea d r) 65535 ∧
      t.rd (F.OCC_COUNT d) = min (roundDiv (t.rd (F.OCC_AREA d)) (s.rd F.COPPICE_CFG_PERSON_AREA)).toNat 255 ∧
      t.rd (F.OCC_QUALITY d) = (if (s.taskScene d).floorPixels.isEmpty then 0 else 100 * (s.floorSeen d r).length / (s.taskScene d).floorPixels.length) ∧
      t.rd (F.OCC_AGE_AGE d) = 0 ∧
      (t.cop.occAt.find? (fun x => x.1 == d.val)) = some (d.val, s.now)) ∧
  (∀ (s : State) (d : DIx) (ovf : Bool),
    s.on d = true →
    s.taskDue d s.cop.occAt F.COPPICE_CFG_OCC_EN = false ∨ s.taskDue d s.cop.seamAt F.COPPICE_CFG_SEAM_EN = true ∨ (s.head d).raws = [] →
    Runs (.occupancyTask d ovf) s fun t => (s.Inv → s.sameBut t [])) ∧
  (∀ (s : State) (d : DIx),
    s.on d = true →
    s.taskPool ≠ [] →
    s.taskDue d s.cop.seamAt F.COPPICE_CFG_SEAM_EN = true →
    (s.head d).raws ≠ [] →
    Runs (.sealSeamTask d true) s fun t => t.rd (F.ACC_OVF_CNT d) = min (s.rd (F.ACC_OVF_CNT d) + 1) (2 ^ (F.ACC_OVF_CNT d).w - 1) ∧
      t.flag (F.TOPI_STATUS_ACC_OVF d) = true ∧
      t.rd (F.SEAM_SUM_MAX_OPEN d) = s.rd (F.SEAM_SUM_MAX_OPEN d) ∧
      t.rd (F.SEAM_SUM_MAX_BAND d) = s.rd (F.SEAM_SUM_MAX_BAND d) ∧
      t.rd (F.SEAM_SUM_WARN d) = s.rd (F.SEAM_SUM_WARN d) ∧
      t.rd (F.SEAM_SUM_AGE d) = s.rd (F.SEAM_SUM_AGE d) ∧
      (t.cop.seamAt.find? (fun x => x.1 == d.val)) = some (d.val, s.now)) ∧
  (∀ (s : State) (d : DIx),
    s.on d = true →
    s.taskPool ≠ [] →
    s.taskDue d s.cop.occAt F.COPPICE_CFG_OCC_EN = true →
    s.taskDue d s.cop.seamAt F.COPPICE_CFG_SEAM_EN = false →
    (s.head d).raws ≠ [] →
    Runs (.occupancyTask d true) s fun t => t.rd (F.ACC_OVF_CNT d) = min (s.rd (F.ACC_OVF_CNT d) + 1) (2 ^ (F.ACC_OVF_CNT d).w - 1) ∧
      t.flag (F.TOPI_STATUS_ACC_OVF d) = true ∧
      t.rd (F.OCC_AREA d) = s.rd (F.OCC_AREA d) ∧
      t.rd (F.OCC_COUNT d) = s.rd (F.OCC_COUNT d) ∧
      t.rd (F.OCC_QUALITY d) = s.rd (F.OCC_QUALITY d) ∧
      t.rd (F.OCC_AGE_AGE d) = s.rd (F.OCC_AGE_AGE d) ∧
      (t.cop.occAt.find? (fun x => x.1 == d.val)) = some (d.val, s.now)) ∧
  (∀ (s : State) (d : DIx) (t0 : Nat),
    s.on d = true →
    (s.topi d).adaptFrom = some t0 →
    t0 + msT 500 ≤ s.now →
    (s.topi d).adapted = false →
    s.st d = .closedLocked →
    s.modelOk d = true →
    s.flag (F.TOPI_STATUS_DRIFT d) = false →
    s.resOf d poolEng < 32 →
    s.rd (F.PAIR_STATUS_STATE (Fin.ofNat 32 (s.resOf d poolEng))) = 2 →
    s.framed d = true →
    Runs (.adaptationPass d) s fun t => (t.topi d).adapted = true ∧
      (t.topi d).adaptFrom = none ∧
      (t.topi d).resids = [] ∧
      (t.topi d).offsNext = some ((List.range (s.topi d).offs.length).map (fun k =>
        adaptStep (nth (s.topi d).offs k 0) (nth ((List.range (s.topi d).offs.length).map (residMedian (s.topi d).resids)) k none))) ∧
      (t.topi d).offs = (s.topi d).offs) ∧
  (∀ (s : State) (d : DIx) (t0 : Nat),
    s.on d = true →
    (s.topi d).adaptFrom = some t0 →
    t0 + msT 500 ≤ s.now →
    (s.topi d).adapted = false →
    s.st d = .closedLocked →
    s.modelOk d = true →
    s.flag (F.TOPI_STATUS_DRIFT d) = false →
    s.resOf d poolEng < 32 →
    s.rd (F.PAIR_STATUS_STATE (Fin.ofNat 32 (s.resOf d poolEng))) = 2 →
    s.framed d = false →
    (s.topi d).confirmKey = none →
    Runs (.adaptationPass d) s fun t => (t.topi d).adapted = true ∧
      (t.topi d).adaptFrom = none ∧
      (t.topi d).resids = [] ∧
      (t.topi d).offsNext = none ∧
      (t.topi d).offs = (List.range (s.topi d).offs.length).map (fun k =>
        adaptStep (nth (s.topi d).offs k 0) (nth ((List.range (s.topi d).offs.length).map (residMedian (s.topi d).resids)) k none))) ∧
  (∀ (s : State) (d : DIx) (a : AIx),
    s.on d = true →
    s.flag (F.AX_STATUS_MOVING d a) = false →
    (s.rdS (F.DEVIATION d a)).natAbs ≤ s.rd (F.REST_REST_WIN d a) →
    40 * s.rd (F.REST_REST_TIME d a) ≤ (s.axis d a).restN →
    Runs (.atRestReached d a) s fun t => t.flag (F.AX_STATUS_AT_REST d a) = true ∧
      t.flag (F.AX_CMD_STOP d a) = false ∧
      (s.Inv → s.sameBut t [F.AX_STATUS_AT_REST d a, F.AX_CMD_STOP d a])) ∧
  (∀ (s : State) (d : DIx),
    s.on d = true →
    ((s.st d == .unproven || s.st d == .released || s.st d == .opened) && decide (79 ≤ s.freeSectors d.val) && s.zeroSpeed && s.flag F.TRN_STATUS_DEPOT) = true →
    Runs (.learnStart d) s fun t => t.flag (F.TOPI_STATUS_LEARNING d) = true ∧
      t.rd (F.TOPI_STATUS_LEARN_OK d) = 0 ∧
      t.rd (F.TOPI_STATUS_LEARN_TRY d) = 0 ∧
      t.flag (F.TOPI_CTL_LEARN_START d) = false ∧
      t.flag (F.TOPI_STATUS_PENDING d) = false) ∧
  (∀ (s : State) (d : DIx),
    s.on d = true →
    ((s.st d == .unproven || s.st d == .released || s.st d == .opened) && decide (79 ≤ s.freeSectors d.val) && s.zeroSpeed && s.flag F.TRN_STATUS_DEPOT) = false →
    Runs (.learnStart d) s fun t => t.flag (F.SEQ_CMD_REFUSED d) = true ∧
      t.flag (F.TOPI_CTL_LEARN_START d) = false ∧
      (s.Inv → s.sameBut t [F.TOPI_CTL_LEARN_START d, F.SEQ_CMD_REFUSED d])) ∧
  (∀ (s : State) (d : DIx),
    s.on d = true →
    Runs (.learnAbort d) s fun t => t.flag (F.TOPI_STATUS_LEARNING d) = false ∧
      t.flag (F.TOPI_CTL_LEARN_ABORT d) = false) ∧
  (∀ (s : State) (d : DIx),
    s.on d = true →
    s.flag (F.TOPI_STATUS_PENDING d) = true →
    Runs (.discardPending d) s fun t => t.flag (F.TOPI_STATUS_PENDING d) = false ∧
      t.rd (F.PENDING_DIGEST d) = 0 ∧
      t.flag (F.TOPI_CTL_DISCARD_PENDING d) = false ∧
      (t.topi d).pending = []) ∧
  (∀ (s : State) (d : DIx),
    s.on d = true →
    s.flag (F.TOPI_STATUS_LEARNING d) = true →
    s.rd (F.TOPI_STATUS_LEARN_OK d) = 8 →
    Runs (.modelLearned d) s fun t => t.flag (F.TOPI_STATUS_LEARNING d) = false ∧
      t.flag (F.TOPI_STATUS_PENDING d) = true ∧
      t.rd (F.PENDING_DIGEST d) = modelDigest (s.packModel d (s.topi d).learn) % 2 ^ 32 ∧
      (t.topi d).pending = s.packModel d (s.topi d).learn)

/-- R172, R174, R175: MOVE is refused outside HELD, without zero speed, without DEPOT or without the two hands; while the axis moves its target is rejected and counted; otherwise the target is
presented to the axis. STOP brings a moving axis to rest on the stop ramp, unless an SS1 already stops it; the request reads 1 until
the axis is at rest. The order of enables and target is read as log 64 says. -/
def Obligations.HostMovesAndStops : Prop :=
  (∀ (s : State) (d : DIx) (a : AIx),
    s.on d = true →
    s.hostMoveOk d = false →
    Runs (.move d a) s fun t => t.flag (F.AX_CMD_REFUSED d a) = true ∧
      t.flag (F.AX_CMD_MOVE d a) = false ∧
      (s.Inv → s.sameBut t [F.AX_CMD_REFUSED d a, F.AX_CMD_MOVE d a])) ∧
  (∀ (s : State) (d : DIx) (a : AIx),
    s.on d = true →
    s.hostMoveOk d = true →
    s.flag (F.AX_STATUS_MOVING d a) = true →
    Runs (.move d a) s fun t => t.flag (F.AX_CMD_MOVE d a) = false ∧
      t.flag (F.AX_STATUS_TGT_REJ d a) = true ∧
      t.rd (F.COUNTS_TGT_REJ d a) = min (s.rd (F.COUNTS_TGT_REJ d a) + 1) (2 ^ 16 - 1) ∧
      (s.Inv → s.sameBut t [F.AX_CMD_MOVE d a, F.AX_STATUS_TGT_REJ d a, F.COUNTS_TGT_REJ d a])) ∧
  (∀ (s : State) (d : DIx) (a : AIx),
    s.on d = true →
    s.hostMoveOk d = true →
    s.flag (F.AX_STATUS_MOVING d a) = false →
    Runs (.move d a) s fun t => t.flag (F.AX_CMD_MOVE d a) = true ∧
      (t.axis d a).hostPresented = some (s.rdS (F.MOVE_TARGET d a)) ∧
      (s.Inv → (s.modAx d a (fun x => { x with hostPresented := some (s.rdS (F.MOVE_TARGET d a)) })).hiddenAs t ∧ s.fieldsBut t [F.AX_CMD_MOVE d a])) ∧
  (∀ (s : State) (d : DIx) (a : AIx),
    s.on d = true →
    s.flag (F.AX_STATUS_MOVING d a) = true →
    (s.axis d a).gen ≠ .ss1 →
    Runs (.stop d a) s fun t => t.flag (F.AX_CMD_STOP d a) = !s.flag (F.AX_STATUS_AT_REST d a) ∧
      t.flag (F.AX_STATUS_STOPPING d a) = true ∧
      (t.axis d a).gen = .stopRamp ∧
      (s.Inv → (s.modAx d a (fun x => { x with gen := .stopRamp, presented := none, hostPresented := none })).hiddenAs t ∧ s.fieldsBut t [F.AX_CMD_STOP d a, F.AX_STATUS_STOPPING d a])) ∧
  (∀ (s : State) (d : DIx) (a : AIx),
    s.on d = true →
    s.flag (F.AX_STATUS_MOVING d a) = false ∨ (s.axis d a).gen = .ss1 →
    Runs (.stop d a) s fun t => t.flag (F.AX_CMD_STOP d a) = !s.flag (F.AX_STATUS_AT_REST d a) ∧
      (s.Inv → s.sameBut t [F.AX_CMD_STOP d a]))

/-- R183, R187, R188: ten missing feedbacks in service, PHY loss and a host request start a bring-up under recovery window 1, from now on, counted in DRV_RETRAINS, also while one runs; PHY up leads
LINK to 2; a bring-up that has run 5 ms fences the doorway with source 2 and is repeated 1 s after it failed. The frames are counted as log 46 says. -/
def Obligations.DriveLinkRetrains : Prop :=
  (∀ (s : State) (d : DIx),
    s.on d = true →
    10 ≤ (s.drv d).fbMiss →
    s.rd (F.DRV_STATUS_LINK d) = 3 →
    Runs (.driveFeedbackTimeout d) s fun t => t.winOpen 1 d.val = true ∧
      (t.drv d).retrainOpen = true ∧
      (t.drv d).trig = s.now ∧
      t.rd (F.DRV_RETRAINS d) = min (s.rd (F.DRV_RETRAINS d) + 1) (2 ^ 32 - 1)) ∧
  (∀ (s : State) (d : DIx),
    s.on d = true →
    (s.drv d).phyUp = true →
    s.rd (F.DRV_STATUS_LINK d) ≠ 0 →
    Runs (.drivePhyLinkLoss d) s fun t => t.winOpen 1 d.val = true ∧
      (t.drv d).retrainOpen = true ∧
      (t.drv d).trig = s.now ∧
      t.rd (F.DRV_RETRAINS d) = min (s.rd (F.DRV_RETRAINS d) + 1) (2 ^ 32 - 1) ∧
      (t.drv d).phyUp = false) ∧
  (∀ (s : State) (d : DIx),
    s.on d = true →
    (s.drv d).phyUp = false ∨ s.rd (F.DRV_STATUS_LINK d) = 0 →
    Runs (.drivePhyLinkLoss d) s fun t => (t.drv d).phyUp = false ∧
      (s.Inv → (s.modDrv d (fun v => { v with phyUp := false })).hiddenAs t ∧ s.fieldsBut t [])) ∧
  (∀ (s : State) (d : DIx),
    s.on d = true →
    Runs (.driveRetrain d) s fun t => t.winOpen 1 d.val = true ∧
      (t.drv d).retrainOpen = true ∧
      (t.drv d).trig = s.now ∧
      t.rd (F.DRV_RETRAINS d) = min (s.rd (F.DRV_RETRAINS d) + 1) (2 ^ 32 - 1) ∧
      t.flag (F.DRV_CTL_RETRAIN d) = false) ∧
  (∀ (s : State) (d : DIx),
    s.on d = true →
    Runs (.drivePhyLinkUp d) s fun t => (t.drv d).phyUp = true ∧
      t.rd (F.DRV_STATUS_LINK d) = max 2 (s.rd (F.DRV_STATUS_LINK d)) ∧
      (s.Inv → (s.modDrv d (fun v => { v with phyUp := true, step := max v.step 2 })).hiddenAs t ∧ s.fieldsBut t [F.DRV_STATUS_LINK d])) ∧
  (∀ (s : State) (d : DIx),
    s.on d = true →
    (s.drv d).retrainOpen = true →
    (s.drv d).trig + msT 5 ≤ s.now →
    Runs (.driveRetrainWindowExpired d) s fun t => bitOf (t.fenceSet d) 1 = true) ∧
  (∀ (s : State) (d : DIx) (t0 : Nat),
    s.on d = true →
    (s.drv d).failedAt = some t0 →
    t0 + msT 1000 ≤ s.now →
    s.rd (F.DRV_STATUS_LINK d) ≠ 3 →
    Runs (.driveBringupRepeat d) s fun t => (t.drv d).failedAt = some s.now ∧
      (t.drv d).retrainOpen = true ∧
      t.rd (F.DRV_STATUS_LINK d) = (if (s.drv d).phyUp then 2 else 1))

/-- R190, R192: a pod that reports an authority conflict for more than 5 ms fences the doorway with source 2. A test pulse shows what reads back; the second in a row that stays on, and an enable
commanded on that reads off, are faults of the enable and fence the doorway with source 2.
R164, R183, R184, R185: a drive frame of a link that is up carries the authority of that moment and takes the fault clear with it. A feedback that fails its check is counted and ends the
run of valid ones; a valid one in service shows the measurements and the status of the pod; a pod fault that was not there before is shown and fences the doorway with source 2. -/
def Obligations.DriveFramesAndEnables : Prop :=
  (∀ (s : State) (d : DIx) (t0 : Nat),
    s.on d = true →
    (s.drv d).conflictAt = some t0 →
    t0 + msT 5 < s.now →
    (s.drv d).conflictTold = false →
    Runs (.authConflictTimeout d) s fun t => bitOf (t.fenceSet d) 1 = true ∧
      (t.drv d).conflictTold = true) ∧
  (∀ (s : State) (d : DIx) (out : Fin 2) (on : Bool),
    s.on d = true →
    on = false ∨ (if out.val = 0 then (s.drv d).onFailA else (s.drv d).onFailB) = 0 →
    Runs (.denTestPulse d out on) s fun t => t.flag (if out.val = 0 then F.DEN_STATUS_RB_A d else F.DEN_STATUS_RB_B d) = (on || s.flag (if out.val = 0 then F.DEN_STATUS_DEN_A d else F.DEN_STATUS_DEN_B d)) ∧
      (s.Inv → (s.modDrv d (fun v => if out.val = 0 then { v with onFailA := b2n on } else { v with onFailB := b2n on })).hiddenAs t ∧ s.fieldsBut t [(if out.val = 0 then F.DEN_STATUS_RB_A d else F.DEN_STATUS_RB_B d)])) ∧
  (∀ (s : State) (d : DIx) (out : Fin 2),
    s.on d = true →
    (if out.val = 0 then (s.drv d).onFailA else (s.drv d).onFailB) = 1 →
    Runs (.denTestPulse d out true) s fun t => t.flag (F.DEN_STATUS_STUCK_ON d) = true ∧
      bitOf (t.fenceSet d) 1 = true) ∧
  (∀ (s : State) (d : DIx) (out : Fin 2),
    s.on d = true →
    s.flag (if out.val = 0 then F.DEN_STATUS_DEN_A d else F.DEN_STATUS_DEN_B d) = true →
    Runs (.denReadbackTimeout d out false) s fun t => t.flag (F.DEN_STATUS_STUCK_OFF d) = true ∧
      bitOf (t.fenceSet d) 1 = true) ∧
  (∀ (s : State) (d : DIx) (out : Fin 2) (on : Bool),
    s.on d = true →
    (on = true ∨ s.flag (if out.val = 0 then F.DEN_STATUS_DEN_A d else F.DEN_STATUS_DEN_B d) = false) →
    (s.hasAuth && s.ran (s.drv d).podBad 10 && (bitOf (s.rd (F.DRV_STATUS_STO_LOW d)) out.val == s.flag (if out.val = 0 then F.DEN_STATUS_DEN_A d else F.DEN_STATUS_DEN_B d))) = true →
    Runs (.denReadbackTimeout d out on) s fun t => t.flag (F.DEN_STATUS_STUCK_OFF d) = true ∧
      bitOf (t.fenceSet d) 1 = true) ∧
  (∀ (s : State) (d : DIx) (out : Fin 2) (on : Bool),
    s.on d = true →
    (on = true ∨ s.flag (if out.val = 0 then F.DEN_STATUS_DEN_A d else F.DEN_STATUS_DEN_B d) = false) →
    (s.hasAuth && s.ran (s.drv d).podBad 10 && (bitOf (s.rd (F.DRV_STATUS_STO_LOW d)) out.val == s.flag (if out.val = 0 then F.DEN_STATUS_DEN_A d else F.DEN_STATUS_DEN_B d))) = false →
    Runs (.denReadbackTimeout d out on) s fun t => t.flag (if out.val = 0 then F.DEN_STATUS_RB_A d else F.DEN_STATUS_RB_B d) = on ∧
      (s.Inv → s.sameBut t [(if out.val = 0 then F.DEN_STATUS_RB_A d else F.DEN_STATUS_RB_B d)])) ∧
  (∀ (s : State) (d : DIx),
    s.on d = true →
    2 ≤ s.rd (F.DRV_STATUS_LINK d) →
    Runs (.driveFrame d) s fun t => (2 ≤ t.rd (F.DRV_STATUS_LINK d) → (t.drv d).clrFault = false ∧ (t.drv d).count = ((s.drv d).count + 1) % 65536) ∧
      (t.drv d).fbNew = false) ∧
  (∀ (s : State) (d : DIx) (ok : Bool) (p : List Byte) (cf : CheckFault),
    s.on d = true →
    (s.drv d).phyUp = true →
    driveFbFramed ok p = false ∨ (s.cvuOf 2 d.val = none ∧ driveFbOk ok p = false) →
    Runs (.driveFbReceived d ok p cf) s fun t => t.rd (F.DRV_ERR_CRC d) = min (s.rd (F.DRV_ERR_CRC d) + 1) (2 ^ 32 - 1) ∧
      (t.drv d).validN = 0 ∧
      (s.Inv → (s.modDrv d (fun v => { v with validN := 0 })).hiddenAs t ∧ s.fieldsBut t [F.DRV_ERR_CRC d])) ∧
  (∀ (s : State) (d : DIx) (ok : Bool) (p : List Byte) (cf : CheckFault),
    s.on d = true →
    (s.drv d).phyUp = true →
    s.cvuOf 2 d.val = none →
    driveFbOk ok p = true →
    s.rd (F.DRV_STATUS_LINK d) = 3 →
    bitOf (fieldAt p 6 1) 3 = false →
    fieldAt p 7 1 % 64 = 0 →
    Runs (.driveFbReceived d ok p cf) s fun t => t.rd (F.DRV_STATUS_STO_LOW d) = fieldAt p 6 1 % 4 ∧
      t.rd (F.POD_MEAS d) = fieldAt p 20 4 % 2 ^ 32 ∧
      t.flag (F.DRV_STATUS_LINK_TO d) = bitOf (fieldAt p 6 1) 4 ∧
      t.rd (F.DRV_STATUS_FAULT d) = fieldAt p 7 1 % 64 ∧
      t.flag (F.DRV_STATUS_TORQUE d) = bitOf (fieldAt p 6 1) 2 ∧
      (t.drv d).fbNew = true ∧
      t.flag (F.DRV_STATUS_AUTH_CONFLICT d) = false) ∧
  (∀ (s : State) (d : DIx) (ok : Bool) (p : List Byte) (cf : CheckFault),
    s.on d = true →
    (s.drv d).phyUp = true →
    s.cvuOf 2 d.val = none →
    driveFbOk ok p = true →
    s.rd (F.DRV_STATUS_LINK d) = 3 →
    bitOf (fieldAt p 6 1) 3 = false →
    fieldAt p 7 1 % 64 ≠ 0 →
    fieldAt p 7 1 % 64 ≠ s.rd (F.DRV_STATUS_FAULT d) →
    Runs (.driveFbReceived d ok p cf) s fun t => t.rd (F.DRV_STATUS_FAULT d) = fieldAt p 7 1 % 64 ∧
      bitOf (t.fenceSet d) 1 = true)

/-- R199, R200, R201: a level that has been seen in F consecutive samples passes the filter. One changed channel counts CNT by one, up where B lags A and ENC_INV is 0, and the axis no longer stands still; no changed
channel does nothing; two changed channels are not counted, set QUAD_ERR and CNT_ERR, clear REFERENCED and are counted as errors. R211: a snapshot latches the count and the tick less the filter delay. -/
def Obligations.EncoderCounts : Prop :=
  (∀ (s : State) (d : DIx) (a : AIx) (va vb : Bool) (na nb : Nat) (fa fb : Bool),
    s.alive = true →
    s.present d = true →
    fa = (if s.filtN d a ≤ na then va else (s.enc d a).a) →
    fb = (if s.filtN d a ≤ nb then vb else (s.enc d a).b) →
    ((s.enc d a).a != fa) ≠ ((s.enc d a).b != fb) →
    Runs (.encoderCount d a va vb na nb) s fun t => t.rd (F.CNT d a) = unsigned 32 ((s.rd (F.CNT d a) : Int) + (if ((if (s.enc d a).a != fa then fa != fb else fa == fb) != s.flag (F.ENC_CFG_ENC_INV d a)) = true then 1 else -1)) ∧
      t.flag (F.POS_STATUS_STILL d a) = false ∧
      (t.enc d a).a = fa ∧
      (t.enc d a).b = fb) ∧
  (∀ (s : State) (d : DIx) (a : AIx) (va vb : Bool) (na nb : Nat) (fa fb : Bool),
    s.alive = true →
    s.present d = true →
    fa = (if s.filtN d a ≤ na then va else (s.enc d a).a) →
    fb = (if s.filtN d a ≤ nb then vb else (s.enc d a).b) →
    (s.enc d a).a = fa →
    (s.enc d a).b = fb →
    Runs (.encoderCount d a va vb na nb) s fun t => (s.Inv → s.sameBut t [])) ∧
  (∀ (s : State) (d : DIx) (a : AIx) (va vb : Bool) (na nb : Nat) (fa fb : Bool),
    s.alive = true →
    s.present d = true →
    fa = (if s.filtN d a ≤ na then va else (s.enc d a).a) →
    fb = (if s.filtN d a ≤ nb then vb else (s.enc d a).b) →
    (s.enc d a).a ≠ fa →
    (s.enc d a).b ≠ fb →
    Runs (.encoderCount d a va vb na nb) s fun t => t.rd (F.CNT d a) = s.rd (F.CNT d a) ∧
      t.flag (F.POS_STATUS_QUAD_ERR d a) = true ∧
      t.flag (F.POS_STATUS_CNT_ERR d a) = true ∧
      t.flag (F.AX_STATUS_REFERENCED d a) = false ∧
      t.rd (F.POS_ERR_QUAD d a.val) = min (s.rd (F.POS_ERR_QUAD d a.val) + 1) (2 ^ (F.POS_ERR_QUAD d a.val).w - 1) ∧
      (t.enc d a).a = fa ∧
      (t.enc d a).b = fb) ∧
  (∀ (s : State) (d : DIx) (a : AIx),
    s.on d = true →
    Runs (.snap d a) s fun t => t.rd (F.SNAP_CNT d a) = unsigned 32 (s.extOf d a) ∧
      t.rd (F.SNAP_TICK d a) = s.latchTick d a ∧
      t.flag (F.POS_CTL_SNAP d a) = false ∧
      (s.Inv → s.sameBut t [F.SNAP_CNT d a, F.SNAP_TICK d a, F.POS_CTL_SNAP d a]))

/-- R202, R207: an index event of the chosen mode, the rise of Z or the entry into the state with Z, A and B high, latches count and tick; the first one makes the index valid, a later one shows the difference; what is
no index event latches nothing. R214, R215: a reference edge of an unreferenced axis references it; of a referenced one it shows the deviation, and REF_ERR where that leaves the tolerance.
R203, R217: 16 samples in a row with an active detector, of which this is the last, are a loss of signal; with the enables high the doorway is fenced with source 3. A sample without an active
detector only shows it. After 100 ms without either the loss clears, and source 3 with the last one. -/
def Obligations.IndexReferenceAndLoss : Prop :=
  (∀ (s : State) (d : DIx) (a : AIx) (z : Bool) (n : Nat) (fz : Bool),
    s.alive = true →
    s.present d = true →
    fz = (if s.filtN d a ≤ n then z else (s.enc d a).z) →
    indexHit (s.rd (F.ENC_CFG_IDX_MODE d a)) (s.enc d a) { (s.enc d a) with z := fz } = true →
    (s.enc d a).idxHave = false →
    Runs (.indexEvent d a z n) s fun t => t.rd (F.IDX_CNT d a) = unsigned 32 (s.extOf d a) ∧
      t.rd (F.IDX_TICK d a) = s.latchTick d a ∧
      t.flag (F.POS_STATUS_IDX_VALID d a) = true) ∧
  (∀ (s : State) (d : DIx) (a : AIx) (z : Bool) (n : Nat) (fz : Bool),
    s.alive = true →
    s.present d = true →
    fz = (if s.filtN d a ≤ n then z else (s.enc d a).z) →
    indexHit (s.rd (F.ENC_CFG_IDX_MODE d a)) (s.enc d a) { (s.enc d a) with z := fz } = true →
    (s.enc d a).idxHave = true →
    Runs (.indexEvent d a z n) s fun t => t.rd (F.IDX_CNT d a) = unsigned 32 (s.extOf d a) ∧
      t.rd (F.IDX_TICK d a) = s.latchTick d a ∧
      t.rdS (F.IDX_DIFF d a) = signed 32 (unsigned 32 (s.extOf d a - signed 32 (s.rd (F.IDX_CNT d a))))) ∧
  (∀ (s : State) (d : DIx) (a : AIx) (z : Bool) (n : Nat) (fz : Bool),
    s.alive = true →
    s.present d = true →
    fz = (if s.filtN d a ≤ n then z else (s.enc d a).z) →
    indexHit (s.rd (F.ENC_CFG_IDX_MODE d a)) (s.enc d a) { (s.enc d a) with z := fz } = false →
    Runs (.indexEvent d a z n) s fun t => (s.Inv → (s.modEnc d a (fun e => { e with z := fz })).hiddenAs t ∧ s.fieldsBut t [])) ∧
  (∀ (s : State) (d : DIx) (a : AIx) (t0 : Nat),
    s.on d = true →
    (s.enc d a).refEdge = some t0 →
    s.flag (F.POS_STATUS_LOSS d a) = false →
    (s.flag (F.POS_STATUS_DIR d a) || s.flag (F.POS_STATUS_STILL d a)) = true →
    s.flag (F.AX_STATUS_REFERENCED d a) = false →
    Runs (.referenceMakeEdge d a) s fun t => (t.enc d a).refEdge = none ∧
      t.rd (F.REF_CNT d a) = unsigned 32 (s.extAt d a t0) ∧
      t.rd (F.REF_TICK d a) = t0 % 2 ^ 32 ∧
      t.flag (F.AX_STATUS_REFERENCED d a) = true ∧
      t.flag (F.POS_STATUS_CNT_ERR d a) = false) ∧
  (∀ (s : State) (d : DIx) (a : AIx) (t0 : Nat),
    s.on d = true →
    (s.enc d a).refEdge = some t0 →
    s.flag (F.POS_STATUS_LOSS d a) = false →
    (s.flag (F.POS_STATUS_DIR d a) || s.flag (F.POS_STATUS_STILL d a)) = true →
    s.flag (F.AX_STATUS_REFERENCED d a) = true →
    Runs (.referenceMakeEdge d a) s fun t => (t.enc d a).refEdge = none ∧
      t.rd (F.REF_CNT d a) = unsigned 32 (s.extAt d a t0) ∧
      t.rd (F.REF_TICK d a) = t0 % 2 ^ 32 ∧
      t.rd (F.REF_DEV d a.val) = unsigned (F.REF_DEV d a.val).w (s.posOf d a (s.extAt d a t0) - (s.rd (F.REF_CFG_REF_POS d a) : Int)) ∧
      (s.rd (F.REF_CFG_REF_TOL d a) < (s.posOf d a (s.extAt d a t0) - (s.rd (F.REF_CFG_REF_POS d a) : Int)).natAbs → t.flag (F.POS_STATUS_REF_ERR d a) = true)) ∧
  (∀ (s : State) (d : DIx) (a : AIx) (fa fb fz : Bool),
    s.on d = true →
    fa = true ∨ fb = true →
    15 ≤ (s.enc d a).detN →
    Runs (.lineFaultSample d a fa fb fz) s fun t => t.flag (F.POS_STATUS_LINE_FLT d a) = true ∧
      t.flag (F.POS_STATUS_LOSS d a) = true ∧
      (s.flag (F.POS_STATUS_LOSS d a) = false → s.denHigh d = true → bitOf (t.fenceSet d) 2 = true)) ∧
  (∀ (s : State) (d : DIx) (a : AIx),
    s.on d = true →
    Runs (.lineFaultSample d a false false false) s fun t => t.flag (F.POS_STATUS_LINE_FLT d a) = false ∧
      (t.enc d a).detN = 0 ∧
      (t.enc d a).quiet.isSome = true ∧
      (s.Inv → s.fieldsBut t [F.POS_STATUS_LINE_FLT d a])) ∧
  (∀ (s : State) (d : DIx) (a : AIx) (t0 : Nat),
    s.on d = true →
    (s.enc d a).quiet = some t0 →
    t0 + msT 100 ≤ s.now →
    s.flag (F.POS_STATUS_LOSS d a) = true →
    (s.enc d a).illegal.all (fun x => s.past x (msT 100)) = true →
    Runs (.lossClear d a) s fun t => t.flag (F.POS_STATUS_LOSS d a) = false ∧
      ((∀ b : AIx, b ≠ a → s.flag (F.POS_STATUS_LOSS d b) = false) → bitOf (t.fenceSet d) 2 = false))

/-- R329, R330, R331: without an over-range in this or the previous conversions, a sequence of ADC-A shows the field supply of the doorway whose slot it is and is no longer stale; a pass of ADC-B
shows the current of every channel of the doorways of its ASIC, scaled by the mirror of the channel.
R239, R243, R246: an SS1 that has not ended in 120 ms ends in STO with end code 2, the enables low. R229, R230: an enabled edge that is not in its normal class for 100 ms is faulty until it has
been normal for 1 s. R309: a scan shows whether a valid frame came; two failures or none is a link fault. Over-range is read as log 60 says. -/
def Obligations.FieldInputsAreRead : Prop :=
  (∀ (s : State) (j : JIx) (codes : List (BitVec 12)) (d : DIx),
    s.alive = true →
    (s.asic j.val).carryA = 0 →
    s.present d = true →
    d.val = 6 * j.val + (s.asic j.val).seqN % 3 →
    Runs (.adcASequence j codes 0) s fun t => t.rd (F.FSUP_VFIELD d) = (nth codes 12 0#12).toNat ∧
      t.flag (F.FSUP_STALE d) = false ∧
      (t.asic j.val).seqN = ((s.asic j.val).seqN + 1) % 24) ∧
  (∀ (s : State) (j : JIx) (codes : List (BitVec 12)) (d : DIx) (k : KIx),
    s.alive = true →
    (s.asic j.val).carryB = 0 →
    s.present d = true →
    d.val / 6 = j.val →
    Runs (.adcBPass j codes 0) s fun t => t.rd (F.CH_MEAS_I d k) = min (roundDiv ((nth codes (6 * (d.val % 6) + k.val) 0#12).toNat * mirrorScale k) 4095).toNat (2 ^ (F.CH_MEAS_I d k).w - 1)) ∧
  (∀ (s : State) (j : JIx) (fails : Nat) (valid : Bool) (down : Bool) (ins : List (BitVec 16)) (tls : BitVec 6) (lim : List (BitVec 6)) (pulse : Bool),
    s.alive = true →
    Runs (.fieldScan j fails valid down ins tls lim pulse) s fun t => t.flag (F.FIO_STATUS_LINK_OK j.val) = valid ∧
      ((valid = false ∨ 2 ≤ fails) → (s.asic j.val).linkFault = false → t.flag (F.FIO_STATUS_LINK_FAULT j.val) = true)) ∧
  (∀ (s : State) (d : DIx),
    s.on d = true →
    s.rd (F.OBST_STATUS_SS1 d) = 1 →
    (s.obst d).t0 + msT 120 ≤ s.now →
    Runs (.ss1Timeout d) s fun t => t.rd (F.OBST_STATUS_SS1 d) = 2 ∧
      t.rd (F.SS1_LAST_END d) = 2 ∧
      (t.obst d).sto = true ∧
      t.flag (F.DEN_STATUS_DEN_A d) = false ∧
      t.flag (F.DEN_STATUS_DEN_B d) = false) ∧
  (∀ (s : State) (d : DIx) (n : Fin 2),
    s.on d = true →
    s.edgeEn d n.val = true →
    s.ran (s.edge d n.val).badSince 100 = true →
    Runs (.edgeFault d n) s fun t => t.flag (if n.val = 0 then F.OBST_STATUS_EDGE0_FAULT d else F.OBST_STATUS_EDGE1_FAULT d) = true) ∧
  (∀ (s : State) (d : DIx) (n : Fin 2),
    s.on d = true →
    s.ran (s.edge d n.val).normSince 1000 = true →
    Runs (.edgeFaultClear d n) s fun t => t.flag (if n.val = 0 then F.OBST_STATUS_EDGE0_FAULT d else F.OBST_STATUS_EDGE1_FAULT d) = false ∧
      (s.Inv → s.sameBut t [(if n.val = 0 then F.OBST_STATUS_EDGE0_FAULT d else F.OBST_STATUS_EDGE1_FAULT d), F.FLT_DWY_STANDING d.val]))

/-! ## Locks, protective devices and field inputs -/

/-- R255: a lock current out of its window for 20 ms is latched; a current on a channel commanded off for 10 ms is a stuck lock and fences with source 6. R258: an implausible condition that has lasted 50 ms,
the one of them not yet reported, is shown with its rule. R44: isolation switches that differ for 500 ms show ISO_DISC and do not isolate.
R261, R262, R265: the twelve lines show in TL_STATE, and zero speed is valid while both channels are on and no discrepancy is latched; channels that differ for 500 ms latch one and withdraw the side
releases; the depot line on for 1 s is depot mode; a map unchanged for 1 s is stable and gives the sides their releases; a difference of map and orientation for 2 s shows until they agree for 1 s. -/
def Obligations.LocksAndTrainLines : Prop :=
  (∀ (s : State) (d : DIx),
    s.on d = true →
    s.ran (s.lockH d).lowSince 20 = true →
    Runs (.lockCurrent d) s fun t => t.flag (F.LOCK_STATUS_LOCK_CUR d) = true ∧
      (t.lockH d).lowSince = none) ∧
  (∀ (s : State) (d : DIx),
    s.on d = true →
    s.ran (s.lockH d).lowSince 20 = false →
    s.ran (s.lockH d).highSince 20 = true →
    Runs (.lockCurrent d) s fun t => t.flag (F.LOCK_STATUS_LOCK_CUR d) = true ∧
      (t.lockH d).highSince = none) ∧
  (∀ (s : State) (d : DIx),
    s.on d = true →
    s.ran (s.lockH d).stuckSince 10 = true →
    s.flag (F.LOCK_STATUS_STUCK_ON d) = false →
    Runs (.lockStuckOn d) s fun t => t.flag (F.LOCK_STATUS_STUCK_ON d) = true ∧
      bitOf (t.fenceSet d) 5 = true) ∧
  (∀ (s : State) (d : DIx) (i : Nat),
    s.on d = true →
    (List.range 8).filter (fun i => (nth (s.implausible d) i (0, false)).2 && s.ran (nth (s.lockH d).plausSince i none) 50 && !nth (s.lockH d).plausTold i false) = [i] →
    Runs (.switchPlausibility d) s fun t => t.flag (F.PROVE_STATUS_PLAUS_ERR d) = true ∧
      t.rd (F.PROVE_STATUS_PLAUS_RULE d) = (nth (s.implausible d) i (0, false)).1) ∧
  (∀ (s : State) (d : DIx),
    s.on d = true →
    s.ran (s.lockH d).isoDiff 500 = true →
    s.flag (F.PROVE_STATUS_ISO_DISC d) = false →
    Runs (.isolationDiscrepancy d) s fun t => t.flag (F.PROVE_STATUS_ISO_DISC d) = true ∧
      t.flag (F.PROVE_STATUS_ISO d) = false) ∧
  (∀ (s : State) (levels : BitVec 12),
    s.alive = true →
    Runs (.trainLineChange levels) s fun t => t.rd F.TL_STATE % 4096 = levels.toNat ∧
      t.zeroSpeed = (t.tl 0 && t.tl 1 && !t.flag F.TRN_STATUS_ZS_DISC) ∧
      t.flag F.TRN_STATUS_NET_REL_LEFT = t.netRel (t.tl 2) t.trn.sdtL ∧
      (t.tl 6 = false → t.flag F.TRN_STATUS_DEPOT = false)) ∧
  (∀ (s : State),
    s.alive = true →
    s.ran s.trn.zsDiff 500 = true →
    s.flag F.TRN_STATUS_ZS_DISC = false →
    s.tl 0 ≠ s.tl 1 →
    Runs (.zeroSpeedDiscrepancy) s fun t => t.flag F.TRN_STATUS_ZS_DISC = true ∧
      t.zeroSpeed = false ∧
      t.flag F.TRN_STATUS_SIDE1_REL = false ∧
      t.flag F.TRN_STATUS_SIDE2_REL = false) ∧
  (∀ (s : State),
    s.alive = true →
    s.ran s.trn.depotSince 1000 = true →
    Runs (.depotModeActive) s fun t => t.flag F.TRN_STATUS_DEPOT = true ∧
      (s.Inv → s.sameBut t [F.TRN_STATUS_DEPOT])) ∧
  (∀ (s : State),
    s.alive = true →
    s.rd F.SIDE_MAP_MAP ≠ 0 →
    s.trn.mapSince + msT 1000 ≤ s.now →
    Runs (.sideMapStable) s fun t => t.flag F.SIDE_MAP_STABLE = true ∧
      t.flag F.TRN_STATUS_SIDE1_REL = (s.zeroSpeed && (if s.rd F.SIDE_MAP_MAP = 1 then t.flag F.TRN_STATUS_NET_REL_LEFT
        else if s.rd F.SIDE_MAP_MAP = 2 then t.flag F.TRN_STATUS_NET_REL_RIGHT else false)) ∧
      (s.Inv → s.sameBut t [F.SIDE_MAP_STABLE, F.TRN_STATUS_NET_REL_LEFT, F.TRN_STATUS_NET_REL_RIGHT, F.TRN_STATUS_SIDE1_REL, F.TRN_STATUS_SIDE2_REL])) ∧
  (∀ (s : State),
    s.alive = true →
    s.ran s.trn.misSince 2000 = true →
    Runs (.sideMapMismatch) s fun t => t.flag F.SIDE_MAP_MISMATCH = true) ∧
  (∀ (s : State),
    s.alive = true →
    s.ran s.trn.okSince 1000 = true →
    Runs (.sideMapMismatchClear) s fun t => t.flag F.SIDE_MAP_MISMATCH = false ∧
      (s.Inv → s.sameBut t [F.SIDE_MAP_MISMATCH]))

/-- R273, R274: the pulse of a switch shows what it reads; the second slot in a row that conducts, an output commanded on whose switches do not both read on and an output that draws more than its limit, are
faults of that output, which then stays open; otherwise the readbacks, the current and the supply of a loop show and no fault comes. -/
def Obligations.OutputsAreTested : Prop :=
  (∀ (s : State) (conducting : Bool),
    s.alive = true →
    s.imgPend = [] →
    s.hasAuth = true →
    s.slotDue 0 = true →
    conducting = false ∨ nth s.trn.stuck 0 0 = 0 →
    Runs (.loopTestPulse 0 conducting) s fun t => t.flag F.LOOP_STATUS_L1_HS_RB = (conducting || s.switchOn 0) ∧
      nth t.trn.stuck 0 0 = b2n conducting ∧
      (s.Inv → s.fieldsBut t [F.LOOP_STATUS_L1_HS_RB])) ∧
  (∀ (s : State) (w : Fin 12),
    s.alive = true →
    s.imgPend = [] →
    s.hasAuth = true →
    s.slotDue w.val = true →
    1 ≤ nth s.trn.stuck w.val 0 →
    Runs (.loopTestPulse w true) s fun t => t.outFault (w.val / 2) = true ∧
      (s.outFault (w.val / 2) = false → t.outOn (w.val / 2) = false)) ∧
  (∀ (s : State) (o : Fin 6) (hs ls : Bool) (mA supply : Nat),
    s.alive = true →
    s.hasAuth = true →
    (s.outOn o.val = true ∧ (hs && ls) = false) ∨ (if o.val < 2 then 3000 else 750) < mA →
    Runs (.loopReadbackTimeout o hs ls mA supply) s fun t => t.outFault o.val = true ∧
      (s.outFault o.val = false → t.outOn o.val = false)) ∧
  (∀ (s : State) (o : Fin 6) (hs ls : Bool) (mA supply : Nat),
    s.alive = true →
    s.hasAuth = true →
    s.outOn o.val = false ∨ (hs && ls) = true →
    mA ≤ (if o.val < 2 then 3000 else 750) →
    Runs (.loopReadbackTimeout o hs ls mA supply) s fun t => (o = 0 → t.flag F.LOOP_STATUS_L1_HS_RB = hs ∧ t.flag F.LOOP_STATUS_L1_LS_RB = ls) ∧
      (o = 1 → bitOf (t.rd F.LOOP_STATUS_L2) 1 = hs ∧ bitOf (t.rd F.LOOP_STATUS_L2) 2 = ls) ∧
      t.trn.supply = setNth s.trn.supply o.val supply ∧
      t.outFault o.val = s.outFault o.val ∧
      (o = 0 → t.rd F.LOOP_CUR_LOOP1 = min mA (2 ^ F.LOOP_CUR_LOOP1.w - 1) ∧ t.rd F.LOOP_SUP_LOOP1 = min supply (2 ^ F.LOOP_SUP_LOOP1.w - 1)) ∧
      (o = 1 → t.rd F.LOOP_CUR_LOOP2 = min mA (2 ^ F.LOOP_CUR_LOOP2.w - 1) ∧ t.rd F.LOOP_SUP_LOOP2 = min supply (2 ^ F.LOOP_SUP_LOOP2.w - 1)))

/-- R292, R293: a handle channel off is an operated handle: HANDLE_OP and HANDLE_LOOP are set and every loop of which the doorway is a member is open. Channels that differ for more than 500 ms and the second
failed pulse of a channel latch HANDLE_DISC and HANDLE_XS, and the handle counts as operated. HANDLE_DISC clears, at the latest, with both channels on after a reset edge. -/
def Obligations.HandleOpensTheLoops : Prop :=
  (∀ (s : State) (d : DIx),
    s.on d = true →
    s.handleOpen d = true →
    Runs (.handleOperated d) s fun t => t.flag (F.PD_STATUS_HANDLE_OP d) = true ∧
      (s.flag (F.PD_STATUS_HANDLE_OP d) = false → t.flag (F.PD_STATUS_HANDLE_LOOP d) = true) ∧
      (s.flag (F.PD_STATUS_HANDLE_OP d) = false → (bitOf (s.rd F.LOOP1_MEMBERS) d.val = true → t.flag F.LOOP_STATUS_L1_CLOSED = false) ∧ (bitOf (s.rd F.LOOP2_MEMBERS) d.val = true → bitOf (t.rd F.LOOP_STATUS_L2) 0 = false))) ∧
  (∀ (s : State) (d : DIx),
    s.on d = true →
    s.handleOpen d = false →
    Runs (.handleOperated d) s fun t => (s.Inv → s.sameBut t [])) ∧
  (∀ (s : State) (d : DIx) (t0 : Nat),
    s.on d = true →
    (s.prot d).hDiff = some t0 →
    t0 + msT 500 < s.now →
    s.flag (F.PD_STATUS_HANDLE_DISC d) = false →
    Runs (.handleDiscrepancy d) s fun t => t.flag (F.PD_STATUS_HANDLE_OP d) = true ∧
      (s.flag (F.PD_STATUS_HANDLE_OP d) = false → t.flag (F.PD_STATUS_HANDLE_LOOP d) = true) ∧
      (s.flag (F.PD_STATUS_HANDLE_OP d) = false → (bitOf (s.rd F.LOOP1_MEMBERS) d.val = true → t.flag F.LOOP_STATUS_L1_CLOSED = false) ∧ (bitOf (s.rd F.LOOP2_MEMBERS) d.val = true → bitOf (t.rd F.LOOP_STATUS_L2) 0 = false)) ∧
      t.flag (F.PD_STATUS_HANDLE_DISC d) = true) ∧
  (∀ (s : State) (d : DIx) (src : Fin 2) (ch : Fin 4) (shown : Bool),
    s.on d = true →
    s.hasPd = true →
    s.tpsChecked d ch.val = true →
    s.hasAuth = true →
    s.tpsDue d src.val ch.val = true →
    ch.val < 2 →
    shown ≠ (src.val == ch.val % 2) →
    1 ≤ s.xsCount d (2 * ch.val + b2n (src.val == ch.val % 2)) →
    Runs (.tpsPulseCheck d src ch shown) s fun t => t.flag (F.PD_STATUS_HANDLE_XS d) = true ∧
      (s.flag (F.PD_STATUS_HANDLE_XS d) = false → t.flag (F.PD_STATUS_HANDLE_OP d) = true)) ∧
  (∀ (s : State) (d : DIx) (src : Fin 2) (ch : Fin 4),
    s.on d = true →
    s.hasPd = true →
    s.tpsChecked d ch.val = true →
    Runs (.tpsPulseCheck d src ch (src.val == ch.val % 2)) s fun t => (s.Inv → s.fieldsBut t [])) ∧
  (∀ (s : State) (d : DIx),
    s.on d = true →
    s.hasPd = true →
    (s.prot d).handleEdge = true →
    s.flag (F.PD_STATUS_H1 d) = true →
    s.flag (F.PD_STATUS_H2 d) = true →
    s.flag (F.PD_STATUS_HANDLE_DISC d) = true →
    Runs (.handleDiscrepancyClear d) s fun t => t.flag (F.PD_STATUS_HANDLE_DISC d) = false ∧
      t.flag (F.PD_STATUS_HANDLE_OP d) = (s.flag (F.PD_STATUS_HANDLE_OP d) && s.flag (F.PD_STATUS_HANDLE_XS d)) ∧
      (s.Inv → s.sameBut t [F.PD_STATUS_HANDLE_DISC d, F.PD_STATUS_HANDLE_OP d]))

/-- R295, R296: a guard that opens at standstill under DEPOT in a resting state gives maintenance access without torque; in FENCED or EMERGENCY it only shows; anywhere else it fences the doorway with source
7. A closed guard clears GUARD_OPEN. Guard channels that differ for more than 500 ms are a fault until they agree for 1 s.
R298, R299: both devices released, by their filtered levels which their inputs share, make the control ready; both actuated within 500 ms of each other set TH_OK where the control is ready and no fault is latched, further apart TH_SYNC_ERR, ready or not; one device released clears TH_OK. A
contact fault for 50 ms latches TH_FAULT and clears TH_OK until both are released and consistent for 1 s. -/
def Obligations.GuardAndTwoHands : Prop :=
  (∀ (s : State) (d : DIx),
    s.on d = true →
    s.hasGuard d = true →
    s.guardIsOpen d = true →
    s.flag (F.PD_STATUS_GUARD_OPEN d) = false →
    (s.flag F.TRN_STATUS_DEPOT && s.zeroSpeed && (s.st d == .held || s.st d == .unproven || s.st d == .closedLocked || s.st d == .isolated)) = true →
    ((s.hostAxis d).isSome && s.flag (F.PD_STATUS_TH_OK d)) = false →
    Runs (.guardOpen d) s fun t => t.flag (F.PD_STATUS_GUARD_OPEN d) = true ∧
      t.flag (F.PD_STATUS_MAINT d) = true ∧
      t.flag (F.DEN_STATUS_DEN_A d) = false ∧
      t.flag (F.DEN_STATUS_DEN_B d) = false) ∧
  (∀ (s : State) (d : DIx),
    s.on d = true →
    s.hasGuard d = true →
    s.guardIsOpen d = true →
    s.flag (F.PD_STATUS_GUARD_OPEN d) = false →
    (s.flag F.TRN_STATUS_DEPOT && s.zeroSpeed && (s.st d == .held || s.st d == .unproven || s.st d == .closedLocked || s.st d == .isolated)) = true →
    ((s.hostAxis d).isSome && s.flag (F.PD_STATUS_TH_OK d)) = true →
    Runs (.guardOpen d) s fun t => t.flag (F.PD_STATUS_GUARD_OPEN d) = true ∧
      t.flag (F.PD_STATUS_MAINT d) = true ∧
      t.flag (F.DEN_STATUS_DEN_A d) = s.flag (F.DEN_STATUS_DEN_A d) ∧
      t.flag (F.DEN_STATUS_DEN_B d) = s.flag (F.DEN_STATUS_DEN_B d) ∧
      t.hostAxis d = s.hostAxis d) ∧
  (∀ (s : State) (d : DIx),
    s.on d = true →
    s.hasGuard d = true →
    s.guardIsOpen d = true →
    s.flag (F.PD_STATUS_GUARD_OPEN d) = false →
    s.st d = .fenced ∨ s.st d = .emergency →
    Runs (.guardOpen d) s fun t => t.flag (F.PD_STATUS_GUARD_OPEN d) = true ∧
      t.fenceSet d = s.fenceSet d ∧
      t.flag (F.PD_STATUS_MAINT d) = s.flag (F.PD_STATUS_MAINT d)) ∧
  (∀ (s : State) (d : DIx),
    s.on d = true →
    s.hasGuard d = true →
    s.guardIsOpen d = true →
    s.flag (F.PD_STATUS_GUARD_OPEN d) = false →
    (s.flag F.TRN_STATUS_DEPOT && s.zeroSpeed && (s.st d == .held || s.st d == .unproven || s.st d == .closedLocked || s.st d == .isolated)) = false →
    s.st d ≠ .fenced →
    s.st d ≠ .emergency →
    Runs (.guardOpen d) s fun t => t.flag (F.PD_STATUS_GUARD_OPEN d) = true ∧
      bitOf (t.fenceSet d) 6 = true) ∧
  (∀ (s : State) (d : DIx),
    s.on d = true →
    s.hasGuard d = true →
    s.guardIsOpen d = false →
    Runs (.guardClosed d) s fun t => t.flag (F.PD_STATUS_GUARD_OPEN d) = false ∧
      (s.Inv → s.sameBut t [F.PD_STATUS_GUARD_OPEN d])) ∧
  (∀ (s : State) (d : DIx) (t0 : Nat),
    s.on d = true →
    s.hasGuard d = true →
    (s.prot d).gDiff = some t0 →
    t0 + msT 500 < s.now →
    Runs (.guardFault d) s fun t => t.flag (F.PD_STATUS_GUARD_FAULT d) = true) ∧
  (∀ (s : State) (d : DIx),
    s.on d = true →
    s.hasGuard d = true →
    s.ran (s.prot d).gAgree 1000 = true →
    s.flag (F.PD_CFG_GUARD_TPS d) = false →
    Runs (.guardFaultClear d) s fun t => t.flag (F.PD_STATUS_GUARD_FAULT d) = false ∧
      (t.prot d).gXs = false ∧
      (s.Inv → (s.modProt d (fun p => { p with gXs := false })).hiddenAs t ∧ s.fieldsBut t [F.PD_STATUS_GUARD_FAULT d])) ∧
  (∀ (s : State) (d : DIx),
    s.on d = true →
    s.hasTh d = true →
    (s.thDevices d) = (false, false) →
    Runs (.twoHandChange d) s fun t => t.flag (F.PD_STATUS_TH_A d) = (s.thDevices d).1 ∧
      t.flag (F.PD_STATUS_TH_B d) = (s.thDevices d).2 ∧
      (t.prot d).thReady = ((s.prot d).thReady || s.thIns d == s.thRaw d) ∧
      t.flag (F.PD_STATUS_TH_SYNC_ERR d) = false ∧
      t.flag (F.PD_STATUS_TH_OK d) = false) ∧
  (∀ (s : State) (d : DIx) (ta tb : Nat),
    s.on d = true →
    s.hasTh d = true →
    (s.thDevices d) = (true, true) →
    (s.flag (F.PD_STATUS_TH_A d) && s.flag (F.PD_STATUS_TH_B d)) = false →
    (s.prot d).thReady = true →
    s.flag (F.PD_STATUS_TH_OK d) = false →
    (s.prot d).thAAt = some ta →
    (s.prot d).thBAt = some tb →
    s.flag (F.PD_STATUS_TH_FAULT d) = false →
    Runs (.twoHandChange d) s fun t => t.flag (F.PD_STATUS_TH_A d) = (s.thDevices d).1 ∧
      t.flag (F.PD_STATUS_TH_B d) = (s.thDevices d).2 ∧
      t.flag (F.PD_STATUS_TH_OK d) = decide (max ta tb - min ta tb ≤ msT 500) ∧
      (msT 500 < max ta tb - min ta tb → t.flag (F.PD_STATUS_TH_SYNC_ERR d) = true) ∧
      (t.prot d).thReady = false) ∧
  (∀ (s : State) (d : DIx) (ta tb : Nat),
    s.on d = true →
    s.hasTh d = true →
    (s.thDevices d) = (true, true) →
    (s.flag (F.PD_STATUS_TH_A d) && s.flag (F.PD_STATUS_TH_B d)) = false →
    (s.prot d).thReady = false →
    (s.prot d).thAAt = some ta →
    (s.prot d).thBAt = some tb →
    Runs (.twoHandChange d) s fun t => t.flag (F.PD_STATUS_TH_A d) = (s.thDevices d).1 ∧
      t.flag (F.PD_STATUS_TH_B d) = (s.thDevices d).2 ∧
      t.flag (F.PD_STATUS_TH_OK d) = s.flag (F.PD_STATUS_TH_OK d) ∧
      t.flag (F.PD_STATUS_TH_SYNC_ERR d) = (decide (msT 500 < max ta tb - min ta tb) || s.flag (F.PD_STATUS_TH_SYNC_ERR d))) ∧
  (∀ (s : State) (d : DIx),
    s.on d = true →
    s.hasTh d = true →
    ((s.thDevices d).1 && (s.thDevices d).2) = false →
    Runs (.twoHandChange d) s fun t => t.flag (F.PD_STATUS_TH_A d) = (s.thDevices d).1 ∧
      t.flag (F.PD_STATUS_TH_B d) = (s.thDevices d).2 ∧
      t.flag (F.PD_STATUS_TH_OK d) = false) ∧
  (∀ (s : State) (d : DIx) (dev : Fin 2),
    s.on d = true →
    s.hasTh d = true →
    s.ran (if dev.val = 0 then (s.prot d).thADiff else (s.prot d).thBDiff) 50 = true →
    s.flag (F.PD_STATUS_TH_FAULT d) = false →
    Runs (.twoHandFault d dev) s fun t => t.flag (F.PD_STATUS_TH_FAULT d) = true ∧
      t.flag (F.PD_STATUS_TH_OK d) = false) ∧
  (∀ (s : State) (d : DIx),
    s.on d = true →
    s.hasTh d = true →
    s.ran (s.prot d).thRelSince 1000 = true →
    Runs (.twoHandFaultClear d) s fun t => t.flag (F.PD_STATUS_TH_FAULT d) = false ∧
      (s.Inv → s.sameBut t [F.PD_STATUS_TH_FAULT d]))

/-- R301, R302: LC_OFF follows the OSSDs; those of a Type 4 curtain that differ longer than LC_DISC are a fault. The test of a Type 2 curtain starts at a request, passes when the OSSD comes back, fails
where it does not go off within LC_TEST_RESP or does not come back in 200 ms, and is overdue after 24 h of RUN without a pass. -/
def Obligations.CurtainIsTested : Prop :=
  (∀ (s : State) (d : DIx),
    s.on d = true →
    s.hasLc d = true →
    s.flag (F.LC_CFG_LC_TYPE d) = false →
    s.flag (F.PD_STATUS_LC_FAULT d) = false →
    Runs (.ossdChange d) s fun t => t.flag (F.PD_STATUS_LC_OFF d) = !(s.flag (F.PD_STATUS_OSSD1 d) && s.flag (F.PD_STATUS_OSSD2 d)) ∧
      (s.Inv → s.sameBut t [F.PD_STATUS_LC_OFF d])) ∧
  (∀ (s : State) (d : DIx),
    s.on d = true →
    s.hasLc d = true →
    s.flag (F.LC_CFG_LC_TYPE d) = true →
    (s.prot d).lcKind = 2 →
    s.flag (F.PD_STATUS_OSSD1 d) = true →
    Runs (.ossdChange d) s fun t => t.flag (F.PD_STATUS_LC_TESTING d) = false ∧
      t.flag (F.PD_STATUS_LC_TEST_OK d) = true ∧
      t.flag (F.PD_STATUS_LC_FAULT d) = false ∧
      t.flag (F.PD_CTL_LC_TEST d) = false ∧
      (t.prot d).lcPassAt = some s.runTime ∧
      (t.prot d).lcKind = 0) ∧
  (∀ (s : State) (d : DIx) (t0 : Nat),
    s.on d = true →
    s.hasLc d = true →
    s.flag (F.LC_CFG_LC_TYPE d) = false →
    (s.prot d).lcDiff = some t0 →
    t0 + s.lcDisc d < s.now →
    s.flag (F.PD_STATUS_LC_FAULT d) = false →
    Runs (.lcDiscrepancy d) s fun t => t.flag (F.PD_STATUS_LC_FAULT d) = true ∧
      t.flag (F.PD_STATUS_LC_OFF d) = true) ∧
  (∀ (s : State) (d : DIx),
    s.on d = true →
    s.hasLc d = true →
    s.flag (F.LC_CFG_LC_TYPE d) = true →
    s.flag (F.PD_STATUS_LC_TESTING d) = false →
    Runs (.lcTest d) s fun t => t.flag (F.PD_CTL_LC_TEST d) = true ∧
      t.flag (F.PD_STATUS_LC_TESTING d) = true ∧
      t.flag (F.PD_STATUS_LC_OFF d) = true ∧
      (t.prot d).lcKind = 1 ∧
      (t.prot d).lcTestAt = some s.now) ∧
  (∀ (s : State) (d : DIx),
    s.on d = true →
    (s.prot d).lcKind = 1 →
    s.ran (s.prot d).lcTestAt (s.rd (F.LC_CFG_LC_TEST_RESP d)) = true →
    Runs (.lcTestResponseTimeout d) s fun t => t.flag (F.PD_STATUS_LC_FAULT d) = true ∧
      t.flag (F.PD_STATUS_LC_OFF d) = true ∧
      t.flag (F.PD_STATUS_LC_TESTING d) = false ∧
      t.flag (F.PD_STATUS_LC_TEST_OK d) = false ∧
      t.flag (F.PD_CTL_LC_TEST d) = false ∧
      (t.prot d).lcKind = 0) ∧
  (∀ (s : State) (d : DIx),
    s.on d = true →
    (s.prot d).lcKind = 2 →
    s.ran (s.prot d).lcOffSince 200 = true →
    Runs (.lcTestResponseTimeout d) s fun t => t.flag (F.PD_STATUS_LC_FAULT d) = true ∧
      t.flag (F.PD_STATUS_LC_OFF d) = true ∧
      t.flag (F.PD_STATUS_LC_TESTING d) = false ∧
      t.flag (F.PD_STATUS_LC_TEST_OK d) = false ∧
      t.flag (F.PD_CTL_LC_TEST d) = false ∧
      (t.prot d).lcKind = 0) ∧
  (∀ (s : State) (d : DIx),
    s.on d = true →
    s.hasLc d = true →
    s.flag (F.LC_CFG_LC_TYPE d) = true →
    s.inRun = true →
    s.lcLate d = true →
    s.flag (F.PD_STATUS_LC_FAULT d) = false →
    Runs (.lcTestOverdue d) s fun t => t.flag (F.PD_STATUS_LC_FAULT d) = true ∧
      t.flag (F.PD_STATUS_LC_OFF d) = true)

/-- R315, R326: a new state of a supply shows; a low one is latched and counted, state 2 fences the doorway with source 4. With the controller silent or off a limp-home channel that is on goes to UV_OFF all the same (R318, R327). An ASIC without a valid pulse for 1 ms is disarmed, with the drive enables of its
doorways low, the loss is latched, and its declared doorways are fenced with source 5, at once where its field link is up and at its next valid frame otherwise; with the pulse valid for 10 ms and its link up it re-arms.
R322: a clamp adds to the bucket of its time; one that reaches the budget locks the channel; the window moves on by one bucket every 62.5 ms. R327: LH_EN and LH_IN show, and a limp-home channel follows
its input. -/
def Obligations.SuppliesClampsAndLimpHome : Prop :=
  (∀ (s : State) (d : DIx) (st : Fin 3),
    s.alive = true →
    s.present d = true →
    st.val ≠ s.rd (F.FSUP_STATE d) →
    ¬ (s.rd (F.FSUP_STATE d) = 2 ∧ st = 1) →
    Runs (.fieldSupplyChange d st) s fun t => t.rd (F.FSUP_STATE d) = st.val ∧
      (st ≠ 0 → t.flag (F.FSUP_SEEN_LOW d) = true ∧ t.rd (F.FSUP_LOW_CNT d) = min (s.rd (F.FSUP_LOW_CNT d) + 1) (2 ^ (F.FSUP_LOW_CNT d).w - 1)) ∧
      (st = 2 → s.declared d = true → bitOf (t.fenceSet d) 3 = true)) ∧
  (∀ (s : State) (d : DIx) (st : Fin 3),
    s.present d = true →
    st.val = s.rd (F.FSUP_STATE d) ∨ (s.rd (F.FSUP_STATE d) = 2 ∧ st = 1) →
    Runs (.fieldSupplyChange d st) s fun t => (s.Inv → s.sameBut t [])) ∧
  (∀ (s : State) (d : DIx) (st : Fin 3) (k : KIx),
    s.alive = false →
    s.present d = true →
    s.rd (F.FSUP_STATE d) = 0 →
    st ≠ 0 →
    (s.chan d k).limp = true →
    s.flag (F.CH_STATUS_CMD d k) = true →
    s.rd (F.CH_STATUS_STATE d k) = chInrush ∨ s.rd (F.CH_STATUS_STATE d k) = chOn →
    Runs (.fieldSupplyChange d st) s fun t => t.rd (F.FSUP_STATE d) = st.val ∧
      t.rd (F.CH_STATUS_STATE d k) = chUv ∧
      t.rd (F.FSUP_LOW_CNT d) = s.rd (F.FSUP_LOW_CNT d)) ∧
  (∀ (s : State) (j : JIx) (d : DIx),
    s.alive = true →
    (s.asic j.val).lostSince = none →
    (s.asic j.val).pulseOk = false →
    (s.asic j.val).pulseSince + msT 1 ≤ s.now →
    s.flag (F.FIO_STATUS_LINK_OK j.val) = true →
    d.val / 6 = j.val →
    Runs (.aliveLost j) s fun t => (t.asic j.val).armed = false ∧
      (t.asic j.val).lostSince = some s.now ∧
      t.flag (F.FIO_STATUS_ALIVE_LOST j.val) = true ∧
      (s.present d = true → t.flag (F.DEN_STATUS_DEN_A d) = false ∧ t.flag (F.DEN_STATUS_DEN_B d) = false) ∧
      (s.on d = true → bitOf (t.fenceSet d) 4 = true) ∧
      (t.asic j.val).owe = false) ∧
  (∀ (s : State) (j : JIx) (d : DIx),
    s.alive = true →
    (s.asic j.val).lostSince = none →
    (s.asic j.val).pulseOk = false →
    (s.asic j.val).pulseSince + msT 1 ≤ s.now →
    s.flag (F.FIO_STATUS_LINK_OK j.val) = false →
    d.val / 6 = j.val →
    Runs (.aliveLost j) s fun t => (t.asic j.val).armed = false ∧
      (t.asic j.val).lostSince = some s.now ∧
      t.flag (F.FIO_STATUS_ALIVE_LOST j.val) = true ∧
      (s.present d = true → t.flag (F.DEN_STATUS_DEN_A d) = false ∧ t.flag (F.DEN_STATUS_DEN_B d) = false) ∧
      (t.asic j.val).owe = true) ∧
  (∀ (s : State) (j : JIx),
    s.alive = true →
    (s.asic j.val).armed = false →
    (s.asic j.val).pulseOk = true →
    (s.asic j.val).pulseSince + msT 10 ≤ s.now →
    s.flag (F.FIO_STATUS_LINK_OK j.val) = true →
    Runs (.asicRearm j) s fun t => (t.asic j.val).armed = true ∧
      (t.asic j.val).lostSince = none) ∧
  (∀ (s : State) (d : DIx) (k : KIx) (cur : List Nat),
    s.present d = true →
    (cur.foldl (clampStep (clampBudget k) (s.chan d k).bkt) ((s.chan d k).buckets, false)).2 = true →
    s.rd (F.CH_STATUS_STATE d k) ≠ chLocked →
    Runs (.clampEnd d k cur) s fun t => t.rd (F.CH_STATUS_STATE d k) = chLocked ∧
      (t.chan d k).buckets = (cur.foldl (clampStep (clampBudget k) (s.chan d k).bkt) ((s.chan d k).buckets, false)).1) ∧
  (∀ (s : State) (d : DIx) (k : KIx) (cur : List Nat),
    s.present d = true →
    (cur.foldl (clampStep (clampBudget k) (s.chan d k).bkt) ((s.chan d k).buckets, false)).2 = false →
    Runs (.clampEnd d k cur) s fun t => (t.chan d k).buckets = (cur.foldl (clampStep (clampBudget k) (s.chan d k).bkt) ((s.chan d k).buckets, false)).1 ∧
      t.rd (F.CH_MEAS_CLAMP d k) = min (sumNat (cur.foldl (clampStep (clampBudget k) (s.chan d k).bkt) ((s.chan d k).buckets, false)).1 / 100000) (2 ^ (F.CH_MEAS_CLAMP d k).w - 1) ∧
      (s.Inv → (s.modCh d k (fun c => { c with buckets := (cur.foldl (clampStep (clampBudget k) (s.chan d k).bkt) ((s.chan d k).buckets, false)).1 })).hiddenAs t ∧ s.fieldsBut t [F.CH_MEAS_CLAMP d k])) ∧
  (∀ (s : State) (d : DIx) (k : KIx),
    s.present d = true →
    (s.chan d k).last + 10000000 ≤ s.now →
    Runs (.clampWindowBucket d k) s fun t => (t.chan d k).bkt = ((s.chan d k).bkt + 1) % 16 ∧
      (t.chan d k).last = s.now ∧
      (t.chan d k).buckets = setNth (s.chan d k).buckets (((s.chan d k).bkt + 1) % 16) 0 ∧
      (s.Inv → s.fieldsBut t [F.CH_MEAS_CLAMP d k])) ∧
  (∀ (s : State) (j : JIx) (en : Bool),
    Runs (.limpHomeChange j en) s fun t => t.flag F.LH_STATUS_LH_EN = en ∧
      (t.asic j.val).lhEn = en ∧
      t.flag (F.FIO_STATUS_LH_ACTIVE j.val) = (en || (s.asic j.val).lostSince.isSome)) ∧
  (∀ (s : State) (i : IIx) (level : Bool),
    s.lhChan i.val = none →
    Runs (.limpHomeInputChange i level) s fun t => bitOf (t.rd F.LH_STATUS_LH_IN) i.val = level ∧
      (s.Inv → (({ s with pwr := { s.pwr with lhIn := putBit s.pwr.lhIn i.val level } } : State)).hiddenAs t ∧ s.fieldsBut t [F.LH_STATUS_LH_IN])) ∧
  (∀ (s : State) (i : IIx) (level : Bool) (d : DIx) (k : KIx),
    s.lhChan i.val = some (d, k) →
    (s.chan d k).limp = true →
    s.present d = true →
    Runs (.limpHomeInputChange i level) s fun t => bitOf (t.rd F.LH_STATUS_LH_IN) i.val = level ∧
      t.flag (F.CH_STATUS_CMD d k) = level)

/-- R318, R319, R320, R321: a channel that gets too hot in INRUSH or ON shuts down and is counted, and latches off at the third restart of 10 s; it restarts in INRUSH once it has cooled, where it is still
commanded and supplied, as does one that waited hot in OFF or UV_OFF; all this also while the controller is silent; its inrush window ends in ON; CLEAR takes a latched channel that has cooled back and is refused otherwise. -/
def Obligations.ChannelsProtectThemselves : Prop :=
  (∀ (s : State) (d : DIx) (k : KIx),
    s.present d = true →
    s.rd (F.CH_STATUS_STATE d k) = chInrush ∨ s.rd (F.CH_STATUS_STATE d k) = chOn →
    ((s.chan d k).restarts.filter (fun x => decide (s.now < x + msT 10000))).length < 3 →
    Runs (.thermalShutdown d k) s fun t => t.rd (F.CH_STATUS_STATE d k) = chTsd ∧
      t.rd (F.CH_STATUS_TSD_CNT d k) = min (s.rd (F.CH_STATUS_TSD_CNT d k) + 1) (2 ^ (F.CH_STATUS_TSD_CNT d k).w - 1) ∧
      (t.chan d k).hot = true) ∧
  (∀ (s : State) (d : DIx) (k : KIx),
    s.present d = true →
    s.rd (F.CH_STATUS_STATE d k) = chInrush ∨ s.rd (F.CH_STATUS_STATE d k) = chOn →
    3 ≤ ((s.chan d k).restarts.filter (fun x => decide (s.now < x + msT 10000))).length →
    Runs (.thermalShutdown d k) s fun t => t.rd (F.CH_STATUS_STATE d k) = chLatched ∧
      t.rd (F.CH_STATUS_TSD_CNT d k) = min (s.rd (F.CH_STATUS_TSD_CNT d k) + 1) (2 ^ (F.CH_STATUS_TSD_CNT d k).w - 1) ∧
      t.flag (if s.flag (F.CH_STATUS_LIMITING d k) then F.CH_STATUS_SC d k else F.CH_STATUS_OT d k) = true) ∧
  (∀ (s : State) (d : DIx) (k : KIx),
    s.present d = true →
    s.rd (F.CH_STATUS_STATE d k) = chLatched ∨ s.rd (F.CH_STATUS_STATE d k) = chLocked →
    Runs (.channelCooled d k) s fun t => (s.Inv → (s.modCh d k (fun c => { c with hot := false })).hiddenAs t ∧ s.fieldsBut t [F.CH_STATUS_CMD d k])) ∧
  (∀ (s : State) (d : DIx) (k : KIx),
    s.present d = true →
    s.rd (F.CH_STATUS_STATE d k) ≠ chTsd →
    Runs (.channelCooled d k) s fun t => (t.chan d k).hot = false ∧
      ((s.rd (F.CH_STATUS_STATE d k) = chOff ∨ s.rd (F.CH_STATUS_STATE d k) = chUv) → (s.asic (asicOf d)).armed = true → s.chCommand d k = true → s.supplyOk d = true → t.rd (F.CH_STATUS_STATE d k) = chInrush)) ∧
  (∀ (s : State) (d : DIx) (k : KIx),
    s.present d = true →
    s.rd (F.CH_STATUS_STATE d k) = chTsd →
    s.flag (F.CH_STATUS_CMD d k) = true →
    s.supplyOk d = true →
    Runs (.channelCooled d k) s fun t => t.rd (F.CH_STATUS_STATE d k) = chInrush ∧
      (t.chan d k).hot = false ∧
      (t.chan d k).inrushAt = s.now + msT (s.rd (F.CH_CFG_INRUSH_WIN d k))) ∧
  (∀ (s : State) (d : DIx) (k : KIx),
    s.present d = true →
    s.rd (F.CH_STATUS_STATE d k) = chTsd →
    s.flag (F.CH_STATUS_CMD d k) = false ∨ s.supplyOk d = false →
    Runs (.channelCooled d k) s fun t => t.rd (F.CH_STATUS_STATE d k) = (if s.flag (F.CH_STATUS_CMD d k) then chUv else chOff) ∧
      (t.chan d k).hot = false) ∧
  (∀ (s : State) (d : DIx) (k : KIx),
    s.present d = true →
    s.rd (F.CH_STATUS_STATE d k) = chInrush →
    (s.chan d k).inrushAt ≤ s.now →
    Runs (.inrushWindowEnd d k) s fun t => t.rd (F.CH_STATUS_STATE d k) = chOn) ∧
  (∀ (s : State) (d : DIx) (k : KIx),
    s.alive = true →
    s.present d = true →
    s.rd (F.CH_STATUS_STATE d k) = chLatched →
    (s.chan d k).hot = false →
    Runs (.clear d k) s fun t => t.flag (F.CH_CTL_CLEAR d k) = false ∧
      t.flag (F.CH_STATUS_SC d k) = false ∧
      t.flag (F.CH_STATUS_OT d k) = false ∧
      t.rd (F.CH_STATUS_RESTARTS d k) = 0 ∧
      t.rd (F.CH_STATUS_STATE d k) ≠ chLatched) ∧
  (∀ (s : State) (d : DIx) (k : KIx),
    s.alive = true →
    s.present d = true →
    s.rd (F.CH_STATUS_STATE d k) ≠ chLatched ∨ (s.chan d k).hot = true →
    s.rd (F.CH_STATUS_STATE d k) ≠ chLocked ∨ clampBudget k ≤ 2 * sumNat (s.chan d k).buckets →
    Runs (.clear d k) s fun t => t.flag (F.CH_CTL_REFUSED d k) = true ∧
      t.flag (F.CH_CTL_CLEAR d k) = false ∧
      (s.Inv → s.sameBut t [F.CH_CTL_CLEAR d k, F.CH_CTL_REFUSED d k]))

/-! ## Images, placement and faults -/

/-- R350, R351, R354, R355, R359: a verification with a reason to refuse leaves the load refused with that reason, one without leaves it verifying; a verified image is structural, safety or
non-safety by its bytes: the first two are pending, the third runs at once, and so does a keystore signed by its own keys. A press of COMMIT confirms what is armed, and a press below 200 ms does nothing; an armed confirmation
lapses. A structural image that waits enters CONFIG from RUN with every output off. The activation is read as log 114 says. -/
def Obligations.ImagesAreVerifiedAndConfirmed : Prop :=
  (∀ (s : State) (cf : CheckFault) (x : Option Bad),
    s.alive = true →
    (s.hasAuth || s.recovers) = true →
    s.img.load = .receiving →
    s.cvuOf 5 0 = none →
    ((s.setF F.CFG_CTL_VERIFY true).setLoad .verifying).imageBad (s.slot s.loadSlot) false = x →
    Runs (.imageVerify cf) s fun t => t.img.load = (if x = none then .verifying else .refusedImg) ∧
      (x = none → t.img.checked = true) ∧
      (∀ b : Bad, x = some b → t.rd F.CFG_REFUSE_CHECK = b.1 % 2 ^ F.CFG_REFUSE_CHECK.w ∧ t.flag F.CFG_CTL_VERIFY = false)) ∧
  (∀ (s : State),
    s.alive = true →
    s.img.load = .verifying →
    s.img.checked = true →
    s.img.running = none →
    fieldAt (s.slot s.loadSlot) 16 1 ≠ 1 →
    Runs (.imageVerified) s fun t => t.img.load = .pendingImg ∧
      t.img.loadClass = 3 ∧
      t.img.checked = false ∧
      t.flag F.CFG_CTL_VERIFY = false) ∧
  (∀ (s : State),
    s.alive = true →
    (s.hasAuth || s.recovers) = true →
    s.imgHeld = true →
    Runs (.discard) s fun t => t.img.load = .empty ∧
      t.flag F.CFG_CTL_DISCARD = false) ∧
  (∀ (s : State) (ms : Nat),
    s.alive = true →
    s.pwr.bothC = false →
    ms < 200 ∨ s.img.arm = none →
    Runs (.commitPress ms) s fun t => (s.Inv → s.sameBut t [])) ∧
  (∀ (s : State) (ms : Nat) (a : Arm),
    s.alive = true →
    s.pwr.bothC = false →
    200 ≤ ms →
    (s.hasAuth || s.recovers) = true →
    s.img.arm = some a →
    s.now < a.until_ →
    a.target = 1 →
    s.img.loadClass = 3 →
    Runs (.commitPress ms) s fun t => t.img.arm = none ∧
      t.rd F.ARM = 0 ∧
      t.img.load = .waitingImg) ∧
  (∀ (s : State) (a : Arm),
    s.alive = true →
    s.img.arm = some a →
    a.until_ ≤ s.now →
    Runs (.confirmLapsed) s fun t => t.img.arm = none ∧
      t.rd F.ARM = 0 ∧
      t.img.load = s.img.load) ∧
  (∀ (s : State),
    s.alive = true →
    s.img.load = .verifying →
    s.img.checked = true →
    s.img.running.isSome = true →
    fieldAt (s.slot s.loadSlot) 16 1 ≠ 1 →
    secData (s.slot s.loadSlot) 1 = secData s.runImage 1 →
    secData (s.slot s.loadSlot) 2 ≠ secData s.runImage 2 →
    Runs (.imageVerified) s fun t => t.img.load = .pendingImg ∧
      t.img.loadClass = 2 ∧
      t.img.checked = false ∧
      t.flag F.CFG_CTL_VERIFY = false ∧
      t.img.running = s.img.running) ∧
  (∀ (s : State),
    s.alive = true →
    s.img.load = .verifying →
    s.img.checked = true →
    s.img.running.isSome = true →
    fieldAt (s.slot s.loadSlot) 16 1 ≠ 1 →
    secData (s.slot s.loadSlot) 1 = secData s.runImage 1 →
    secData (s.slot s.loadSlot) 2 = secData s.runImage 2 →
    Runs (.imageVerified) s fun t => t.img.running = some s.loadSlot ∧
      t.img.load = .empty ∧
      t.img.checked = false ∧
      t.flag F.CFG_CTL_VERIFY = false) ∧
  (∀ (s : State),
    s.alive = true →
    s.img.load = .verifying →
    s.img.checked = true →
    fieldAt (s.slot s.loadSlot) 16 1 = 1 →
    Runs (.imageVerified) s fun t => t.img.load = (if fieldAt (secData (s.slot s.loadSlot) 10) 0 1 = 0 then .pendingImg else .empty) ∧
      t.img.checked = false ∧
      t.flag F.CFG_CTL_VERIFY = false ∧
      (fieldAt (secData (s.slot s.loadSlot) 10) 0 1 ≠ 0 → t.img.keyGen = fieldAt (secData (s.slot s.loadSlot) 1) 0 4)) ∧
  (∀ (s : State) (ms : Nat) (a : Arm),
    s.alive = true →
    s.pwr.bothC = false →
    200 ≤ ms →
    (s.hasAuth || s.recovers) = true →
    s.img.arm = some a →
    s.now < a.until_ →
    a.target = 1 →
    s.img.loadClass ≠ 3 →
    Runs (.commitPress ms) s fun t => t.img.arm = none ∧
      t.rd F.ARM = 0 ∧
      t.img.running = some s.loadSlot ∧
      t.img.load = .empty) ∧
  (∀ (s : State) (ms : Nat) (a : Arm),
    s.alive = true →
    s.pwr.bothC = false →
    200 ≤ ms →
    (s.hasAuth || s.recovers) = true →
    s.img.arm = some a →
    s.now < a.until_ →
    a.target = 2 →
    Runs (.commitPress ms) s fun t => t.img.arm = none ∧
      t.rd F.ARM = 0 ∧
      t.img.load = .empty ∧
      t.img.keyGen = fieldAt (secData (s.slot s.loadSlot) 1) 0 4) ∧
  (∀ (s : State),
    s.alive = true →
    s.modState = 3 ∨ s.modState = 1 →
    s.img.load = .waitingImg →
    s.img.loadClass = 3 →
    s.zeroSpeed = true →
    s.outputsOff = false →
    s.faultMoves = false →
    (∀ d : DIx, s.present d = true → bitOf (Nat.lor s.img.decl (imgDecl (s.slot s.loadSlot))) d.val = true → s.st d = .closedLocked ∨ s.st d = .unproven ∨ s.st d = .isolated ∨ s.st d = .fenced) →
    Runs (.structuralActivation) s fun t => t.modState = 1 ∧
      t.pwr.configAt = s.now ∧
      t.img.running = some s.loadSlot ∧
      t.flag F.LOOP_STATUS_L1_CLOSED = false ∧
      (∀ d : DIx, s.declared d = true → t.flag (F.DEN_STATUS_DEN_A d) = false ∧ t.flag (F.DEN_STATUS_DEN_B d) = false))

/-- R375, R377, R378, R379: a fault of the evaluation slot of a doorway fences it with source 8 until the new slot has loaded its parameters; a region with 16 correctable errors is degraded; an ended move is no
longer waiting; a move window that has run out is closed.
R397: a drive retrain that runs out fences its doorway with source 2 and a head retrain sets HEAD_FAULT, as with the commands of their own; a slot or region move that runs out closes its window and leaves the
doorway without the resource; a rebind that runs out closes its window. A move waits for its target (log 68). -/
def Obligations.ResourcesMove : Prop :=
  (∀ (s : State) (d : DIx) (kind : Fin 3),
    s.on d = true →
    s.resOf d poolSes ≠ noRes →
    kind ≠ 0 →
    Runs (.evalSlotFault d kind) s fun t => bitOf (t.fenceSet d) 7 = true) ∧
  (∀ (s : State) (d : DIx),
    s.on d = true →
    s.resOf d poolSes ≠ noRes →
    s.fm poolSes (s.resOf d poolSes) = 0 →
    bitOf (s.fenceSet d) 7 = true →
    Runs (.slotMoveComplete d true) s fun t => bitOf (t.fenceSet d) 7 = false ∧
      t.winOpen 5 d.val = false ∧
      t.plc.moves.any (fun m => m.started && m.dwy == d.val && m.pool == poolSes) = false) ∧
  (∀ (s : State) (r : PIx),
    s.alive = true →
    16 ≤ s.regionErrs r.val →
    r.val < s.nPair →
    s.fm poolDram r.val = 0 →
    Runs (.dramRegionDegraded r) s fun t => t.fm poolDram r.val = 2 ∧
      bitOf (t.rd F.DEGR_DRAM) r.val = true) ∧
  (∀ (s : State) (d : DIx),
    s.on d = true →
    s.plc.moves.filter (fun m => s.moveStartable d m) = [] →
    Runs (.deferredMoveStart d) s fun t => (s.Inv → s.sameBut t [])) ∧
  (∀ (s : State) (d : DIx) (m : Move) (n : Nat),
    s.on d = true →
    s.plc.moves.filter (fun m => s.moveStartable d m) = [m] →
    m.pool = poolDram →
    s.targetBusy d poolDram = false →
    s.pickSpare d poolDram = some n →
    Runs (.deferredMoveStart d) s fun t => t.plc.moves.any (fun x => x.started && x.dwy == d.val && x.pool == poolDram) = true ∧
      t.winOpen 6 d.val = true) ∧
  (∀ (s : State) (d : DIx) (m : Move) (n : Nat),
    s.on d = true →
    s.plc.moves.filter (fun m => s.moveStartable d m) = [m] →
    m.pool = poolEng →
    s.targetBusy d poolEng = false →
    s.pairOf d = none →
    s.pickSpare d poolEng = some n →
    s.waits d poolEng = some m →
    m.target = n →
    n < s.nPair →
    Runs (.deferredMoveStart d) s fun t => t.pst (Fin.ofNat 32 n) = pMigrating ∧
      t.pairDwy (Fin.ofNat 32 n) = some d) ∧
  (∀ (s : State) (d : DIx) (pool : Fin 8),
    s.on d = true →
    s.plc.moves.any (fun m => m.started && m.dwy == d.val && m.pool == pool.val) = true →
    Runs (.deferredMoveComplete d pool) s fun t => t.plc.moves.any (fun m => m.started && m.dwy == d.val && m.pool == pool.val) = false) ∧
  (∀ (s : State) (r : Fin 33),
    s.alive = true →
    s.inRun = true →
    r.val < 32 →
    Runs (.dramCorrectableError r) s fun t => t.rd (F.FLT_DRAM_CORR) = min (s.rd (F.FLT_DRAM_CORR) + 1) (2 ^ (F.FLT_DRAM_CORR).w - 1) ∧
      (r.val, s.runTime) ∈ t.plc.dramErr ∧
      (s.Inv → s.fieldsBut t [F.FLT_DRAM_CORR])) ∧
  (∀ (s : State) (n : Fin 25) (d : DIx),
    s.on d = true →
    d.val = n.val →
    (s.drv d).retrainOpen = true →
    (s.drv d).trig + msT 5 ≤ s.now →
    Runs (.recoveryWindowExpired 1 n) s fun t => bitOf (t.fenceSet d) 1 = true ∧
      (t.drv d).retrainOpen = false) ∧
  (∀ (s : State) (n : Fin 25) (d : DIx),
    s.on d = true →
    d.val = n.val →
    (s.head d).opening = true →
    (s.head d).trig + msT 400 ≤ s.now →
    Runs (.recoveryWindowExpired 2 n) s fun t => t.flag (F.HEAD_STATUS_HEAD_FAULT d) = true) ∧
  (∀ (s : State) (n : Fin 25) (d : DIx),
    s.on d = true →
    d.val = n.val →
    s.winRanOut 5 d.val = true →
    Runs (.recoveryWindowExpired 5 n) s fun t => t.winOpen 5 d.val = false ∧
      t.resOf d poolSes = noRes) ∧
  (∀ (s : State) (n : Fin 25) (d : DIx),
    s.on d = true →
    d.val = n.val →
    s.winRanOut 6 d.val = true →
    Runs (.recoveryWindowExpired 6 n) s fun t => t.winOpen 6 d.val = false ∧
      t.resOf d poolDram = noRes) ∧
  (∀ (s : State) (n : Fin 25),
    s.alive = true →
    s.winRanOut 7 n.val = true →
    Runs (.recoveryWindowExpired 7 n) s fun t => t.winOpen 7 n.val = false)

/-- R389, R391, R401, R404, R412: an uncorrectable error of memory in use, a fault of the fabric, a configuration mismatch of the module, a comparator that misses its test and the loss of the engine clock each
set their cause pending; from RUN the module enters SAFE with that first cause and gives up its authority. A mismatch in the configuration of a doorway fences it with source 10, a sequencer mismatch with
source 9. An error found by scrub is read as log 84 says. -/
def Obligations.ModuleFaultsLeadToSafe : Prop :=
  (∀ (s : State) (addr : Word) (region : Fin 33) (scrub : Bool),
    s.alive = true →
    Runs (.dramUncorrectable addr region scrub) s fun t => t.rd (F.FLT_DRAM_UNCORR) = min (s.rd (F.FLT_DRAM_UNCORR) + 1) (2 ^ (F.FLT_DRAM_UNCORR).w - 1) ∧
      t.rd F.FLT_DRAM_ADDR = addr.toNat ∧
      (region = 32 → bitOf (t.rd F.FLT_SAFE_PENDING) 0 = true) ∧
      (region = 32 → s.modState = 3 → t.modState = 4 ∧ t.rd F.FLT_SAFE_FIRST = 1 ∧ t.flag F.RP_STATUS_AUTH = false) ∧
      (region.val < 32 → region.val < s.nPair → t.fm poolDram region.val = 3)) ∧
  (∀ (s : State) (addr : Word) (region : Fin 33) (scrub : Bool) (d : DIx),
    s.alive = true →
    region.val < 32 →
    s.userOf poolDram region.val = some d →
    Runs (.dramUncorrectable addr region scrub) s fun t => bitOf (t.rd F.FLT_SAFE_PENDING) 0 = true ∧
      (s.modState = 3 → t.modState = 4 ∧ t.rd F.FLT_SAFE_FIRST = 1 ∧ t.flag F.RP_STATUS_AUTH = false)) ∧
  (∀ (s : State) (slot : Fin 34) (d : DIx),
    s.alive = true →
    slot.val < 32 →
    s.userOf poolSes slot.val = some d →
    s.on d = true →
    Runs (.comparatorSelftest slot false) s fun t => bitOf (t.fenceSet d) 7 = true ∧
      t.fm poolSes slot.val = 3) ∧
  (∀ (s : State) (port : Byte) (data : Bool),
    s.alive = true →
    Runs (.fabricFault port data) s fun t => bitOf (t.rd F.FLT_SAFE_PENDING) 1 = true ∧
      (s.modState = 3 → t.modState = 4 ∧ t.rd F.FLT_SAFE_FIRST = 2 ∧ t.flag F.RP_STATUS_AUTH = false)) ∧
  (∀ (s : State) (region : Fin 26) (ref : Word) (us : BitVec 16) (kat : Bool) (u : UIx),
    s.alive = true →
    s.cvuOf 6 region.val = some u →
    Runs (.configScrubPass region ref ref us kat) s fun t => t.rd F.FLT_SCRUB_LONGEST = max (s.rd F.FLT_SCRUB_LONGEST) us.toNat ∧
      t.rd (F.CVU_VALUE u) = ref.toNat) ∧
  (∀ (s : State) (region : Fin 26) (ref val : Word) (us : BitVec 16) (kat : Bool) (u : UIx),
    s.alive = true →
    s.cvuOf 6 region.val = some u →
    ref ≠ val →
    24 ≤ region.val →
    Runs (.configScrubPass region ref val us kat) s fun t => t.rd F.FLT_SCRUB_REGION = region.val ∧
      bitOf (t.rd F.FLT_SAFE_PENDING) 4 = true ∧
      (s.modState = 3 → t.modState = 4 ∧ t.rd F.FLT_SAFE_FIRST = 5 ∧ t.flag F.RP_STATUS_AUTH = false)) ∧
  (∀ (s : State) (region : Fin 26) (ref val : Word) (us : BitVec 16) (kat : Bool) (u : UIx),
    s.alive = true →
    s.cvuOf 6 region.val = some u →
    ref ≠ val →
    region.val < 24 →
    s.declared (Fin.ofNat 24 region.val) = true →
    Runs (.configScrubPass region ref val us kat) s fun t => t.rd F.FLT_SCRUB_REGION = region.val ∧
      bitOf (t.fenceSet (Fin.ofNat 24 region.val)) 9 = true) ∧
  (∀ (s : State) (d : DIx),
    s.on d = true →
    Runs (.sequencerMismatch d) s fun t => t.flag (F.FLT_DWY_SEQ_FAULT d.val) = true ∧
      bitOf (t.fenceSet d) 8 = true) ∧
  (∀ (s : State) (slot : Fin 34),
    s.alive = true →
    32 ≤ slot.val →
    Runs (.comparatorSelftest slot false) s fun t => bitOf (t.rd F.FLT_SAFE_PENDING) 2 = true ∧
      (s.modState = 3 → t.modState = 4 ∧ t.rd F.FLT_SAFE_FIRST = 3 ∧ t.flag F.RP_STATUS_AUTH = false)) ∧
  (∀ (s : State) (slot : Fin 34),
    s.alive = true →
    Runs (.comparatorSelftest slot true) s fun t => (s.Inv → s.sameBut t [])) ∧
  (∀ (s : State),
    s.alive = true →
    s.flag F.FLT_CLK_ENG = true →
    Runs (.engClockLoss) s fun t => t.flag F.FLT_CLK_ENG = false ∧
      bitOf (t.rd F.FLT_SAFE_PENDING) 3 = true ∧
      (s.modState = 3 → t.modState = 4 ∧ t.rd F.FLT_SAFE_FIRST = 4 ∧ t.flag F.RP_STATUS_AUTH = false))

/-- R408, R409, R410, R411: every trigger of Quickthorn, the fourth where the own line still reads claimed 1 ms after the claim was withdrawn, holds the logic in reset with the module in SAFE, the claim given up and every output off; the watchdog does so when it is not served in time or with the wrong
word, and takes a right service between 2 ms and 8 ms. A rebound unit that passes its test is enabled. A doorway that has not cycled for 24 h shows CYCLE_DUE. -/
def Obligations.QuickthornTrips : Prop :=
  (∀ (s : State) (bit : Fin 5) (byS byA : Bool),
    s.alive = true →
    (bit = 4 → s.claimStuck = true) →
    Runs (.quickthornTrip bit byS byA) s fun t => t.qtHeld = true ∧
      t.alive = false ∧
      t.modState = 4 ∧
      t.flag F.RP_STATUS_AUTH = false ∧
      t.flag F.LOOP_STATUS_L1_CLOSED = false ∧
      (∀ d : DIx, t.flag (F.DEN_STATUS_DEN_A d) = false ∧ t.flag (F.DEN_STATUS_DEN_B d) = false) ∧
      ((bit ≠ 3 ∨ s.pwr.powerFail = false) → bitOf t.flt.qtBits bit.val = true)) ∧
  (∀ (s : State) (byS byA : Bool),
    s.claimStuck = false →
    Runs (.quickthornTrip 4 byS byA) s fun t => (s.Inv → s.sameBut t [])) ∧
  (∀ (s : State),
    s.alive = true →
    s.flt.wdogAt + msT 8 ≤ s.now →
    Runs (.watchdogExpiry) s fun t => t.qtHeld = true ∧
      t.alive = false ∧
      t.modState = 4 ∧
      t.flag F.RP_STATUS_AUTH = false ∧
      t.flag F.LOOP_STATUS_L1_CLOSED = false ∧
      (∀ d : DIx, t.flag (F.DEN_STATUS_DEN_A d) = false ∧ t.flag (F.DEN_STATUS_DEN_B d) = false)) ∧
  (∀ (s : State) (right : Bool),
    s.alive = true →
    right = false ∨ s.now < s.flt.wdogAt + msT 2 ∨ s.flt.wdogAt + msT 8 < s.now →
    Runs (.watchdogService right) s fun t => t.qtHeld = true ∧
      t.alive = false ∧
      t.modState = 4 ∧
      t.flag F.RP_STATUS_AUTH = false ∧
      t.flag F.LOOP_STATUS_L1_CLOSED = false ∧
      (∀ d : DIx, t.flag (F.DEN_STATUS_DEN_A d) = false ∧ t.flag (F.DEN_STATUS_DEN_B d) = false)) ∧
  (∀ (s : State),
    s.alive = true →
    s.flt.wdogAt + msT 2 ≤ s.now →
    s.now ≤ s.flt.wdogAt + msT 8 →
    Runs (.watchdogService true) s fun t => t.rd F.FLT_WDOG_MARGIN = min ((s.flt.wdogAt + msT 8 - s.now) / 160) (s.rd F.FLT_WDOG_MARGIN) ∧
      (s.Inv → ({ s with flt := { s.flt with wdogAt := s.now, wdogSeq := s.flt.wdogSeq + 1 } }).hiddenAs t ∧ s.fieldsBut t [F.FLT_WDOG_MARGIN])) ∧
  (∀ (s : State) (u : UIx),
    s.alive = true →
    s.rd (F.CVU_STATUS_STATE u) = 2 →
    Runs (.cvuRebound u true) s fun t => t.rd (F.CVU_STATUS_STATE u) = 1 ∧
      t.rd (F.CVU_COUNT u) = 0 ∧
      t.flag (F.CVU_STATUS_KAT_OK u) = true ∧
      t.winOpen 7 (s.cvuDoor u) = false) ∧
  (∀ (s : State) (d : DIx),
    s.on d = true →
    24 ≤ s.rd (F.FLT_DWY_HOURS d.val) →
    s.flag (F.FLT_DWY_CYCLE_DUE d.val) = false →
    Runs (.cycleDue d) s fun t => t.flag (F.FLT_DWY_CYCLE_DUE d.val) = true ∧
      t.flag F.FLT_STATUS_CYCLE_DUE = true)

/-! ## The redundant pair -/

/-- R425, R426, R427: the holder sends the next generation with at most 128 deltas, the other module its applied one. A valid epoch of the partner shows its variant, role, state and slot and a link that
is up; copies that are both invalid, on lanes that no unit checks, show nothing of it. Without one for 3 ms the link is lost. A lane that alone is silent for 3 ms is shown.
R424, R425, R428, R444: a request for a resynchronisation is remembered by the holder; snapshots, content and forwarded records are acknowledged; pieces of a snapshot and of content are kept at a module
without authority; an acknowledged record needs no forwarding any more. Generations and acknowledgements are read as logs 101 and 102 say. -/
def Obligations.MirrorLinkCarries : Prop :=
  (∀ (s : State),
    s.alive = true →
    s.modState ≠ 0 →
    s.hasAuth = true →
    Runs (.epochSend) s fun t => t.pair.gen = (s.pair.gen + 1) % 2 ^ 32 ∧
      t.rd F.RP_MIRROR = (s.pair.gen + 1) % 2 ^ 32 ∧
      t.pair.deltas = s.pair.deltas.drop 128 ∧
      t.pair.out.head? = some (s.epochBytes ((s.pair.gen + 1) % 2 ^ 32) s.pair.hoNow (s.pair.deltas.take 128)) ∧
      t.pair.hoNow = false) ∧
  (∀ (s : State),
    s.alive = true →
    s.modState ≠ 0 →
    s.hasAuth = false →
    Runs (.epochSend) s fun t => t.pair.gen = s.pair.gen ∧
      t.pair.out.head? = some (s.epochBytes s.pair.applied s.pair.hoNow [])) ∧
  (∀ (s : State) (c0 c1 : List Byte) (cf : CheckFault) (p : List Byte),
    s.alive = true →
    s.modState ≠ 0 →
    (s.takeCopy 0x40 c0 c1 cf).1 = some p →
    Runs (.epochReceived c0 c1 cf) s fun t => t.flag F.RP_STATUS_LINK_UP = true ∧
      t.rd F.RP_PARTNER_VARIANT = fieldAt p 18 1 % 2 ^ F.RP_PARTNER_VARIANT.w ∧
      t.rd F.RP_PARTNER_ROLE = fieldAt p 9 1 % 2 ^ F.RP_PARTNER_ROLE.w ∧
      t.rd F.RP_PARTNER_STATE = fieldAt p 10 1 % 2 ^ F.RP_PARTNER_STATE.w ∧
      t.flag F.RP_PARTNER_LIVE = bitOf (fieldAt p 8 1) 1 ∧
      t.flag F.RP_PARTNER_SLOT = bitOf (fieldAt p 8 1) 2 ∧
      t.pair.heard = p ∧
      t.pair.epochAt = some s.now) ∧
  (∀ (s : State) (c0 c1 : List Byte) (cf : CheckFault),
    s.alive = true →
    s.cvuOf 3 0 = none →
    s.cvuOf 3 1 = none →
    mirrorOk 0x40 c0 = false →
    mirrorOk 0x40 c1 = false →
    Runs (.epochReceived c0 c1 cf) s fun t => t.pair = s.pair ∧
      (s.Inv → s.fieldsBut t [F.RP_MIRROR_ERR_LANE0, F.RP_MIRROR_ERR_LANE1])) ∧
  (∀ (s : State) (t0 : Nat),
    s.alive = true →
    s.pair.epochAt = some t0 →
    t0 + msT 3 ≤ s.now →
    s.flag F.RP_STATUS_LINK_UP = true →
    Runs (.mirrorLost) s fun t => t.flag F.RP_STATUS_LINK_UP = false ∧
      t.pair.phase = 0 ∧
      t.rd F.RP_STATUS_ROLE = (if s.hasAuth then 0 else if s.rd F.RP_STATUS_ROLE = 2 then 1 else s.rd F.RP_STATUS_ROLE)) ∧
  (∀ (s : State) (lane : Fin 2) (t0 : Nat),
    s.alive = true →
    nth s.pair.laneAt lane.val none = none →
    nth s.pair.laneAt (1 - lane.val) none = some t0 →
    s.now < t0 + msT 3 →
    Runs (.mirrorLaneFault lane) s fun t => t.flag F.RP_STATUS_LANE_FAULT = true ∧
      (s.Inv → s.sameBut t [F.RP_STATUS_LANE_FAULT])) ∧
  (∀ (s : State) (c0 c1 : List Byte) (cf : CheckFault) (p : List Byte),
    s.alive = true →
    (s.takeCopy 0x41 c0 c1 cf).1 = some p →
    s.hasAuth = true →
    s.cvuOf 3 0 = none →
    s.cvuOf 3 1 = none →
    Runs (.resyncReqReceived c0 c1 cf) s fun t => t.pair.snapReq = true ∧
      (s.Inv → s.fieldsBut t [F.RP_MIRROR_ERR_LANE0, F.RP_MIRROR_ERR_LANE1])) ∧
  (∀ (s : State) (c0 c1 : List Byte) (cf : CheckFault) (p : List Byte),
    s.alive = true →
    (s.takeCopy 0x42 c0 c1 cf).1 = some p →
    s.pair.phase = 2 →
    s.pair.snap = [] →
    0 < fieldAt p 8 4 →
    Runs (.snapReceived c0 c1 cf) s fun t => t.pair.snap = [(fieldAt p 8 4, (p.drop 12).take (fieldAt p 2 2))] ∧
      t.pair.snapGen = fieldAt p 4 4 ∧
      ackFrame 0x42 (fieldAt p 8 4) ∈ t.pair.out) ∧
  (∀ (s : State) (c0 c1 : List Byte) (cf : CheckFault) (p : List Byte),
    s.alive = true →
    (s.takeCopy 0x42 c0 c1 cf).1 = some p →
    s.pair.phase ≠ 2 →
    Runs (.snapReceived c0 c1 cf) s fun t => t.pair.snap = s.pair.snap ∧
      ackFrame 0x42 (fieldAt p 8 4) ∈ t.pair.out) ∧
  (∀ (s : State) (c0 c1 : List Byte) (cf : CheckFault) (p : List Byte),
    s.alive = true →
    (s.takeCopy 0x43 c0 c1 cf).1 = some p →
    s.hasAuth = false →
    s.modState ≠ 0 →
    s.modState ≠ 4 →
    fieldAt p 8 4 = 0 →
    ((p.drop 20).take (fieldAt p 2 2)).length ≠ fieldAt p 12 4 →
    Runs (.contentReceived c0 c1 cf) s fun t => Al.get (fun _ => []) t.pair.content (256 * fieldAt p 4 1 + fieldAt p 5 1) = (p.drop 20).take (fieldAt p 2 2) ∧
      ackFrame 0x43 (fieldAt p 8 4) ∈ t.pair.out) ∧
  (∀ (s : State) (c0 c1 : List Byte) (cf : CheckFault) (p : List Byte),
    s.alive = true →
    (s.takeCopy 0x43 c0 c1 cf).1 = some p →
    s.hasAuth = true →
    Runs (.contentReceived c0 c1 cf) s fun t => t.pair.content = s.pair.content ∧
      ackFrame 0x43 (fieldAt p 8 4) ∈ t.pair.out) ∧
  (∀ (s : State) (c0 c1 : List Byte) (cf : CheckFault) (p : List Byte),
    s.alive = true →
    (s.takeCopy 0x44 c0 c1 cf).1 = some p →
    s.hasAuth = true →
    p.length = 64 →
    Runs (.recFwdReceived c0 c1 cf) s fun t => t.pair.fwdTaken = s.pair.fwdTaken + 1 ∧
      ackFrame 0x44 (s.pair.fwdTaken + 1) ∈ t.pair.out) ∧
  (∀ (s : State) (c0 c1 : List Byte) (cf : CheckFault) (p : List Byte),
    s.alive = true →
    (s.takeCopy 0x45 c0 c1 cf).1 = some p →
    fieldAt p 4 1 = 0x44 →
    Runs (.mirrorAckReceived c0 c1 cf) s fun t => t.pair.fwd = s.pair.fwd.drop (min (fieldAt p 8 4 - s.pair.fwdAcked) s.pair.fwdSent) ∧
      t.pair.fwdAcked = s.pair.fwdAcked + min (fieldAt p 8 4 - s.pair.fwdAcked) s.pair.fwdSent ∧
      t.pair.fwdSent = s.pair.fwdSent - min (fieldAt p 8 4 - s.pair.fwdAcked) s.pair.fwdSent)

/-- R429, R430, R433, R434, R435: a module with a claim condition claims with that cause and reads SOLO, under window 3 while no pod applies its frames yet; a slot B module that sees both lines claimed for more than 2 ms gives up; 20 ms after a claim the takeover window
is over and late doorways are fenced with source 2; a doorway whose inputs agree with the epoch leaves its hold, one whose inputs do not keeps it. Which claims open a takeover window is read as log 98 says. -/
def Obligations.AuthorityIsClaimedAndGivenUp : Prop :=
  (∀ (s : State) (c : Nat),
    s.alive = true →
    s.claimDue false = some c →
    Runs (.claimAuthority) s fun t => t.pair.claim = true ∧
      t.flag F.RP_STATUS_AUTH = true ∧
      t.rd F.RP_STATUS_ROLE = 0 ∧
      t.rd F.RP_TAKEOVER_CAUSE = c ∧
      t.pair.claimAt = some s.now ∧
      (s.declaredList ≠ [] → (∀ d : DIx, s.declared d = true → bitOf (s.drv d).status 5 = false) → t.winOpen 3 25 = true) ∧
      (c = 5 → s.inRun = true → ∀ d : DIx, s.declared d = true → t.st d = .unproven)) ∧
  (∀ (s : State) (t0 : Nat),
    s.alive = true →
    s.pair.bothSince = some t0 →
    s.chip.slotB = true →
    s.pair.claim = true →
    t0 + msT 2 < s.now →
    Runs (.bothClaimed) s fun t => t.pair.claim = false ∧
      t.flag F.RP_STATUS_AUTH = false ∧
      t.rd F.RP_STATUS_ROLE = 1 ∧
      (∀ d : DIx, t.flag (F.DEN_STATUS_DEN_A d) = false ∧ t.flag (F.DEN_STATUS_DEN_B d) = false)) ∧
  (∀ (s : State) (t0 : Nat) (d : DIx),
    s.alive = true →
    s.pair.claimAt = some t0 →
    t0 + msT 20 ≤ s.now →
    s.winOpen 3 25 = true →
    Runs (.takeoverWindowExpired) s fun t => t.winOpen 3 25 = false ∧
      (s.declared d = true → s.pair.holdWait.contains d.val = true → bitOf (t.fenceSet d) 1 = true)) ∧
  (∀ (s : State) (d : DIx) (t0 : Nat),
    s.on d = true →
    s.pair.claimAt = some t0 →
    s.flag (F.SEQ_STATUS_TAKEOVER_HOLD d) = true →
    t0 + msT 200 ≤ s.now →
    s.allAtRest d = true →
    s.inputsAgree d = true →
    Runs (.takeoverInputCheck d) s fun t => t.flag (F.SEQ_STATUS_TAKEOVER_HOLD d) = false ∧
      (s.Inv → s.sameBut t [F.SEQ_STATUS_TAKEOVER_HOLD d])) ∧
  (∀ (s : State) (d : DIx),
    s.on d = true →
    s.inputsAgree d = false →
    Runs (.takeoverInputCheck d) s fun t => t.flag (F.SEQ_STATUS_TAKEOVER_HOLD d) = s.flag (F.SEQ_STATUS_TAKEOVER_HOLD d) ∧
      t.st d = s.st d)

/-- R421, R437: a request with the role ACTIVE waits; with any other role it is refused; REMOVE below 200 ms does nothing and a second press withdraws a request, as CANCEL does. The handover starts when nothing moves. The
partner's claim ends it: the authority is given up. The partner's line and presence show. -/
def Obligations.HandoverIsAskedFor : Prop :=
  (∀ (s : State) (remove : Bool) (ms : Nat),
    s.alive = true →
    s.rd F.RP_STATUS_ROLE = 3 →
    remove = false ∨ (s.pwr.bothR = false ∧ 200 ≤ ms ∧ s.pair.hoReq = false) →
    Runs (.handoverReq remove ms) s fun t => t.flag F.RP_STATUS_HANDOVER = true ∧
      t.flag F.RP_CTL_HANDOVER_REQ = true ∧
      (s.Inv → ({ s with pair := { s.pair with hoReq := true, hoSrc := if remove then 1 else 2 } }).hiddenAs t ∧ s.fieldsBut t [F.RP_STATUS_HANDOVER, F.RP_CTL_HANDOVER_REQ])) ∧
  (∀ (s : State) (ms : Nat),
    s.alive = true →
    s.rd F.RP_STATUS_ROLE ≠ 3 →
    Runs (.handoverReq false ms) s fun t => t.flag F.RP_CTL_REFUSED = true ∧
      t.flag F.RP_CTL_HANDOVER_REQ = false ∧
      (s.Inv → s.sameBut t [F.RP_CTL_REFUSED, F.RP_CTL_HANDOVER_REQ])) ∧
  (∀ (s : State) (ms : Nat),
    s.alive = true →
    s.pwr.bothR = false →
    200 ≤ ms →
    s.pair.hoReq = true →
    s.pair.hoRun = false →
    Runs (.handoverReq true ms) s fun t => t.pair.hoReq = false ∧
      t.flag F.RP_STATUS_HANDOVER = false ∧
      t.flag F.RP_CTL_HANDOVER_REQ = false ∧
      (s.Inv → s.fieldsBut t [F.RP_STATUS_HANDOVER, F.RP_CTL_HANDOVER_REQ])) ∧
  (∀ (s : State),
    s.alive = true →
    s.pair.hoReq = true →
    s.pair.hoRun = false →
    Runs (.cancel) s fun t => t.pair.hoReq = false ∧
      t.flag F.RP_STATUS_HANDOVER = false ∧
      t.flag F.RP_CTL_HANDOVER_REQ = false ∧
      t.flag F.RP_CTL_CANCEL = false ∧
      (s.Inv → s.fieldsBut t [F.RP_STATUS_HANDOVER, F.RP_CTL_HANDOVER_REQ, F.RP_CTL_CANCEL])) ∧
  (∀ (s : State),
    s.alive = true →
    s.pair.hoReq = true →
    s.pair.hoRun = false →
    s.hasAuth = true →
    s.stillAll = true →
    Runs (.handoverStart) s fun t => t.pair.hoRun = true ∧
      t.pair.hoNow = true) ∧
  (∀ (s : State) (claimed : Bool),
    s.alive = true →
    s.pair.hoRun = false →
    Runs (.partnerAuthLineChange claimed) s fun t => t.flag F.RP_STATUS_PARTNER_AUTH = claimed ∧
      t.pair.partFreeSince = (if claimed then none else some s.now) ∧
      t.pair.authPin = claimed ∧
      (s.Inv → s.fieldsBut t [F.RP_STATUS_PARTNER_AUTH])) ∧
  (∀ (s : State),
    s.alive = true →
    s.pair.hoRun = true →
    s.pair.claim = true →
    Runs (.partnerAuthLineChange true) s fun t => t.pair.claim = false ∧
      t.flag F.RP_STATUS_AUTH = false ∧
      t.rd F.RP_STATUS_ROLE = 1 ∧
      t.pair.hoRun = false ∧
      t.flag F.RP_STATUS_HANDOVER = false ∧
      t.rd (F.RP_COUNTS_HANDOVERS) = min (s.rd (F.RP_COUNTS_HANDOVERS) + 1) (2 ^ (F.RP_COUNTS_HANDOVERS).w - 1)) ∧
  (∀ (s : State) (fitted : Bool),
    s.alive = true →
    Runs (.partnerPresenceChange fitted) s fun t => t.flag F.RP_STATUS_PARTNER_PRESENT = fitted ∧
      (s.Inv → ({ s with pair := { s.pair with presPin := fitted, fittedAt := if fitted then some s.now else none } }).hiddenAs t ∧ s.fieldsBut t [F.RP_STATUS_PARTNER_PRESENT]))

/-- R428, R440, R441: a resynchronisation is refused with authority or without a link, and otherwise starts a state phase under window 4, as a window of 300 ms that runs out does. A partner is restarted by request where one is
fitted, and by itself after RESTART_WAIT without a heartbeat. The pair cause of SAFE clears after 10 s of agreement, VARIANT_MISMATCH 1 s after the last epoch. RESTART_IN of 10 ms to 100 ms leads to BOOT. -/
def Obligations.PairRecovers : Prop :=
  (∀ (s : State),
    s.alive = true →
    s.hasAuth = true ∨ s.flag F.RP_STATUS_LINK_UP = false →
    Runs (.resync) s fun t => t.flag F.RP_CTL_REFUSED = true ∧
      t.flag F.RP_CTL_RESYNC = false ∧
      (s.Inv → s.sameBut t [F.RP_CTL_REFUSED, F.RP_CTL_RESYNC])) ∧
  (∀ (s : State),
    s.alive = true →
    s.hasAuth = false →
    s.flag F.RP_STATUS_LINK_UP = true →
    Runs (.resync) s fun t => t.pair.phase = 2 ∧
      t.pair.resyncAt = s.now ∧
      t.flag F.RP_STATUS_RESYNCING = true ∧
      t.winOpen 4 24 = true ∧
      t.flag F.RP_CTL_RESYNC = true ∧
      (s.rd F.RP_STATUS_ROLE = 2 → t.rd F.RP_STATUS_ROLE = 1)) ∧
  (∀ (s : State),
    s.alive = true →
    s.pair.phase = 2 ∨ s.pair.phase = 3 →
    s.pair.resyncAt + msT 300 ≤ s.now →
    Runs (.resyncWindowExpired) s fun t => t.pair.phase = 2 ∧
      t.pair.resyncAt = s.now ∧
      t.flag F.RP_STATUS_RESYNCING = true ∧
      t.winOpen 4 24 = true) ∧
  (∀ (s : State),
    s.alive = true →
    s.hasAuth = true →
    s.flag F.RP_STATUS_PARTNER_PRESENT = true →
    Runs (.partnerRestart) s fun t => t.pair.restartPulse = some s.now ∧
      t.rd (F.RP_COUNTS_RESTARTS) = min (s.rd (F.RP_COUNTS_RESTARTS) + 1) (2 ^ (F.RP_COUNTS_RESTARTS).w - 1) ∧
      t.flag F.RP_CTL_PARTNER_RESTART = false) ∧
  (∀ (s : State),
    s.alive = true →
    s.hasAuth = false ∨ s.flag F.RP_STATUS_PARTNER_PRESENT = false →
    Runs (.partnerRestart) s fun t => t.flag F.RP_CTL_REFUSED = true ∧
      t.flag F.RP_CTL_PARTNER_RESTART = false ∧
      (s.Inv → s.sameBut t [F.RP_CTL_REFUSED, F.RP_CTL_PARTNER_RESTART])) ∧
  (∀ (s : State) (t0 : Nat),
    s.alive = true →
    s.hasAuth = true →
    s.flag F.RP_CFG_AUTO_RESTART = true →
    s.flag F.RP_STATUS_PARTNER_PRESENT = true →
    s.pair.fittedAt = some t0 →
    t0 + msT (1000 * s.rd F.RP_CFG_RESTART_WAIT) ≤ s.now →
    s.pair.hbAt = none →
    s.pair.autoAt = none →
    Runs (.autoPartnerRestart) s fun t => t.pair.restartPulse = some s.now ∧
      t.rd (F.RP_COUNTS_RESTARTS) = min (s.rd (F.RP_COUNTS_RESTARTS) + 1) (2 ^ (F.RP_COUNTS_RESTARTS).w - 1) ∧
      t.pair.autoAt = some s.now) ∧
  (∀ (s : State) (t0 : Nat),
    s.alive = true →
    s.pair.agreeSince = some t0 →
    t0 + msT 10000 ≤ s.now →
    Runs (.safeCausePairClear) s fun t => bitOf (t.rd F.FLT_SAFE_PENDING) 8 = false ∧
      (s.Inv → s.sameBut t [F.FLT_SAFE_PENDING, F.FLT_STATUS_SAFE, F.FLT_STATUS_CLEAR_OK])) ∧
  (∀ (s : State) (t0 : Nat),
    s.alive = true →
    s.pair.epochAt = some t0 →
    t0 + msT 1000 ≤ s.now →
    Runs (.variantMismatchClear) s fun t => t.flag F.RP_STATUS_VARIANT_MISMATCH = false ∧
      (s.Inv → s.sameBut t [F.RP_STATUS_VARIANT_MISMATCH])) ∧
  (∀ (s : State) (ms : Nat),
    s.rail = true →
    10 ≤ ms →
    ms ≤ 100 →
    s.outputsOff = false →
    Runs (.partnerRestartIn ms) s fun t => t.modState = 0 ∧
      (t.flt.restarts = min 65535 (s.flt.restarts + 1) ∨ s.pwr.vkLost = true)) ∧
  (∀ (s : State) (ms : Nat),
    ms < 10 ∨ 100 < ms →
    Runs (.partnerRestartIn ms) s fun t => (s.Inv → s.sameBut t []))

/-! ## Recorder, host access and networks -/

/-- R447, R451, R452, R472: where the head of the staging queue may leave, it takes the next number, which then is one higher; with the last number reached the recorder stops with cause 1. The record that opens area F opens it first. A module without authority
numbers nothing. A due page buffer goes to programming where no other is.
R452, R458, R459, R460: a page that reads back as written, twice alike, is one page more and no failure; one that differs or reads differently twice is counted in PROG_FAIL. An erased block holds no slot any more, and that of a roll becomes the
current checkpoint block; one that cannot be erased is retired. The choice among due buffers is log 96. -/
def Obligations.RecordsReachFlash : Prop :=
  (∀ (s : State) (r : Rec) (rest : List Rec),
    s.alive = true →
    s.hasAuth = true →
    s.recd.queue = r :: rest →
    s.recd.next < lastNumber →
    s.opensF r = false →
    (s.advance (s.streamOf r)).mayLeave r s.numberLimit = true →
    Runs (.recordDequeue) s fun t => t.recd.next = s.recd.next + 1 ∧
      t.rd F.REC_NEXT_LO = (s.recd.next + 1) % 2 ^ 32 ∧
      (t.flag F.REC_STATUS_STOPPED = false ∨ t.rd F.REC_STATUS_STOP_CAUSE = 2)) ∧
  (∀ (s : State) (r : Rec) (rest : List Rec),
    s.alive = true →
    s.hasAuth = true →
    s.recd.queue = r :: rest →
    s.recd.next < lastNumber →
    s.opensF r = true →
    s.bufFree (s.streamOf r) = true →
    (nth s.recd.bufs (s.streamOf r) {}).recs = [] →
    ((s.openF).advance (s.streamOf r)).mayLeave r s.numberLimit = true →
    Runs (.recordDequeue) s fun t => t.recd.next = s.recd.next + 1 ∧
      t.rd F.REC_NEXT_LO = (s.recd.next + 1) % 2 ^ 32 ∧
      (t.flag F.REC_STATUS_STOPPED = false ∨ t.rd F.REC_STATUS_STOP_CAUSE = 2) ∧
      t.recd.dir.fState = 1) ∧
  (∀ (s : State) (r : Rec) (rest : List Rec),
    s.alive = true →
    s.hasAuth = true →
    s.recd.queue = r :: rest →
    lastNumber ≤ s.recd.next →
    (s.advance (s.streamOf s.lastRec)).mayLeave s.lastRec s.numberLimit = true →
    Runs (.recordDequeue) s fun t => t.flag F.REC_STATUS_STOPPED = true ∧
      t.rd F.REC_STATUS_STOP_CAUSE = 1 ∧
      t.recd.numbersOut = true) ∧
  (∀ (s : State),
    s.alive = true →
    s.hasAuth = false →
    s.recd.queue ≠ [] →
    Runs (.recordDequeue) s fun t => t.recd.next = s.recd.next ∧
      t.recd.queue = s.recd.queue) ∧
  (∀ (s : State),
    s.alive = true →
    s.recd.queue = [] →
    s.recd.lostN = 0 →
    Runs (.recordDequeue) s fun t => (s.Inv → s.sameBut t [])) ∧
  (∀ (s : State) (i : Fin 4) (b : Nat),
    s.alive = true →
    s.recd.prog = none →
    s.flag F.REC_STATUS_STOPPED = false →
    s.bufDue (nth s.recd.bufs i.val {}) = true →
    (∀ j ∈ List.range 4, j ≠ i.val → (nth s.recd.bufs j {}).recs = []) →
    (s.strm i.val).blk = some b →
    (s.strm i.val).page < 512 →
    s.recd.rollBoot = false →
    Runs (.pageBufferTimeout i) s fun t => t.recd.prog.map (fun p => p.recs) = some (nth s.recd.bufs i.val {}).recs ∧
      t.recd.prog.map (fun p => p.stream) = some i.val ∧
      (t.recd.prog.map (fun p => p.page)) = some (s.strm i.val).page) ∧
  (∀ (s : State) (p : PageProg) (back : List Byte) (stable : BitVec 8) (cf : CheckFault),
    s.alive = true →
    s.recd.prog = some p →
    p.recs ≠ [] →
    s.cvuOf 4 0 = none →
    p.recs.length ≤ 8 →
    back.length ≠ 512 ∨ chunks 64 8 back = p.recs.map (fun x => recBytes x.1 x.2 p.areaF) ++ List.replicate (8 - p.recs.length) (List.replicate 64 0xFF) →
    (List.range p.recs.length).all (bitOf stable.toNat) = true →
    Runs (.pageProgramComplete back stable cf) s fun t => t.recd.pages = s.recd.pages + 1 ∧
      t.rd F.REC_ERR_PROG_FAIL = s.rd F.REC_ERR_PROG_FAIL) ∧
  (∀ (s : State) (p : PageProg) (back : List Byte) (stable : BitVec 8) (cf : CheckFault),
    s.alive = true →
    s.recd.prog = some p →
    p.recs ≠ [] →
    s.cvuOf 4 0 = none →
    p.recs.length ≤ 8 →
    (back.length = 512 ∧ chunks 64 8 back ≠ p.recs.map (fun x => recBytes x.1 x.2 p.areaF) ++ List.replicate (8 - p.recs.length) (List.replicate 64 0xFF)) ∨ (List.range p.recs.length).all (bitOf stable.toNat) = false →
    Runs (.pageProgramComplete back stable cf) s fun t => t.recd.pages = s.recd.pages + 1 ∧
      t.rd (F.REC_ERR_PROG_FAIL) = min (s.rd (F.REC_ERR_PROG_FAIL) + 1) (2 ^ (F.REC_ERR_PROG_FAIL).w - 1)) ∧
  (∀ (s : State) (b : Nat),
    s.alive = true →
    s.flag F.REC_STATUS_READY = true →
    s.recd.erasing = some (4, b) →
    Runs (.blockEraseComplete true) s fun t => t.recd.ckBlk = b ∧
      t.recd.roll = none ∧
      t.flag F.REC_STATUS_ROLLING = false ∧
      t.flag F.REC_CTL_CHECKPOINT = false ∧
      t.recd.slots = s.recd.slots) ∧
  (∀ (s : State) (i b : Nat),
    s.alive = true →
    s.recd.erasing = some (i, b) →
    i ≠ 4 →
    Runs (.blockEraseComplete true) s fun t => t.recd.slots.all (fun x => blkOfSlot x.1 != b) = true) ∧
  (∀ (s : State) (i b : Nat),
    s.alive = true →
    s.recd.erasing = some (i, b) →
    Runs (.blockEraseComplete false) s fun t => (t.blk b).retired = true ∧
      t.recd.slots = s.recd.slots)

/-- R446, R460, R468, R470, R471: the recorder becomes READY and shows its next number; a due anchor takes the network time; a checkpoint writes an image wherever a doorway has its slot, or starts the roll that will, and waits for READY and for a roll under way; a slot that fails is FAULTY; a scrub runs by request or 24 h of
RUN after the last and ends with its hours at 0; a refresh runs by request or retention, is refused where one runs or area F is not open, and ends counted. -/
def Obligations.RecorderIsServed : Prop :=
  (∀ (s : State),
    s.alive = true →
    s.flag F.REC_STATUS_READY = false →
    s.modState ≠ 0 →
    Runs (.recorderReady) s fun t => t.flag F.REC_STATUS_READY = true ∧
      t.recd.claimMax = none ∧
      t.rd F.REC_NEXT_LO = t.recd.next % 2 ^ 32) ∧
  (∀ (s : State) (sec ns : Nat) (n : NetTime),
    s.alive = true →
    s.netNow = some (sec, ns) →
    s.recd.net = some n →
    s.anchorDue ≠ 0 →
    Runs (.timeAnchor) s fun t => t.recd.anchored = true ∧
      t.recd.anchorTb = s.tb ∧
      t.recd.anchorSec = sec ∧
      t.recd.anchorNs = ns) ∧
  (∀ (s : State),
    s.alive = true →
    s.flag F.REC_STATUS_READY = true →
    s.recd.roll = none →
    s.nextCk.isSome = true →
    Runs (.checkpoint 0) s fun t => t.flag F.REC_CTL_CHECKPOINT = t.recd.roll.isSome ∧
      ((s.declaredList = [] ∨ ∃ d ∈ s.declaredList, s.resOf d poolRec ≠ noRes) → s.recd.ckNo < t.recd.ckNo ∨ t.recd.roll.isSome = true) ∧
      (s.Inv → s.fieldsBut t [F.REC_CTL_CHECKPOINT, F.REC_STATUS_ROLLING])) ∧
  (∀ (s : State) (bad : Word),
    s.alive = true →
    s.flag F.REC_STATUS_READY = false ∨ s.recd.roll.isSome = true →
    Runs (.checkpoint bad) s fun t => t.flag F.REC_CTL_CHECKPOINT = true ∧
      (s.Inv → s.sameBut t [F.REC_CTL_CHECKPOINT])) ∧
  (∀ (s : State) (bad : Word) (r : Nat),
    s.alive = true →
    s.flag F.REC_STATUS_READY = true →
    s.recd.roll = none →
    bad.toNat = 2 ^ r →
    (s.userOf poolRec r).isSome = true →
    Runs (.checkpoint bad) s fun t => t.flag F.REC_CTL_CHECKPOINT = t.recd.roll.isSome ∧
      t.fm poolRec r = 3) ∧
  (∀ (s : State),
    s.alive = true →
    s.inRun = true →
    s.recd.scrubRun + msT 86400000 ≤ s.runTime →
    Runs (.scrub false) s fun t => t.flag F.REC_STATUS_SCRUBBING = true ∧
      t.flag F.REC_CTL_SCRUB = false ∧
      (s.Inv → s.sameBut t [F.REC_STATUS_SCRUBBING, F.REC_CTL_SCRUB])) ∧
  (∀ (s : State),
    s.alive = true →
    Runs (.scrub true) s fun t => t.flag F.REC_STATUS_SCRUBBING = true ∧
      t.flag F.REC_CTL_SCRUB = false ∧
      (s.Inv → s.sameBut t [F.REC_STATUS_SCRUBBING, F.REC_CTL_SCRUB])) ∧
  (∀ (s : State) (lost : List Nat) (badImg : Word),
    s.alive = true →
    s.flag F.REC_STATUS_SCRUBBING = true →
    Runs (.recorderScrubComplete lost badImg) s fun t => t.flag F.REC_STATUS_SCRUBBING = false ∧
      t.rd F.REC_SCRUB_HOURS = 0 ∧
      t.recd.scrubAt = some s.now) ∧
  (∀ (s : State),
    s.alive = true →
    s.flag F.REC_STATUS_SCRUBBING = true →
    Runs (.recorderScrubComplete [] 0) s fun t => t.flag F.REC_STATUS_SCRUBBING = false ∧
      t.rd F.REC_SCRUB_HOURS = 0 ∧
      t.recd.scrubAt = some s.now ∧
      t.recd.scrubRun = s.runTime ∧
      (s.Inv → s.fieldsBut t [F.REC_STATUS_SCRUBBING, F.REC_SCRUB_HOURS])) ∧
  (∀ (s : State),
    s.alive = true →
    (s.flag F.REC_STATUS_REFRESHING || (!s.modeSev && s.recd.dir.fState == 0)) = true →
    Runs (.refresh true) s fun t => t.flag F.REC_CTL_REFUSED = true ∧
      t.flag F.REC_CTL_REFRESH = false ∧
      (s.Inv → s.sameBut t [F.REC_CTL_REFUSED, F.REC_CTL_REFRESH])) ∧
  (∀ (s : State),
    s.alive = true →
    (s.flag F.REC_STATUS_REFRESHING || (!s.modeSev && s.recd.dir.fState == 0)) = false →
    Runs (.refresh true) s fun t => t.flag F.REC_STATUS_REFRESHING = true ∧
      t.flag F.REC_CTL_REFRESH = false ∧
      (s.Inv → s.fieldsBut t [F.REC_STATUS_REFRESHING, F.REC_CTL_REFRESH])) ∧
  (∀ (s : State),
    s.alive = true →
    (s.flag F.REC_STATUS_REFRESHING || (!s.modeSev && s.recd.dir.fState == 0)) = false →
    s.refreshDue = true →
    Runs (.refresh false) s fun t => t.flag F.REC_STATUS_REFRESHING = true ∧
      (s.Inv → s.fieldsBut t [F.REC_STATUS_REFRESHING])) ∧
  (∀ (s : State),
    s.alive = true →
    s.flag F.REC_STATUS_REFRESHING = true →
    s.flag F.REC_STATUS_READY = true →
    s.recd.roll = none →
    Runs (.areaRefresh) s fun t => t.flag F.REC_STATUS_REFRESHING = false ∧
      t.recd.dir.refreshes = min 65535 (s.recd.dir.refreshes + 1) ∧
      t.recd.dir.fHours = 0 ∧
      t.recd.dir.fTime = 0 ∧
      t.recd.fHoursAt = s.now)

/-- R461, R463: a request starts to resolve the range of the session; with the recorder READY it ends in the list of the records from the first number. EXPORT is refused at behaviour level 0 and else set.
R17, R19, R462, R464, R492, R535: a read of word 0 of a snapshot entry fixes the entry as it stands now and returns its first word, 0 beyond the list; one of a forensic entry holds the bytes of the raw slot and sets FOR_STATUS; one of the
FHDR of a CAN slot latches the entry, returns its FHDR and clears NEW. A read of a register that clears returns its word and leaves its clearing bits 0, SUPPLY_EVT at its reset value; a read of a low word keeps the high word for the session. The wait for READY is read as log 127 says. -/
def Obligations.SessionsRead : Prop :=
  (∀ (s : State) (i : Fin 8),
    s.alive = true →
    (s.sess i.val).open_ = true →
    Runs (.resolve i) s fun t => (t.sess i.val).resolving = true ∧
      (t.sess i.val).snapDone = false ∧
      (s.Inv → (s.modSess i.val (fun y => { y with resolving := true, snapDone := false })).hiddenAs t ∧ s.fieldsBut t [])) ∧
  (∀ (s : State) (i : Fin 8),
    s.alive = true →
    (s.sess i.val).resolving = true →
    s.flag F.REC_STATUS_READY = true →
    Runs (.snapshotResolved i) s fun t => (t.sess i.val).snapDone = true ∧
      (t.sess i.val).resolving = false ∧
      (t.sess i.val).snapFirst = ((s.sess i.val).snapLo + (s.sess i.val).snapHi * 2 ^ 32) ∧
      (t.sess i.val).list = s.resolveList ((s.sess i.val).snapLo + (s.sess i.val).snapHi * 2 ^ 32) (min 8192 (s.sess i.val).snapCount) ∧
      (s.Inv → s.fieldsBut t [])) ∧
  (∀ (s : State) (i : Fin 8) (on : Bool),
    s.alive = true →
    (s.sess i.val).open_ = true →
    (on && s.img.level == 0) = false →
    Runs (.export_ i on) s fun t => (t.sess i.val).export_ = on ∧
      (s.Inv → (s.modSess i.val (fun y => { y with export_ := on })).hiddenAs t ∧ s.fieldsBut t [])) ∧
  (∀ (s : State) (i : Fin 8),
    s.alive = true →
    (s.sess i.val).open_ = true →
    s.img.level = 0 →
    Runs (.export_ i true) s fun t => (t.sess i.val).snapRefused = true ∧
      (t.sess i.val).export_ = (s.sess i.val).export_ ∧
      (s.Inv → (s.modSess i.val (fun y => { y with snapRefused := true })).hiddenAs t ∧ s.fieldsBut t [])) ∧
  (∀ (s : State) (i : Fin 8) (j : Fin 8192),
    s.alive = true →
    (s.sess i.val).open_ = true →
    j.val < (s.sess i.val).list.length →
    Runs (.snapshotEntryRead i j) s fun t => (t.sess i.val).held.find? (fun h => h.1 == j.val) = some (j.val, (s.snapEntry (s.sess i.val).snapFirst (s.sess i.val).list j.val)) ∧
      ((s.sess i.val).export_ = false → t.rap.read = [fieldAt (s.snapEntry (s.sess i.val).snapFirst (s.sess i.val).list j.val) 0 4]) ∧
      ((s.sess i.val).export_ = true → t.rap.read = [fieldAt (exportEntry (s.snapEntry (s.sess i.val).snapFirst (s.sess i.val).list j.val)) 0 4]) ∧
      (s.Inv → s.fieldsBut t [])) ∧
  (∀ (s : State) (i : Fin 8) (j : Fin 8192),
    s.alive = true →
    (s.sess i.val).open_ = true →
    (s.sess i.val).list.length ≤ j.val →
    Runs (.snapshotEntryRead i j) s fun t => t.rap.read = [0] ∧
      (s.Inv → s.fieldsBut t [])) ∧
  (∀ (s : State) (i : Fin 8) (j : Fin 8192) (differ : Bool),
    s.alive = true →
    (s.sess i.val).open_ = true →
    Runs (.forensicEntryRead i j differ) s fun t => t.rap.read = [fieldAt (s.forEntry ((s.sess i.val).forBase + j.val)) 0 4] ∧
      (t.sess i.val).forHeld.find? (fun h => h.1 == j.val) = some (j.val, s.forEntry ((s.sess i.val).forBase + j.val)) ∧
      (t.sess i.val).forStatus = s.forStatus ((s.sess i.val).forBase + j.val) differ ∧
      (s.Inv → s.fieldsBut t [])) ∧
  (∀ (s : State) (i : Fin 8) (c : CIx) (n : Fin 8) (e : CanEnt),
    s.alive = true →
    (s.sess i.val).open_ = true →
    nth (s.canH c).slots n.val none = some e →
    Runs (.slotFhdrRead i c n) s fun t => t.rap.read = [nth e.words 0 0] ∧
      nth (t.canH c).slots n.val none = some { e with new_ := false } ∧
      (t.sess i.val).slots.find? (fun p => p.1 == 8 * c.val + n.val) = some (8 * c.val + n.val, e.words) ∧
      (s.Inv → s.fieldsBut t [])) ∧
  (∀ (s : State) (i : Fin 8) (c : CIx) (n : Fin 8),
    s.alive = true →
    (s.sess i.val).open_ = true →
    nth (s.canH c).slots n.val none = none →
    Runs (.slotFhdrRead i c n) s fun t => t.rap.read = [0] ∧
      (s.Inv → s.fieldsBut t [])) ∧
  (∀ (s : State) (i : Fin 8) (addr : Word) (r : RegDef),
    s.alive = true →
    (s.sess i.val).open_ = true →
    addr.toNat % 4 = 0 →
    s.addrClass addr.toNat = 0 →
    regDef addr.toNat = some r →
    r.rc ≠ 0 →
    addr.toNat ≠ F.SUPPLY_EVT.addr →
    addr.toNat < 0x10000 →
    Runs (.rcRegisterRead i addr) s fun t => t.rap.read = (s.readRange i.val addr.toNat 1 false).1 ∧
      (t.reg addr.toNat).toNat = Nat.land (s.reg addr.toNat).toNat (Nat.xor 0xFFFFFFFF r.rc)) ∧
  (∀ (s : State) (i : Fin 8) (addr : Word) (r : RegDef) (d : DIx),
    s.alive = true →
    (s.sess i.val).open_ = true →
    addr.toNat % 4 = 0 →
    s.addrClass addr.toNat = 0 →
    regDef addr.toNat = some r →
    r.rc ≠ 0 →
    addr.toNat ≠ F.SUPPLY_EVT.addr →
    0x10000 ≤ addr.toNat →
    addr.toNat < 0x28000 →
    d.val = (addr.toNat - 0x10000) / 0x1000 →
    s.declared d = true →
    Runs (.rcRegisterRead i addr) s fun t => t.rap.read = (s.readRange i.val addr.toNat 1 false).1 ∧
      (t.reg addr.toNat).toNat = Nat.land (s.reg addr.toNat).toNat (Nat.xor 0xFFFFFFFF r.rc)) ∧
  (∀ (s : State) (i : Fin 8),
    s.alive = true →
    (s.sess i.val).open_ = true →
    Runs (.rcRegisterRead i (BitVec.ofNat 32 F.SUPPLY_EVT.addr)) s fun t => t.rap.read = (s.readRange i.val F.SUPPLY_EVT.addr 1 false).1 ∧
      t.rd F.SUPPLY_EVT_LOWEST = 0xFFFF ∧
      t.rd F.SUPPLY_EVT_DIPS = 0 ∧
      t.rd F.SUPPLY_EVT_EXCURSIONS = 0) ∧
  (∀ (s : State) (i : Fin 8) (addr : Word),
    s.alive = true →
    (s.sess i.val).open_ = true →
    lowWord addr.toNat = true →
    s.addrClass addr.toNat = 0 →
    Runs (.lowWordRead i addr) s fun t => t.rap.read = (s.readRange i.val addr.toNat 1 false).1 ∧
      (t.sess i.val).hi.find? (fun p => p.1 == addr.toNat + 4) = some (addr.toNat + 4, s.wordNow i.val (addr.toNat + 4)))

/-- R17, R502, R504: a write that a check refuses changes nothing but the error count. A write that passes sets the RW bits, and the RWL bits in CONFIG, to the value and clears the RW1C bits written with 1, in a register whose write asks for no action. A target of a host move takes the value; a per-session register takes it for its session. The oldest entry of a session's
queue is applied and leaves it. When a setting acts and the order of sessions are read as logs 56 and 132 say. -/
def Obligations.WritesAreChecked : Prop :=
  (∀ (s : State) (i : Fin 8) (addr value : Word),
    s.alive = true →
    (s.sess i.val).open_ = true →
    s.writeStatus (s.sess i.val) addr.toNat [value.toNat] ≠ 0 →
    Runs (.registerWrite i addr value) s fun t => t.rd (F.RAP_ERR_ITEMS) = min (s.rd (F.RAP_ERR_ITEMS) + 1) (2 ^ (F.RAP_ERR_ITEMS).w - 1) ∧
      (s.Inv → s.sameBut t [F.RAP_ERR_ITEMS])) ∧
  (∀ (s : State) (i : Fin 8) (value : Word) (d : DIx) (a : AIx),
    s.alive = true →
    (s.sess i.val).open_ = true →
    s.writeStatus (s.sess i.val) (F.MOVE_TARGET d a).addr [value.toNat] = 0 →
    s.declared d = true →
    Runs (.registerWrite i (BitVec.ofNat 32 (F.MOVE_TARGET d a).addr) value) s fun t => t.rd (F.MOVE_TARGET d a) = value.toNat ∧
      (s.Inv → s.sameBut t [F.MOVE_TARGET d a])) ∧
  (∀ (s : State) (i : Fin 8) (addr value : Word) (r : RegDef),
    s.alive = true →
    (s.sess i.val).open_ = true →
    addr.toNat % 4 = 0 →
    s.writeStatus (s.sess i.val) addr.toNat [value.toNat] = 0 →
    sessionReg addr.toNat = false →
    regDef addr.toNat = some r →
    r.w1s = 0 →
    addr.toNat < 0x10000 →
    addr.toNat / 0x1000 ≠ 8 →
    addr.toNat / 0x1000 ≠ 11 →
    Runs (.registerWrite i addr value) s fun t => (∀ b : Fin 32, bitOf (if s.modState = 1 then Nat.lor r.rw r.rwl else r.rw) b.val = true → bitOf (t.reg addr.toNat).toNat b.val = bitOf value.toNat b.val) ∧
      (∀ b : Fin 32, bitOf r.w1c b.val = true → bitOf (if s.modState = 1 then Nat.lor r.rw r.rwl else r.rw) b.val = false → bitOf (t.reg addr.toNat).toNat b.val = (bitOf (s.reg addr.toNat).toNat b.val && !bitOf value.toNat b.val))) ∧
  (∀ (s : State) (i : Fin 8) (addr value : Word) (r : RegDef) (d : DIx),
    s.alive = true →
    (s.sess i.val).open_ = true →
    addr.toNat % 4 = 0 →
    s.writeStatus (s.sess i.val) addr.toNat [value.toNat] = 0 →
    sessionReg addr.toNat = false →
    regDef addr.toNat = some r →
    r.w1s = 0 →
    0x10000 ≤ addr.toNat →
    addr.toNat < 0x28000 →
    d.val = (addr.toNat - 0x10000) / 0x1000 →
    s.declared d = true →
    Runs (.registerWrite i addr value) s fun t => (∀ b : Fin 32, bitOf (if s.modState = 1 then Nat.lor r.rw r.rwl else r.rw) b.val = true → bitOf (t.reg addr.toNat).toNat b.val = bitOf (pdWindow s.hasPd addr.toNat value.toNat) b.val) ∧
      (∀ b : Fin 32, bitOf r.w1c b.val = true → bitOf (if s.modState = 1 then Nat.lor r.rw r.rwl else r.rw) b.val = false → bitOf (t.reg addr.toNat).toNat b.val = (bitOf (s.reg addr.toNat).toNat b.val && !bitOf (pdWindow s.hasPd addr.toNat value.toNat) b.val))) ∧
  (∀ (s : State) (i : Fin 8) (value : Word),
    s.alive = true →
    (s.sess i.val).open_ = true →
    Runs (.registerWrite i 0x5040 value) s fun t => (t.sess i.val).snapLo = value.toNat ∧
      (s.Inv → (s.modSess i.val (fun y => { y with snapLo := value.toNat })).hiddenAs t ∧ s.fieldsBut t [])) ∧
  (∀ (s : State) (i : Fin 8) (e : WEntry) (rest : List WEntry) (b : List Byte),
    s.alive = true →
    (s.sess i.val).queue = e :: rest →
    (∀ k ∈ List.range 8, (s.sess k).flights = []) →
    e.load = some b →
    Runs (.postedWriteApply i) s fun t => (t.sess i.val).queue = rest ∧
      t.img.load = .receiving ∧
      t.rap.out = []) ∧
  (∀ (s : State) (i : Fin 8) (rest : List WEntry) (d : DIx) (a : AIx) (v : Nat),
    s.alive = true →
    (s.sess i.val).queue = { addr := (F.MOVE_TARGET d a).addr, words := [v] } :: rest →
    (∀ k ∈ List.range 8, (s.sess k).flights = []) →
    s.declared d = true →
    Runs (.postedWriteApply i) s fun t => (t.sess i.val).queue = rest ∧
      t.rd (F.MOVE_TARGET d a) = v % 2 ^ 32) ∧
  (∀ (s : State) (i : Fin 8),
    s.alive = true →
    (s.sess i.val).open_ = true →
    (s.sess i.val).lastAt + msT 30000 ≤ s.now →
    Runs (.rapSessionTimeout i) s fun t => (t.sess i.val).open_ = false)

/-- R498, R499, R501, R502, R503: OPEN takes the lowest free session and CLOSE ends it; READ answers the word; WRITE and LOAD that pass their checks wait in the queue of the session; SYNC waits while it is not empty; CONFIRM
answers its status. A repeated telegram gets the response it had. Each statement is about a telegram of one item. The opening TAG is read as log 55 says. -/
def Obligations.TelegramsAreAnswered : Prop :=
  (∀ (s : State) (x : RapTel) (i : Nat),
    s.alive = true →
    s.portUp x.port = true →
    x.rest = [] →
    x.session = 0 →
    s.freeSess = some i →
    Runs (.open_ x 0) s fun t => (t.sess i).open_ = true ∧
      (t.sess i).port = x.port ∧
      (t.sess i).ip = x.ip.toNat ∧
      (t.sess i).lastTag = some x.tag.toNat ∧
      t.rap.out.length = 1) ∧
  (∀ (s : State) (x : RapTel) (i : Nat),
    s.alive = true →
    s.portUp x.port = true →
    x.rest = [] →
    s.findSess x.port x.session.toNat = some i →
    (s.sess i).lastTag ≠ some x.tag.toNat →
    Runs (.close x 0) s fun t => (t.sess i).open_ = false ∧
      t.rap.out.length = 1) ∧
  (∀ (s : State) (x : RapTel) (i : Nat) (addr : Word) (u : State),
    s.alive = true →
    s.portUp x.port = true →
    x.rest = [] →
    s.findSess x.port x.session.toNat = some i →
    (s.sess i).lastTag ≠ some x.tag.toNat →
    u = (({ s with rap := { s.rap with out := [], read := [] } } : State).modSess i (fun y => { y with lastAt := s.now })).modSess i (fun y => { y with lastTag := some x.tag.toNat, resp := [] }) →
    addr.toNat % 4 = 0 →
    s.readWaits addr.toNat 1 = false →
    s.addrClass addr.toNat = 0 →
    Runs (.read x 1 addr) s fun t => t.rap.out.length = 1 ∧
      fieldAt ((t.rap.out.map (fun q => q.2.2)).headD []) 13 1 = 0 ∧
      fieldAt ((t.rap.out.map (fun q => q.2.2)).headD []) 20 4 = (u.readRange i addr.toNat 1 false).1.headD 0 % 2 ^ 32) ∧
  (∀ (s : State) (x : RapTel) (i : Nat) (addr : Word) (data : List Byte) (u : State),
    s.alive = true →
    s.portUp x.port = true →
    x.rest = [] →
    s.findSess x.port x.session.toNat = some i →
    (s.sess i).lastTag ≠ some x.tag.toNat →
    u = (({ s with rap := { s.rap with out := [], read := [] } } : State).modSess i (fun y => { y with lastAt := s.now })).modSess i (fun y => { y with lastTag := some x.tag.toNat, resp := [] }) →
    (u.postItem (u.sess i) { op := 0x11, count := 1, addr := addr, data := data }).1 = 0 →
    Runs (.write x 1 addr data) s fun t => (t.sess i).queue = (s.sess i).queue ++ [{ addr := addr.toNat, words := [fieldAt data 0 4] }] ∧
      fieldAt ((t.rap.out.map (fun q => q.2.2)).headD []) 13 1 = 0 ∧
      (s.Inv → s.fieldsBut t [])) ∧
  (∀ (s : State) (x : RapTel) (i : Nat) (ofs : Word) (data : List Byte) (u : State),
    s.alive = true →
    s.portUp x.port = true →
    x.rest = [] →
    s.findSess x.port x.session.toNat = some i →
    (s.sess i).lastTag ≠ some x.tag.toNat →
    u = (({ s with rap := { s.rap with out := [], read := [] } } : State).modSess i (fun y => { y with lastAt := s.now })).modSess i (fun y => { y with lastTag := some x.tag.toNat, resp := [] }) →
    (u.postItem (u.sess i) { op := 0x20, count := 4, addr := ofs, data := data }).1 = 0 →
    Runs (.load x 4 ofs data) s fun t => (t.sess i).queue = (s.sess i).queue ++ [{ addr := ofs.toNat, load := some data }] ∧
      fieldAt ((t.rap.out.map (fun q => q.2.2)).headD []) 13 1 = 0 ∧
      (s.Inv → s.fieldsBut t [])) ∧
  (∀ (s : State) (x : RapTel) (i : Nat),
    s.alive = true →
    s.portUp x.port = true →
    x.rest = [] →
    s.findSess x.port x.session.toNat = some i →
    (s.sess i).lastTag ≠ some x.tag.toNat →
    (s.sess i).queue = [] →
    Runs (.sync x 0) s fun t => t.rap.out.length = 1 ∧
      fieldAt ((t.rap.out.map (fun q => q.2.2)).headD []) 13 1 = 0 ∧
      (t.sess i).flights = (s.sess i).flights) ∧
  (∀ (s : State) (x : RapTel) (i : Nat),
    s.alive = true →
    s.portUp x.port = true →
    x.rest = [] →
    s.findSess x.port x.session.toNat = some i →
    (s.sess i).lastTag ≠ some x.tag.toNat →
    (s.sess i).queue ≠ [] →
    Runs (.sync x 0) s fun t => t.rap.out = [] ∧
      (t.sess i).flights.length = (s.sess i).flights.length + 1) ∧
  (∀ (s : State) (x : RapTel) (i : Nat) (data : List Byte) (u : State),
    s.alive = true →
    s.portUp x.port = true →
    x.rest = [] →
    s.findSess x.port x.session.toNat = some i →
    (s.sess i).lastTag ≠ some x.tag.toNat →
    u = (({ s with rap := { s.rap with out := [], read := [] } } : State).modSess i (fun y => { y with lastAt := s.now })).modSess i (fun y => { y with lastTag := some x.tag.toNat, resp := [] }) →
    (s.sess i).queue = [] →
    s.hasAuth = true →
    (s.sess i).consist = false →
    data.length = 72 →
    Runs (.confirm x 72 data) s fun t => fieldAt ((t.rap.out.map (fun q => q.2.2)).headD []) 13 1 = (u.confirmItem (u.sess i) { op := 0x30, count := 72, addr := 0, data := data }).1 ∧
      (fieldAt ((t.rap.out.map (fun q => q.2.2)).headD []) 13 1 = 0 → t.img.arm.map (fun a => a.until_) = some (s.now + msT 60000)) ∧
      (fieldAt ((t.rap.out.map (fun q => q.2.2)).headD []) 13 1 ≠ 0 → t.img = s.img)) ∧
  (∀ (s : State) (x : RapTel) (i : Nat) (count : BitVec 16) (addr : Word),
    s.alive = true →
    s.portUp x.port = true →
    s.findSess x.port x.session.toNat = some i →
    (s.sess i).lastTag = some x.tag.toNat →
    (s.sess i).flights = [] →
    Runs (.read x count addr) s fun t => t.rap.out = [(rapPorts x.port, x.ip.toNat, (s.sess i).resp)] ∧
      (s.Inv → s.fieldsBut t [])) ∧
  (∀ (s : State) (p : Fin 2) (ip comId : Word) (b : List Byte),
    s.alive = true →
    s.portUp (if p.val = 0 then .ecn0 else .ecn1) = true →
    s.rd F.MD_COMID = 0 ∨ comId.toNat ≠ s.rd F.MD_COMID ∨ b.length < 16 ∨ crcTail b = false →
    Runs (.mdRequest p ip comId b) s fun t => t.rap.out = [] ∧
      (s.Inv → ({ s with rap := { s.rap with out := [], read := [] } }).hiddenAs t ∧ s.fieldsBut t [])) ∧
  (∀ (s : State) (p : Fin 2) (ip comId : Word) (b : List Byte) (i : Nat),
    s.alive = true →
    s.portUp (if p.val = 0 then .ecn0 else .ecn1) = true →
    s.rd F.MD_COMID ≠ 0 →
    comId.toNat = s.rd F.MD_COMID →
    b.length = 24 →
    fieldAt b 0 1 = 0x70 →
    fieldAt b 1 1 = 1 →
    fieldAt b 2 2 = 0 →
    fieldAt b 6 1 = 1 →
    fieldAt b 12 1 = 1 →
    fieldAt b 14 2 = 0 →
    crcTail b = true →
    s.freeSess = some i →
    Runs (.mdRequest p ip comId b) s fun t => (t.sess i).open_ = true ∧
      (t.sess i).ip = ip.toNat ∧
      (t.sess i).consist = true ∧
      t.rap.out.length = 1)

/-- R477, R478, R479, R480, R484: a telegram that no row subscribes to changes nothing; one that fails a check is counted in FORMAT, one of an old sequence in SEQ_DUP; one that is taken makes its row valid and gives it its
data. A row without a telegram for TIME is no longer valid, as is an SDT row. A published row sends its dataset. A port follows its link. The cause that is recorded is read as log 105 says. -/
def Obligations.ProcessDataIsTaken : Prop :=
  (∀ (s : State) (p : Fin 2) (x : PdTel),
    s.alive = true →
    s.flag (linkFld p.val) = true →
    x.isPd = true →
    (List.range 64).find? (fun n => x.comId.toNat != 0 && s.rd (F.PD_COMID n) == x.comId.toNat) = none →
    Runs (.pdTelegramReceived p x) s fun t => (s.Inv → s.sameBut t [])) ∧
  (∀ (s : State) (p : Fin 2) (x : PdTel) (r : Nat),
    s.alive = true →
    s.flag (linkFld p.val) = true →
    x.isPd = true →
    (List.range 64).find? (fun n => x.comId.toNat != 0 && s.rd (F.PD_COMID n) == x.comId.toNat) = some r →
    (x.fcsOk && x.major == 1#8 && x.len.toNat == s.rd (F.NPD_CFG_LEN r) && x.data.length == s.rd (F.NPD_CFG_LEN r) && (s.pdIp r == 0 || s.pdIp r == x.src.toNat)) = false →
    Runs (.pdTelegramReceived p x) s fun t => t.rd (F.PD_ERR_FORMAT r) = min (s.rd (F.PD_ERR_FORMAT r) + 1) (2 ^ (F.PD_ERR_FORMAT r).w - 1) ∧
      (s.Inv → s.fieldsBut t [F.PD_ERR_FORMAT r])) ∧
  (∀ (s : State) (p : Fin 2) (x : PdTel) (r : Nat),
    s.alive = true →
    s.flag (linkFld p.val) = true →
    x.isPd = true →
    (List.range 64).find? (fun n => x.comId.toNat != 0 && s.rd (F.PD_COMID n) == x.comId.toNat) = some r →
    (x.fcsOk && x.major == 1#8 && x.len.toNat == s.rd (F.NPD_CFG_LEN r) && x.data.length == s.rd (F.NPD_CFG_LEN r) && (s.pdIp r == 0 || s.pdIp r == x.src.toNat)) = true →
    (s.pdRow r).valid = true →
    serialLater x.seq.toNat (s.pdRow r).ctr = false →
    Runs (.pdTelegramReceived p x) s fun t => t.rd (F.PD_ERR_SEQ_DUP r) = min (s.rd (F.PD_ERR_SEQ_DUP r) + 1) (2 ^ (F.PD_ERR_SEQ_DUP r).w - 1) ∧
      (s.Inv → s.sameBut t [F.PD_ERR_SEQ_DUP r])) ∧
  (∀ (s : State) (p : Fin 2) (x : PdTel) (r : Nat),
    s.alive = true →
    s.flag (linkFld p.val) = true →
    x.isPd = true →
    (List.range 64).find? (fun n => x.comId.toNat != 0 && s.rd (F.PD_COMID n) == x.comId.toNat) = some r →
    (x.fcsOk && x.major == 1#8 && x.len.toNat == s.rd (F.NPD_CFG_LEN r) && x.data.length == s.rd (F.NPD_CFG_LEN r) && (s.pdIp r == 0 || s.pdIp r == x.src.toNat)) = true →
    (s.pdRow r).valid = true →
    serialLater x.seq.toNat (s.pdRow r).ctr = true →
    Runs (.pdTelegramReceived p x) s fun t => t.flag (F.NPD_STATUS_VALID r) = true ∧
      t.flag (F.NPD_STATUS_SEEN r) = true ∧
      (t.pdRow r).data = x.data ∧
      (t.pdRow r).ctr = x.seq.toNat ∧
      (t.pdRow r).at_ = s.now ∧
      (s.rd (F.NPD_CFG_FUNC r) = 2 → t.recd.net = some { sec := beFieldAt x.data (s.rd (F.NPD_CFG_OFS r)) 8, ns := beFieldAt x.data (s.rd (F.NPD_CFG_OFS r) + 8) 4, comId := x.comId.toNat })) ∧
  (∀ (s : State) (p : Fin 2) (x : PdTel) (r : Nat),
    s.alive = true →
    s.flag (linkFld p.val) = true →
    x.isPd = true →
    (List.range 64).find? (fun n => x.comId.toNat != 0 && s.rd (F.PD_COMID n) == x.comId.toNat) = some r →
    (x.fcsOk && x.major == 1#8 && x.len.toNat == s.rd (F.NPD_CFG_LEN r) && x.data.length == s.rd (F.NPD_CFG_LEN r) && (s.pdIp r == 0 || s.pdIp r == x.src.toNat)) = true →
    (s.pdRow r).valid = false →
    Runs (.pdTelegramReceived p x) s fun t => t.flag (F.NPD_STATUS_VALID r) = true ∧
      t.flag (F.NPD_STATUS_SEEN r) = true ∧
      (t.pdRow r).valid = true ∧
      (t.pdRow r).data = x.data ∧
      (t.pdRow r).ctr = x.seq.toNat ∧
      (t.pdRow r).at_ = s.now) ∧
  (∀ (s : State) (r : Fin 64),
    s.alive = true →
    (s.pdRow r.val).valid = true →
    (s.pdRow r.val).at_ + msT (s.pdTime r.val) ≤ s.now →
    Runs (.pdRowTimeout r) s fun t => (t.pdRow r.val).valid = false ∧
      t.flag (F.NPD_STATUS_VALID r.val) = false ∧
      t.rd (F.PD_ERR_TIMEOUT r.val) = min (s.rd (F.PD_ERR_TIMEOUT r.val) + 1) (2 ^ (F.PD_ERR_TIMEOUT r.val).w - 1)) ∧
  (∀ (s : State) (n : Fin 16),
    s.alive = true →
    (s.sdt n.val).valid = true →
    (s.sdt n.val).at_ + msT (s.sdtTime n.val) ≤ s.now →
    Runs (.sdtTimeout n) s fun t => (t.sdt n.val).valid = false ∧
      t.flag (F.SDT_STATUS_VALID n.val) = false ∧
      t.rd (F.SDT_ERR_TIMEOUT n.val) = min (s.rd (F.SDT_ERR_TIMEOUT n.val) + 1) (2 ^ (F.SDT_ERR_TIMEOUT n.val).w - 1)) ∧
  (∀ (s : State) (k : Fin 16),
    s.alive = true →
    s.rd (F.PD_COMID (64 + k.val)) ≠ 0 →
    s.hasAuth = true →
    (s.pdRow (64 + k.val)).seen = false →
    Runs (.pdPublish k) s fun t => t.net.sent = some ((64 + k.val), (s.pdRow (64 + k.val)).ctr, s.pdIp (64 + k.val), padTo (s.rd (F.NPD_CFG_LEN (64 + k.val))) (s.pubContent (s.rd (F.NPD_CFG_FUNC (64 + k.val))))) ∧
      (s.Inv → s.fieldsBut t [])) ∧
  (∀ (s : State) (k : Fin 16),
    s.alive = true →
    s.rd (F.PD_COMID (64 + k.val)) ≠ 0 →
    s.hasAuth = true →
    (s.pdRow (64 + k.val)).seen = true →
    (s.pdRow (64 + k.val)).at_ + msT (s.pdTime (64 + k.val)) ≤ s.now →
    Runs (.pdPublish k) s fun t => t.net.sent = some ((64 + k.val), ((s.pdRow (64 + k.val)).ctr + 1) % 2 ^ 32, s.pdIp (64 + k.val), padTo (s.rd (F.NPD_CFG_LEN (64 + k.val))) (s.pubContent (s.rd (F.NPD_CFG_FUNC (64 + k.val))))) ∧
      (t.pdRow (64 + k.val)).ctr = ((s.pdRow (64 + k.val)).ctr + 1) % 2 ^ 32 ∧
      (s.Inv → s.fieldsBut t [])) ∧
  (∀ (s : State) (q : Port) (up : Bool),
    s.alive = true →
    s.net.links.length = 3 →
    Runs (.ecnLinkChange q up) s fun t => t.portUp q = (up && s.flag F.CLK_STATUS_NET_LOCK) ∧
      nth t.net.links (portCode q) false = up)

/-- R490, R492: a slot takes the newest frame and says whether it lost one; a frame that nothing matches
is counted. An error frame raises the counters by what the controller says. Panel requests and error counters are read as logs 109 and 110 say. -/
def Obligations.CanFramesAreReceived : Prop :=
  (∀ (s : State) (c : CIx) (f : CanFrame) (n : Nat) (k : Nat) (e : CanEnt),
    s.alive = true →
    s.canRuns c = true →
    (f.fdf && !s.flag (F.CAN_CFG_FD c)) = false →
    (List.range (if s.panelProfile c then 14 else 16)).find? (fun k => s.filterMatch c k f) = some n →
    s.rd (F.FLT_TGT c n) = k + 2 →
    k < 8 →
    nth (s.canH c).slots k none = some e →
    Runs (.canFrameReceived c f) s fun t => nth (t.canH c).slots k none = some { f := f, filter := n, tick := s.tick, new_ := true, lost := e.new_ } ∧
      (e.new_ = true → t.rd (F.CAN_ERR_SLOT_LOST c) = min (s.rd (F.CAN_ERR_SLOT_LOST c) + 1) (2 ^ (F.CAN_ERR_SLOT_LOST c).w - 1))) ∧
  (∀ (s : State) (c : CIx) (f : CanFrame),
    s.alive = true →
    s.canRuns c = true →
    (f.fdf && !s.flag (F.CAN_CFG_FD c)) = false →
    s.panelProfile c = false →
    (List.range 16).all (fun k => !s.filterMatch c k f) = true →
    Runs (.canFrameReceived c f) s fun t => t.rd (F.CAN_ERR_UNMATCHED c) = min (s.rd (F.CAN_ERR_UNMATCHED c) + 1) (2 ^ (F.CAN_ERR_UNMATCHED c).w - 1)) ∧
  (∀ (s : State) (c : CIx) (tx : Bool) (lec : Fin 7) (n : Fin 9),
    s.alive = true →
    s.canRuns c = true →
    Runs (.canBusError c tx lec n) s fun t => (t.canH c).tec = (s.canH c).tec + (if tx then n.val else 0) ∧
      (t.canH c).rec_ = (s.canH c).rec_ + (if tx then 0 else n.val) ∧
      t.rd (F.CAN_STATUS_LEC c) = lec.val)

/-- R493, R494, R495, R496: a request stands and goes on the idle bus where no other does; an abort withdraws what is not on the bus; a sent frame is DONE and no longer requested, and the next status frame of the profile takes its place; with TEC at 256 the controller is bus-off, which
RECOVER ends with both counters 0. The panel profile sends its status when it is due. Buffer 0 belongs to the profile where it runs. That a frame goes on the idle bus at once is the model's choice (log 29). -/
def Obligations.CanFramesAreSent : Prop :=
  (∀ (s : State) (c : CIx) (b : Fin 3),
    s.alive = true →
    ¬ (b = 0 ∧ s.panelProfile c = true) →
    Runs (.req c b) s fun t => bitOf (t.rd (F.TX_CTL_REQ c)) b.val = true ∧
      (s.Inv → s.fieldsBut t [F.TX_CTL_REQ c]) ∧
      ((s.canH c).bus = none → s.canRuns c = true → s.canRestricted c = false → s.rd (F.TX_CTL_REQ c) = 0 → (t.canH c).bus = some b.val)) ∧
  (∀ (s : State) (c : CIx),
    s.alive = true →
    s.panelProfile c = true →
    Runs (.req c 0) s fun t => (s.Inv → s.sameBut t [])) ∧
  (∀ (s : State) (c : CIx) (b : Fin 3),
    s.alive = true →
    ¬ (b = 0 ∧ s.panelProfile c = true) →
    (s.canH c).bus ≠ some b.val →
    Runs (.abort c b) s fun t => bitOf (t.rd (F.TX_CTL_REQ c)) b.val = false ∧
      bitOf (t.rd (F.TX_CTL_ABORT c)) b.val = false ∧
      (s.Inv → s.fieldsBut t [F.TX_CTL_REQ c, F.TX_CTL_ABORT c])) ∧
  (∀ (s : State) (c : CIx) (b : Fin 3),
    s.alive = true →
    ¬ (b = 0 ∧ s.panelProfile c = true) →
    (s.canH c).bus = some b.val →
    Runs (.abort c b) s fun t => bitOf (t.rd (F.TX_CTL_ABORT c)) b.val = true ∧
      (t.canH c).aborting = true ∧
      (s.Inv → (s.modCan c (fun h => { h with aborting := true })).hiddenAs t ∧ s.fieldsBut t [F.TX_CTL_ABORT c])) ∧
  (∀ (s : State) (c : CIx) (b : Nat),
    s.alive = true →
    (s.canH c).bus = some b →
    b < 3 →
    (b = 0 → (s.canH c).panelQ = []) →
    Runs (.canTxComplete c) s fun t => bitOf (t.rd (F.TX_CTL_DONE c)) b = true ∧
      bitOf (t.rd (F.TX_CTL_REQ c)) b = false ∧
      bitOf (t.rd (F.TX_CTL_ABORT c)) b = false ∧
      (t.canH c).sent = some (s.txFrame c b) ∧
      (t.canH c).tec = (s.canH c).tec - 1) ∧
  (∀ (s : State) (c : CIx) (f : CanFrame) (rest : List CanFrame),
    s.alive = true →
    (s.canH c).bus = some 0 →
    (s.canH c).panelQ = f :: rest →
    Runs (.canTxComplete c) s fun t => bitOf (t.rd (F.TX_CTL_DONE c)) 0 = true ∧
      (t.canH c).sent = some (s.txFrame c 0) ∧
      (t.canH c).tec = (s.canH c).tec - 1 ∧
      bitOf (t.rd (F.TX_CTL_REQ c)) 0 = true ∧
      (t.canH c).panelQ = rest) ∧
  (∀ (s : State) (c : CIx),
    s.alive = true →
    s.canRuns c = true →
    256 ≤ (s.canH c).tec →
    Runs (.canBusOff c) s fun t => (t.canH c).off = true ∧
      (t.canH c).bus = none ∧
      t.rd (F.CAN_STATUS_STATE c) = 2 ∧
      t.rd (F.CAN_ERR_BUS_OFF c) = min (s.rd (F.CAN_ERR_BUS_OFF c) + 1) (2 ^ (F.CAN_ERR_BUS_OFF c).w - 1)) ∧
  (∀ (s : State) (c : CIx),
    s.alive = true →
    (s.canH c).off = true →
    Runs (.recover c) s fun t => (t.canH c).off = false ∧
      (t.canH c).recovering = true ∧
      t.flag (F.CAN_CTL_RECOVER c) = true ∧
      t.rd (F.CAN_STATUS_STATE c) = 3) ∧
  (∀ (s : State) (c : CIx),
    s.alive = true →
    (s.canH c).recovering = true →
    Runs (.canRecoveryComplete c) s fun t => (t.canH c).recovering = false ∧
      (t.canH c).tec = 0 ∧
      (t.canH c).rec_ = 0 ∧
      t.flag (F.CAN_CTL_RECOVER c) = false) ∧
  (∀ (s : State) (c : CIx),
    s.alive = true →
    s.panelProfile c = true →
    s.canRuns c = true →
    (s.canH c).panelAt.all (fun a => decide (a + msT 100 ≤ s.now)) = true ∨ s.panelContent ≠ (s.canH c).panelLast →
    Runs (.panelStatusSend c) s fun t => (t.canH c).panelLast = s.panelContent ∧
      (t.canH c).panelAt = some s.now ∧
      (t.canH c).panelCtr = ((s.canH c).panelCtr + 1) % 65536)

/-! ## Power, clocks and temperature -/

/-- R506, R507, R510, R511, R512: a good main rail starts BOOT, at power-on, at a wake or where the module is held in reset after a shutdown; BOOT ends in CONFIG whatever its tests give, CONFIG in PROVE and PROVE in RUN, or in SAFE with the lowest cause that stands, with every declared doorway UNPROVEN. A loss of the
supply starts the ride-through, which ends with a counted dip or with the shutdown that gives the authority up. An excursion beyond 100 ms is cause 8, which 1 s of normal supply clears. The rail goes off at last. The count of excursions, the end of PROVE and the records of a shutdown are read as logs 113, 115 and 120 say. -/
def Obligations.ModuleComesUpAndGoesDown : Prop :=
  (∀ (s : State),
    s.rail = false →
    s.pwr.keep = true →
    s.pwr.railCmd = true →
    s.pwr.vkLost = false →
    Runs (.powerGood) s fun t => t.rail = true ∧
      t.modState = 0 ∧
      t.rd F.FLT_RESTART_HOW = 4 ∧
      t.flag F.PWR_WAKE_HANDLE = bitOf s.pwr.latch 1) ∧
  (∀ (s : State),
    s.rail = false →
    s.pwr.keep = false →
    Runs (.powerGood) s fun t => t.rail = true ∧
      t.modState = 0 ∧
      t.rd F.FLT_RESTART_HOW = (if s.pwr.vkLost then 1 else 2) ∧
      t.rd F.FLT_SAFE_PENDING = 0) ∧
  (∀ (s : State),
    s.heldInReset = true →
    s.pwr.keep = false →
    Runs (.powerGood) s fun t => t.rail = true ∧
      t.modState = 0 ∧
      t.rd F.FLT_SAFE_PENDING = 0) ∧
  (∀ (s : State) (fails : List (BootFail × Bool)),
    s.alive = true →
    s.modState = 0 →
    Runs (.bootComplete fails) s fun t => t.modState = 1 ∧
      t.pwr.configAt = s.now) ∧
  (∀ (s : State) (fails : List (BootFail × Bool)),
    s.alive = true →
    s.modState ≠ 0 →
    Runs (.bootComplete fails) s fun t => (s.Inv → s.sameBut t [])) ∧
  (∀ (s : State),
    s.alive = true →
    s.modState = 1 →
    s.img.running.isSome = true →
    s.flag F.CFG_STATUS_BOOT_FAIL = false →
    s.pwr.stay = false →
    s.outputsOff = false →
    s.linksReady = true →
    Runs (.configExit) s fun t => t.modState = 2 ∧
      t.pwr.proveAt = s.now ∧
      t.pair.firstDone = true) ∧
  (∀ (s : State),
    s.alive = true →
    s.modState = 2 →
    s.outputsOff = false →
    s.proveDone = true →
    s.rd F.FLT_SAFE_PENDING = 0 →
    Runs (.proveComplete) s fun t => t.modState = 3 ∧
      t.pwr.runFrom = s.now ∧
      (∀ d : DIx, s.declared d = true → (t.st d = .unproven ∨ t.st d = .fenced))) ∧
  (∀ (s : State) (n : Nat),
    s.alive = true →
    s.modState = 2 →
    s.outputsOff = false →
    s.proveDone = true →
    (List.range 9).find? (fun n => bitOf (s.rd F.FLT_SAFE_PENDING) n) = some n →
    Runs (.proveComplete) s fun t => t.modState = 4 ∧
      t.rd F.FLT_SAFE_FIRST = n + 1 ∧
      t.flag F.RP_STATUS_AUTH = false) ∧
  (∀ (s : State) (vmain : BitVec 16),
    s.rail = true →
    s.pwr.lossAt = none →
    vmainRegion vmain.toNat = 2 →
    Runs (.mainSupplyLoss vmain) s fun t => t.pwr.lossAt = some s.now ∧
      t.rd F.PWR_STATUS_MAIN = 2 ∧
      t.outputsOff = s.outputsOff) ∧
  (∀ (s : State) (vmain us low : BitVec 16) (a : Nat),
    s.rail = true →
    s.pwr.lossAt = some a →
    s.pwr.down = none →
    a + msT 10 ≤ s.now →
    s.alive = true →
    vmainRegion vmain.toNat ≠ 2 →
    Runs (.rideThroughEnd vmain us low) s fun t => t.pwr.lossAt = none ∧
      t.rd F.PWR_STATUS_MAIN = vmainRegion vmain.toNat ∧
      t.rd (F.SUPPLY_EVT_DIPS) = min (s.rd (F.SUPPLY_EVT_DIPS) + 1) (2 ^ (F.SUPPLY_EVT_DIPS).w - 1)) ∧
  (∀ (s : State) (vmain us low : BitVec 16) (a : Nat),
    s.rail = true →
    s.pwr.lossAt = some a →
    s.pwr.down = none →
    a + msT 10 ≤ s.now →
    s.alive = true →
    vmainRegion vmain.toNat = 2 →
    Runs (.rideThroughEnd vmain us low) s fun t => t.pwr.down = some a ∧
      t.pwr.powerFail = true ∧
      t.flag F.PWR_STATUS_SHUTDOWN = true ∧
      (s.hasAuth = true ∨ s.flag F.RP_STATUS_AUTH = false → t.flag F.RP_STATUS_AUTH = false) ∧
      t.outputsOff = true) ∧
  (∀ (s : State) (vmain extreme ms : BitVec 16),
    s.alive = true →
    vmainRegion vmain.toNat = 1 →
    s.pwr.lossAt = none →
    100 < ms.toNat →
    s.pwr.excSeen = false →
    Runs (.supplyExcursion vmain extreme ms) s fun t => t.pwr.exc8 = true ∧
      t.rd (F.SUPPLY_EVT_EXCURSIONS) = min (s.rd (F.SUPPLY_EVT_EXCURSIONS) + 1) (2 ^ (F.SUPPLY_EVT_EXCURSIONS).w - 1) ∧
      bitOf (t.rd F.FLT_SAFE_PENDING) 7 = true ∧
      (s.modState = 3 → t.modState = 4 ∧ t.rd F.FLT_SAFE_FIRST = 8)) ∧
  (∀ (s : State) (vmain extreme ms : BitVec 16),
    s.alive = true →
    vmainRegion vmain.toNat = 1 →
    s.pwr.lossAt = none →
    ms.toNat ≤ 100 →
    Runs (.supplyExcursion vmain extreme ms) s fun t => t.rd F.PWR_STATUS_MAIN = 1 ∧
      t.pwr.exc8 = s.pwr.exc8 ∧
      t.modState = s.modState) ∧
  (∀ (s : State) (vmain ms : BitVec 16),
    s.alive = true →
    vmainRegion vmain.toNat = 0 →
    s.pwr.lossAt = none →
    s.pwr.exc8 = true →
    1000 ≤ ms.toNat →
    Runs (.supplyNormalRestored vmain ms) s fun t => t.rd F.PWR_STATUS_MAIN = 0 ∧
      t.pwr.exc8 = false ∧
      bitOf (t.rd F.FLT_SAFE_PENDING) 7 = false) ∧
  (∀ (s : State) (ms volts : BitVec 16),
    s.alive = true →
    (s.pwr.holdAt = none ∧ (s.modState = 0 ∨ s.inRun = true)) ∨ (s.inRun = true ∧ s.pwr.holdAt.any (fun a => decide (a + msT 86400000 ≤ s.runTime)) = true) →
    Runs (.holdupMeasurement ms volts) s fun t => t.rd F.PWR_STATUS_HOLDUP_MS = min ms.toNat (2 ^ F.PWR_STATUS_HOLDUP_MS.w - 1) ∧
      t.flag F.PWR_STATUS_HOLDUP_OK = decide (25 ≤ ms.toNat) ∧
      t.rd F.VMAIN_BANK = volts.toNat ∧
      t.pwr.holdAt = some s.runTime) ∧
  (∀ (s : State) (a : Nat),
    s.rail = true →
    s.pwr.lossAt = some a →
    s.pwr.down.isSome = true ∨ s.qtHeld = true →
    a + msT 25 ≤ s.now →
    Runs (.mainRailOff) s fun t => t.rail = false ∧
      t.pwr.lossAt = none ∧
      t.pwr.offAt = s.now ∧
      t.flag F.RP_STATUS_AUTH = false ∧
      t.pwr.keep = s.pwr.keep)

/-- R514, R516, R517: a request for KEEP is accepted where its conditions hold and refused elsewhere; the entry ends with the rail off, at 5 s at the latest, with the records still staged latched; a roll of the checkpoint blocks under way is waited for. A wake input
that is enabled is latched and switches the rail on once it has been off for 100 ms. Elsewhere a wake input only shows its level. A loss of the keep-alive supply ends KEEP in BOOT. The order of the entry, the latch and the loss of VKEEP are read as logs 117 to 119 say. -/
def Obligations.KeepIsEnteredAndLeft : Prop :=
  (∀ (s : State),
    s.alive = true →
    (s.setF F.PWR_CTL_KEEP_REQ false).keepOk = true →
    Runs (.keepReq) s fun t => t.flag F.PWR_CTL_KEEP_REQ = false ∧
      t.flag F.PWR_STATUS_KEEP_ENTRY = true ∧
      t.pwr.keepHow = 1 ∧
      t.pwr.keepAt = s.now ∧
      t.pwr.keepN = s.recd.queue.length ∧
      t.outputsOff = true) ∧
  (∀ (s : State),
    s.alive = true →
    (s.setF F.PWR_CTL_KEEP_REQ false).keepOk = false →
    Runs (.keepReq) s fun t => t.flag F.PWR_CTL_KEEP_REQ = false ∧
      t.flag F.PWR_CTL_REFUSED = true ∧
      (s.Inv → s.sameBut t [F.PWR_CTL_KEEP_REQ, F.PWR_CTL_REFUSED])) ∧
  (∀ (s : State),
    s.alive = true →
    s.rd F.PWR_CFG_KEEP_DELAY ≠ 0 →
    bitOf s.pwr.lines 0 = false →
    s.pwr.wakeOff + msT (1000 * s.rd F.PWR_CFG_KEEP_DELAY) ≤ s.now →
    s.keepOk = true →
    Runs (.autoKeep) s fun t => t.flag F.PWR_STATUS_KEEP_ENTRY = true ∧
      t.pwr.keepHow = 2 ∧
      t.pwr.keepAt = s.now ∧
      t.pwr.keepN = s.recd.queue.length) ∧
  (∀ (s : State),
    s.alive = true →
    s.rd F.PWR_CFG_KEEP_DELAY = 0 ∨ s.keepOk = false →
    Runs (.autoKeep) s fun t => (s.Inv → s.sameBut t [])) ∧
  (∀ (s : State) (i : WakeIn),
    s.pwr.keep = true →
    bitOf s.pwr.enables (wakeBit i) = true →
    s.pwr.latch = 0 →
    Runs (.wake i true) s fun t => bitOf t.pwr.latch (wakeBit i) = true ∧
      t.pwr.railCmd = decide (s.pwr.offAt + msT 100 ≤ s.now)) ∧
  (∀ (s : State) (i : WakeIn),
    s.pwr.keep = false →
    s.flag F.PWR_STATUS_KEEP_ENTRY = true →
    bitOf s.wakeEnables (wakeBit i) = true →
    s.pwr.latch = 0 →
    Runs (.wake i true) s fun t => bitOf t.pwr.latch (wakeBit i) = true ∧
      t.pwr.railCmd = false) ∧
  (∀ (s : State) (i : WakeIn),
    s.pwr.keep = false →
    s.flag F.PWR_STATUS_KEEP_ENTRY = false →
    Runs (.wake i true) s fun t => bitOf t.pwr.lines (wakeBit i) = true ∧
      t.pwr.latch = s.pwr.latch ∧
      t.rail = s.rail) ∧
  (∀ (s : State) (i : WakeIn),
    bitOf s.pwr.lines (wakeBit i) = false →
    Runs (.wake i false) s fun t => bitOf t.pwr.lines (wakeBit i) = false ∧
      t.pwr.latch = s.pwr.latch ∧
      t.rail = s.rail) ∧
  (∀ (s : State),
    s.pwr.keep = true →
    s.pwr.latch ≠ 0 →
    s.pwr.offAt + msT 100 ≤ s.now →
    Runs (.wakeHoldElapsed) s fun t => t.pwr.railCmd = true) ∧
  (∀ (s : State),
    s.pwr.keep = true →
    s.rail = false →
    Runs (.vkeepLoss) s fun t => t.rail = true ∧
      t.modState = 0 ∧
      t.pwr.vkLost = false) ∧
  (∀ (s : State),
    s.rail = true →
    Runs (.vkeepLoss) s fun t => t.pwr.vkLost = true ∧
      (s.Inv → ({ s with pwr := { s.pwr with vkLost := true } }).hiddenAs t ∧ s.fieldsBut t [])) ∧
  (∀ (s : State),
    s.alive = true →
    Runs (.keepCrystalStopped) s fun t => t.pwr.keepRc = true ∧
      t.flag F.PWR_STATUS_KEEP_RC = true ∧
      (s.Inv → ({ s with pwr := { s.pwr with keepRc := true } }).hiddenAs t ∧ s.fieldsBut t [F.PWR_STATUS_KEEP_RC])) ∧
  (∀ (s : State),
    s.rail = true →
    s.pwr.lossAt = none →
    s.flag F.PWR_STATUS_KEEP_ENTRY = true →
    s.pwr.keepStep = 2 →
    s.recDrained = true →
    Runs (.mainRailOff) s fun t => t.rail = false ∧
      t.pwr.keep = true ∧
      t.pwr.railCmd = false ∧
      t.flag F.RP_STATUS_AUTH = false) ∧
  (∀ (s : State),
    s.rail = true →
    s.pwr.lossAt = none →
    s.flag F.PWR_STATUS_KEEP_ENTRY = true →
    s.pwr.keepStep ≠ 2 ∨ s.recDrained = false →
    Runs (.mainRailOff) s fun t => (s.Inv → s.sameBut t [])) ∧
  (∀ (s : State),
    s.alive = true →
    s.flag F.PWR_STATUS_KEEP_ENTRY = true →
    s.pwr.keepAt + msT 5000 ≤ s.now →
    Runs (.keepEntryTimeout) s fun t => t.rail = false ∧
      t.pwr.keep = true ∧
      t.recd.keepLost = (s.recd.bufs.flatMap (fun b => b.recs)).length + s.recd.queue.length)

/-- R391, R521, R523, R524: a PLL that loses its lock is no longer shown locked and relocks, which is counted whether it succeeds or fails, and a failed relock is tried again. Of four or more good junction sensors the
highest counts, averaged over 16 samples; with fewer the temperature reads 125 °C. A level reached is entered at once, and is left one at a time after 10 s. What counts as a relock is read as log 116 says. -/
def Obligations.ClocksAndHeatAreWatched : Prop :=
  (∀ (s : State) (d : ClkDom),
    s.alive = true →
    s.flag (domLock d) = true →
    Runs (.pllLockLoss d) s fun t => t.flag (domLock d) = false ∧
      (s.pwr.relock.length = 3 → nth t.pwr.relock (domIx d) none = some (s.now, 2))) ∧
  (∀ (s : State) (d : ClkDom),
    s.alive = true →
    s.flag (domLock d) = false →
    Runs (.pllLockLoss d) s fun t => (s.Inv → s.sameBut t [])) ∧
  (∀ (s : State) (d : ClkDom) (a c : Nat),
    s.alive = true →
    nth s.pwr.relock (domIx d) none = some (a, c) →
    Runs (.clockRelock d true) s fun t => t.flag (domLock d) = true ∧
      t.rd (F.PWR_RELOCKS_N) = min (s.rd (F.PWR_RELOCKS_N) + 1) (2 ^ (F.PWR_RELOCKS_N).w - 1) ∧
      nth t.pwr.relock (domIx d) none = none) ∧
  (∀ (s : State) (d : ClkDom) (a c : Nat),
    s.alive = true →
    nth s.pwr.relock (domIx d) none = some (a, c) →
    a + msT 2 ≤ s.now →
    Runs (.clockRelock d false) s fun t => t.rd (F.PWR_RELOCKS_N) = min (s.rd (F.PWR_RELOCKS_N) + 1) (2 ^ (F.PWR_RELOCKS_N).w - 1) ∧
      t.rd (F.PWR_RELOCKS_FAILED) = min (s.rd (F.PWR_RELOCKS_FAILED) + 1) (2 ^ (F.PWR_RELOCKS_FAILED).w - 1) ∧
      nth t.pwr.relock (domIx d) none = none ∧
      (s.pwr.failAt.length = 3 → nth t.pwr.failAt (domIx d) none = some (s.now, c))) ∧
  (∀ (s : State) (d : ClkDom) (a c : Nat),
    s.alive = true →
    nth s.pwr.failAt (domIx d) none = some (a, c) →
    a + msT 100 ≤ s.now →
    Runs (.relockRetry d) s fun t => t.flag (domLock d) = false ∧
      nth t.pwr.failAt (domIx d) none = none ∧
      (s.pwr.relock.length = 3 → nth t.pwr.relock (domIx d) none = some (s.now, c))) ∧
  (∀ (s : State) (x0 x1 x2 x3 x4 x5 x6 x7 board : BitVec 16) (n : Nat),
    s.alive = true →
    ((List.range 8).filter (sensorOk [x0.toInt, x1.toInt, x2.toInt, x3.toInt, x4.toInt, x5.toInt, x6.toInt, x7.toInt])).length = n →
    n < 4 →
    Runs (.temperatureSample x0 x1 x2 x3 x4 x5 x6 x7 board) s fun t => t.rdS F.TEMP_JUNCTION = 2000 ∧
      t.rdS F.TEMP_BOARD = board.toInt ∧
      t.flag F.SHED_SENSOR_FAULT = true ∧
      t.rd F.SHED_SENSORS = n ∧
      (s.rd F.SHED_LEVEL < shedReached 2000 → t.rd F.SHED_LEVEL = shedReached 2000 % 2 ^ F.SHED_LEVEL.w)) ∧
  (∀ (s : State) (x0 x1 x2 x3 x4 x5 x6 x7 board : BitVec 16) (n : Nat),
    s.alive = true →
    ((List.range 8).filter (sensorOk [x0.toInt, x1.toInt, x2.toInt, x3.toInt, x4.toInt, x5.toInt, x6.toInt, x7.toInt])).length = n →
    4 ≤ n →
    n ≤ 8 →
    Runs (.temperatureSample x0 x1 x2 x3 x4 x5 x6 x7 board) s fun t => t.pwr.temps = (((((List.range 8).filter (sensorOk [x0.toInt, x1.toInt, x2.toInt, x3.toInt, x4.toInt, x5.toInt, x6.toInt, x7.toInt])).foldl (fun m k => max m (nth [x0.toInt, x1.toInt, x2.toInt, x3.toInt, x4.toInt, x5.toInt, x6.toInt, x7.toInt] k 0)) (-32768)) :: s.pwr.temps).take 16) ∧
      t.rdS F.TEMP_JUNCTION = signed 16 (unsigned 16 (roundDiv ((((((List.range 8).filter (sensorOk [x0.toInt, x1.toInt, x2.toInt, x3.toInt, x4.toInt, x5.toInt, x6.toInt, x7.toInt])).foldl (fun m k => max m (nth [x0.toInt, x1.toInt, x2.toInt, x3.toInt, x4.toInt, x5.toInt, x6.toInt, x7.toInt] k 0)) (-32768)) :: s.pwr.temps).take 16).foldl (· + ·) 0) (((((List.range 8).filter (sensorOk [x0.toInt, x1.toInt, x2.toInt, x3.toInt, x4.toInt, x5.toInt, x6.toInt, x7.toInt])).foldl (fun m k => max m (nth [x0.toInt, x1.toInt, x2.toInt, x3.toInt, x4.toInt, x5.toInt, x6.toInt, x7.toInt] k 0)) (-32768)) :: s.pwr.temps).take 16).length)) ∧
      t.rdS F.TEMP_BOARD = board.toInt ∧
      t.flag F.SHED_SENSOR_FAULT = false ∧
      t.rd F.SHED_SENSORS = n ∧
      (s.rd F.SHED_LEVEL < shedReached (roundDiv ((((((List.range 8).filter (sensorOk [x0.toInt, x1.toInt, x2.toInt, x3.toInt, x4.toInt, x5.toInt, x6.toInt, x7.toInt])).foldl (fun m k => max m (nth [x0.toInt, x1.toInt, x2.toInt, x3.toInt, x4.toInt, x5.toInt, x6.toInt, x7.toInt] k 0)) (-32768)) :: s.pwr.temps).take 16).foldl (· + ·) 0) (((((List.range 8).filter (sensorOk [x0.toInt, x1.toInt, x2.toInt, x3.toInt, x4.toInt, x5.toInt, x6.toInt, x7.toInt])).foldl (fun m k => max m (nth [x0.toInt, x1.toInt, x2.toInt, x3.toInt, x4.toInt, x5.toInt, x6.toInt, x7.toInt] k 0)) (-32768)) :: s.pwr.temps).take 16).length) → t.rd F.SHED_LEVEL = shedReached (roundDiv ((((((List.range 8).filter (sensorOk [x0.toInt, x1.toInt, x2.toInt, x3.toInt, x4.toInt, x5.toInt, x6.toInt, x7.toInt])).foldl (fun m k => max m (nth [x0.toInt, x1.toInt, x2.toInt, x3.toInt, x4.toInt, x5.toInt, x6.toInt, x7.toInt] k 0)) (-32768)) :: s.pwr.temps).take 16).foldl (· + ·) 0) (((((List.range 8).filter (sensorOk [x0.toInt, x1.toInt, x2.toInt, x3.toInt, x4.toInt, x5.toInt, x6.toInt, x7.toInt])).foldl (fun m k => max m (nth [x0.toInt, x1.toInt, x2.toInt, x3.toInt, x4.toInt, x5.toInt, x6.toInt, x7.toInt] k 0)) (-32768)) :: s.pwr.temps).take 16).length))) ∧
  (∀ (s : State) (a : Nat),
    s.alive = true →
    s.pwr.belowAt = some a →
    1 ≤ s.rd F.SHED_LEVEL →
    a + msT 10000 ≤ s.now →
    s.pwr.shedAt + msT 10000 ≤ s.now →
    Runs (.shedLevelExit) s fun t => t.rd F.SHED_LEVEL = s.rd F.SHED_LEVEL - 1 ∧
      t.rd F.MOD_STATE_SHED = s.rd F.SHED_LEVEL - 1 ∧
      (s.rd F.SHED_LEVEL = 3 → t.flag F.CLK_STATUS_ENG_HALF = false)) ∧
  (∀ (s : State),
    s.alive = true →
    s.flt.engLostAt.isSome = true →
    s.flag F.FLT_CLK_ENG = false →
    Runs (.engClockRestored) s fun t => t.flag F.FLT_CLK_ENG = true)

/-! ## Rules stated whole -/

/-- R16: every register lies at a multiple of 4 in a 24-bit address space; a READ or a WRITE of a non-aligned address answers ALIGN (2) and changes no register but the count of
failed items; no write is queued. -/
def Obligations.UnalignedAccessHasNoEffect : Prop :=
  (∀ (a : Nat) (r : RegDef), regDef a = some r → a % 4 = 0 ∧ a < 2 ^ 24) ∧
  (∀ (s : State) (x : RapTel) (i : Nat) (addr : Word),
    s.alive = true →
    s.portUp x.port = true →
    x.rest = [] →
    s.findSess x.port x.session.toNat = some i →
    (s.sess i).lastTag ≠ some x.tag.toNat →
    (s.sess i).queue = [] →
    s.readWaits addr.toNat 1 = false →
    addr.toNat % 4 ≠ 0 →
    Runs (.read x 1 addr) s fun t => t.rap.out.length = 1 ∧
      fieldAt ((t.rap.out.map (fun q => q.2.2)).headD []) 13 1 = 2 ∧
      t.rd (F.RAP_ERR_ITEMS) = min (s.rd (F.RAP_ERR_ITEMS) + 1) (2 ^ (F.RAP_ERR_ITEMS).w - 1) ∧
      (t.sess i).queue = [] ∧
      (s.Inv → s.fieldsBut t [F.RAP_ERR_ITEMS])) ∧
  (∀ (s : State) (x : RapTel) (i : Nat) (addr : Word) (data : List Byte),
    s.alive = true →
    s.portUp x.port = true →
    x.rest = [] →
    s.findSess x.port x.session.toNat = some i →
    (s.sess i).lastTag ≠ some x.tag.toNat →
    (s.sess i).queue = [] →
    data.length = 4 →
    addr.toNat % 4 ≠ 0 →
    Runs (.write x 1 addr data) s fun t => t.rap.out.length = 1 ∧
      fieldAt ((t.rap.out.map (fun q => q.2.2)).headD []) 13 1 = 2 ∧
      t.rd (F.RAP_ERR_ITEMS) = min (s.rd (F.RAP_ERR_ITEMS) + 1) (2 ^ (F.RAP_ERR_ITEMS).w - 1) ∧
      (t.sess i).queue = [] ∧
      (s.Inv → s.fieldsBut t [F.RAP_ERR_ITEMS]))

/-- R166: AT_REST is 1 and the measured position lies within REST_WIN of the position. -/
def Obligations.AtRestAtAPosition : Prop :=
  (∀ (s : State) (d : DIx) (x : AIx) (p : Int), s.atRestAt d x p = true ↔
    s.flag (F.AX_STATUS_AT_REST d x) = true ∧ ((s.rdS (F.POS d x) - p).natAbs : Int) ≤ s.rd (F.REST_REST_WIN d x)) ∧
  (∀ (s : State) (d : DIx), s.leavesOpen d = true ↔ s.atRestAt d 0 (s.travelMax d 0) = true ∧ s.atRestAt d 1 (s.travelMax d 1) = true) ∧
  (∀ (s : State) (d : DIx), s.leavesClosed d = true ↔ s.atRestAt d 0 0 = true ∧ s.atRestAt d 1 0 = true)

/-- R201: the count stays, QUAD_ERR and CNT_ERR are set, POS_ERR.QUAD goes up by one and a record 0x4502 with kind 1 for the channel enters the staging queue, here where the queue,
what waits for the partner and the page buffers are empty, so that nothing merges or is lost. Both new levels have passed the filter of R199. -/
def Obligations.IllegalTransitionIsNotCounted : Prop :=
  (∀ (s : State) (d : DIx) (x : AIx) (va vb : Bool) (na nb : Nat),
    s.alive = true →
    s.present d = true →
    (s.enc d x).a ≠ va →
    (s.enc d x).b ≠ vb →
    s.filtN d x ≤ na →
    s.filtN d x ≤ nb →
    Runs (.encoderCount d x va vb na nb) s fun t => t.flag (F.POS_STATUS_QUAD_ERR d x) = true ∧
      t.flag (F.POS_STATUS_CNT_ERR d x) = true ∧
      t.rd (F.POS_ERR_QUAD d x.val) = min (s.rd (F.POS_ERR_QUAD d x.val) + 1) (2 ^ (F.POS_ERR_QUAD d x.val).w - 1) ∧
      t.rd (F.CNT d x) = s.rd (F.CNT d x) ∧
      (t.enc d x).a = va ∧ (t.enc d x).b = vb ∧
      (s.flag F.PWR_STATUS_SHUTDOWN = false → s.hasAuth = true → s.flag F.REC_STATUS_STOPPED = false → s.recd.queue = [] → s.recd.bufs.all (fun b => b.recs.isEmpty) = true → s.pair.fwd = [] →
      t.recd.queue.any (fun r => r.code == 0x4502 && r.dwy == d.val && r.ws.take 2 == [x.val, 1]) = true))

/-- R263: the first filtered sample with DEPOT active starts the second, further ones leave it running, an inactive one ends depot mode and the second at once. Once the second is over,
and not before, depot mode is active. -/
def Obligations.DepotModeNeedsASecond : Prop :=
  (∀ (s : State) (levels : BitVec 12),
    s.alive = true →
    levels.getLsbD 6 = true →
    s.trn.depotSince = none →
    Runs (.trainLineChange levels) s fun t => t.trn.depotSince = some s.now ∧
      t.flag F.TRN_STATUS_DEPOT = s.flag F.TRN_STATUS_DEPOT) ∧
  (∀ (s : State) (levels : BitVec 12) (a : Nat),
    s.alive = true →
    levels.getLsbD 6 = true →
    s.trn.depotSince = some a →
    Runs (.trainLineChange levels) s fun t => t.trn.depotSince = some a ∧
      t.flag F.TRN_STATUS_DEPOT = s.flag F.TRN_STATUS_DEPOT) ∧
  (∀ (s : State) (levels : BitVec 12),
    s.alive = true →
    levels.getLsbD 6 = false →
    Runs (.trainLineChange levels) s fun t => t.trn.depotSince = none ∧
      t.flag F.TRN_STATUS_DEPOT = false) ∧
  (∀ (s : State) (a : Nat),
    s.alive = true →
    s.trn.depotSince = some a →
    a + msT 1000 ≤ s.now →
    Runs (.depotModeActive) s fun t => t.flag F.TRN_STATUS_DEPOT = true ∧
      (s.Inv → s.sameBut t [F.TRN_STATUS_DEPOT])) ∧
  (∀ (s : State),
    s.alive = true →
    (∀ a ∈ s.trn.depotSince, s.now < a + msT 1000) →
    Runs (.depotModeActive) s fun t => (s.Inv → s.sameBut t []))

/-- R244: where an axis that moves is not ENABLED, or the link is below 3, the start of SS1 drives both enables low, records END 4 and takes no stop ramp. -/
def Obligations.Ss1ThatCannotActIsSto : Prop :=
  (∀ (s : State) (d : DIx) (cause : Option Nat) (th : Bool) (n : Nat) (x : AIx), s.rd (F.OBST_STATUS_SS1 d) = 0 → s.flag (F.AX_STATUS_MOVING d x) = true →
    (s.flag (F.AX_STATUS_ENABLED d x) = false ∨ s.rd (F.DRV_STATUS_LINK d) < 3) →
    (s.ss1Start d cause th n).denLow d ∧ (s.ss1Start d cause th n).rd (F.SS1_LAST_END d) = 4 ∧ (s.ss1Start d cause th n).rd (F.OBST_STATUS_SS1 d) = 4)

/-- R32: at the end of STEP_STOW the doorway is CLOSED_LOCKED where PROVEN is 1 and UNPROVEN where it is 0. -/
def Obligations.StowEndsProvenOrUnproven : Prop :=
  (∀ (s : State) (d : DIx), (s.endStow d).st d = if (s.endStow d).flag (F.SEQ_STATUS_PROVEN d) then .closedLocked else .unproven) ∧
  (∀ (s : State) (d : DIx), s.flag (F.SEQ_STATUS_PROVEN d) = true → (s.endStow d).st d = .closedLocked ∧ (s.endStow d).flag (F.SEQ_STATUS_PROVEN d) = true) ∧
  (∀ (s : State) (d : DIx), s.flag (F.SEQ_STATUS_PROVEN d) = false → s.flag (F.PROVE_STATUS_ALL_MADE d) = false → (s.endStow d).st d = .unproven)

/-- R450: a record of class 1 that does not merge (R451) enters a queue with less than 512 of its entries in use at its end, one of another class with less than 488; a record that finds no entry is lost and counted in REC_LOST
and for the next LOST_EVENTS record. -/
def Obligations.StagingTakesOrLosesARecord : Prop :=
  (∀ (s : State) (r x : Rec), s.flag F.REC_STATUS_STOPPED = false → s.recd.queue.getLast? = some x → r.mergesInto x = false →
    s.stagedN < (if r.code / 0x1000 = 1 then 512 else 488) → (s.enqueue r).recd.queue = s.recd.queue ++ [r] ∧ (s.enqueue r).rd F.REC_LOST = s.rd F.REC_LOST) ∧
  (∀ (s : State) (r x : Rec), s.flag F.REC_STATUS_STOPPED = false → s.recd.queue.getLast? = some x → r.mergesInto x = false →
    (if r.code / 0x1000 = 1 then 512 else 488) ≤ s.stagedN → (s.enqueue r).recd.queue = s.recd.queue ∧
    (s.enqueue r).rd F.REC_LOST = min (s.rd F.REC_LOST + 1) (2 ^ F.REC_LOST.w - 1) ∧ (s.enqueue r).recd.lostN = s.recd.lostN + 1 ∧ (s.enqueue r).recd.lostLast = r.code) ∧
  (∀ (s : State) (r : Rec), s.flag F.REC_STATUS_STOPPED = false → s.recd.queue = [] → s.lastBuffered = none → s.pair.fwd = [] → (s.enqueue r).recd.queue = [r])

/-- R491: a frame that enters a queue of less than 16 entries is its last, one that meets 16 is discarded and counted in RXQ_OVF with the queue as it was; POP removes the oldest of the named queue; the window shows the
oldest entry. -/
def Obligations.ReceiveQueuesKeepOrder : Prop :=
  (∀ (s : State) (i : Nat) (c : CIx) (e : CanEnt) (k : Nat), k < 19 → s.addrClass (0x8000 + 0x800 * c.val + 0x200 + 4 * k) = 0 → (s.canH c).q0.head? = some e →
    s.wordNow i (0x8000 + 0x800 * c.val + 0x200 + 4 * k) = nth e.words k 0) ∧
  (∀ (s : State) (i : Nat) (c : CIx) (e : CanEnt) (k : Nat), k < 19 → s.addrClass (0x8000 + 0x800 * c.val + 0x280 + 4 * k) = 0 → (s.canH c).q1.head? = some e →
    s.wordNow i (0x8000 + 0x800 * c.val + 0x280 + 4 * k) = nth e.words k 0) ∧
  (∀ (s : State) (c : CIx) (f : CanFrame) (n : Nat),
    s.alive = true →
    s.canRuns c = true →
    (f.fdf && !s.flag (F.CAN_CFG_FD c)) = false →
    (List.range (if s.panelProfile c then 14 else 16)).find? (fun k => s.filterMatch c k f) = some n →
    s.rd (F.FLT_TGT c n) = 0 →
    (s.canH c).q0.length < 16 →
    Runs (.canFrameReceived c f) s fun t => (t.canH c).q0 = (s.canH c).q0 ++ [{ f := f, filter := n, tick := s.tick }] ∧
      (t.canH c).q1 = (s.canH c).q1 ∧
      t.rd (F.RXQ0_STATUS_N c) = (s.canH c).q0.length + 1) ∧
  (∀ (s : State) (c : CIx) (f : CanFrame) (n : Nat),
    s.alive = true →
    s.canRuns c = true →
    (f.fdf && !s.flag (F.CAN_CFG_FD c)) = false →
    (List.range (if s.panelProfile c then 14 else 16)).find? (fun k => s.filterMatch c k f) = some n →
    s.rd (F.FLT_TGT c n) = 0 →
    16 ≤ (s.canH c).q0.length →
    Runs (.canFrameReceived c f) s fun t => (t.canH c).q0 = (s.canH c).q0 ∧
      (t.canH c).q1 = (s.canH c).q1 ∧
      t.rd (F.CAN_ERR_RXQ_OVF c) = min (s.rd (F.CAN_ERR_RXQ_OVF c) + 1) (2 ^ (F.CAN_ERR_RXQ_OVF c).w - 1)) ∧
  (∀ (s : State) (c : CIx) (f : CanFrame) (n : Nat),
    s.alive = true →
    s.canRuns c = true →
    (f.fdf && !s.flag (F.CAN_CFG_FD c)) = false →
    (List.range (if s.panelProfile c then 14 else 16)).find? (fun k => s.filterMatch c k f) = some n →
    s.rd (F.FLT_TGT c n) = 1 →
    (s.canH c).q1.length < 16 →
    Runs (.canFrameReceived c f) s fun t => (t.canH c).q1 = (s.canH c).q1 ++ [{ f := f, filter := n, tick := s.tick }] ∧
      (t.canH c).q0 = (s.canH c).q0 ∧
      t.rd (F.RXQ1_STATUS_N c) = (s.canH c).q1.length + 1) ∧
  (∀ (s : State) (c : CIx) (f : CanFrame) (n : Nat),
    s.alive = true →
    s.canRuns c = true →
    (f.fdf && !s.flag (F.CAN_CFG_FD c)) = false →
    (List.range (if s.panelProfile c then 14 else 16)).find? (fun k => s.filterMatch c k f) = some n →
    s.rd (F.FLT_TGT c n) = 1 →
    16 ≤ (s.canH c).q1.length →
    Runs (.canFrameReceived c f) s fun t => (t.canH c).q0 = (s.canH c).q0 ∧
      (t.canH c).q1 = (s.canH c).q1 ∧
      t.rd (F.CAN_ERR_RXQ_OVF c) = min (s.rd (F.CAN_ERR_RXQ_OVF c) + 1) (2 ^ (F.CAN_ERR_RXQ_OVF c).w - 1)) ∧
  (∀ (s : State) (c : CIx) (q : Fin 2),
    s.alive = true →
    Runs (.pop c q) s fun t => (t.canH c).q0 = (if q = 0 then (s.canH c).q0.drop 1 else (s.canH c).q0) ∧
      (t.canH c).q1 = (if q = 1 then (s.canH c).q1.drop 1 else (s.canH c).q1) ∧
      t.rd (F.RXQ0_STATUS_N c) = (t.canH c).q0.length % 2 ^ (F.RXQ0_STATUS_N c).w)

/-- R544: after both have been held together neither release counts as a press, however long it was: nothing armed is confirmed or lapses, no image moves, and no handover is asked for. The wake inputs act all the same. -/
def Obligations.BothButtonsAreNoPress : Prop :=
  (∀ (s : State),
    s.alive = true →
    Runs (.bothButtonsHeld) s fun t => t.pwr.bothC = true ∧ t.pwr.bothR = true ∧
      (s.Inv → ({ s with pwr := { s.pwr with bothC := true, bothR := true } }).hiddenAs t ∧ s.fieldsBut t [F.PANEL_COMMIT, F.PANEL_REMOVE])) ∧
  (∀ (s : State) (ms : Nat),
    s.alive = true →
    s.pwr.bothC = true →
    Runs (.commitPress ms) s fun t => t.img = s.img ∧
      t.pwr.bothC = false ∧
      (s.Inv → ({ s with pwr := { s.pwr with bothC := false } }).hiddenAs t ∧ s.fieldsBut t [F.PANEL_COMMIT])) ∧
  (∀ (s : State) (ms : Nat),
    s.alive = true →
    s.pwr.bothR = true →
    Runs (.handoverReq true ms) s fun t => t.pair = s.pair ∧
      t.pwr.bothR = false ∧
      (s.Inv → ({ s with pwr := { s.pwr with bothR := false } }).hiddenAs t ∧ s.fieldsBut t [F.PANEL_REMOVE])) ∧
  (∀ (s : State),
    s.pwr.keep = true →
    bitOf s.pwr.enables 2 = true →
    s.pwr.latch = 0 →
    Runs (.wake .button true) s fun t => bitOf t.pwr.latch 2 = true)

/-! ## The whole machine -/

/-- R18, R422, R527: right after reset MOD.STATE reads BOOT, no command waits, nothing is claimed, no loop is closed, every drive enable is low, and every register reads its reset value. That the main rail is off there, and the
values of the registers for which the spec gives none, are the model's choice (log 2, 3). -/
def Obligations.ResetLeavesTheModuleOff : Prop :=
  State.reset.modState = 0 ∧ State.reset.pending = [] ∧ State.reset.hasAuth = false ∧ State.reset.flag F.LOOP_STATUS_L1_CLOSED = false ∧
  (∀ d : DIx, State.reset.denLow d ∧ State.reset.on d = false) ∧ ∀ a : Nat, State.reset.reg a = resetWord a

/-- The register file is a list in one canonical form (log 17): the state after reset has it and every write of a word or a field keeps it; a word reads as last written and every other word as before; a field that lies in
its word reads as last written, and a field apart from it as before. -/
def Obligations.RegisterFileIsCanonical : Prop :=
  State.reset.regsWf ∧
  (∀ (s : State) (a : Nat) (v : Word), s.regsWf → (s.setReg a v).regsWf) ∧
  (∀ (s : State) (f : Fld) (v : Nat), s.regsWf → (s.wr f v).regsWf) ∧
  (∀ (s : State) (a b : Nat) (v : Word), (s.setReg a v).reg b = if b = a then v else s.reg b) ∧
  (∀ (s : State) (f g : Fld) (v : Nat), f.lo + f.w ≤ 32 → (s.wr f v).rd f = v % 2 ^ f.w ∧ (f.apart g → (s.wr f v).rd g = s.rd g))

/-- A doorway that the module has not, that the running image does not declare, or whose logic has no power takes no part (R343): each command of `Instr.door` to it leaves the whole state as it was; a drive
frame of it serves the emulated outputs of its axes alone (R219), and nothing where it has none. That such a command
is no error is read from R343 and R535 (log 21). -/
def Obligations.UndeclaredDoorwayIsUntouched : Prop :=
  (∀ (c : Instr) (d : DIx) (s : State), Instr.door c = some d → s.on d = false → s.Inv → Runs c s fun t => s.same t) ∧
  (∀ (d : DIx) (s : State), s.on d = false → s.Inv → Runs (.driveFrame d) s fun t =>
    s.fieldsBut t (F.REC_STAGE :: F.REC_LOST :: (List.range 8).flatMap (fun e => [F.EMU_STATUS_ACTIVE e, F.EMU_STATUS_BACKLOG e, F.EMU_STATUS_OVR e, F.EMU_CNT e])) ∧
    (s.alive = false ∨ (∀ e ∈ List.range 8, s.rd (F.EMU_CFG_SRC e) / 3 ≠ d.val) → s.same t))

/-- Without the main rail, in the reset that Quickthorn holds, and after the hold-up (R410, R511), a command changes nothing unless it is one of the supply, the keep-alive domain, the field ASICs or the
levels at the pins (`Instr.needsNoLogic`). -/
def Obligations.DeadLogicActsOnNothing : Prop :=
  ∀ (c : Instr) (s : State), Instr.needsNoLogic c = false → s.alive = false → s.Inv → Runs c s fun t => s.same t

/-- R26, R540: a request, a host move, an edge of its encoders, its switches, its guard, its two-hand devices, its curtain, its handle, its links or its enables, and a fault found in one of them, change no
register in the window of another doorway and nothing behind them. -/
def Obligations.DoorwayCommandsKeepTheOthers : Prop :=
  (∀ (s : State) (d : DIx),
    Runs (.openReq d) s fun t => (s.Inv → s.othersKept t d)) ∧
  (∀ (s : State) (d : DIx),
    Runs (.closeReq d) s fun t => (s.Inv → s.othersKept t d)) ∧
  (∀ (s : State) (d : DIx) (b : Bool),
    Runs (.proofReq d b) s fun t => (s.Inv → s.othersKept t d)) ∧
  (∀ (s : State) (d : DIx),
    Runs (.passengerOpenInput d) s fun t => (s.Inv → s.othersKept t d)) ∧
  (∀ (s : State) (d : DIx) (x : AIx),
    Runs (.move d x) s fun t => (s.Inv → s.othersKept t d)) ∧
  (∀ (s : State) (d : DIx) (x : AIx),
    Runs (.stop d x) s fun t => (s.Inv → s.othersKept t d)) ∧
  (∀ (s : State) (d : DIx) (x : AIx),
    Runs (.atRestReached d x) s fun t => (s.Inv → s.othersKept t d)) ∧
  (∀ (s : State) (d : DIx),
    Runs (.learnAbort d) s fun t => (s.Inv → s.othersKept t d)) ∧
  (∀ (s : State) (d : DIx),
    Runs (.discardPending d) s fun t => (s.Inv → s.othersKept t d)) ∧
  (∀ (s : State) (d : DIx) (x : AIx),
    Runs (.snap d x) s fun t => (s.Inv → s.othersKept t d)) ∧
  (∀ (s : State) (d : DIx) (x : AIx),
    Runs (.lossClear d x) s fun t => (s.Inv → s.othersKept t d)) ∧
  (∀ (s : State) (d : DIx) (x : AIx),
    Runs (.referenceMakeEdge d x) s fun t => (s.Inv → s.othersKept t d)) ∧
  (∀ (s : State) (d : DIx) (x : AIx) (z : Bool) (n : Nat),
    Runs (.indexEvent d x z n) s fun t => (s.Inv → s.othersKept t d)) ∧
  (∀ (s : State) (d : DIx) (x : AIx) (va vb : Bool) (na nb : Nat),
    Runs (.encoderCount d x va vb na nb) s fun t => (s.Inv → s.othersKept t d)) ∧
  (∀ (s : State) (d : DIx) (x : AIx) (fa fb fz : Bool),
    Runs (.lineFaultSample d x fa fb fz) s fun t => (s.Inv → s.othersKept t d)) ∧
  (∀ (s : State) (d : DIx) (n : Fin 2),
    Runs (.edgeFault d n) s fun t => (s.Inv → s.othersKept t d)) ∧
  (∀ (s : State) (d : DIx) (n : Fin 2),
    Runs (.edgeFaultClear d n) s fun t => (s.Inv → s.othersKept t d)) ∧
  (∀ (s : State) (d : DIx),
    Runs (.lockCurrent d) s fun t => (s.Inv → s.othersKept t d)) ∧
  (∀ (s : State) (d : DIx),
    Runs (.lockStuckOn d) s fun t => (s.Inv → s.othersKept t d)) ∧
  (∀ (s : State) (d : DIx),
    Runs (.isolationDiscrepancy d) s fun t => (s.Inv → s.othersKept t d)) ∧
  (∀ (s : State) (d : DIx),
    Runs (.handleOperated d) s fun t => (s.Inv → s.othersKept t d)) ∧
  (∀ (s : State) (d : DIx),
    Runs (.handleDiscrepancy d) s fun t => (s.Inv → s.othersKept t d)) ∧
  (∀ (s : State) (d : DIx),
    Runs (.guardOpen d) s fun t => (s.Inv → s.othersKept t d)) ∧
  (∀ (s : State) (d : DIx),
    Runs (.guardClosed d) s fun t => (s.Inv → s.othersKept t d)) ∧
  (∀ (s : State) (d : DIx),
    Runs (.guardFault d) s fun t => (s.Inv → s.othersKept t d)) ∧
  (∀ (s : State) (d : DIx),
    Runs (.twoHandChange d) s fun t => (s.Inv → s.othersKept t d)) ∧
  (∀ (s : State) (d : DIx) (n : Fin 2),
    Runs (.twoHandFault d n) s fun t => (s.Inv → s.othersKept t d)) ∧
  (∀ (s : State) (d : DIx),
    Runs (.ossdChange d) s fun t => (s.Inv → s.othersKept t d)) ∧
  (∀ (s : State) (d : DIx),
    Runs (.lcDiscrepancy d) s fun t => (s.Inv → s.othersKept t d)) ∧
  (∀ (s : State) (d : DIx),
    Runs (.lcTest d) s fun t => (s.Inv → s.othersKept t d)) ∧
  (∀ (s : State) (d : DIx) (n : Fin 2) (b : Bool),
    Runs (.denTestPulse d n b) s fun t => (s.Inv → s.othersKept t d)) ∧
  (∀ (s : State) (d : DIx) (n : Fin 2) (b : Bool),
    Runs (.denReadbackTimeout d n b) s fun t => (s.Inv → s.othersKept t d)) ∧
  (∀ (s : State) (d : DIx),
    Runs (.driveFeedbackTimeout d) s fun t => (s.Inv → s.othersKept t d)) ∧
  (∀ (s : State) (d : DIx),
    Runs (.drivePhyLinkLoss d) s fun t => (s.Inv → s.othersKept t d)) ∧
  (∀ (s : State) (d : DIx),
    Runs (.drivePhyLinkUp d) s fun t => (s.Inv → s.othersKept t d)) ∧
  (∀ (s : State) (d : DIx),
    Runs (.sequencerMismatch d) s fun t => (s.Inv → s.othersKept t d)) ∧
  (∀ (s : State) (d : DIx),
    Runs (.cycleDue d) s fun t => (s.Inv → s.othersKept t d))
end

