-- ==== Sys2Proof/Laws/Regs.lean ====
section
/-!
SUPPORT. Laws/Regs.lean: the register file: a store reads back what was written and nothing else, keeps its canonical form, and a field write
leaves the other fields of its register.
-/
namespace Sys2Proof.Machine

/-! ## Sparse stores -/

theorem Al.get_insert {α : Type} (dflt : Nat → α) (l : List (Nat × α)) (k j : Nat) (v : α) :
    Al.get dflt (Al.insert l k v) j = if j = k then v else Al.get dflt l j := by
  induction l with
  | nil => simp [Al.insert, Al.get]
  | cons p l ih =>
    obtain ⟨k', v'⟩ := p
    simp only [Al.insert]
    split
    · simp [Al.get]
    · split
      · subst_vars; simp only [Al.get]; split <;> rfl
      · simp only [Al.get, ih]; split
        · split
          · omega
          · rfl
        · rfl

theorem Al.get_erase {α : Type} (dflt : Nat → α) (l : List (Nat × α)) (k j : Nat) :
    Al.get dflt (Al.erase l k) j = if j = k then dflt j else Al.get dflt l j := by
  induction l with
  | nil => simp [Al.erase, Al.get]
  | cons p l ih =>
    obtain ⟨k', v'⟩ := p
    simp only [Al.erase]
    split
    · subst_vars; simp only [ih, Al.get]; split <;> simp_all
    · simp only [Al.get, ih]; split
      · split
        · omega
        · rfl
      · rfl

/-- A store reads back the value written, and every other key is unchanged. -/
theorem Al.get_set {α : Type} [DecidableEq α] (dflt : Nat → α) (l : List (Nat × α)) (k j : Nat) (v : α) :
    Al.get dflt (Al.set dflt l k v) j = if j = k then v else Al.get dflt l j := by
  unfold Al.set
  split
  · rw [Al.get_erase]; split <;> simp_all
  · exact Al.get_insert dflt l k j v

theorem Al.wfFrom_mono {α : Type} [DecidableEq α] (dflt : Nat → α) (l : List (Nat × α)) (a b : Nat) (hab : a ≤ b)
    (h : Al.wfFrom dflt (some b) l = true) : Al.wfFrom dflt (some a) l = true := by
  cases l with
  | nil => rfl
  | cons p l =>
    obtain ⟨k, v⟩ := p
    simp only [Al.wfFrom, Bool.and_eq_true, decide_eq_true_eq] at h ⊢
    exact ⟨⟨by omega, h.1.2⟩, h.2⟩

theorem Al.wfFrom_insert {α : Type} [DecidableEq α] (dflt : Nat → α) (l : List (Nat × α)) (k : Nat) (v : α) (hv : v ≠ dflt k) :
    ∀ lo : Option Nat, (∀ b, lo = some b → b < k) → Al.wfFrom dflt lo l = true → Al.wfFrom dflt lo (Al.insert l k v) = true := by
  induction l with
  | nil =>
    intro lo hlo _
    cases lo with
    | none => simp [Al.insert, Al.wfFrom, hv]
    | some b => simp [Al.insert, Al.wfFrom, hv, hlo b rfl]
  | cons p l ih =>
    obtain ⟨k', v'⟩ := p
    intro lo hlo h
    simp only [Al.wfFrom, Bool.and_eq_true, decide_eq_true_eq] at h
    simp only [Al.insert]
    split
    · simp only [Al.wfFrom, Bool.and_eq_true, decide_eq_true_eq]
      refine ⟨⟨?_, hv⟩, ⟨by omega, h.1.2⟩, h.2⟩
      cases lo with
      | none => rfl
      | some b => simpa using hlo b rfl
    · split
      · subst_vars
        simp only [Al.wfFrom, Bool.and_eq_true, decide_eq_true_eq]
        exact ⟨⟨h.1.1, hv⟩, h.2⟩
      · simp only [Al.wfFrom, Bool.and_eq_true, decide_eq_true_eq]
        exact ⟨⟨h.1.1, h.1.2⟩, ih (some k') (fun b hb => by cases hb; omega) h.2⟩

theorem Al.wfFrom_erase {α : Type} [DecidableEq α] (dflt : Nat → α) (l : List (Nat × α)) (k : Nat) :
    ∀ lo : Option Nat, Al.wfFrom dflt lo l = true → Al.wfFrom dflt lo (Al.erase l k) = true := by
  induction l with
  | nil => intro lo _; cases lo <;> rfl
  | cons p l ih =>
    obtain ⟨k', v'⟩ := p
    intro lo h
    simp only [Al.wfFrom, Bool.and_eq_true, decide_eq_true_eq] at h
    simp only [Al.erase]
    split
    · refine ih lo ?_
      cases lo with
      | none =>
        cases l with
        | nil => rfl
        | cons q l =>
          obtain ⟨k2, v2⟩ := q
          have h2 := h.2
          simp only [Al.wfFrom, Bool.and_eq_true, decide_eq_true_eq] at h2 ⊢
          exact ⟨⟨trivial, h2.1.2⟩, h2.2⟩
      | some b =>
        have hb : b < k' := by simpa using h.1.1
        exact Al.wfFrom_mono dflt l b k' (by omega) h.2
    · simp only [Al.wfFrom, Bool.and_eq_true, decide_eq_true_eq]
      exact ⟨h.1, ih (some k') h.2⟩

/-- A write keeps the canonical form of a store. -/
theorem Al.wf_set {α : Type} [DecidableEq α] (dflt : Nat → α) (l : List (Nat × α)) (k : Nat) (v : α) (h : Al.wf dflt l = true) :
    Al.wf dflt (Al.set dflt l k v) = true := by
  unfold Al.set
  split
  · exact Al.wfFrom_erase dflt l k none h
  · rename_i hv
    exact Al.wfFrom_insert dflt l k v hv none (fun b hb => by cases hb) h

/-! ## Registers -/

theorem reg_setReg (s : State) (a b : Nat) (v : Word) : (s.setReg a v).reg b = if b = a then v else s.reg b :=
  Al.get_set resetWord s.regs a b v

theorem reg_wr (s : State) (f : Fld) (v a : Nat) : (s.wr f v).reg a = if a = f.addr then fldSet (s.reg f.addr) f.lo f.w v else s.reg a :=
  reg_setReg s f.addr a _

/-- A write of a field leaves every other register. -/
theorem reg_wr_other (s : State) (f : Fld) (v a : Nat) (h : a ≠ f.addr) : (s.wr f v).reg a = s.reg a := by
  rw [reg_wr, if_neg h]

/-- Two states that agree on a register agree on its fields. -/
theorem rd_congr {s t : State} {f : Fld} (h : s.reg f.addr = t.reg f.addr) : s.rd f = t.rd f := by
  unfold State.rd; rw [h]

theorem flag_congr {s t : State} {f : Fld} (h : s.reg f.addr = t.reg f.addr) : s.flag f = t.flag f := by
  unfold State.flag; rw [rd_congr h]

/-- The value of a word with a field replaced. -/
theorem fldSet_toNat (x : Word) (lo w v : Nat) (h : lo + w ≤ 32) :
    (fldSet x lo w v).toNat = x.toNat % 2 ^ lo + v % 2 ^ w * 2 ^ lo + x.toNat / 2 ^ (lo + w) * 2 ^ (lo + w) := by
  unfold fldSet
  rw [BitVec.toNat_ofNat]
  apply Nat.mod_eq_of_lt
  have hx := x.isLt
  have h1 : x.toNat % 2 ^ lo < 2 ^ lo := Nat.mod_lt _ (Nat.two_pow_pos lo)
  have h2 : v % 2 ^ w < 2 ^ w := Nat.mod_lt _ (Nat.two_pow_pos w)
  have hp : (2 : Nat) ^ (lo + w) = 2 ^ lo * 2 ^ w := Nat.pow_add 2 lo w
  have h3 : x.toNat % 2 ^ lo + v % 2 ^ w * 2 ^ lo < 2 ^ (lo + w) := by
    rw [hp]
    calc x.toNat % 2 ^ lo + v % 2 ^ w * 2 ^ lo < 2 ^ lo + v % 2 ^ w * 2 ^ lo := by omega
      _ = (v % 2 ^ w + 1) * 2 ^ lo := by rw [Nat.add_mul]; omega
      _ ≤ 2 ^ w * 2 ^ lo := Nat.mul_le_mul_right _ (by omega)
      _ = 2 ^ lo * 2 ^ w := Nat.mul_comm _ _
  have h4 : x.toNat / 2 ^ (lo + w) < 2 ^ (32 - (lo + w)) := by
    rw [Nat.div_lt_iff_lt_mul (Nat.two_pow_pos _), ← Nat.pow_add]
    have : 32 - (lo + w) + (lo + w) = 32 := by omega
    rw [this]; exact hx
  calc _ < 2 ^ (lo + w) + x.toNat / 2 ^ (lo + w) * 2 ^ (lo + w) := by omega
    _ = (x.toNat / 2 ^ (lo + w) + 1) * 2 ^ (lo + w) := by rw [Nat.add_mul]; omega
    _ ≤ 2 ^ (32 - (lo + w)) * 2 ^ (lo + w) := Nat.mul_le_mul_right _ (by omega)
    _ = 2 ^ 32 := by rw [← Nat.pow_add]; congr 1; omega

/-- Reading a field just written. -/
theorem fldGet_fldSet_same (x : Word) (lo w v : Nat) (h : lo + w ≤ 32) : fldGet (fldSet x lo w v) lo w = v % 2 ^ w := by
  unfold fldGet
  rw [fldSet_toNat x lo w v h]
  have hp : (2 : Nat) ^ (lo + w) = 2 ^ lo * 2 ^ w := Nat.pow_add 2 lo w
  have h1 : x.toNat % 2 ^ lo < 2 ^ lo := Nat.mod_lt _ (Nat.two_pow_pos lo)
  have e : x.toNat % 2 ^ lo + v % 2 ^ w * 2 ^ lo + x.toNat / 2 ^ (lo + w) * 2 ^ (lo + w) =
      x.toNat % 2 ^ lo + 2 ^ lo * (v % 2 ^ w + 2 ^ w * (x.toNat / 2 ^ (lo + w))) := by
    rw [hp, Nat.mul_add, Nat.mul_comm (v % 2 ^ w)]
    have : x.toNat / (2 ^ lo * 2 ^ w) * (2 ^ lo * 2 ^ w) = 2 ^ lo * (2 ^ w * (x.toNat / (2 ^ lo * 2 ^ w))) := by
      rw [Nat.mul_comm (x.toNat / (2 ^ lo * 2 ^ w)), Nat.mul_assoc]
    omega
  rw [e, Nat.add_mul_div_left _ _ (Nat.two_pow_pos lo), Nat.div_eq_of_lt h1, Nat.zero_add, Nat.add_mul_mod_self_left, Nat.mod_mod]

/-- Reading a field below the one written. -/
theorem fldGet_fldSet_below (x : Word) (lo w v lo' w' : Nat) (h : lo + w ≤ 32) (hd : lo' + w' ≤ lo) :
    fldGet (fldSet x lo w v) lo' w' = fldGet x lo' w' := by
  unfold fldGet
  rw [fldSet_toNat x lo w v h]
  obtain ⟨k, rfl⟩ := Nat.le.dest hd
  have e : x.toNat % 2 ^ (lo' + w' + k) + v % 2 ^ w * 2 ^ (lo' + w' + k) + x.toNat / 2 ^ (lo' + w' + k + w) * 2 ^ (lo' + w' + k + w) =
      x.toNat % 2 ^ (lo' + w' + k) + 2 ^ (lo' + w') * (2 ^ k * (v % 2 ^ w) + 2 ^ (k + w) * (x.toNat / 2 ^ (lo' + w' + k + w))) := by
    have h1 : (2 : Nat) ^ (lo' + w' + k) = 2 ^ (lo' + w') * 2 ^ k := Nat.pow_add ..
    have h2 : (2 : Nat) ^ (lo' + w' + k + w) = 2 ^ (lo' + w') * 2 ^ (k + w) := by rw [← Nat.pow_add, Nat.add_assoc (lo' + w')]
    rw [Nat.mul_add, ← Nat.mul_assoc, ← Nat.mul_assoc, ← h1, ← h2, Nat.mul_comm (v % 2 ^ w), Nat.mul_comm (x.toNat / _)]
    omega
  have key : ∀ y z : Nat, (y + 2 ^ (lo' + w') * z) / 2 ^ lo' % 2 ^ w' = y / 2 ^ lo' % 2 ^ w' := by
    intro y z
    rw [Nat.pow_add, Nat.mul_assoc, Nat.add_mul_div_left _ _ (Nat.two_pow_pos lo'), Nat.add_mul_mod_self_left]
  rw [e, key]
  have hx : x.toNat % 2 ^ (lo' + w' + k) + 2 ^ (lo' + w') * (2 ^ k * (x.toNat / 2 ^ (lo' + w' + k))) = x.toNat := by
    rw [← Nat.mul_assoc, ← Nat.pow_add]
    exact Nat.mod_add_div _ _
  have hk := key (x.toNat % 2 ^ (lo' + w' + k)) (2 ^ k * (x.toNat / 2 ^ (lo' + w' + k)))
  rw [hx] at hk
  exact hk.symm

/-- Reading a field above the one written. -/
theorem fldGet_fldSet_above (x : Word) (lo w v lo' w' : Nat) (h : lo + w ≤ 32) (hd : lo + w ≤ lo') :
    fldGet (fldSet x lo w v) lo' w' = fldGet x lo' w' := by
  unfold fldGet
  rw [fldSet_toNat x lo w v h]
  obtain ⟨k, rfl⟩ := Nat.le.dest hd
  have h1 : x.toNat % 2 ^ lo < 2 ^ lo := Nat.mod_lt _ (Nat.two_pow_pos lo)
  have h2 : v % 2 ^ w < 2 ^ w := Nat.mod_lt _ (Nat.two_pow_pos w)
  have h3 : x.toNat % 2 ^ lo + v % 2 ^ w * 2 ^ lo < 2 ^ (lo + w) := by
    rw [Nat.pow_add]
    calc x.toNat % 2 ^ lo + v % 2 ^ w * 2 ^ lo < 2 ^ lo + v % 2 ^ w * 2 ^ lo := by omega
      _ = (v % 2 ^ w + 1) * 2 ^ lo := by rw [Nat.add_mul]; omega
      _ ≤ 2 ^ w * 2 ^ lo := Nat.mul_le_mul_right _ (by omega)
      _ = 2 ^ lo * 2 ^ w := Nat.mul_comm _ _
  congr 1
  rw [Nat.pow_add 2 (lo + w) k, ← Nat.div_div_eq_div_mul, ← Nat.div_div_eq_div_mul]
  congr 1
  rw [Nat.mul_comm (x.toNat / _), Nat.add_mul_div_left _ _ (Nat.two_pow_pos _), Nat.div_eq_of_lt h3, Nat.zero_add]

/-- A field written reads back, cut to its width. -/
theorem rd_wr_same (s : State) (f : Fld) (v : Nat) (h : f.lo + f.w ≤ 32) : (s.wr f v).rd f = v % 2 ^ f.w := by
  unfold State.rd; rw [reg_wr, if_pos rfl]; exact fldGet_fldSet_same _ _ _ _ h

/-- A field of another register is unchanged. -/
theorem rd_wr_addr (s : State) (f g : Fld) (v : Nat) (h : g.addr ≠ f.addr) : (s.wr f v).rd g = s.rd g :=
  rd_congr (reg_wr_other s f v g.addr h)

/-- A field of the same register that does not overlap is unchanged. -/
theorem rd_wr_apart (s : State) (f g : Fld) (v : Nat) (h : f.lo + f.w ≤ 32) (hd : g.lo + g.w ≤ f.lo ∨ f.lo + f.w ≤ g.lo) :
    (s.wr f v).rd g = s.rd g := by
  by_cases ha : g.addr = f.addr
  · unfold State.rd
    rw [reg_wr, if_pos ha, ha]
    rcases hd with hd | hd
    · exact fldGet_fldSet_below _ _ _ _ _ _ h hd
    · exact fldGet_fldSet_above _ _ _ _ _ _ h hd
  · exact rd_wr_addr s f g v ha

/-- Another field, in another register or apart in the same one, is unchanged. -/
theorem rd_wr_ne (s : State) (f g : Fld) (v : Nat) (h : g.addr ≠ f.addr ∨ (f.lo + f.w ≤ 32 ∧ (g.lo + g.w ≤ f.lo ∨ f.lo + f.w ≤ g.lo))) :
    (s.wr f v).rd g = s.rd g := by
  rcases h with h | ⟨h1, h2⟩
  · exact rd_wr_addr s f g v h
  · exact rd_wr_apart s f g v h1 h2

theorem flag_wr_ne (s : State) (f g : Fld) (v : Nat) (h : g.addr ≠ f.addr ∨ (f.lo + f.w ≤ 32 ∧ (g.lo + g.w ≤ f.lo ∨ f.lo + f.w ≤ g.lo))) :
    (s.wr f v).flag g = s.flag g := by
  unfold State.flag; rw [rd_wr_ne s f g v h]

/-- A one-bit field set to a value reads it. -/
theorem flag_setF_same (s : State) (f : Fld) (b : Bool) (h : f.lo + 1 ≤ 32) (hw : f.w = 1) : (s.setF f b).flag f = b := by
  unfold State.setF State.flag
  rw [rd_wr_same s f _ (by omega), hw]
  cases b <;> rfl

/-- The store keeps its canonical form under every write of a register. -/
theorem setReg_wf (s : State) (a : Nat) (v : Word) (h : Al.wf resetWord s.regs = true) : Al.wf resetWord (s.setReg a v).regs = true :=
  Al.wf_set resetWord s.regs a v h

/-! ## Every writing operation leaves other registers -/

theorem reg_setF_other (s : State) (f : Fld) (b : Bool) (a : Nat) (h : a ≠ f.addr) : (s.setF f b).reg a = s.reg a := reg_wr_other s f _ a h
theorem reg_wrS_other (s : State) (f : Fld) (v : Int) (a : Nat) (h : a ≠ f.addr) : (s.wrS f v).reg a = s.reg a := reg_wr_other s f _ a h
theorem reg_wrSat_other (s : State) (f : Fld) (v : Nat) (a : Nat) (h : a ≠ f.addr) : (s.wrSat f v).reg a = s.reg a := reg_wr_other s f _ a h
theorem reg_inc_other (s : State) (f : Fld) (a : Nat) (h : a ≠ f.addr) : (s.inc f).reg a = s.reg a := reg_wr_other s f _ a h
theorem reg_addSat_other (s : State) (f : Fld) (n a : Nat) (h : a ≠ f.addr) : (s.addSat f n).reg a = s.reg a := reg_wr_other s f _ a h
theorem reg_setBit_other (s : State) (f : Fld) (i : Nat) (b : Bool) (a : Nat) (h : a ≠ f.addr) : (s.setBit f i b).reg a = s.reg a :=
  reg_wr_other s f _ a h

end Sys2Proof.Machine
end

