-- ==== Sys2Proof/Laws/State.lean ====
section
/-!
SUPPORT. Laws/State.lean: what each small update of the state leaves alone: one lemma per field per update, so that no proof unfolds a record.
-/
namespace Sys2Proof.Machine

/-! ## Writes of registers change nothing but the register file -/

@[simp] theorem setReg_chip (s : State) (a : Nat) (v : Word) : (s.setReg a v).chip = s.chip := rfl
@[simp] theorem setReg_pending (s : State) (a : Nat) (v : Word) : (s.setReg a v).pending = s.pending := rfl
@[simp] theorem setReg_now (s : State) (a : Nat) (v : Word) : (s.setReg a v).now = s.now := rfl
@[simp] theorem setReg_tb0 (s : State) (a : Nat) (v : Word) : (s.setReg a v).tb0 = s.tb0 := rfl
@[simp] theorem setReg_freeCtr (s : State) (a : Nat) (v : Word) : (s.setReg a v).freeCtr = s.freeCtr := rfl
@[simp] theorem setReg_rail (s : State) (a : Nat) (v : Word) : (s.setReg a v).rail = s.rail := rfl
@[simp] theorem setReg_qtHeld (s : State) (a : Nat) (v : Word) : (s.setReg a v).qtHeld = s.qtHeld := rfl
@[simp] theorem setReg_imgPend (s : State) (a : Nat) (v : Word) : (s.setReg a v).imgPend = s.imgPend := rfl
@[simp] theorem setReg_dwys (s : State) (a : Nat) (v : Word) : (s.setReg a v).dwys = s.dwys := rfl
@[simp] theorem setReg_recd (s : State) (a : Nat) (v : Word) : (s.setReg a v).recd = s.recd := rfl
@[simp] theorem setReg_img (s : State) (a : Nat) (v : Word) : (s.setReg a v).img = s.img := rfl
@[simp] theorem setReg_plc (s : State) (a : Nat) (v : Word) : (s.setReg a v).plc = s.plc := rfl
@[simp] theorem setReg_flt (s : State) (a : Nat) (v : Word) : (s.setReg a v).flt = s.flt := rfl
@[simp] theorem setReg_pwr (s : State) (a : Nat) (v : Word) : (s.setReg a v).pwr = s.pwr := rfl
@[simp] theorem setReg_pair (s : State) (a : Nat) (v : Word) : (s.setReg a v).pair = s.pair := rfl
@[simp] theorem setReg_trn (s : State) (a : Nat) (v : Word) : (s.setReg a v).trn = s.trn := rfl
@[simp] theorem setReg_asics (s : State) (a : Nat) (v : Word) : (s.setReg a v).asics = s.asics := rfl
@[simp] theorem setReg_engs (s : State) (a : Nat) (v : Word) : (s.setReg a v).engs = s.engs := rfl
@[simp] theorem setReg_cop (s : State) (a : Nat) (v : Word) : (s.setReg a v).cop = s.cop := rfl
@[simp] theorem setReg_net (s : State) (a : Nat) (v : Word) : (s.setReg a v).net = s.net := rfl
@[simp] theorem setReg_can (s : State) (a : Nat) (v : Word) : (s.setReg a v).can = s.can := rfl
@[simp] theorem setReg_rap (s : State) (a : Nat) (v : Word) : (s.setReg a v).rap = s.rap := rfl
@[simp] theorem setReg_dwy (s : State) (a : Nat) (v : Word) (d : DIx) : (s.setReg a v).dwy d = s.dwy d := rfl
@[simp] theorem wr_chip (s : State) (f : Fld) (v : Nat) : (s.wr f v).chip = s.chip := rfl
@[simp] theorem wr_pending (s : State) (f : Fld) (v : Nat) : (s.wr f v).pending = s.pending := rfl
@[simp] theorem wr_now (s : State) (f : Fld) (v : Nat) : (s.wr f v).now = s.now := rfl
@[simp] theorem wr_tb0 (s : State) (f : Fld) (v : Nat) : (s.wr f v).tb0 = s.tb0 := rfl
@[simp] theorem wr_freeCtr (s : State) (f : Fld) (v : Nat) : (s.wr f v).freeCtr = s.freeCtr := rfl
@[simp] theorem wr_rail (s : State) (f : Fld) (v : Nat) : (s.wr f v).rail = s.rail := rfl
@[simp] theorem wr_qtHeld (s : State) (f : Fld) (v : Nat) : (s.wr f v).qtHeld = s.qtHeld := rfl
@[simp] theorem wr_imgPend (s : State) (f : Fld) (v : Nat) : (s.wr f v).imgPend = s.imgPend := rfl
@[simp] theorem wr_dwys (s : State) (f : Fld) (v : Nat) : (s.wr f v).dwys = s.dwys := rfl
@[simp] theorem wr_recd (s : State) (f : Fld) (v : Nat) : (s.wr f v).recd = s.recd := rfl
@[simp] theorem wr_img (s : State) (f : Fld) (v : Nat) : (s.wr f v).img = s.img := rfl
@[simp] theorem wr_plc (s : State) (f : Fld) (v : Nat) : (s.wr f v).plc = s.plc := rfl
@[simp] theorem wr_flt (s : State) (f : Fld) (v : Nat) : (s.wr f v).flt = s.flt := rfl
@[simp] theorem wr_pwr (s : State) (f : Fld) (v : Nat) : (s.wr f v).pwr = s.pwr := rfl
@[simp] theorem wr_pair (s : State) (f : Fld) (v : Nat) : (s.wr f v).pair = s.pair := rfl
@[simp] theorem wr_trn (s : State) (f : Fld) (v : Nat) : (s.wr f v).trn = s.trn := rfl
@[simp] theorem wr_asics (s : State) (f : Fld) (v : Nat) : (s.wr f v).asics = s.asics := rfl
@[simp] theorem wr_engs (s : State) (f : Fld) (v : Nat) : (s.wr f v).engs = s.engs := rfl
@[simp] theorem wr_cop (s : State) (f : Fld) (v : Nat) : (s.wr f v).cop = s.cop := rfl
@[simp] theorem wr_net (s : State) (f : Fld) (v : Nat) : (s.wr f v).net = s.net := rfl
@[simp] theorem wr_can (s : State) (f : Fld) (v : Nat) : (s.wr f v).can = s.can := rfl
@[simp] theorem wr_rap (s : State) (f : Fld) (v : Nat) : (s.wr f v).rap = s.rap := rfl
@[simp] theorem wr_dwy (s : State) (f : Fld) (v : Nat) (d : DIx) : (s.wr f v).dwy d = s.dwy d := rfl
@[simp] theorem setF_chip (s : State) (f : Fld) (b : Bool) : (s.setF f b).chip = s.chip := rfl
@[simp] theorem setF_pending (s : State) (f : Fld) (b : Bool) : (s.setF f b).pending = s.pending := rfl
@[simp] theorem setF_now (s : State) (f : Fld) (b : Bool) : (s.setF f b).now = s.now := rfl
@[simp] theorem setF_tb0 (s : State) (f : Fld) (b : Bool) : (s.setF f b).tb0 = s.tb0 := rfl
@[simp] theorem setF_freeCtr (s : State) (f : Fld) (b : Bool) : (s.setF f b).freeCtr = s.freeCtr := rfl
@[simp] theorem setF_rail (s : State) (f : Fld) (b : Bool) : (s.setF f b).rail = s.rail := rfl
@[simp] theorem setF_qtHeld (s : State) (f : Fld) (b : Bool) : (s.setF f b).qtHeld = s.qtHeld := rfl
@[simp] theorem setF_imgPend (s : State) (f : Fld) (b : Bool) : (s.setF f b).imgPend = s.imgPend := rfl
@[simp] theorem setF_dwys (s : State) (f : Fld) (b : Bool) : (s.setF f b).dwys = s.dwys := rfl
@[simp] theorem setF_recd (s : State) (f : Fld) (b : Bool) : (s.setF f b).recd = s.recd := rfl
@[simp] theorem setF_img (s : State) (f : Fld) (b : Bool) : (s.setF f b).img = s.img := rfl
@[simp] theorem setF_plc (s : State) (f : Fld) (b : Bool) : (s.setF f b).plc = s.plc := rfl
@[simp] theorem setF_flt (s : State) (f : Fld) (b : Bool) : (s.setF f b).flt = s.flt := rfl
@[simp] theorem setF_pwr (s : State) (f : Fld) (b : Bool) : (s.setF f b).pwr = s.pwr := rfl
@[simp] theorem setF_pair (s : State) (f : Fld) (b : Bool) : (s.setF f b).pair = s.pair := rfl
@[simp] theorem setF_trn (s : State) (f : Fld) (b : Bool) : (s.setF f b).trn = s.trn := rfl
@[simp] theorem setF_asics (s : State) (f : Fld) (b : Bool) : (s.setF f b).asics = s.asics := rfl
@[simp] theorem setF_engs (s : State) (f : Fld) (b : Bool) : (s.setF f b).engs = s.engs := rfl
@[simp] theorem setF_cop (s : State) (f : Fld) (b : Bool) : (s.setF f b).cop = s.cop := rfl
@[simp] theorem setF_net (s : State) (f : Fld) (b : Bool) : (s.setF f b).net = s.net := rfl
@[simp] theorem setF_can (s : State) (f : Fld) (b : Bool) : (s.setF f b).can = s.can := rfl
@[simp] theorem setF_rap (s : State) (f : Fld) (b : Bool) : (s.setF f b).rap = s.rap := rfl
@[simp] theorem setF_dwy (s : State) (f : Fld) (b : Bool) (d : DIx) : (s.setF f b).dwy d = s.dwy d := rfl
@[simp] theorem wrS_chip (s : State) (f : Fld) (v : Int) : (s.wrS f v).chip = s.chip := rfl
@[simp] theorem wrS_pending (s : State) (f : Fld) (v : Int) : (s.wrS f v).pending = s.pending := rfl
@[simp] theorem wrS_now (s : State) (f : Fld) (v : Int) : (s.wrS f v).now = s.now := rfl
@[simp] theorem wrS_tb0 (s : State) (f : Fld) (v : Int) : (s.wrS f v).tb0 = s.tb0 := rfl
@[simp] theorem wrS_freeCtr (s : State) (f : Fld) (v : Int) : (s.wrS f v).freeCtr = s.freeCtr := rfl
@[simp] theorem wrS_rail (s : State) (f : Fld) (v : Int) : (s.wrS f v).rail = s.rail := rfl
@[simp] theorem wrS_qtHeld (s : State) (f : Fld) (v : Int) : (s.wrS f v).qtHeld = s.qtHeld := rfl
@[simp] theorem wrS_imgPend (s : State) (f : Fld) (v : Int) : (s.wrS f v).imgPend = s.imgPend := rfl
@[simp] theorem wrS_dwys (s : State) (f : Fld) (v : Int) : (s.wrS f v).dwys = s.dwys := rfl
@[simp] theorem wrS_recd (s : State) (f : Fld) (v : Int) : (s.wrS f v).recd = s.recd := rfl
@[simp] theorem wrS_img (s : State) (f : Fld) (v : Int) : (s.wrS f v).img = s.img := rfl
@[simp] theorem wrS_plc (s : State) (f : Fld) (v : Int) : (s.wrS f v).plc = s.plc := rfl
@[simp] theorem wrS_flt (s : State) (f : Fld) (v : Int) : (s.wrS f v).flt = s.flt := rfl
@[simp] theorem wrS_pwr (s : State) (f : Fld) (v : Int) : (s.wrS f v).pwr = s.pwr := rfl
@[simp] theorem wrS_pair (s : State) (f : Fld) (v : Int) : (s.wrS f v).pair = s.pair := rfl
@[simp] theorem wrS_trn (s : State) (f : Fld) (v : Int) : (s.wrS f v).trn = s.trn := rfl
@[simp] theorem wrS_asics (s : State) (f : Fld) (v : Int) : (s.wrS f v).asics = s.asics := rfl
@[simp] theorem wrS_engs (s : State) (f : Fld) (v : Int) : (s.wrS f v).engs = s.engs := rfl
@[simp] theorem wrS_cop (s : State) (f : Fld) (v : Int) : (s.wrS f v).cop = s.cop := rfl
@[simp] theorem wrS_net (s : State) (f : Fld) (v : Int) : (s.wrS f v).net = s.net := rfl
@[simp] theorem wrS_can (s : State) (f : Fld) (v : Int) : (s.wrS f v).can = s.can := rfl
@[simp] theorem wrS_rap (s : State) (f : Fld) (v : Int) : (s.wrS f v).rap = s.rap := rfl
@[simp] theorem wrS_dwy (s : State) (f : Fld) (v : Int) (d : DIx) : (s.wrS f v).dwy d = s.dwy d := rfl
@[simp] theorem wrSat_chip (s : State) (f : Fld) (v : Nat) : (s.wrSat f v).chip = s.chip := rfl
@[simp] theorem wrSat_pending (s : State) (f : Fld) (v : Nat) : (s.wrSat f v).pending = s.pending := rfl
@[simp] theorem wrSat_now (s : State) (f : Fld) (v : Nat) : (s.wrSat f v).now = s.now := rfl
@[simp] theorem wrSat_tb0 (s : State) (f : Fld) (v : Nat) : (s.wrSat f v).tb0 = s.tb0 := rfl
@[simp] theorem wrSat_freeCtr (s : State) (f : Fld) (v : Nat) : (s.wrSat f v).freeCtr = s.freeCtr := rfl
@[simp] theorem wrSat_rail (s : State) (f : Fld) (v : Nat) : (s.wrSat f v).rail = s.rail := rfl
@[simp] theorem wrSat_qtHeld (s : State) (f : Fld) (v : Nat) : (s.wrSat f v).qtHeld = s.qtHeld := rfl
@[simp] theorem wrSat_imgPend (s : State) (f : Fld) (v : Nat) : (s.wrSat f v).imgPend = s.imgPend := rfl
@[simp] theorem wrSat_dwys (s : State) (f : Fld) (v : Nat) : (s.wrSat f v).dwys = s.dwys := rfl
@[simp] theorem wrSat_recd (s : State) (f : Fld) (v : Nat) : (s.wrSat f v).recd = s.recd := rfl
@[simp] theorem wrSat_img (s : State) (f : Fld) (v : Nat) : (s.wrSat f v).img = s.img := rfl
@[simp] theorem wrSat_plc (s : State) (f : Fld) (v : Nat) : (s.wrSat f v).plc = s.plc := rfl
@[simp] theorem wrSat_flt (s : State) (f : Fld) (v : Nat) : (s.wrSat f v).flt = s.flt := rfl
@[simp] theorem wrSat_pwr (s : State) (f : Fld) (v : Nat) : (s.wrSat f v).pwr = s.pwr := rfl
@[simp] theorem wrSat_pair (s : State) (f : Fld) (v : Nat) : (s.wrSat f v).pair = s.pair := rfl
@[simp] theorem wrSat_trn (s : State) (f : Fld) (v : Nat) : (s.wrSat f v).trn = s.trn := rfl
@[simp] theorem wrSat_asics (s : State) (f : Fld) (v : Nat) : (s.wrSat f v).asics = s.asics := rfl
@[simp] theorem wrSat_engs (s : State) (f : Fld) (v : Nat) : (s.wrSat f v).engs = s.engs := rfl
@[simp] theorem wrSat_cop (s : State) (f : Fld) (v : Nat) : (s.wrSat f v).cop = s.cop := rfl
@[simp] theorem wrSat_net (s : State) (f : Fld) (v : Nat) : (s.wrSat f v).net = s.net := rfl
@[simp] theorem wrSat_can (s : State) (f : Fld) (v : Nat) : (s.wrSat f v).can = s.can := rfl
@[simp] theorem wrSat_rap (s : State) (f : Fld) (v : Nat) : (s.wrSat f v).rap = s.rap := rfl
@[simp] theorem wrSat_dwy (s : State) (f : Fld) (v : Nat) (d : DIx) : (s.wrSat f v).dwy d = s.dwy d := rfl
@[simp] theorem inc_chip (s : State) (f : Fld) : (s.inc f).chip = s.chip := rfl
@[simp] theorem inc_pending (s : State) (f : Fld) : (s.inc f).pending = s.pending := rfl
@[simp] theorem inc_now (s : State) (f : Fld) : (s.inc f).now = s.now := rfl
@[simp] theorem inc_tb0 (s : State) (f : Fld) : (s.inc f).tb0 = s.tb0 := rfl
@[simp] theorem inc_freeCtr (s : State) (f : Fld) : (s.inc f).freeCtr = s.freeCtr := rfl
@[simp] theorem inc_rail (s : State) (f : Fld) : (s.inc f).rail = s.rail := rfl
@[simp] theorem inc_qtHeld (s : State) (f : Fld) : (s.inc f).qtHeld = s.qtHeld := rfl
@[simp] theorem inc_imgPend (s : State) (f : Fld) : (s.inc f).imgPend = s.imgPend := rfl
@[simp] theorem inc_dwys (s : State) (f : Fld) : (s.inc f).dwys = s.dwys := rfl
@[simp] theorem inc_recd (s : State) (f : Fld) : (s.inc f).recd = s.recd := rfl
@[simp] theorem inc_img (s : State) (f : Fld) : (s.inc f).img = s.img := rfl
@[simp] theorem inc_plc (s : State) (f : Fld) : (s.inc f).plc = s.plc := rfl
@[simp] theorem inc_flt (s : State) (f : Fld) : (s.inc f).flt = s.flt := rfl
@[simp] theorem inc_pwr (s : State) (f : Fld) : (s.inc f).pwr = s.pwr := rfl
@[simp] theorem inc_pair (s : State) (f : Fld) : (s.inc f).pair = s.pair := rfl
@[simp] theorem inc_trn (s : State) (f : Fld) : (s.inc f).trn = s.trn := rfl
@[simp] theorem inc_asics (s : State) (f : Fld) : (s.inc f).asics = s.asics := rfl
@[simp] theorem inc_engs (s : State) (f : Fld) : (s.inc f).engs = s.engs := rfl
@[simp] theorem inc_cop (s : State) (f : Fld) : (s.inc f).cop = s.cop := rfl
@[simp] theorem inc_net (s : State) (f : Fld) : (s.inc f).net = s.net := rfl
@[simp] theorem inc_can (s : State) (f : Fld) : (s.inc f).can = s.can := rfl
@[simp] theorem inc_rap (s : State) (f : Fld) : (s.inc f).rap = s.rap := rfl
@[simp] theorem inc_dwy (s : State) (f : Fld) (d : DIx) : (s.inc f).dwy d = s.dwy d := rfl
@[simp] theorem addSat_chip (s : State) (f : Fld) (n : Nat) : (s.addSat f n).chip = s.chip := rfl
@[simp] theorem addSat_pending (s : State) (f : Fld) (n : Nat) : (s.addSat f n).pending = s.pending := rfl
@[simp] theorem addSat_now (s : State) (f : Fld) (n : Nat) : (s.addSat f n).now = s.now := rfl
@[simp] theorem addSat_tb0 (s : State) (f : Fld) (n : Nat) : (s.addSat f n).tb0 = s.tb0 := rfl
@[simp] theorem addSat_freeCtr (s : State) (f : Fld) (n : Nat) : (s.addSat f n).freeCtr = s.freeCtr := rfl
@[simp] theorem addSat_rail (s : State) (f : Fld) (n : Nat) : (s.addSat f n).rail = s.rail := rfl
@[simp] theorem addSat_qtHeld (s : State) (f : Fld) (n : Nat) : (s.addSat f n).qtHeld = s.qtHeld := rfl
@[simp] theorem addSat_imgPend (s : State) (f : Fld) (n : Nat) : (s.addSat f n).imgPend = s.imgPend := rfl
@[simp] theorem addSat_dwys (s : State) (f : Fld) (n : Nat) : (s.addSat f n).dwys = s.dwys := rfl
@[simp] theorem addSat_recd (s : State) (f : Fld) (n : Nat) : (s.addSat f n).recd = s.recd := rfl
@[simp] theorem addSat_img (s : State) (f : Fld) (n : Nat) : (s.addSat f n).img = s.img := rfl
@[simp] theorem addSat_plc (s : State) (f : Fld) (n : Nat) : (s.addSat f n).plc = s.plc := rfl
@[simp] theorem addSat_flt (s : State) (f : Fld) (n : Nat) : (s.addSat f n).flt = s.flt := rfl
@[simp] theorem addSat_pwr (s : State) (f : Fld) (n : Nat) : (s.addSat f n).pwr = s.pwr := rfl
@[simp] theorem addSat_pair (s : State) (f : Fld) (n : Nat) : (s.addSat f n).pair = s.pair := rfl
@[simp] theorem addSat_trn (s : State) (f : Fld) (n : Nat) : (s.addSat f n).trn = s.trn := rfl
@[simp] theorem addSat_asics (s : State) (f : Fld) (n : Nat) : (s.addSat f n).asics = s.asics := rfl
@[simp] theorem addSat_engs (s : State) (f : Fld) (n : Nat) : (s.addSat f n).engs = s.engs := rfl
@[simp] theorem addSat_cop (s : State) (f : Fld) (n : Nat) : (s.addSat f n).cop = s.cop := rfl
@[simp] theorem addSat_net (s : State) (f : Fld) (n : Nat) : (s.addSat f n).net = s.net := rfl
@[simp] theorem addSat_can (s : State) (f : Fld) (n : Nat) : (s.addSat f n).can = s.can := rfl
@[simp] theorem addSat_rap (s : State) (f : Fld) (n : Nat) : (s.addSat f n).rap = s.rap := rfl
@[simp] theorem addSat_dwy (s : State) (f : Fld) (n : Nat) (d : DIx) : (s.addSat f n).dwy d = s.dwy d := rfl
@[simp] theorem setBit_chip (s : State) (f : Fld) (i : Nat) (b : Bool) : (s.setBit f i b).chip = s.chip := rfl
@[simp] theorem setBit_pending (s : State) (f : Fld) (i : Nat) (b : Bool) : (s.setBit f i b).pending = s.pending := rfl
@[simp] theorem setBit_now (s : State) (f : Fld) (i : Nat) (b : Bool) : (s.setBit f i b).now = s.now := rfl
@[simp] theorem setBit_tb0 (s : State) (f : Fld) (i : Nat) (b : Bool) : (s.setBit f i b).tb0 = s.tb0 := rfl
@[simp] theorem setBit_freeCtr (s : State) (f : Fld) (i : Nat) (b : Bool) : (s.setBit f i b).freeCtr = s.freeCtr := rfl
@[simp] theorem setBit_rail (s : State) (f : Fld) (i : Nat) (b : Bool) : (s.setBit f i b).rail = s.rail := rfl
@[simp] theorem setBit_qtHeld (s : State) (f : Fld) (i : Nat) (b : Bool) : (s.setBit f i b).qtHeld = s.qtHeld := rfl
@[simp] theorem setBit_imgPend (s : State) (f : Fld) (i : Nat) (b : Bool) : (s.setBit f i b).imgPend = s.imgPend := rfl
@[simp] theorem setBit_dwys (s : State) (f : Fld) (i : Nat) (b : Bool) : (s.setBit f i b).dwys = s.dwys := rfl
@[simp] theorem setBit_recd (s : State) (f : Fld) (i : Nat) (b : Bool) : (s.setBit f i b).recd = s.recd := rfl
@[simp] theorem setBit_img (s : State) (f : Fld) (i : Nat) (b : Bool) : (s.setBit f i b).img = s.img := rfl
@[simp] theorem setBit_plc (s : State) (f : Fld) (i : Nat) (b : Bool) : (s.setBit f i b).plc = s.plc := rfl
@[simp] theorem setBit_flt (s : State) (f : Fld) (i : Nat) (b : Bool) : (s.setBit f i b).flt = s.flt := rfl
@[simp] theorem setBit_pwr (s : State) (f : Fld) (i : Nat) (b : Bool) : (s.setBit f i b).pwr = s.pwr := rfl
@[simp] theorem setBit_pair (s : State) (f : Fld) (i : Nat) (b : Bool) : (s.setBit f i b).pair = s.pair := rfl
@[simp] theorem setBit_trn (s : State) (f : Fld) (i : Nat) (b : Bool) : (s.setBit f i b).trn = s.trn := rfl
@[simp] theorem setBit_asics (s : State) (f : Fld) (i : Nat) (b : Bool) : (s.setBit f i b).asics = s.asics := rfl
@[simp] theorem setBit_engs (s : State) (f : Fld) (i : Nat) (b : Bool) : (s.setBit f i b).engs = s.engs := rfl
@[simp] theorem setBit_cop (s : State) (f : Fld) (i : Nat) (b : Bool) : (s.setBit f i b).cop = s.cop := rfl
@[simp] theorem setBit_net (s : State) (f : Fld) (i : Nat) (b : Bool) : (s.setBit f i b).net = s.net := rfl
@[simp] theorem setBit_can (s : State) (f : Fld) (i : Nat) (b : Bool) : (s.setBit f i b).can = s.can := rfl
@[simp] theorem setBit_rap (s : State) (f : Fld) (i : Nat) (b : Bool) : (s.setBit f i b).rap = s.rap := rfl
@[simp] theorem setBit_dwy (s : State) (f : Fld) (i : Nat) (b : Bool) (d : DIx) : (s.setBit f i b).dwy d = s.dwy d := rfl

/-! ## Updates of a doorway's hidden state change nothing else -/

@[simp] theorem modDwy_chip (s : State) (d : DIx) (f : Dwy → Dwy) : (s.modDwy d f).chip = s.chip := rfl
@[simp] theorem modDwy_pending (s : State) (d : DIx) (f : Dwy → Dwy) : (s.modDwy d f).pending = s.pending := rfl
@[simp] theorem modDwy_now (s : State) (d : DIx) (f : Dwy → Dwy) : (s.modDwy d f).now = s.now := rfl
@[simp] theorem modDwy_tb0 (s : State) (d : DIx) (f : Dwy → Dwy) : (s.modDwy d f).tb0 = s.tb0 := rfl
@[simp] theorem modDwy_freeCtr (s : State) (d : DIx) (f : Dwy → Dwy) : (s.modDwy d f).freeCtr = s.freeCtr := rfl
@[simp] theorem modDwy_rail (s : State) (d : DIx) (f : Dwy → Dwy) : (s.modDwy d f).rail = s.rail := rfl
@[simp] theorem modDwy_qtHeld (s : State) (d : DIx) (f : Dwy → Dwy) : (s.modDwy d f).qtHeld = s.qtHeld := rfl
@[simp] theorem modDwy_regs (s : State) (d : DIx) (f : Dwy → Dwy) : (s.modDwy d f).regs = s.regs := rfl
@[simp] theorem modDwy_imgPend (s : State) (d : DIx) (f : Dwy → Dwy) : (s.modDwy d f).imgPend = s.imgPend := rfl
@[simp] theorem modDwy_recd (s : State) (d : DIx) (f : Dwy → Dwy) : (s.modDwy d f).recd = s.recd := rfl
@[simp] theorem modDwy_img (s : State) (d : DIx) (f : Dwy → Dwy) : (s.modDwy d f).img = s.img := rfl
@[simp] theorem modDwy_plc (s : State) (d : DIx) (f : Dwy → Dwy) : (s.modDwy d f).plc = s.plc := rfl
@[simp] theorem modDwy_flt (s : State) (d : DIx) (f : Dwy → Dwy) : (s.modDwy d f).flt = s.flt := rfl
@[simp] theorem modDwy_pwr (s : State) (d : DIx) (f : Dwy → Dwy) : (s.modDwy d f).pwr = s.pwr := rfl
@[simp] theorem modDwy_pair (s : State) (d : DIx) (f : Dwy → Dwy) : (s.modDwy d f).pair = s.pair := rfl
@[simp] theorem modDwy_trn (s : State) (d : DIx) (f : Dwy → Dwy) : (s.modDwy d f).trn = s.trn := rfl
@[simp] theorem modDwy_asics (s : State) (d : DIx) (f : Dwy → Dwy) : (s.modDwy d f).asics = s.asics := rfl
@[simp] theorem modDwy_engs (s : State) (d : DIx) (f : Dwy → Dwy) : (s.modDwy d f).engs = s.engs := rfl
@[simp] theorem modDwy_cop (s : State) (d : DIx) (f : Dwy → Dwy) : (s.modDwy d f).cop = s.cop := rfl
@[simp] theorem modDwy_net (s : State) (d : DIx) (f : Dwy → Dwy) : (s.modDwy d f).net = s.net := rfl
@[simp] theorem modDwy_can (s : State) (d : DIx) (f : Dwy → Dwy) : (s.modDwy d f).can = s.can := rfl
@[simp] theorem modDwy_rap (s : State) (d : DIx) (f : Dwy → Dwy) : (s.modDwy d f).rap = s.rap := rfl

@[simp] theorem modDwy_dwy_same (s : State) (d : DIx) (f : Dwy → Dwy) : (s.modDwy d f).dwy d = f (s.dwy d) := by
  simp [State.dwy, State.modDwy]

theorem modDwy_dwy_other (s : State) (d e : DIx) (f : Dwy → Dwy) (h : e ≠ d) : (s.modDwy d f).dwy e = s.dwy e := by
  have : d.val ≠ e.val := fun x => h (Fin.ext x.symm)
  simp [State.dwy, State.modDwy, this]

@[simp] theorem modDrv_chip (s : State) (d : DIx) (f : DrvH → DrvH) : (s.modDrv d f).chip = s.chip := rfl
@[simp] theorem modDrv_pending (s : State) (d : DIx) (f : DrvH → DrvH) : (s.modDrv d f).pending = s.pending := rfl
@[simp] theorem modDrv_now (s : State) (d : DIx) (f : DrvH → DrvH) : (s.modDrv d f).now = s.now := rfl
@[simp] theorem modDrv_tb0 (s : State) (d : DIx) (f : DrvH → DrvH) : (s.modDrv d f).tb0 = s.tb0 := rfl
@[simp] theorem modDrv_freeCtr (s : State) (d : DIx) (f : DrvH → DrvH) : (s.modDrv d f).freeCtr = s.freeCtr := rfl
@[simp] theorem modDrv_rail (s : State) (d : DIx) (f : DrvH → DrvH) : (s.modDrv d f).rail = s.rail := rfl
@[simp] theorem modDrv_qtHeld (s : State) (d : DIx) (f : DrvH → DrvH) : (s.modDrv d f).qtHeld = s.qtHeld := rfl
@[simp] theorem modDrv_regs (s : State) (d : DIx) (f : DrvH → DrvH) : (s.modDrv d f).regs = s.regs := rfl
@[simp] theorem modDrv_imgPend (s : State) (d : DIx) (f : DrvH → DrvH) : (s.modDrv d f).imgPend = s.imgPend := rfl
@[simp] theorem modDrv_recd (s : State) (d : DIx) (f : DrvH → DrvH) : (s.modDrv d f).recd = s.recd := rfl
@[simp] theorem modDrv_img (s : State) (d : DIx) (f : DrvH → DrvH) : (s.modDrv d f).img = s.img := rfl
@[simp] theorem modDrv_plc (s : State) (d : DIx) (f : DrvH → DrvH) : (s.modDrv d f).plc = s.plc := rfl
@[simp] theorem modDrv_flt (s : State) (d : DIx) (f : DrvH → DrvH) : (s.modDrv d f).flt = s.flt := rfl
@[simp] theorem modDrv_pwr (s : State) (d : DIx) (f : DrvH → DrvH) : (s.modDrv d f).pwr = s.pwr := rfl
@[simp] theorem modDrv_pair (s : State) (d : DIx) (f : DrvH → DrvH) : (s.modDrv d f).pair = s.pair := rfl
@[simp] theorem modDrv_trn (s : State) (d : DIx) (f : DrvH → DrvH) : (s.modDrv d f).trn = s.trn := rfl
@[simp] theorem modDrv_asics (s : State) (d : DIx) (f : DrvH → DrvH) : (s.modDrv d f).asics = s.asics := rfl
@[simp] theorem modDrv_engs (s : State) (d : DIx) (f : DrvH → DrvH) : (s.modDrv d f).engs = s.engs := rfl
@[simp] theorem modDrv_cop (s : State) (d : DIx) (f : DrvH → DrvH) : (s.modDrv d f).cop = s.cop := rfl
@[simp] theorem modDrv_net (s : State) (d : DIx) (f : DrvH → DrvH) : (s.modDrv d f).net = s.net := rfl
@[simp] theorem modDrv_can (s : State) (d : DIx) (f : DrvH → DrvH) : (s.modDrv d f).can = s.can := rfl
@[simp] theorem modDrv_rap (s : State) (d : DIx) (f : DrvH → DrvH) : (s.modDrv d f).rap = s.rap := rfl
@[simp] theorem modDrv_same (s : State) (d : DIx) (f : DrvH → DrvH) : (s.modDrv d f).drv d = f (s.drv d) := by
  simp [State.modDrv, State.drv]
theorem modDrv_dwy (s : State) (d : DIx) (f : DrvH → DrvH) : (s.modDrv d f).dwy d = (let x := s.dwy d; { x with drv := f x.drv }) := by
  simp [State.modDrv]
@[simp] theorem modObst_chip (s : State) (d : DIx) (f : ObstH → ObstH) : (s.modObst d f).chip = s.chip := rfl
@[simp] theorem modObst_pending (s : State) (d : DIx) (f : ObstH → ObstH) : (s.modObst d f).pending = s.pending := rfl
@[simp] theorem modObst_now (s : State) (d : DIx) (f : ObstH → ObstH) : (s.modObst d f).now = s.now := rfl
@[simp] theorem modObst_tb0 (s : State) (d : DIx) (f : ObstH → ObstH) : (s.modObst d f).tb0 = s.tb0 := rfl
@[simp] theorem modObst_freeCtr (s : State) (d : DIx) (f : ObstH → ObstH) : (s.modObst d f).freeCtr = s.freeCtr := rfl
@[simp] theorem modObst_rail (s : State) (d : DIx) (f : ObstH → ObstH) : (s.modObst d f).rail = s.rail := rfl
@[simp] theorem modObst_qtHeld (s : State) (d : DIx) (f : ObstH → ObstH) : (s.modObst d f).qtHeld = s.qtHeld := rfl
@[simp] theorem modObst_regs (s : State) (d : DIx) (f : ObstH → ObstH) : (s.modObst d f).regs = s.regs := rfl
@[simp] theorem modObst_imgPend (s : State) (d : DIx) (f : ObstH → ObstH) : (s.modObst d f).imgPend = s.imgPend := rfl
@[simp] theorem modObst_recd (s : State) (d : DIx) (f : ObstH → ObstH) : (s.modObst d f).recd = s.recd := rfl
@[simp] theorem modObst_img (s : State) (d : DIx) (f : ObstH → ObstH) : (s.modObst d f).img = s.img := rfl
@[simp] theorem modObst_plc (s : State) (d : DIx) (f : ObstH → ObstH) : (s.modObst d f).plc = s.plc := rfl
@[simp] theorem modObst_flt (s : State) (d : DIx) (f : ObstH → ObstH) : (s.modObst d f).flt = s.flt := rfl
@[simp] theorem modObst_pwr (s : State) (d : DIx) (f : ObstH → ObstH) : (s.modObst d f).pwr = s.pwr := rfl
@[simp] theorem modObst_pair (s : State) (d : DIx) (f : ObstH → ObstH) : (s.modObst d f).pair = s.pair := rfl
@[simp] theorem modObst_trn (s : State) (d : DIx) (f : ObstH → ObstH) : (s.modObst d f).trn = s.trn := rfl
@[simp] theorem modObst_asics (s : State) (d : DIx) (f : ObstH → ObstH) : (s.modObst d f).asics = s.asics := rfl
@[simp] theorem modObst_engs (s : State) (d : DIx) (f : ObstH → ObstH) : (s.modObst d f).engs = s.engs := rfl
@[simp] theorem modObst_cop (s : State) (d : DIx) (f : ObstH → ObstH) : (s.modObst d f).cop = s.cop := rfl
@[simp] theorem modObst_net (s : State) (d : DIx) (f : ObstH → ObstH) : (s.modObst d f).net = s.net := rfl
@[simp] theorem modObst_can (s : State) (d : DIx) (f : ObstH → ObstH) : (s.modObst d f).can = s.can := rfl
@[simp] theorem modObst_rap (s : State) (d : DIx) (f : ObstH → ObstH) : (s.modObst d f).rap = s.rap := rfl
@[simp] theorem modObst_same (s : State) (d : DIx) (f : ObstH → ObstH) : (s.modObst d f).obst d = f (s.obst d) := by
  simp [State.modObst, State.obst]
theorem modObst_dwy (s : State) (d : DIx) (f : ObstH → ObstH) : (s.modObst d f).dwy d = (let x := s.dwy d; { x with obst := f x.obst }) := by
  simp [State.modObst]
@[simp] theorem modSeq_chip (s : State) (d : DIx) (f : SeqH → SeqH) : (s.modSeq d f).chip = s.chip := rfl
@[simp] theorem modSeq_pending (s : State) (d : DIx) (f : SeqH → SeqH) : (s.modSeq d f).pending = s.pending := rfl
@[simp] theorem modSeq_now (s : State) (d : DIx) (f : SeqH → SeqH) : (s.modSeq d f).now = s.now := rfl
@[simp] theorem modSeq_tb0 (s : State) (d : DIx) (f : SeqH → SeqH) : (s.modSeq d f).tb0 = s.tb0 := rfl
@[simp] theorem modSeq_freeCtr (s : State) (d : DIx) (f : SeqH → SeqH) : (s.modSeq d f).freeCtr = s.freeCtr := rfl
@[simp] theorem modSeq_rail (s : State) (d : DIx) (f : SeqH → SeqH) : (s.modSeq d f).rail = s.rail := rfl
@[simp] theorem modSeq_qtHeld (s : State) (d : DIx) (f : SeqH → SeqH) : (s.modSeq d f).qtHeld = s.qtHeld := rfl
@[simp] theorem modSeq_regs (s : State) (d : DIx) (f : SeqH → SeqH) : (s.modSeq d f).regs = s.regs := rfl
@[simp] theorem modSeq_imgPend (s : State) (d : DIx) (f : SeqH → SeqH) : (s.modSeq d f).imgPend = s.imgPend := rfl
@[simp] theorem modSeq_recd (s : State) (d : DIx) (f : SeqH → SeqH) : (s.modSeq d f).recd = s.recd := rfl
@[simp] theorem modSeq_img (s : State) (d : DIx) (f : SeqH → SeqH) : (s.modSeq d f).img = s.img := rfl
@[simp] theorem modSeq_plc (s : State) (d : DIx) (f : SeqH → SeqH) : (s.modSeq d f).plc = s.plc := rfl
@[simp] theorem modSeq_flt (s : State) (d : DIx) (f : SeqH → SeqH) : (s.modSeq d f).flt = s.flt := rfl
@[simp] theorem modSeq_pwr (s : State) (d : DIx) (f : SeqH → SeqH) : (s.modSeq d f).pwr = s.pwr := rfl
@[simp] theorem modSeq_pair (s : State) (d : DIx) (f : SeqH → SeqH) : (s.modSeq d f).pair = s.pair := rfl
@[simp] theorem modSeq_trn (s : State) (d : DIx) (f : SeqH → SeqH) : (s.modSeq d f).trn = s.trn := rfl
@[simp] theorem modSeq_asics (s : State) (d : DIx) (f : SeqH → SeqH) : (s.modSeq d f).asics = s.asics := rfl
@[simp] theorem modSeq_engs (s : State) (d : DIx) (f : SeqH → SeqH) : (s.modSeq d f).engs = s.engs := rfl
@[simp] theorem modSeq_cop (s : State) (d : DIx) (f : SeqH → SeqH) : (s.modSeq d f).cop = s.cop := rfl
@[simp] theorem modSeq_net (s : State) (d : DIx) (f : SeqH → SeqH) : (s.modSeq d f).net = s.net := rfl
@[simp] theorem modSeq_can (s : State) (d : DIx) (f : SeqH → SeqH) : (s.modSeq d f).can = s.can := rfl
@[simp] theorem modSeq_rap (s : State) (d : DIx) (f : SeqH → SeqH) : (s.modSeq d f).rap = s.rap := rfl
@[simp] theorem modSeq_same (s : State) (d : DIx) (f : SeqH → SeqH) : (s.modSeq d f).seq d = f (s.seq d) := by
  simp [State.modSeq, State.seq]
theorem modSeq_dwy (s : State) (d : DIx) (f : SeqH → SeqH) : (s.modSeq d f).dwy d = (let x := s.dwy d; { x with seq := f x.seq }) := by
  simp [State.modSeq]
@[simp] theorem modCyc_chip (s : State) (d : DIx) (f : CycH → CycH) : (s.modCyc d f).chip = s.chip := rfl
@[simp] theorem modCyc_pending (s : State) (d : DIx) (f : CycH → CycH) : (s.modCyc d f).pending = s.pending := rfl
@[simp] theorem modCyc_now (s : State) (d : DIx) (f : CycH → CycH) : (s.modCyc d f).now = s.now := rfl
@[simp] theorem modCyc_tb0 (s : State) (d : DIx) (f : CycH → CycH) : (s.modCyc d f).tb0 = s.tb0 := rfl
@[simp] theorem modCyc_freeCtr (s : State) (d : DIx) (f : CycH → CycH) : (s.modCyc d f).freeCtr = s.freeCtr := rfl
@[simp] theorem modCyc_rail (s : State) (d : DIx) (f : CycH → CycH) : (s.modCyc d f).rail = s.rail := rfl
@[simp] theorem modCyc_qtHeld (s : State) (d : DIx) (f : CycH → CycH) : (s.modCyc d f).qtHeld = s.qtHeld := rfl
@[simp] theorem modCyc_regs (s : State) (d : DIx) (f : CycH → CycH) : (s.modCyc d f).regs = s.regs := rfl
@[simp] theorem modCyc_imgPend (s : State) (d : DIx) (f : CycH → CycH) : (s.modCyc d f).imgPend = s.imgPend := rfl
@[simp] theorem modCyc_recd (s : State) (d : DIx) (f : CycH → CycH) : (s.modCyc d f).recd = s.recd := rfl
@[simp] theorem modCyc_img (s : State) (d : DIx) (f : CycH → CycH) : (s.modCyc d f).img = s.img := rfl
@[simp] theorem modCyc_plc (s : State) (d : DIx) (f : CycH → CycH) : (s.modCyc d f).plc = s.plc := rfl
@[simp] theorem modCyc_flt (s : State) (d : DIx) (f : CycH → CycH) : (s.modCyc d f).flt = s.flt := rfl
@[simp] theorem modCyc_pwr (s : State) (d : DIx) (f : CycH → CycH) : (s.modCyc d f).pwr = s.pwr := rfl
@[simp] theorem modCyc_pair (s : State) (d : DIx) (f : CycH → CycH) : (s.modCyc d f).pair = s.pair := rfl
@[simp] theorem modCyc_trn (s : State) (d : DIx) (f : CycH → CycH) : (s.modCyc d f).trn = s.trn := rfl
@[simp] theorem modCyc_asics (s : State) (d : DIx) (f : CycH → CycH) : (s.modCyc d f).asics = s.asics := rfl
@[simp] theorem modCyc_engs (s : State) (d : DIx) (f : CycH → CycH) : (s.modCyc d f).engs = s.engs := rfl
@[simp] theorem modCyc_cop (s : State) (d : DIx) (f : CycH → CycH) : (s.modCyc d f).cop = s.cop := rfl
@[simp] theorem modCyc_net (s : State) (d : DIx) (f : CycH → CycH) : (s.modCyc d f).net = s.net := rfl
@[simp] theorem modCyc_can (s : State) (d : DIx) (f : CycH → CycH) : (s.modCyc d f).can = s.can := rfl
@[simp] theorem modCyc_rap (s : State) (d : DIx) (f : CycH → CycH) : (s.modCyc d f).rap = s.rap := rfl
@[simp] theorem modCyc_same (s : State) (d : DIx) (f : CycH → CycH) : (s.modCyc d f).cyc d = f (s.cyc d) := by
  simp [State.modCyc, State.cyc]
theorem modCyc_dwy (s : State) (d : DIx) (f : CycH → CycH) : (s.modCyc d f).dwy d = (let x := s.dwy d; { x with cyc := f x.cyc }) := by
  simp [State.modCyc]
@[simp] theorem modLock_chip (s : State) (d : DIx) (f : LockH → LockH) : (s.modLock d f).chip = s.chip := rfl
@[simp] theorem modLock_pending (s : State) (d : DIx) (f : LockH → LockH) : (s.modLock d f).pending = s.pending := rfl
@[simp] theorem modLock_now (s : State) (d : DIx) (f : LockH → LockH) : (s.modLock d f).now = s.now := rfl
@[simp] theorem modLock_tb0 (s : State) (d : DIx) (f : LockH → LockH) : (s.modLock d f).tb0 = s.tb0 := rfl
@[simp] theorem modLock_freeCtr (s : State) (d : DIx) (f : LockH → LockH) : (s.modLock d f).freeCtr = s.freeCtr := rfl
@[simp] theorem modLock_rail (s : State) (d : DIx) (f : LockH → LockH) : (s.modLock d f).rail = s.rail := rfl
@[simp] theorem modLock_qtHeld (s : State) (d : DIx) (f : LockH → LockH) : (s.modLock d f).qtHeld = s.qtHeld := rfl
@[simp] theorem modLock_regs (s : State) (d : DIx) (f : LockH → LockH) : (s.modLock d f).regs = s.regs := rfl
@[simp] theorem modLock_imgPend (s : State) (d : DIx) (f : LockH → LockH) : (s.modLock d f).imgPend = s.imgPend := rfl
@[simp] theorem modLock_recd (s : State) (d : DIx) (f : LockH → LockH) : (s.modLock d f).recd = s.recd := rfl
@[simp] theorem modLock_img (s : State) (d : DIx) (f : LockH → LockH) : (s.modLock d f).img = s.img := rfl
@[simp] theorem modLock_plc (s : State) (d : DIx) (f : LockH → LockH) : (s.modLock d f).plc = s.plc := rfl
@[simp] theorem modLock_flt (s : State) (d : DIx) (f : LockH → LockH) : (s.modLock d f).flt = s.flt := rfl
@[simp] theorem modLock_pwr (s : State) (d : DIx) (f : LockH → LockH) : (s.modLock d f).pwr = s.pwr := rfl
@[simp] theorem modLock_pair (s : State) (d : DIx) (f : LockH → LockH) : (s.modLock d f).pair = s.pair := rfl
@[simp] theorem modLock_trn (s : State) (d : DIx) (f : LockH → LockH) : (s.modLock d f).trn = s.trn := rfl
@[simp] theorem modLock_asics (s : State) (d : DIx) (f : LockH → LockH) : (s.modLock d f).asics = s.asics := rfl
@[simp] theorem modLock_engs (s : State) (d : DIx) (f : LockH → LockH) : (s.modLock d f).engs = s.engs := rfl
@[simp] theorem modLock_cop (s : State) (d : DIx) (f : LockH → LockH) : (s.modLock d f).cop = s.cop := rfl
@[simp] theorem modLock_net (s : State) (d : DIx) (f : LockH → LockH) : (s.modLock d f).net = s.net := rfl
@[simp] theorem modLock_can (s : State) (d : DIx) (f : LockH → LockH) : (s.modLock d f).can = s.can := rfl
@[simp] theorem modLock_rap (s : State) (d : DIx) (f : LockH → LockH) : (s.modLock d f).rap = s.rap := rfl
@[simp] theorem modLock_same (s : State) (d : DIx) (f : LockH → LockH) : (s.modLock d f).lockH d = f (s.lockH d) := by
  simp [State.modLock, State.lockH]
theorem modLock_dwy (s : State) (d : DIx) (f : LockH → LockH) : (s.modLock d f).dwy d = (let x := s.dwy d; { x with lock := f x.lock }) := by
  simp [State.modLock]
@[simp] theorem modProt_chip (s : State) (d : DIx) (f : ProtH → ProtH) : (s.modProt d f).chip = s.chip := rfl
@[simp] theorem modProt_pending (s : State) (d : DIx) (f : ProtH → ProtH) : (s.modProt d f).pending = s.pending := rfl
@[simp] theorem modProt_now (s : State) (d : DIx) (f : ProtH → ProtH) : (s.modProt d f).now = s.now := rfl
@[simp] theorem modProt_tb0 (s : State) (d : DIx) (f : ProtH → ProtH) : (s.modProt d f).tb0 = s.tb0 := rfl
@[simp] theorem modProt_freeCtr (s : State) (d : DIx) (f : ProtH → ProtH) : (s.modProt d f).freeCtr = s.freeCtr := rfl
@[simp] theorem modProt_rail (s : State) (d : DIx) (f : ProtH → ProtH) : (s.modProt d f).rail = s.rail := rfl
@[simp] theorem modProt_qtHeld (s : State) (d : DIx) (f : ProtH → ProtH) : (s.modProt d f).qtHeld = s.qtHeld := rfl
@[simp] theorem modProt_regs (s : State) (d : DIx) (f : ProtH → ProtH) : (s.modProt d f).regs = s.regs := rfl
@[simp] theorem modProt_imgPend (s : State) (d : DIx) (f : ProtH → ProtH) : (s.modProt d f).imgPend = s.imgPend := rfl
@[simp] theorem modProt_recd (s : State) (d : DIx) (f : ProtH → ProtH) : (s.modProt d f).recd = s.recd := rfl
@[simp] theorem modProt_img (s : State) (d : DIx) (f : ProtH → ProtH) : (s.modProt d f).img = s.img := rfl
@[simp] theorem modProt_plc (s : State) (d : DIx) (f : ProtH → ProtH) : (s.modProt d f).plc = s.plc := rfl
@[simp] theorem modProt_flt (s : State) (d : DIx) (f : ProtH → ProtH) : (s.modProt d f).flt = s.flt := rfl
@[simp] theorem modProt_pwr (s : State) (d : DIx) (f : ProtH → ProtH) : (s.modProt d f).pwr = s.pwr := rfl
@[simp] theorem modProt_pair (s : State) (d : DIx) (f : ProtH → ProtH) : (s.modProt d f).pair = s.pair := rfl
@[simp] theorem modProt_trn (s : State) (d : DIx) (f : ProtH → ProtH) : (s.modProt d f).trn = s.trn := rfl
@[simp] theorem modProt_asics (s : State) (d : DIx) (f : ProtH → ProtH) : (s.modProt d f).asics = s.asics := rfl
@[simp] theorem modProt_engs (s : State) (d : DIx) (f : ProtH → ProtH) : (s.modProt d f).engs = s.engs := rfl
@[simp] theorem modProt_cop (s : State) (d : DIx) (f : ProtH → ProtH) : (s.modProt d f).cop = s.cop := rfl
@[simp] theorem modProt_net (s : State) (d : DIx) (f : ProtH → ProtH) : (s.modProt d f).net = s.net := rfl
@[simp] theorem modProt_can (s : State) (d : DIx) (f : ProtH → ProtH) : (s.modProt d f).can = s.can := rfl
@[simp] theorem modProt_rap (s : State) (d : DIx) (f : ProtH → ProtH) : (s.modProt d f).rap = s.rap := rfl
@[simp] theorem modProt_same (s : State) (d : DIx) (f : ProtH → ProtH) : (s.modProt d f).prot d = f (s.prot d) := by
  simp [State.modProt, State.prot]
theorem modProt_dwy (s : State) (d : DIx) (f : ProtH → ProtH) : (s.modProt d f).dwy d = (let x := s.dwy d; { x with prot := f x.prot }) := by
  simp [State.modProt]
@[simp] theorem modTopi_chip (s : State) (d : DIx) (f : TopiH → TopiH) : (s.modTopi d f).chip = s.chip := rfl
@[simp] theorem modTopi_pending (s : State) (d : DIx) (f : TopiH → TopiH) : (s.modTopi d f).pending = s.pending := rfl
@[simp] theorem modTopi_now (s : State) (d : DIx) (f : TopiH → TopiH) : (s.modTopi d f).now = s.now := rfl
@[simp] theorem modTopi_tb0 (s : State) (d : DIx) (f : TopiH → TopiH) : (s.modTopi d f).tb0 = s.tb0 := rfl
@[simp] theorem modTopi_freeCtr (s : State) (d : DIx) (f : TopiH → TopiH) : (s.modTopi d f).freeCtr = s.freeCtr := rfl
@[simp] theorem modTopi_rail (s : State) (d : DIx) (f : TopiH → TopiH) : (s.modTopi d f).rail = s.rail := rfl
@[simp] theorem modTopi_qtHeld (s : State) (d : DIx) (f : TopiH → TopiH) : (s.modTopi d f).qtHeld = s.qtHeld := rfl
@[simp] theorem modTopi_regs (s : State) (d : DIx) (f : TopiH → TopiH) : (s.modTopi d f).regs = s.regs := rfl
@[simp] theorem modTopi_imgPend (s : State) (d : DIx) (f : TopiH → TopiH) : (s.modTopi d f).imgPend = s.imgPend := rfl
@[simp] theorem modTopi_recd (s : State) (d : DIx) (f : TopiH → TopiH) : (s.modTopi d f).recd = s.recd := rfl
@[simp] theorem modTopi_img (s : State) (d : DIx) (f : TopiH → TopiH) : (s.modTopi d f).img = s.img := rfl
@[simp] theorem modTopi_plc (s : State) (d : DIx) (f : TopiH → TopiH) : (s.modTopi d f).plc = s.plc := rfl
@[simp] theorem modTopi_flt (s : State) (d : DIx) (f : TopiH → TopiH) : (s.modTopi d f).flt = s.flt := rfl
@[simp] theorem modTopi_pwr (s : State) (d : DIx) (f : TopiH → TopiH) : (s.modTopi d f).pwr = s.pwr := rfl
@[simp] theorem modTopi_pair (s : State) (d : DIx) (f : TopiH → TopiH) : (s.modTopi d f).pair = s.pair := rfl
@[simp] theorem modTopi_trn (s : State) (d : DIx) (f : TopiH → TopiH) : (s.modTopi d f).trn = s.trn := rfl
@[simp] theorem modTopi_asics (s : State) (d : DIx) (f : TopiH → TopiH) : (s.modTopi d f).asics = s.asics := rfl
@[simp] theorem modTopi_engs (s : State) (d : DIx) (f : TopiH → TopiH) : (s.modTopi d f).engs = s.engs := rfl
@[simp] theorem modTopi_cop (s : State) (d : DIx) (f : TopiH → TopiH) : (s.modTopi d f).cop = s.cop := rfl
@[simp] theorem modTopi_net (s : State) (d : DIx) (f : TopiH → TopiH) : (s.modTopi d f).net = s.net := rfl
@[simp] theorem modTopi_can (s : State) (d : DIx) (f : TopiH → TopiH) : (s.modTopi d f).can = s.can := rfl
@[simp] theorem modTopi_rap (s : State) (d : DIx) (f : TopiH → TopiH) : (s.modTopi d f).rap = s.rap := rfl
@[simp] theorem modTopi_same (s : State) (d : DIx) (f : TopiH → TopiH) : (s.modTopi d f).topi d = f (s.topi d) := by
  simp [State.modTopi, State.topi]
theorem modTopi_dwy (s : State) (d : DIx) (f : TopiH → TopiH) : (s.modTopi d f).dwy d = (let x := s.dwy d; { x with topi := f x.topi }) := by
  simp [State.modTopi]
@[simp] theorem modHead_chip (s : State) (d : DIx) (f : HeadH → HeadH) : (s.modHead d f).chip = s.chip := rfl
@[simp] theorem modHead_pending (s : State) (d : DIx) (f : HeadH → HeadH) : (s.modHead d f).pending = s.pending := rfl
@[simp] theorem modHead_now (s : State) (d : DIx) (f : HeadH → HeadH) : (s.modHead d f).now = s.now := rfl
@[simp] theorem modHead_tb0 (s : State) (d : DIx) (f : HeadH → HeadH) : (s.modHead d f).tb0 = s.tb0 := rfl
@[simp] theorem modHead_freeCtr (s : State) (d : DIx) (f : HeadH → HeadH) : (s.modHead d f).freeCtr = s.freeCtr := rfl
@[simp] theorem modHead_rail (s : State) (d : DIx) (f : HeadH → HeadH) : (s.modHead d f).rail = s.rail := rfl
@[simp] theorem modHead_qtHeld (s : State) (d : DIx) (f : HeadH → HeadH) : (s.modHead d f).qtHeld = s.qtHeld := rfl
@[simp] theorem modHead_regs (s : State) (d : DIx) (f : HeadH → HeadH) : (s.modHead d f).regs = s.regs := rfl
@[simp] theorem modHead_imgPend (s : State) (d : DIx) (f : HeadH → HeadH) : (s.modHead d f).imgPend = s.imgPend := rfl
@[simp] theorem modHead_recd (s : State) (d : DIx) (f : HeadH → HeadH) : (s.modHead d f).recd = s.recd := rfl
@[simp] theorem modHead_img (s : State) (d : DIx) (f : HeadH → HeadH) : (s.modHead d f).img = s.img := rfl
@[simp] theorem modHead_plc (s : State) (d : DIx) (f : HeadH → HeadH) : (s.modHead d f).plc = s.plc := rfl
@[simp] theorem modHead_flt (s : State) (d : DIx) (f : HeadH → HeadH) : (s.modHead d f).flt = s.flt := rfl
@[simp] theorem modHead_pwr (s : State) (d : DIx) (f : HeadH → HeadH) : (s.modHead d f).pwr = s.pwr := rfl
@[simp] theorem modHead_pair (s : State) (d : DIx) (f : HeadH → HeadH) : (s.modHead d f).pair = s.pair := rfl
@[simp] theorem modHead_trn (s : State) (d : DIx) (f : HeadH → HeadH) : (s.modHead d f).trn = s.trn := rfl
@[simp] theorem modHead_asics (s : State) (d : DIx) (f : HeadH → HeadH) : (s.modHead d f).asics = s.asics := rfl
@[simp] theorem modHead_engs (s : State) (d : DIx) (f : HeadH → HeadH) : (s.modHead d f).engs = s.engs := rfl
@[simp] theorem modHead_cop (s : State) (d : DIx) (f : HeadH → HeadH) : (s.modHead d f).cop = s.cop := rfl
@[simp] theorem modHead_net (s : State) (d : DIx) (f : HeadH → HeadH) : (s.modHead d f).net = s.net := rfl
@[simp] theorem modHead_can (s : State) (d : DIx) (f : HeadH → HeadH) : (s.modHead d f).can = s.can := rfl
@[simp] theorem modHead_rap (s : State) (d : DIx) (f : HeadH → HeadH) : (s.modHead d f).rap = s.rap := rfl
@[simp] theorem modHead_same (s : State) (d : DIx) (f : HeadH → HeadH) : (s.modHead d f).head d = f (s.head d) := by
  simp [State.modHead, State.head]
theorem modHead_dwy (s : State) (d : DIx) (f : HeadH → HeadH) : (s.modHead d f).dwy d = (let x := s.dwy d; { x with head := f x.head }) := by
  simp [State.modHead]

/-! ## Updates of hidden state leave the registers: no rewriting by definition, which would make the kernel evaluate register files -/

@[simp] theorem modDwy_reg (s : State) (d : DIx) (f : Dwy → Dwy) (r : Nat) : (s.modDwy d f).reg r = s.reg r := Eq.trans rfl rfl
@[simp] theorem modDwy_rd (s : State) (d : DIx) (f : Dwy → Dwy) (g : Fld) : (s.modDwy d f).rd g = s.rd g := Eq.trans rfl rfl
@[simp] theorem modDwy_flag (s : State) (d : DIx) (f : Dwy → Dwy) (g : Fld) : (s.modDwy d f).flag g = s.flag g := Eq.trans rfl rfl
@[simp] theorem modAx_reg (s : State) (d : DIx) (a : AIx) (f : AxH → AxH) (r : Nat) : (s.modAx d a f).reg r = s.reg r := Eq.trans rfl rfl
@[simp] theorem modAx_rd (s : State) (d : DIx) (a : AIx) (f : AxH → AxH) (g : Fld) : (s.modAx d a f).rd g = s.rd g := Eq.trans rfl rfl
@[simp] theorem modAx_flag (s : State) (d : DIx) (a : AIx) (f : AxH → AxH) (g : Fld) : (s.modAx d a f).flag g = s.flag g := Eq.trans rfl rfl
@[simp] theorem modEnc_reg (s : State) (d : DIx) (a : AIx) (f : EncH → EncH) (r : Nat) : (s.modEnc d a f).reg r = s.reg r := Eq.trans rfl rfl
@[simp] theorem modEnc_rd (s : State) (d : DIx) (a : AIx) (f : EncH → EncH) (g : Fld) : (s.modEnc d a f).rd g = s.rd g := Eq.trans rfl rfl
@[simp] theorem modEnc_flag (s : State) (d : DIx) (a : AIx) (f : EncH → EncH) (g : Fld) : (s.modEnc d a f).flag g = s.flag g := Eq.trans rfl rfl
@[simp] theorem modCh_reg (s : State) (d : DIx) (k : KIx) (f : ChH → ChH) (r : Nat) : (s.modCh d k f).reg r = s.reg r := Eq.trans rfl rfl
@[simp] theorem modCh_rd (s : State) (d : DIx) (k : KIx) (f : ChH → ChH) (g : Fld) : (s.modCh d k f).rd g = s.rd g := Eq.trans rfl rfl
@[simp] theorem modCh_flag (s : State) (d : DIx) (k : KIx) (f : ChH → ChH) (g : Fld) : (s.modCh d k f).flag g = s.flag g := Eq.trans rfl rfl
@[simp] theorem modIn_reg (s : State) (d : DIx) (i : Nat) (f : FiltH → FiltH) (r : Nat) : (s.modIn d i f).reg r = s.reg r := Eq.trans rfl rfl
@[simp] theorem modIn_rd (s : State) (d : DIx) (i : Nat) (f : FiltH → FiltH) (g : Fld) : (s.modIn d i f).rd g = s.rd g := Eq.trans rfl rfl
@[simp] theorem modIn_flag (s : State) (d : DIx) (i : Nat) (f : FiltH → FiltH) (g : Fld) : (s.modIn d i f).flag g = s.flag g := Eq.trans rfl rfl
@[simp] theorem modEng_reg (s : State) (p : PIx) (f : EngH → EngH) (r : Nat) : (s.modEng p f).reg r = s.reg r := Eq.trans rfl rfl
@[simp] theorem modEng_rd (s : State) (p : PIx) (f : EngH → EngH) (g : Fld) : (s.modEng p f).rd g = s.rd g := Eq.trans rfl rfl
@[simp] theorem modEng_flag (s : State) (p : PIx) (f : EngH → EngH) (g : Fld) : (s.modEng p f).flag g = s.flag g := Eq.trans rfl rfl
@[simp] theorem modAsic_reg (s : State) (j : Nat) (f : AsicH → AsicH) (r : Nat) : (s.modAsic j f).reg r = s.reg r := Eq.trans rfl rfl
@[simp] theorem modAsic_rd (s : State) (j : Nat) (f : AsicH → AsicH) (g : Fld) : (s.modAsic j f).rd g = s.rd g := Eq.trans rfl rfl
@[simp] theorem modAsic_flag (s : State) (j : Nat) (f : AsicH → AsicH) (g : Fld) : (s.modAsic j f).flag g = s.flag g := Eq.trans rfl rfl
@[simp] theorem modDrv_reg (s : State) (d : DIx) (f : DrvH → DrvH) (r : Nat) : (s.modDrv d f).reg r = s.reg r := Eq.trans rfl rfl
@[simp] theorem modDrv_rd (s : State) (d : DIx) (f : DrvH → DrvH) (g : Fld) : (s.modDrv d f).rd g = s.rd g := Eq.trans rfl rfl
@[simp] theorem modDrv_flag (s : State) (d : DIx) (f : DrvH → DrvH) (g : Fld) : (s.modDrv d f).flag g = s.flag g := Eq.trans rfl rfl
@[simp] theorem modObst_reg (s : State) (d : DIx) (f : ObstH → ObstH) (r : Nat) : (s.modObst d f).reg r = s.reg r := Eq.trans rfl rfl
@[simp] theorem modObst_rd (s : State) (d : DIx) (f : ObstH → ObstH) (g : Fld) : (s.modObst d f).rd g = s.rd g := Eq.trans rfl rfl
@[simp] theorem modObst_flag (s : State) (d : DIx) (f : ObstH → ObstH) (g : Fld) : (s.modObst d f).flag g = s.flag g := Eq.trans rfl rfl
@[simp] theorem modSeq_reg (s : State) (d : DIx) (f : SeqH → SeqH) (r : Nat) : (s.modSeq d f).reg r = s.reg r := Eq.trans rfl rfl
@[simp] theorem modSeq_rd (s : State) (d : DIx) (f : SeqH → SeqH) (g : Fld) : (s.modSeq d f).rd g = s.rd g := Eq.trans rfl rfl
@[simp] theorem modSeq_flag (s : State) (d : DIx) (f : SeqH → SeqH) (g : Fld) : (s.modSeq d f).flag g = s.flag g := Eq.trans rfl rfl
@[simp] theorem modCyc_reg (s : State) (d : DIx) (f : CycH → CycH) (r : Nat) : (s.modCyc d f).reg r = s.reg r := Eq.trans rfl rfl
@[simp] theorem modCyc_rd (s : State) (d : DIx) (f : CycH → CycH) (g : Fld) : (s.modCyc d f).rd g = s.rd g := Eq.trans rfl rfl
@[simp] theorem modCyc_flag (s : State) (d : DIx) (f : CycH → CycH) (g : Fld) : (s.modCyc d f).flag g = s.flag g := Eq.trans rfl rfl
@[simp] theorem modLock_reg (s : State) (d : DIx) (f : LockH → LockH) (r : Nat) : (s.modLock d f).reg r = s.reg r := Eq.trans rfl rfl
@[simp] theorem modLock_rd (s : State) (d : DIx) (f : LockH → LockH) (g : Fld) : (s.modLock d f).rd g = s.rd g := Eq.trans rfl rfl
@[simp] theorem modLock_flag (s : State) (d : DIx) (f : LockH → LockH) (g : Fld) : (s.modLock d f).flag g = s.flag g := Eq.trans rfl rfl
@[simp] theorem modProt_reg (s : State) (d : DIx) (f : ProtH → ProtH) (r : Nat) : (s.modProt d f).reg r = s.reg r := Eq.trans rfl rfl
@[simp] theorem modProt_rd (s : State) (d : DIx) (f : ProtH → ProtH) (g : Fld) : (s.modProt d f).rd g = s.rd g := Eq.trans rfl rfl
@[simp] theorem modProt_flag (s : State) (d : DIx) (f : ProtH → ProtH) (g : Fld) : (s.modProt d f).flag g = s.flag g := Eq.trans rfl rfl
@[simp] theorem modTopi_reg (s : State) (d : DIx) (f : TopiH → TopiH) (r : Nat) : (s.modTopi d f).reg r = s.reg r := Eq.trans rfl rfl
@[simp] theorem modTopi_rd (s : State) (d : DIx) (f : TopiH → TopiH) (g : Fld) : (s.modTopi d f).rd g = s.rd g := Eq.trans rfl rfl
@[simp] theorem modTopi_flag (s : State) (d : DIx) (f : TopiH → TopiH) (g : Fld) : (s.modTopi d f).flag g = s.flag g := Eq.trans rfl rfl
@[simp] theorem modHead_reg (s : State) (d : DIx) (f : HeadH → HeadH) (r : Nat) : (s.modHead d f).reg r = s.reg r := Eq.trans rfl rfl
@[simp] theorem modHead_rd (s : State) (d : DIx) (f : HeadH → HeadH) (g : Fld) : (s.modHead d f).rd g = s.rd g := Eq.trans rfl rfl
@[simp] theorem modHead_flag (s : State) (d : DIx) (f : HeadH → HeadH) (g : Fld) : (s.modHead d f).flag g = s.flag g := Eq.trans rfl rfl

end Sys2Proof.Machine
end

