-- ==== Sys2Proof/Laws/Ops.lean ====
section
/-!
SUPPORT. Laws/Ops.lean: what the shared operations can do: the gate that closes every command, records, windows, outputs, torque and fences. Each law
names the registers that an operation may write; every other register reads as before.
-/
namespace Sys2Proof.Machine

/-- A fold of steps that each keep a projection of the state keeps it. -/
theorem foldl_keeps {α β : Type} (P : State → β) (f : State → α → State) (l : List α) (h : ∀ t, ∀ x ∈ l, P (f t x) = P t) (s : State) :
    P (l.foldl f s) = P s := by
  induction l generalizing s with
  | nil => rfl
  | cons x l ih =>
    rw [List.foldl_cons, ih (fun t y hy => h t y (List.mem_cons_of_mem _ hy)), h s x (List.mem_cons_self)]

/-- A fold reaches a property that the step for one element gives and every step keeps. -/
theorem foldl_reaches {α : Type} (P : State → Prop) (f : State → α → State) (l : List α) (x : α) (hx : x ∈ l) (hset : ∀ t, P (f t x))
    (hkeep : ∀ t y, P t → P (f t y)) (s : State) : P (l.foldl f s) := by
  have keep : ∀ (l : List α) (s : State), P s → P (l.foldl f s) := by
    intro l
    induction l with
    | nil => intro s h; exact h
    | cons y l ih => intro s h; exact ih _ (hkeep s y h)
  induction l generalizing s with
  | nil => cases hx
  | cons y l ih =>
    rw [List.foldl_cons]
    rcases List.mem_cons.mp hx with rfl | h
    · exact keep l _ (hset s)
    · exact ih h _

theorem mem_allD (d : DIx) : d ∈ allD := by revert d; decide

/-- `when` keeps what its change keeps. -/
theorem when_keeps {β : Type} (P : State → β) (s : State) (c : Bool) (f : State → State) (h : P (f s) = P s) : P (s.when c f) = P s := by
  unfold State.when; split
  · exact h
  · rfl

/-- Any function of the state is kept by a choice between two states that keep it. -/
theorem ite_keeps {β : Type} (P : State → β) (c : Prop) [Decidable c] (a b : State) (x : β) (ha : P a = x) (hb : P b = x) :
    P (if c then a else b) = x := by split <;> assumption

/-! ## The gate -/

theorem gate_reg (s : State) (a : Nat) (h : gatedReg a = false) : s.gate.reg a = s.reg a := by
  have hd : ∀ d ∈ allD, a ≠ (F.DEN_STATUS_DEN_A d).addr := by
    intro d hd e
    have : gatedReg a = true := by
      simp only [gatedReg, Bool.or_eq_true, List.any_eq_true, beq_iff_eq]
      exact Or.inr ⟨d, hd, e⟩
    rw [this] at h; cases h
  have h1 : a ≠ F.LOOP_STATUS_L1_CLOSED.addr := by
    intro e; subst e; simp [gatedReg] at h
  have h3 : a ≠ F.SO_STATUS_ON.addr := by
    intro e; subst e; simp [gatedReg] at h
  unfold State.gate
  split
  · rfl
  · rw [foldl_keeps (fun t => t.reg a)]
    · have h2 : a ≠ F.LOOP_STATUS_L2.addr := h1
      rw [reg_wr_other _ _ _ _ h3, reg_setBit_other _ _ _ _ _ h2, reg_setF_other _ _ _ _ h1]
    · intro t d hm
      have hb : a ≠ (F.DEN_STATUS_DEN_B d).addr := hd d hm
      rw [reg_setF_other _ _ _ _ hb, reg_setF_other _ _ _ _ (hd d hm)]

/-- What is not a register is not the gate's to change. -/
theorem gate_keeps {β : Type} (P : State → β) (h : ∀ t a v, P (State.setReg t a v) = P t) (s : State) : P s.gate = P s := by
  unfold State.gate
  split
  · rfl
  · rw [foldl_keeps P]
    · simp only [State.setBit, State.setF, State.wr, h]
    · intro t d _
      simp only [State.setF, State.wr, h]

theorem loopGate_reg (s : State) (a : Nat) (h : gatedReg a = false) : s.loopGate.reg a = s.reg a := by
  have h1 : a ≠ F.LOOP_STATUS_L1_CLOSED.addr := by
    intro e; subst e; simp [gatedReg] at h
  have h2 : a ≠ F.LOOP_STATUS_L2.addr := h1
  have e1 : ∀ t : State, (if t.loopBlock (t.rd F.LOOP1_MEMBERS % 2 ^ 24) = 0x1F then t else t.setF F.LOOP_STATUS_L1_CLOSED false).reg a = t.reg a := by
    intro t; split
    · rfl
    · rw [reg_setF_other _ _ _ _ h1]
  unfold State.loopGate
  extract_lets t
  split
  · exact e1 s
  · rw [reg_setBit_other _ _ _ _ _ h2]; exact e1 s

/-- What is not a register is not the loop gate's to change. -/
theorem loopGate_keeps {β : Type} (P : State → β) (h : ∀ t a v, P (State.setReg t a v) = P t) (s : State) : P s.loopGate = P s := by
  have e1 : ∀ t : State, P (if t.loopBlock (t.rd F.LOOP1_MEMBERS % 2 ^ 24) = 0x1F then t else t.setF F.LOOP_STATUS_L1_CLOSED false) = P t := by
    intro t; split
    · rfl
    · simp only [State.setF, State.wr, h]
  unfold State.loopGate
  extract_lets t
  split
  · exact e1 s
  · simp only [State.setBit, State.wr, h]; exact e1 s

/-- A register that is not gated reads after a command as its rules leave it. -/
theorem done_reg (s t : State) (a : Nat) (h : gatedReg a = false) : (s.done t).reg a = t.reg a := by
  unfold State.done; rw [gate_reg _ _ h, loopGate_reg _ _ h]; rfl

theorem done_rd (s t : State) (f : Fld) (h : gatedReg f.addr = false) : (s.done t).rd f = t.rd f := by
  unfold State.rd; rw [done_reg s t _ h]

theorem done_flag (s t : State) (f : Fld) (h : gatedReg f.addr = false) : (s.done t).flag f = t.flag f := by
  unfold State.flag; rw [done_rd s t f h]

@[simp] theorem done_pending (s t : State) : (s.done t).pending = s.pending := by
  unfold State.done; rw [gate_keeps (fun x => x.pending) (fun _ _ _ => rfl), loopGate_keeps (fun x => x.pending) (fun _ _ _ => rfl)]
@[simp] theorem done_chip (s t : State) : (s.done t).chip = s.chip := by
  unfold State.done; rw [gate_keeps (fun x => x.chip) (fun _ _ _ => rfl), loopGate_keeps (fun x => x.chip) (fun _ _ _ => rfl)]
@[simp] theorem done_now (s t : State) : (s.done t).now = s.now := by
  unfold State.done; rw [gate_keeps (fun x => x.now) (fun _ _ _ => rfl), loopGate_keeps (fun x => x.now) (fun _ _ _ => rfl)]
@[simp] theorem done_dwy (s t : State) (d : DIx) : (s.done t).dwy d = t.dwy d := by
  unfold State.done; rw [gate_keeps (fun x => x.dwy d) (fun _ _ _ => rfl), loopGate_keeps (fun x => x.dwy d) (fun _ _ _ => rfl)]; rfl
@[simp] theorem done_tb0 (s t : State) : (s.done t).tb0 = t.tb0 := by
  unfold State.done; rw [gate_keeps (fun x => x.tb0) (fun _ _ _ => rfl), loopGate_keeps (fun x => x.tb0) (fun _ _ _ => rfl)]
@[simp] theorem done_freeCtr (s t : State) : (s.done t).freeCtr = t.freeCtr := by
  unfold State.done; rw [gate_keeps (fun x => x.freeCtr) (fun _ _ _ => rfl), loopGate_keeps (fun x => x.freeCtr) (fun _ _ _ => rfl)]
@[simp] theorem done_rail (s t : State) : (s.done t).rail = t.rail := by
  unfold State.done; rw [gate_keeps (fun x => x.rail) (fun _ _ _ => rfl), loopGate_keeps (fun x => x.rail) (fun _ _ _ => rfl)]
@[simp] theorem done_qtHeld (s t : State) : (s.done t).qtHeld = t.qtHeld := by
  unfold State.done; rw [gate_keeps (fun x => x.qtHeld) (fun _ _ _ => rfl), loopGate_keeps (fun x => x.qtHeld) (fun _ _ _ => rfl)]
@[simp] theorem done_imgPend (s t : State) : (s.done t).imgPend = t.imgPend := by
  unfold State.done; rw [gate_keeps (fun x => x.imgPend) (fun _ _ _ => rfl), loopGate_keeps (fun x => x.imgPend) (fun _ _ _ => rfl)]
@[simp] theorem done_recd (s t : State) : (s.done t).recd = t.recd := by
  unfold State.done; rw [gate_keeps (fun x => x.recd) (fun _ _ _ => rfl), loopGate_keeps (fun x => x.recd) (fun _ _ _ => rfl)]
@[simp] theorem done_img (s t : State) : (s.done t).img = t.img := by
  unfold State.done; rw [gate_keeps (fun x => x.img) (fun _ _ _ => rfl), loopGate_keeps (fun x => x.img) (fun _ _ _ => rfl)]
@[simp] theorem done_plc (s t : State) : (s.done t).plc = t.plc := by
  unfold State.done; rw [gate_keeps (fun x => x.plc) (fun _ _ _ => rfl), loopGate_keeps (fun x => x.plc) (fun _ _ _ => rfl)]
@[simp] theorem done_flt (s t : State) : (s.done t).flt = t.flt := by
  unfold State.done; rw [gate_keeps (fun x => x.flt) (fun _ _ _ => rfl), loopGate_keeps (fun x => x.flt) (fun _ _ _ => rfl)]
@[simp] theorem done_pwr (s t : State) : (s.done t).pwr = t.pwr := by
  unfold State.done; rw [gate_keeps (fun x => x.pwr) (fun _ _ _ => rfl), loopGate_keeps (fun x => x.pwr) (fun _ _ _ => rfl)]
@[simp] theorem done_pair (s t : State) : (s.done t).pair = t.pair := by
  unfold State.done; rw [gate_keeps (fun x => x.pair) (fun _ _ _ => rfl), loopGate_keeps (fun x => x.pair) (fun _ _ _ => rfl)]
@[simp] theorem done_trn (s t : State) : (s.done t).trn = t.trn := by
  unfold State.done; rw [gate_keeps (fun x => x.trn) (fun _ _ _ => rfl), loopGate_keeps (fun x => x.trn) (fun _ _ _ => rfl)]
@[simp] theorem done_asics (s t : State) : (s.done t).asics = t.asics := by
  unfold State.done; rw [gate_keeps (fun x => x.asics) (fun _ _ _ => rfl), loopGate_keeps (fun x => x.asics) (fun _ _ _ => rfl)]
@[simp] theorem done_engs (s t : State) : (s.done t).engs = t.engs := by
  unfold State.done; rw [gate_keeps (fun x => x.engs) (fun _ _ _ => rfl), loopGate_keeps (fun x => x.engs) (fun _ _ _ => rfl)]
@[simp] theorem done_cop (s t : State) : (s.done t).cop = t.cop := by
  unfold State.done; rw [gate_keeps (fun x => x.cop) (fun _ _ _ => rfl), loopGate_keeps (fun x => x.cop) (fun _ _ _ => rfl)]
@[simp] theorem done_net (s t : State) : (s.done t).net = t.net := by
  unfold State.done; rw [gate_keeps (fun x => x.net) (fun _ _ _ => rfl), loopGate_keeps (fun x => x.net) (fun _ _ _ => rfl)]
@[simp] theorem done_can (s t : State) : (s.done t).can = t.can := by
  unfold State.done; rw [gate_keeps (fun x => x.can) (fun _ _ _ => rfl), loopGate_keeps (fun x => x.can) (fun _ _ _ => rfl)]
@[simp] theorem done_rap (s t : State) : (s.done t).rap = t.rap := by
  unfold State.done; rw [gate_keeps (fun x => x.rap) (fun _ _ _ => rfl), loopGate_keeps (fun x => x.rap) (fun _ _ _ => rfl)]

/-- With the gate closed, the gate leaves every gated output off. -/
theorem gate_gated (s : State) : s.gate.Gated := by
  intro hg
  have hc : ¬(s.flag F.RP_STATUS_AUTH && s.alive) = true := by
    intro h
    have : s.gate = s := by unfold State.gate; rw [if_pos h]
    rw [this] at hg; unfold State.gateOpen at hg; rw [h] at hg; cases hg
  have e : s.gate = allD.foldl (fun t d => (t.setF (F.DEN_STATUS_DEN_A d) false).setF (F.DEN_STATUS_DEN_B d) false)
      (((s.setF F.LOOP_STATUS_L1_CLOSED false).setBit F.LOOP_STATUS_L2 0 false).wr F.SO_STATUS_ON 0) := by
    unfold State.gate; rw [if_neg hc]
  have keep : ∀ a : Nat, (∀ d : DIx, a ≠ dw d 0x4A0) →
      s.gate.reg a = (((s.setF F.LOOP_STATUS_L1_CLOSED false).setBit F.LOOP_STATUS_L2 0 false).wr F.SO_STATUS_ON 0).reg a := by
    intro a ha
    rw [e, foldl_keeps (fun t => t.reg a)]
    intro t d _
    have h1 : a ≠ (F.DEN_STATUS_DEN_A d).addr := ha d
    have h2 : a ≠ (F.DEN_STATUS_DEN_B d).addr := ha d
    rw [reg_setF_other _ _ _ _ h2, reg_setF_other _ _ _ _ h1]
  have hso : ∀ f : Fld, f.addr = 0x601C → (((s.setF F.LOOP_STATUS_L1_CLOSED false).setBit F.LOOP_STATUS_L2 0 false).wr F.SO_STATUS_ON 0).rd f =
      ((s.setF F.LOOP_STATUS_L1_CLOSED false).setBit F.LOOP_STATUS_L2 0 false).rd f := by
    intro f hf
    exact rd_wr_addr _ _ _ _ (by rw [hf]; decide)
  refine ⟨?_, ?_, ?_, ?_⟩
  · have h1 : s.gate.rd F.LOOP_STATUS_L1_CLOSED = 0 := by
      rw [rd_congr (keep 0x601C (fun d => by unfold dw; omega)), hso _ rfl]
      unfold State.setBit
      rw [rd_wr_ne _ _ _ _ (by decide)]
      unfold State.setF
      rw [rd_wr_same _ _ _ (by decide)]
      rfl
    unfold State.flag; rw [h1]; rfl
  · rw [rd_congr (keep 0x601C (fun d => by unfold dw; omega)), hso _ rfl]
    unfold State.setBit putBit
    rw [rd_wr_same _ _ _ (by decide)]
    generalize (s.setF F.LOOP_STATUS_L1_CLOSED false).rd F.LOOP_STATUS_L2 = v
    by_cases hb : bitOf v 0 = false
    · rw [if_pos hb]
      simp only [bitOf, beq_eq_false_iff_ne, ne_eq, Nat.pow_zero, Nat.div_one] at hb ⊢
      show ¬ v % 2 ^ 8 % 2 = 1
      omega
    · rw [if_neg hb]
      simp only [bitOf, beq_eq_false_iff_ne, ne_eq, Nat.pow_zero, Nat.div_one, Bool.false_eq_true, if_false] at hb ⊢
      show ¬ (v - 1) % 2 ^ 8 % 2 = 1
      omega
  · rw [rd_congr (keep 0x602C (fun d => by unfold dw; omega)), rd_wr_same _ _ _ (by decide)]; rfl
  · intro d
    rw [e]
    refine foldl_reaches (fun t => t.denLow d) _ allD d (mem_allD d) ?_ ?_ _
    · intro t
      refine ⟨?_, ?_⟩
      · unfold State.setF
        rw [flag_wr_ne _ _ _ _ (Or.inr ⟨by simp, by simp⟩)]
        exact flag_setF_same _ _ _ (by simp) rfl
      · exact flag_setF_same _ _ _ (by simp) rfl
    · intro t y ht
      by_cases hy : y = d
      · subst hy
        refine ⟨?_, ?_⟩
        · unfold State.setF
          rw [flag_wr_ne _ _ _ _ (Or.inr ⟨by simp, by simp⟩)]
          exact flag_setF_same _ _ _ (by simp) rfl
        · exact flag_setF_same _ _ _ (by simp) rfl
      · have hv : d.val ≠ y.val := fun h => hy (Fin.ext h.symm)
        have ha : (F.DEN_STATUS_DEN_A d).addr ≠ dw y 0x4A0 := by show dw d 0x4A0 ≠ _; unfold dw; omega
        unfold State.denLow at ht ⊢
        unfold State.setF
        rw [flag_wr_ne _ _ _ _ (Or.inl ha), flag_wr_ne _ _ _ _ (Or.inl ha), flag_wr_ne _ _ _ _ (Or.inl ha), flag_wr_ne _ _ _ _ (Or.inl ha)]
        exact ht

end Sys2Proof.Machine
end

