-- ==== Sys2Proof/Laws/Done.lean ====
section
/-!
SUPPORT. Laws/Done.lean: what closes a command: the gate and the wiring of the loops establish the invariant of Safety.lean, and change no register
of a state that has it.
-/
namespace Sys2Proof.Machine

/-! ## Addresses -/

/-- A register of a doorway window other than DEN_STATUS is not gated. -/
theorem gatedReg_dw (d : DIx) (o : Nat) (h : o < 0x1000) (h2 : o ≠ 0x4A0) : gatedReg (dw d o) = false := by
  have := d.isLt
  simp only [gatedReg, Bool.or_eq_false_iff, beq_eq_false_iff_ne, ne_eq, List.any_eq_false, beq_iff_eq]
  refine ⟨⟨⟨?_, ?_⟩, ?_⟩, fun e _ => ?_⟩
  · show ¬ dw d o = 0x601C; unfold dw; omega
  · show ¬ dw d o = 0x601C; unfold dw; omega
  · show ¬ dw d o = 0x602C; unfold dw; omega
  · show ¬ dw d o = dw e 0x4A0; have := e.isLt; unfold dw; omega

/-- A register below the doorway windows other than LOOP_STATUS and SO_STATUS is not gated. -/
theorem gatedReg_low (a : Nat) (h : a < 0x10000) (h1 : a ≠ 0x601C) (h2 : a ≠ 0x602C) : gatedReg a = false := by
  simp only [gatedReg, Bool.or_eq_false_iff, beq_eq_false_iff_ne, ne_eq, List.any_eq_false, beq_iff_eq]
  refine ⟨⟨⟨h1, h1⟩, h2⟩, fun e _ => ?_⟩
  show ¬ a = dw e 0x4A0; unfold dw; omega

/-- The registers that the invariant of the outputs reads. -/
def invReg (a : Nat) : Bool :=
  gatedReg a || a == F.RP_STATUS_AUTH.addr || a == F.LOOP1_MEMBERS.addr || a == F.LOOP2_MEMBERS.addr || allD.any (fun d => a == (F.SEQ_STATUS d).addr)

/-! ## Writing what is there -/

theorem fldSet_same (x : Word) (lo w : Nat) (h : lo + w ≤ 32) : fldSet x lo w (fldGet x lo w) = x := by
  apply BitVec.eq_of_toNat_eq
  rw [fldSet_toNat x lo w _ h]
  unfold fldGet
  rw [Nat.mod_mod]
  have h1 : x.toNat % 2 ^ lo + x.toNat / 2 ^ lo % 2 ^ w * 2 ^ lo = x.toNat % 2 ^ (lo + w) := by
    rw [Nat.pow_add, Nat.mod_mul, Nat.mul_comm (2 ^ lo)]
  have h2 := Nat.mod_add_div x.toNat (2 ^ (lo + w))
  rw [h1, Nat.mul_comm (x.toNat / 2 ^ (lo + w))]
  exact h2

/-- Writing a field's own value changes no register. -/
theorem reg_wr_same (s : State) (f : Fld) (v a : Nat) (h : f.lo + f.w ≤ 32) (hv : v = s.rd f) : (s.wr f v).reg a = s.reg a := by
  rw [reg_wr]
  split
  · rename_i e
    subst hv; subst e
    exact fldSet_same _ _ _ h
  · rfl

theorem rd_lt (s : State) (f : Fld) : s.rd f < 2 ^ f.w := Nat.mod_lt _ (Nat.two_pow_pos _)

/-- Clearing a clear flag changes no register. -/
theorem reg_setF_clear (s : State) (f : Fld) (a : Nat) (h : f.lo + f.w ≤ 32) (hf : s.flag f = false) : (s.setF f false).reg a = s.reg a := by
  refine reg_wr_same s f _ a h ?_
  simp only [State.flag, bne_eq_false_iff_eq] at hf
  simp [b2n, hf]

theorem reg_setBit_same (s : State) (f : Fld) (i : Nat) (b : Bool) (a : Nat) (h : f.lo + f.w ≤ 32) (hf : bitOf (s.rd f) i = b) :
    (s.setBit f i b).reg a = s.reg a := by
  unfold State.setBit putBit; rw [if_pos hf]; exact reg_wr_same s f _ a h rfl

/-! ## The gates change nothing where the invariant holds -/

theorem alive_congr {s t : State} (h1 : t.rail = s.rail) (h2 : t.qtHeld = s.qtHeld) (h3 : t.pwr.down = s.pwr.down) (h4 : t.now = s.now) :
    t.alive = s.alive := by
  unfold State.alive State.heldInReset; rw [h1, h2, h3, h4]

/-- The gate changes no register of a gated state. -/
theorem gate_reg_inv (s : State) (h : s.Gated) (a : Nat) : s.gate.reg a = s.reg a := by
  by_cases hg : s.gateOpen = true
  · have : s.gate = s := by unfold State.gate; exact if_pos hg
    rw [this]
  · have hf : s.gateOpen = false := by simpa using hg
    obtain ⟨h1, h2, h3, h4⟩ := h hf
    have hg' : ¬(s.flag F.RP_STATUS_AUTH && s.alive) = true := hg
    unfold State.gate
    rw [if_neg hg']
    have e1 : ∀ b, (s.setF F.LOOP_STATUS_L1_CLOSED false).reg b = s.reg b := fun b => reg_setF_clear s _ b (by decide) h1
    have r2 : (s.setF F.LOOP_STATUS_L1_CLOSED false).rd F.LOOP_STATUS_L2 = s.rd F.LOOP_STATUS_L2 := rd_congr (e1 _)
    have e2 : ∀ b, ((s.setF F.LOOP_STATUS_L1_CLOSED false).setBit F.LOOP_STATUS_L2 0 false).reg b = s.reg b := by
      intro b; rw [reg_setBit_same _ _ _ _ _ (by decide) (by rw [r2]; exact h2), e1]
    have e3 : ∀ b, (((s.setF F.LOOP_STATUS_L1_CLOSED false).setBit F.LOOP_STATUS_L2 0 false).wr F.SO_STATUS_ON 0).reg b = s.reg b := by
      intro b; rw [reg_wr_same _ _ _ _ (by decide) (by rw [rd_congr (e2 _)]; exact h3.symm), e2]
    have key : ∀ (l : List DIx) (t : State), (∀ b, t.reg b = s.reg b) →
        ∀ b, (l.foldl (fun t d => (t.setF (F.DEN_STATUS_DEN_A d) false).setF (F.DEN_STATUS_DEN_B d) false) t).reg b = s.reg b := by
      intro l
      induction l with
      | nil => intro t ht b; exact ht b
      | cons d l ih =>
        intro t ht
        rw [List.foldl_cons]
        apply ih
        intro b
        have fa : t.flag (F.DEN_STATUS_DEN_A d) = false := by rw [flag_congr (ht _)]; exact (h4 d).1
        have ea : ∀ b, (t.setF (F.DEN_STATUS_DEN_A d) false).reg b = s.reg b := by
          intro b; rw [reg_setF_clear _ _ _ (by show 0 + 1 ≤ 32; omega) fa, ht]
        have fb : (t.setF (F.DEN_STATUS_DEN_A d) false).flag (F.DEN_STATUS_DEN_B d) = false := by rw [flag_congr (ea _)]; exact (h4 d).2
        rw [reg_setF_clear _ _ _ (by show 1 + 1 ≤ 32; omega) fb, ea]
    exact key allD _ e3 a

/-- No member of a loop that contributes open: the loop may close. -/
theorem loopBlock_none (s : State) (m : Nat) : s.loopBlock m = 0x1F ↔ ∀ d : DIx, (bitOf m d.val && s.declared d) = true → s.flag (F.SEQ_STATUS_LOOP_CONTRIB d) = true := by
  unfold State.loopBlock
  constructor
  · intro h d hd
    split at h
    · rename_i e he
      have := e.isLt
      omega
    · rename_i he
      have := List.find?_eq_none.mp he d (mem_allD d)
      rw [hd] at this
      simpa using this
  · intro h
    have : allD.find? (fun d => bitOf m d.val && s.declared d && !s.flag (F.SEQ_STATUS_LOOP_CONTRIB d)) = none := by
      rw [List.find?_eq_none]
      intro d _
      cases hb : bitOf m d.val && s.declared d with
      | false => simp
      | true => simp [h d hb]
    rw [this]

/-- The loops' wiring changes no register of a state in which each closed loop may be closed. -/
theorem loopGate_reg_inv (s : State) (h : s.loopsSafe) (a : Nat) : s.loopGate.reg a = s.reg a := by
  have e1 : ∀ b, (if s.loopBlock (s.rd F.LOOP1_MEMBERS % 2 ^ 24) = 0x1F then s else s.setF F.LOOP_STATUS_L1_CLOSED false).reg b = s.reg b := by
    intro b; split
    · rfl
    · rename_i hb
      refine reg_setF_clear s _ b (by decide) ?_
      cases hc : s.flag F.LOOP_STATUS_L1_CLOSED with
      | false => rfl
      | true => exact absurd ((loopBlock_none s _).mpr (h.1 hc)) hb
  unfold State.loopGate
  extract_lets t
  have e : ∀ b, t.reg b = s.reg b := e1
  have ed : ∀ d : DIx, t.declared d = s.declared d := fun d => ite_keeps (fun x => x.declared d) _ _ _ _ rfl rfl
  split
  · exact e a
  · rename_i hb
    have lb : t.loopBlock (t.rd F.LOOP2_MEMBERS % 2 ^ 24) = s.loopBlock (s.rd F.LOOP2_MEMBERS % 2 ^ 24) := by
      unfold State.loopBlock State.flag State.rd
      simp only [e, ed]
    rw [lb] at hb
    rw [reg_setBit_same _ _ _ _ _ (by decide), e]
    rw [rd_congr (e _)]
    cases hc : bitOf (s.rd F.LOOP_STATUS_L2) 0 with
    | false => rfl
    | true => exact absurd ((loopBlock_none s _).mpr (h.2 hc)) hb

/-- The wiring of the loops establishes R272. -/
theorem loopGate_safe (s : State) : s.loopGate.loopsSafe := by
  have keep : ∀ a, a ≠ 0x601C → s.loopGate.reg a = s.reg a := by
    intro a ha
    have h1 : a ≠ F.LOOP_STATUS_L1_CLOSED.addr := ha
    have h2 : a ≠ F.LOOP_STATUS_L2.addr := ha
    unfold State.loopGate
    extract_lets t
    have e : t.reg a = s.reg a := by
      show State.reg (if _ then s else _) a = _
      split
      · rfl
      · exact reg_setF_other _ _ _ _ h1
    split
    · exact e
    · rw [reg_setBit_other _ _ _ _ _ h2, e]
  have contrib : ∀ d : DIx, s.loopGate.flag (F.SEQ_STATUS_LOOP_CONTRIB d) = s.flag (F.SEQ_STATUS_LOOP_CONTRIB d) := by
    intro d; exact flag_congr (keep _ (by show dw d 4 ≠ _; unfold dw; omega))
  have decl : ∀ d : DIx, s.loopGate.declared d = s.declared d := fun d => loopGate_keeps (fun x => x.declared d) (fun _ _ _ => rfl) s
  have m1 : s.loopGate.rd F.LOOP1_MEMBERS = s.rd F.LOOP1_MEMBERS := rd_congr (keep _ (by decide))
  have m2 : s.loopGate.rd F.LOOP2_MEMBERS = s.rd F.LOOP2_MEMBERS := rd_congr (keep _ (by decide))
  refine ⟨?_, ?_⟩
  · intro hc d hd
    rw [contrib]; rw [m1, decl] at hd
    by_cases hb : s.loopBlock (s.rd F.LOOP1_MEMBERS % 2 ^ 24) = 0x1F
    · exact (loopBlock_none s _).mp hb d hd
    · exfalso
      have : s.loopGate.flag F.LOOP_STATUS_L1_CLOSED = false := by
        unfold State.loopGate
        rw [if_neg hb]
        extract_lets t
        have ht : t.flag F.LOOP_STATUS_L1_CLOSED = false := flag_setF_same _ _ _ (by decide) rfl
        split
        · exact ht
        · unfold State.setBit
          rw [flag_wr_ne _ _ _ _ (Or.inr ⟨by decide, by decide⟩)]; exact ht
      rw [this] at hc; cases hc
  · intro hc d hd
    rw [contrib]; rw [m2, decl] at hd
    by_cases hb : s.loopBlock (s.rd F.LOOP2_MEMBERS % 2 ^ 24) = 0x1F
    · exact (loopBlock_none s _).mp hb d hd
    · exfalso
      have : bitOf (s.loopGate.rd F.LOOP_STATUS_L2) 0 = false := by
        unfold State.loopGate
        extract_lets t
        have e : ∀ a, a ≠ 0x601C → t.reg a = s.reg a := by
          intro a ha
          show State.reg (if _ then s else _) a = _
          split
          · rfl
          · exact reg_setF_other _ _ _ _ ha
        have lb : t.loopBlock (t.rd F.LOOP2_MEMBERS % 2 ^ 24) = s.loopBlock (s.rd F.LOOP2_MEMBERS % 2 ^ 24) := by
          have ec : ∀ d : DIx, t.flag (F.SEQ_STATUS_LOOP_CONTRIB d) = s.flag (F.SEQ_STATUS_LOOP_CONTRIB d) := by
            intro d; exact flag_congr (e _ (by show dw d 4 ≠ _; unfold dw; omega))
          have em : t.rd F.LOOP2_MEMBERS = s.rd F.LOOP2_MEMBERS := rd_congr (e _ (by decide))
          have ed : ∀ d : DIx, t.declared d = s.declared d := fun d => ite_keeps (fun x => x.declared d) _ _ _ _ rfl rfl
          unfold State.loopBlock
          simp only [ec, em, ed]
        rw [if_neg (by rw [lb]; exact hb)]
        unfold State.setBit putBit
        rw [rd_wr_same _ _ _ (by decide)]
        generalize t.rd F.LOOP_STATUS_L2 = v
        by_cases hb : bitOf v 0 = false
        · rw [if_pos hb]
          simp only [bitOf, beq_eq_false_iff_ne, ne_eq, Nat.pow_zero, Nat.div_one] at hb ⊢
          show ¬ v % 2 ^ 8 % 2 = 1
          omega
        · rw [if_neg hb]
          simp only [bitOf, beq_eq_false_iff_ne, ne_eq, Nat.pow_zero, Nat.div_one, Bool.false_eq_true, if_false] at hb ⊢
          show ¬ (v - 1) % 2 ^ 8 % 2 = 1
          omega
      rw [this] at hc; cases hc

/-- A state whose invariant registers read as those of `s` and which is as alive has the invariant of `s`. -/
theorem inv_congr {s t : State} (hr : ∀ a, invReg a = true → t.reg a = s.reg a) (ha : t.alive = s.alive)
    (hd : ∀ d, t.declared d = s.declared d) (h : s.Inv) : t.Inv := by
  have g : ∀ a, gatedReg a = true → t.reg a = s.reg a := fun a h => hr a (by simp [invReg, h])
  have c : ∀ d : DIx, t.flag (F.SEQ_STATUS_LOOP_CONTRIB d) = s.flag (F.SEQ_STATUS_LOOP_CONTRIB d) := by
    intro d
    refine flag_congr (hr _ ?_)
    have : allD.any (fun e => (F.SEQ_STATUS_LOOP_CONTRIB d).addr == (F.SEQ_STATUS e).addr) = true :=
      List.any_eq_true.mpr ⟨d, mem_allD d, by simp⟩
    simp only [invReg, this, Bool.or_true]
  have hm1 : t.rd F.LOOP1_MEMBERS = s.rd F.LOOP1_MEMBERS := rd_congr (hr _ (by decide))
  have hm2 : t.rd F.LOOP2_MEMBERS = s.rd F.LOOP2_MEMBERS := rd_congr (hr _ (by decide))
  have hl1 : t.flag F.LOOP_STATUS_L1_CLOSED = s.flag F.LOOP_STATUS_L1_CLOSED := flag_congr (g _ (by decide))
  have hl2 : t.rd F.LOOP_STATUS_L2 = s.rd F.LOOP_STATUS_L2 := rd_congr (g _ (by decide))
  have hso : t.rd F.SO_STATUS_ON = s.rd F.SO_STATUS_ON := rd_congr (g _ (by decide))
  have ho : t.gateOpen = s.gateOpen := by
    unfold State.gateOpen; rw [ha, flag_congr (hr _ (by decide))]
  have hn : ∀ d : DIx, t.reg (F.DEN_STATUS_DEN_A d).addr = s.reg (F.DEN_STATUS_DEN_A d).addr := by
    intro d
    refine g _ ?_
    have : allD.any (fun e => (F.DEN_STATUS_DEN_A d).addr == (F.DEN_STATUS_DEN_A e).addr) = true := List.any_eq_true.mpr ⟨d, mem_allD d, by simp⟩
    simp only [gatedReg, this, Bool.or_true]
  refine ⟨?_, ?_, ?_⟩
  · intro h0
    rw [ho] at h0
    obtain ⟨a1, a2, a3, a4⟩ := h.1 h0
    refine ⟨by rw [hl1]; exact a1, by rw [hl2]; exact a2, by rw [hso]; exact a3, fun d => ?_⟩
    exact ⟨(flag_congr (hn d)).trans (a4 d).1, (flag_congr (f := F.DEN_STATUS_DEN_B d) (hn d)).trans (a4 d).2⟩
  · intro h0 d h1
    rw [c]; rw [hl1] at h0; rw [hm1, hd] at h1
    exact h.2.1 h0 d h1
  · intro h0 d h1
    rw [c]; rw [hl2] at h0; rw [hm2, hd] at h1
    exact h.2.2 h0 d h1

/-- The gate keeps R272: it only opens loops. -/
theorem gate_keeps_loopsSafe (s : State) (h : s.loopsSafe) : s.gate.loopsSafe := by
  have c : ∀ a, gatedReg a = false → s.gate.reg a = s.reg a := gate_reg s
  have hc : ∀ d : DIx, s.gate.flag (F.SEQ_STATUS_LOOP_CONTRIB d) = s.flag (F.SEQ_STATUS_LOOP_CONTRIB d) :=
    fun d => flag_congr (c _ (gatedReg_dw d 4 (by decide) (by decide)))
  have hm1 : s.gate.rd F.LOOP1_MEMBERS = s.rd F.LOOP1_MEMBERS := rd_congr (c _ (by decide))
  have hm2 : s.gate.rd F.LOOP2_MEMBERS = s.rd F.LOOP2_MEMBERS := rd_congr (c _ (by decide))
  by_cases hg : s.gateOpen = true
  · have : s.gate = s := by unfold State.gate; exact if_pos hg
    rw [this]; exact h
  · have ho : s.gate.gateOpen = false := by
      have h1 : s.gate.alive = s.alive := gate_keeps State.alive (fun _ _ _ => rfl) s
      unfold State.gateOpen at hg ⊢
      rw [h1, flag_congr (c _ (by decide))]
      simpa using hg
    obtain ⟨a1, a2, -, -⟩ := gate_gated s ho
    refine ⟨fun x => ?_, fun x => ?_⟩
    · rw [a1] at x; cases x
    · rw [a2] at x; cases x

/-- Whatever a command's rules give, what it leaves has the invariant. -/
theorem done_inv (s t : State) : (s.done t).Inv := by
  refine ⟨gate_gated _, ?_⟩
  exact gate_keeps_loopsSafe _ (loopGate_safe _)

/-- Where a command's rules leave the invariant standing, the gates change no register. -/
theorem done_reg_inv (s t : State) (h : t.Inv) (h1 : t.chip = s.chip) (h2 : t.pending = s.pending) (h3 : t.now = s.now) (a : Nat) :
    (s.done t).reg a = t.reg a := by
  have e : ({ t with chip := s.chip, pending := s.pending, now := s.now } : State) = t := by rw [← h1, ← h2, ← h3]
  unfold State.done
  rw [e]
  have k : ∀ b, t.loopGate.reg b = t.reg b := loopGate_reg_inv t h.2
  have ha : t.loopGate.alive = t.alive := loopGate_keeps State.alive (fun _ _ _ => rfl) t
  have hi : t.loopGate.Inv := inv_congr (fun b _ => k b) ha (fun d => loopGate_keeps (fun x => x.declared d) (fun _ _ _ => rfl) t) h
  rw [gate_reg_inv _ hi.1, k]

/-- The gates change nothing behind the registers. -/
theorem done_hidden (s t : State) (h1 : t.chip = s.chip) (h2 : t.pending = s.pending) (h3 : t.now = s.now) (r : List (Nat × Word)) :
    ({ s.done t with regs := r } : State) = { t with regs := r } := by
  have e : ({ t with chip := s.chip, pending := s.pending, now := s.now } : State) = t := by rw [← h1, ← h2, ← h3]
  unfold State.done
  rw [e, gate_keeps (fun x => ({ x with regs := r } : State)) (fun _ _ _ => rfl), loopGate_keeps (fun x => ({ x with regs := r } : State)) (fun _ _ _ => rfl)]

/-! ## Frames by field -/

/-- What `t` has in its registers comes from `s` by writes of the fields of a list. -/
def State.writes (s t : State) (l : List Fld) : Prop := (∀ a, (∀ f ∈ l, a ≠ f.addr) → t.reg a = s.reg a) ∧ s.fieldsBut t l

theorem writes_refl (s : State) (l : List Fld) : s.writes s l := ⟨fun _ _ => rfl, fun _ _ => rfl⟩

theorem writes_congr {s t u : State} {l : List Fld} (h : s.writes t l) (e : ∀ a, u.reg a = t.reg a) : s.writes u l :=
  ⟨fun a ha => (e a).trans (h.1 a ha), fun g hg => (rd_congr (e _)).trans (h.2 g hg)⟩

theorem writes_wr {s t : State} {l : List Fld} (h : s.writes t l) (f : Fld) (v : Nat) (hf : f ∈ l) (hw : f.lo + f.w ≤ 32) : s.writes (t.wr f v) l := by
  refine ⟨fun a ha => ?_, fun g hg => ?_⟩
  · rw [reg_wr_other _ _ _ _ (ha f hf)]; exact h.1 a ha
  · rw [rd_wr_ne]
    · exact h.2 g hg
    · rcases hg f hf with h1 | h1
      · exact Or.inl h1
      · exact Or.inr ⟨hw, h1⟩

theorem writes_setF {s t : State} {l : List Fld} (h : s.writes t l) (f : Fld) (b : Bool) (hf : f ∈ l) (hw : f.lo + f.w ≤ 32) :
    s.writes (t.setF f b) l := writes_wr h f _ hf hw

/-- The frame of a command: its rules write fields outside the invariant's registers, and behind the registers they leave `u`. -/
theorem done_frame (s t u : State) (l : List Fld) (hi : s.Inv) (hh : ({ t with regs := u.regs } : State) = u) (hu : u.chip = s.chip ∧ u.pending = s.pending ∧ u.now = s.now ∧ u.alive = s.alive ∧ ∀ d, u.declared d = s.declared d)
    (hr : s.writes t l) (hw : ∀ f ∈ l, invReg f.addr = false) : u.hiddenAs (s.done t) ∧ s.fieldsBut (s.done t) l := by
  have h1 : t.chip = s.chip := by have e := congrArg State.chip hh; exact e.trans hu.1
  have h2 : t.pending = s.pending := by have e := congrArg State.pending hh; exact e.trans hu.2.1
  have h3 : t.now = s.now := by have e := congrArg State.now hh; exact e.trans hu.2.2.1
  have h4 : t.alive = s.alive := by have e := congrArg State.alive hh; exact e.trans hu.2.2.2.1
  have h5 : ∀ d, t.declared d = s.declared d := fun d => (congrArg (fun x => State.declared x d) hh).trans (hu.2.2.2.2 d)
  have ht : t.Inv := inv_congr (fun a ha => hr.1 a (fun f hf e => by rw [e, hw f hf] at ha; cases ha)) h4 h5 hi
  refine ⟨?_, fun g hg => ?_⟩
  · show ({ s.done t with regs := u.regs } : State) = u
    rw [done_hidden s t h1 h2 h3]; exact hh
  · rw [rd_congr (done_reg_inv s t ht h1 h2 h3 _)]; exact hr.2 g hg

/-- The same where nothing behind the registers changes. -/
theorem done_sameBut (s t : State) (l : List Fld) (hi : s.Inv) (hh : ({ t with regs := s.regs } : State) = s) (hr : s.writes t l)
    (hw : ∀ f ∈ l, invReg f.addr = false) : s.sameBut (s.done t) l := done_frame s t s l hi hh ⟨rfl, rfl, rfl, rfl, fun _ => rfl⟩ hr hw

/-- A command whose rules change nothing leaves everything as it was. -/
theorem done_same (s : State) (hi : s.Inv) : s.same (s.done s) :=
  done_sameBut s s [] hi rfl (writes_refl s []) (fun _ h => absurd h (List.not_mem_nil))

/-- A register of a doorway window other than DEN_STATUS and SEQ_STATUS is not read by the invariant. -/
theorem invReg_dw (d : DIx) (o : Nat) (h : o < 0x1000) (h2 : o ≠ 0x4A0) (h3 : o ≠ 4) : invReg (dw d o) = false := by
  have := d.isLt
  simp only [invReg, Bool.or_eq_false_iff, beq_eq_false_iff_ne, ne_eq, List.any_eq_false, beq_iff_eq]
  refine ⟨⟨⟨⟨gatedReg_dw d o h h2, ?_⟩, ?_⟩, ?_⟩, fun e _ => ?_⟩
  · show ¬ dw d o = 0x4000; unfold dw; omega
  · show ¬ dw d o = 0x6014; unfold dw; omega
  · show ¬ dw d o = 0x6018; unfold dw; omega
  · show ¬ dw d o = dw e 4; have := e.isLt; unfold dw; omega

/-- A register below the doorway windows is not read by the invariant, but for five. -/
theorem invReg_low (a : Nat) (h : a < 0x10000) (h1 : a ≠ 0x601C) (h2 : a ≠ 0x602C) (h3 : a ≠ 0x4000) (h4 : a ≠ 0x6014) (h5 : a ≠ 0x6018) :
    invReg a = false := by
  simp only [invReg, Bool.or_eq_false_iff, beq_eq_false_iff_ne, ne_eq, List.any_eq_false, beq_iff_eq]
  refine ⟨⟨⟨⟨gatedReg_low a h h1 h2, h3⟩, h4⟩, h5⟩, fun e _ => ?_⟩
  show ¬ a = dw e 4; unfold dw; omega

end Sys2Proof.Machine
end

