-- ==== Sys2Proof/Laws/Records.lean ====
section
/-!
SUPPORT. Laws/Records.lean: what staging a record and showing the recovery windows can do.
-/
namespace Sys2Proof.Machine

/-- The registers that staging a record may write: REC_STAGE and REC_LOST. -/
def recReg (a : Nat) : Bool := a == 0x5014 || a == 0x5018

/-- The registers that show recovery windows: FLT_STATUS, FLT_WINDOWS and each FLT_DWY. -/
def winReg (a : Nat) : Bool := a == F.FLT_STATUS.addr || a == F.FLT_WINDOWS_OPEN.addr || allD.any (fun d => a == (F.FLT_DWY_WINDOW d.val).addr)

theorem recReg_ne {a : Nat} (h : recReg a = false) : a ≠ F.REC_STAGE_FILL.addr ∧ a ≠ F.REC_LOST.addr := by
  simp only [recReg, Bool.or_eq_false_iff, beq_eq_false_iff_ne, ne_eq] at h
  exact h

theorem showFill_reg (s : State) (a : Nat) (h : recReg a = false) : s.showFill.reg a = s.reg a := by
  have h1 := (recReg_ne h).1
  have h2 : a ≠ F.REC_STAGE_MAX_FILL.addr := h1
  unfold State.showFill State.when
  extract_lets n
  split
  · rw [reg_wr_other _ _ _ _ h2, reg_wr_other _ _ _ _ h1]
  · rw [reg_wr_other _ _ _ _ h1]

/-- What staging a record leaves alone: everything but the staging queue, the page buffers, the loss counters and the registers of `recReg`. -/
theorem showFill_keeps {β : Type} (P : State → β) (h : ∀ t a v, P (State.setReg t a v) = P t) (s : State) : P s.showFill = P s := by
  unfold State.showFill State.when
  extract_lets n
  split <;> simp only [State.wr, h]

theorem takeEntry_keeps {β : Type} (P : State → β) (h : ∀ t a v, P (State.setReg t a v) = P t)
    (hr : ∀ (t : State) (r : RecH), P { t with recd := r } = P t) (s : State) (r : Rec) : P (s.takeEntry r) = P s := by
  unfold State.takeEntry
  generalize (if r.code / 0x1000 = 1 then 512 else 488) = n
  split
  · rw [showFill_keeps P h, hr]
  · unfold State.loseRec State.inc State.wrSat State.wr; rw [h, hr]

theorem takeEntry_reg (s : State) (r : Rec) (a : Nat) (h : recReg a = false) : (s.takeEntry r).reg a = s.reg a := by
  unfold State.takeEntry
  generalize (if r.code / 0x1000 = 1 then 512 else 488) = n
  split
  · rw [showFill_reg _ _ h]; rfl
  · unfold State.loseRec
    extract_lets q
    rw [reg_inc_other _ _ _ (recReg_ne h).2]; rfl

theorem enqueue_keeps {β : Type} (P : State → β) (h : ∀ t a v, P (State.setReg t a v) = P t)
    (hr : ∀ (t : State) (r : RecH), P { t with recd := r } = P t) (s : State) (r : Rec) : P (s.enqueue r) = P s := by
  unfold State.enqueue
  extract_lets q
  split
  · unfold State.inc State.wrSat State.wr; rw [h]
  · split
    · split
      · exact hr _ _
      · exact takeEntry_keeps P h hr _ _
    · split
      · split
        · exact hr _ _
        · exact takeEntry_keeps P h hr _ _
      · exact takeEntry_keeps P h hr _ _

theorem enqueue_reg (s : State) (r : Rec) (a : Nat) (h : recReg a = false) : (s.enqueue r).reg a = s.reg a := by
  unfold State.enqueue
  extract_lets q
  split
  · rw [reg_inc_other _ _ _ (recReg_ne h).2]
  · split
    · split
      · rfl
      · exact takeEntry_reg _ _ _ h
    · split
      · split
        · rfl
        · exact takeEntry_reg _ _ _ h
      · exact takeEntry_reg _ _ _ h

theorem stageRec_keeps {β : Type} (P : State → β) (h : ∀ t a v, P (State.setReg t a v) = P t)
    (hr : ∀ (t : State) (r : RecH), P { t with recd := r } = P t) (s : State) (r : Rec) : P (s.stageRec r) = P s := by
  unfold State.stageRec
  split
  · rfl
  · exact enqueue_keeps P h hr s r

theorem stageRec_reg (s : State) (r : Rec) (a : Nat) (h : recReg a = false) : (s.stageRec r).reg a = s.reg a := by
  unfold State.stageRec
  split
  · rfl
  · exact enqueue_reg s r a h

/-- Writing a record leaves every register but REC_STAGE and REC_LOST. -/
theorem stage_reg (s : State) (c d : Nat) (ws : List Nat) (a : Nat) (h : recReg a = false) : (s.stage c d ws).reg a = s.reg a :=
  stageRec_reg s _ a h

theorem stage_rd (s : State) (c d : Nat) (ws : List Nat) (f : Fld) (h : recReg f.addr = false) : (s.stage c d ws).rd f = s.rd f :=
  rd_congr (stage_reg s c d ws f.addr h)

theorem stage_flag (s : State) (c d : Nat) (ws : List Nat) (f : Fld) (h : recReg f.addr = false) : (s.stage c d ws).flag f = s.flag f :=
  flag_congr (stage_reg s c d ws f.addr h)

theorem stage_keeps {β : Type} (P : State → β) (h : ∀ t a v, P (State.setReg t a v) = P t)
    (hr : ∀ (t : State) (r : RecH), P { t with recd := r } = P t)
    (s : State) (c d : Nat) (ws : List Nat) : P (s.stage c d ws) = P s := stageRec_keeps P h hr s _

@[simp] theorem stage_chip (s : State) (c d : Nat) (ws : List Nat) : (s.stage c d ws).chip = s.chip :=
  stage_keeps (fun t => t.chip) (fun _ _ _ => rfl) (fun _ _ => rfl) s c d ws
@[simp] theorem stage_pending (s : State) (c d : Nat) (ws : List Nat) : (s.stage c d ws).pending = s.pending :=
  stage_keeps (fun t => t.pending) (fun _ _ _ => rfl) (fun _ _ => rfl) s c d ws
@[simp] theorem stage_now (s : State) (c d : Nat) (ws : List Nat) : (s.stage c d ws).now = s.now :=
  stage_keeps (fun t => t.now) (fun _ _ _ => rfl) (fun _ _ => rfl) s c d ws
@[simp] theorem stage_tb0 (s : State) (c d : Nat) (ws : List Nat) : (s.stage c d ws).tb0 = s.tb0 :=
  stage_keeps (fun t => t.tb0) (fun _ _ _ => rfl) (fun _ _ => rfl) s c d ws
@[simp] theorem stage_freeCtr (s : State) (c d : Nat) (ws : List Nat) : (s.stage c d ws).freeCtr = s.freeCtr :=
  stage_keeps (fun t => t.freeCtr) (fun _ _ _ => rfl) (fun _ _ => rfl) s c d ws
@[simp] theorem stage_rail (s : State) (c d : Nat) (ws : List Nat) : (s.stage c d ws).rail = s.rail :=
  stage_keeps (fun t => t.rail) (fun _ _ _ => rfl) (fun _ _ => rfl) s c d ws
@[simp] theorem stage_qtHeld (s : State) (c d : Nat) (ws : List Nat) : (s.stage c d ws).qtHeld = s.qtHeld :=
  stage_keeps (fun t => t.qtHeld) (fun _ _ _ => rfl) (fun _ _ => rfl) s c d ws
@[simp] theorem stage_imgPend (s : State) (c d : Nat) (ws : List Nat) : (s.stage c d ws).imgPend = s.imgPend :=
  stage_keeps (fun t => t.imgPend) (fun _ _ _ => rfl) (fun _ _ => rfl) s c d ws
@[simp] theorem stage_img (s : State) (c d : Nat) (ws : List Nat) : (s.stage c d ws).img = s.img :=
  stage_keeps (fun t => t.img) (fun _ _ _ => rfl) (fun _ _ => rfl) s c d ws
@[simp] theorem stage_plc (s : State) (c d : Nat) (ws : List Nat) : (s.stage c d ws).plc = s.plc :=
  stage_keeps (fun t => t.plc) (fun _ _ _ => rfl) (fun _ _ => rfl) s c d ws
@[simp] theorem stage_flt (s : State) (c d : Nat) (ws : List Nat) : (s.stage c d ws).flt = s.flt :=
  stage_keeps (fun t => t.flt) (fun _ _ _ => rfl) (fun _ _ => rfl) s c d ws
@[simp] theorem stage_pwr (s : State) (c d : Nat) (ws : List Nat) : (s.stage c d ws).pwr = s.pwr :=
  stage_keeps (fun t => t.pwr) (fun _ _ _ => rfl) (fun _ _ => rfl) s c d ws
@[simp] theorem stage_trn (s : State) (c d : Nat) (ws : List Nat) : (s.stage c d ws).trn = s.trn :=
  stage_keeps (fun t => t.trn) (fun _ _ _ => rfl) (fun _ _ => rfl) s c d ws
@[simp] theorem stage_asics (s : State) (c d : Nat) (ws : List Nat) : (s.stage c d ws).asics = s.asics :=
  stage_keeps (fun t => t.asics) (fun _ _ _ => rfl) (fun _ _ => rfl) s c d ws
@[simp] theorem stage_engs (s : State) (c d : Nat) (ws : List Nat) : (s.stage c d ws).engs = s.engs :=
  stage_keeps (fun t => t.engs) (fun _ _ _ => rfl) (fun _ _ => rfl) s c d ws
@[simp] theorem stage_cop (s : State) (c d : Nat) (ws : List Nat) : (s.stage c d ws).cop = s.cop :=
  stage_keeps (fun t => t.cop) (fun _ _ _ => rfl) (fun _ _ => rfl) s c d ws
@[simp] theorem stage_net (s : State) (c d : Nat) (ws : List Nat) : (s.stage c d ws).net = s.net :=
  stage_keeps (fun t => t.net) (fun _ _ _ => rfl) (fun _ _ => rfl) s c d ws
@[simp] theorem stage_can (s : State) (c d : Nat) (ws : List Nat) : (s.stage c d ws).can = s.can :=
  stage_keeps (fun t => t.can) (fun _ _ _ => rfl) (fun _ _ => rfl) s c d ws
@[simp] theorem stage_rap (s : State) (c d : Nat) (ws : List Nat) : (s.stage c d ws).rap = s.rap :=
  stage_keeps (fun t => t.rap) (fun _ _ _ => rfl) (fun _ _ => rfl) s c d ws
@[simp] theorem stage_pair (s : State) (c d : Nat) (ws : List Nat) : (s.stage c d ws).pair = s.pair :=
  stage_keeps (fun t => t.pair) (fun _ _ _ => rfl) (fun _ _ => rfl) s c d ws
@[simp] theorem stage_dwy (s : State) (c d : Nat) (ws : List Nat) (e : DIx) : (s.stage c d ws).dwy e = s.dwy e :=
  stage_keeps (fun t => t.dwy e) (fun _ _ _ => rfl) (fun _ _ => rfl) s c d ws

/-- With room in staging and no equal record at its end, a record staged by a holder of authority is the last of the queue (R450). -/
theorem stage_queued (s : State) (c d : Nat) (ws : List Nat) (hs : s.flag F.PWR_STATUS_SHUTDOWN = false)
    (hstop : s.flag F.REC_STATUS_STOPPED = false) (hroom : s.stagedN < 488)
    (hq : ∀ t, s.recd.queue.getLast? = some t → Rec.mergesInto { code := c, dwy := d, flags := sevOf c, rep := 1, gen := s.img.runGen, ws := ws.map (· % 2 ^ 32) } t = false)
    (hb : s.recd.queue = [] → s.lastBuffered = none) :
    (s.stage c d ws).recd.queue = s.recd.queue ++ [{ code := c, dwy := d, flags := sevOf c, rep := 1, gen := s.img.runGen, ws := ws.map (· % 2 ^ 32) }] := by
  have he : ∀ r : Rec, (s.takeEntry r).recd.queue = s.recd.queue ++ [r] := by
    intro r
    unfold State.takeEntry
    have hl : s.stagedN < (if r.code / 0x1000 = 1 then 512 else 488) := by split <;> omega
    rw [if_pos hl, showFill_keeps (fun x => x.recd) (fun _ _ _ => rfl)]
  unfold State.stage State.stageSev State.stageRec
  rw [if_neg (by simp [hs])]
  unfold State.enqueue
  extract_lets q
  rw [if_neg (by simp [hstop])]
  split
  · rename_i t ht
    rw [if_neg (by rw [hq t ht]; exact Bool.false_ne_true)]
    exact he _
  · rename_i ht
    rw [hb (by simpa [List.getLast?_eq_none_iff] using ht)]
    exact he _

/-! ## Windows -/

theorem winReg_ne {a : Nat} (h : winReg a = false) :
    a ≠ F.FLT_STATUS.addr ∧ a ≠ F.FLT_WINDOWS_OPEN.addr ∧ ∀ d : DIx, a ≠ (F.FLT_DWY_WINDOW d.val).addr := by
  simp only [winReg, Bool.or_eq_false_iff, beq_eq_false_iff_ne, ne_eq] at h
  refine ⟨h.1.1, h.1.2, fun d e => ?_⟩
  have := h.2
  rw [Bool.eq_false_iff] at this
  exact this (List.any_eq_true.mpr ⟨d, mem_allD d, by simp [e]⟩)

theorem showWindows_reg (s : State) (a : Nat) (h : winReg a = false) : s.showWindows.reg a = s.reg a := by
  obtain ⟨h1, h2, h3⟩ := winReg_ne h
  have h1' : a ≠ F.FLT_STATUS_WINDOWS.addr := h1
  unfold State.showWindows
  extract_lets ws bits t
  rw [foldl_keeps (fun x => x.reg a)]
  · show ((s.wr F.FLT_WINDOWS_OPEN bits).wrSat F.FLT_STATUS_WINDOWS ws.length).reg a = _
    rw [reg_wrSat_other _ _ _ _ h1', reg_wr_other _ _ _ _ h2]
  · intro u d _
    rw [reg_setF_other _ _ _ _ (h3 d)]

theorem showWindows_keeps {β : Type} (P : State → β) (h : ∀ t a v, P (State.setReg t a v) = P t) (s : State) : P s.showWindows = P s := by
  unfold State.showWindows
  extract_lets ws bits t
  rw [foldl_keeps P]
  · show P ((s.wr F.FLT_WINDOWS_OPEN bits).wrSat F.FLT_STATUS_WINDOWS ws.length) = _
    simp only [State.wrSat, State.wr, h]
  · intro u d _
    simp only [State.setF, State.wr, h]

/-- Opening a window leaves every register that shows none. -/
theorem openWin_reg (s : State) (k d a : Nat) (h : winReg a = false) : (s.openWin k d).reg a = s.reg a := by
  unfold State.openWin
  split
  · rfl
  · rw [showWindows_reg _ _ h]; rfl

theorem closeWin_reg (s : State) (k d a : Nat) (h : winReg a = false) : (s.closeWin k d).reg a = s.reg a := by
  unfold State.closeWin; rw [showWindows_reg _ _ h]; rfl

theorem openWin_keeps {β : Type} (P : State → β) (h : ∀ t a v, P (State.setReg t a v) = P t)
    (hf : ∀ (t : State) (f : FltH), P { t with flt := f } = P t) (s : State) (k d : Nat) : P (s.openWin k d) = P s := by
  unfold State.openWin
  split
  · rfl
  · rw [showWindows_keeps P h, hf]

theorem closeWin_keeps {β : Type} (P : State → β) (h : ∀ t a v, P (State.setReg t a v) = P t)
    (hf : ∀ (t : State) (f : FltH), P { t with flt := f } = P t) (s : State) (k d : Nat) : P (s.closeWin k d) = P s := by
  unfold State.closeWin; rw [showWindows_keeps P h, hf]

/-- A window that is opened is open. -/
theorem openWin_open (s : State) (k d : Nat) : (s.openWin k d).winOpen k d = true := by
  unfold State.openWin
  split
  · rename_i h
    unfold State.winOpen State.winOf
    rw [List.find?_isSome]
    exact List.any_eq_true.mp h
  · unfold State.winOpen State.winOf
    rw [showWindows_keeps (fun t => t.flt) (fun _ _ _ => rfl), List.find?_isSome]
    exact ⟨{ kind := k, dwy := d, opened := s.now }, by simp, by simp⟩

/-- A window that is closed is not open. -/
theorem closeWin_closed (s : State) (k d : Nat) : (s.closeWin k d).winOpen k d = false := by
  unfold State.closeWin State.winOpen State.winOf
  rw [showWindows_keeps (fun t => t.flt) (fun _ _ _ => rfl)]
  rw [Option.isSome_eq_false_iff, Option.isNone_iff_eq_none, List.find?_eq_none]
  intro w hw
  simp only [List.mem_filter] at hw
  simp only [Bool.and_eq_true, beq_iff_eq, not_and]
  intro hk hd
  simp [hk, hd] at hw

end Sys2Proof.Machine
end

