-- ==== Sys2Proof/Laws/Outputs.lean ====
section
/-!
SUPPORT. Laws/Outputs.lean: what the load channels, the loop and SO outputs, the drive enables and a fence request can do: each names the registers that
it may write.
-/
namespace Sys2Proof.Machine

/-! ## Load channels -/

theorem mem_allK (k : KIx) : k ∈ allK := by revert k; decide

theorem mem_allA (x : AIx) : x ∈ allA := by revert x; decide

/-- The registers that evaluating the channels of doorway d may write: LOCK_STATUS and each CH_STATUS. -/
def chanReg (d : DIx) (a : Nat) : Bool := a == (F.LOCK_STATUS d).addr || allK.any (fun k => a == (F.CH_STATUS_STATE d k).addr)

theorem chanReg_ne {d : DIx} {a : Nat} (h : chanReg d a = false) : a ≠ (F.LOCK_STATUS d).addr ∧ ∀ k : KIx, a ≠ (F.CH_STATUS_STATE d k).addr := by
  simp only [chanReg, Bool.or_eq_false_iff, beq_eq_false_iff_ne, ne_eq] at h
  refine ⟨h.1, fun k e => ?_⟩
  have h2 := h.2
  rw [Bool.eq_false_iff] at h2
  exact h2 (List.any_eq_true.mpr ⟨k, mem_allK k, by simp [e]⟩)

theorem setCh_reg (s : State) (d : DIx) (k : KIx) (st a : Nat) (h : chanReg d a = false) : (s.setCh d k st).reg a = s.reg a := by
  obtain ⟨h1, h2⟩ := chanReg_ne h
  have hs := h2 k
  have hl : a ≠ (F.CH_STATUS_LIMITING d k).addr := hs
  have ho : a ≠ (F.LOCK_STATUS_ON d).addr := h1
  unfold State.setCh
  extract_lets was t1 t2 t3
  have e1 : t1.reg a = s.reg a := reg_wr_other _ _ _ _ hs
  have e2 : t2.reg a = t1.reg a := by
    show State.reg (if st = chInrush ∧ was ≠ chInrush then _ else _) a = _
    split
    · rw [modCh_reg]
    · rfl
  have e3 : t3.reg a = t2.reg a := by
    show State.reg (t2.when _ _) a = _
    unfold State.when; split
    · rw [reg_setF_other _ _ _ _ hl]
    · rfl
  unfold State.when
  split
  · rw [modLock_reg, reg_setF_other _ _ _ _ ho, e3, e2, e1]
  · rw [e3, e2, e1]

theorem setCh_keeps {β : Type} (P : State → β) (h : ∀ t a v, P (State.setReg t a v) = P t)
    (hd : ∀ (t : State) (d : DIx) (k : KIx) (f : ChH → ChH), P (t.modCh d k f) = P t) (hl : ∀ (t : State) (d : DIx) (f : LockH → LockH), P (t.modLock d f) = P t)
    (s : State) (d : DIx) (k : KIx) (st : Nat) : P (s.setCh d k st) = P s := by
  unfold State.setCh
  extract_lets was t1 t2 t3
  have e1 : P t1 = P s := h _ _ _
  have e2 : P t2 = P t1 := by
    show P (if st = chInrush ∧ was ≠ chInrush then _ else _) = _
    split
    · exact hd _ _ _ _
    · rfl
  have e3 : P t3 = P t2 := by
    show P (t2.when _ _) = _
    unfold State.when; split
    · exact h _ _ _
    · rfl
  unfold State.when
  split
  · show P ((t3.setF (F.LOCK_STATUS_ON d) (st == chInrush || st == chOn)).modLock d _) = _
    rw [hl]
    exact (h _ _ _).trans (e3.trans (e2.trans e1))
  · rw [e3, e2, e1]

theorem evalCh_reg (s : State) (d : DIx) (k : KIx) (a : Nat) (h : chanReg d a = false) : (s.evalCh d k).reg a = s.reg a := by
  have hc : a ≠ (F.CH_STATUS_CMD d k).addr := (chanReg_ne h).2 k
  unfold State.evalCh
  extract_lets cmd t st armed
  have e : t.reg a = s.reg a := reg_setF_other _ _ _ _ hc
  have w : ∀ (c : Bool) (n : Nat), (t.when c (fun u => u.setCh d k n)).reg a = s.reg a := by
    intro c n; unfold State.when; split
    · rw [setCh_reg _ _ _ _ _ h, e]
    · exact e
  split
  · exact e
  · split
    · exact w _ _
    · split
      · rw [setCh_reg _ _ _ _ _ h, e]
      · split
        · exact e
        · split
          · exact w _ _
          · split
            · exact w _ _
            · exact w _ _

/-- Evaluating the channels of a doorway leaves every register but its LOCK_STATUS and CH_STATUS. -/
theorem evalChans_reg (s : State) (d : DIx) (a : Nat) (h : chanReg d a = false) : (s.evalChans d).reg a = s.reg a := by
  unfold State.evalChans
  rw [foldl_keeps (fun t => t.reg a)]
  intro t k _
  exact evalCh_reg t d k a h

theorem evalChans_keeps {β : Type} (P : State → β) (h : ∀ t a v, P (State.setReg t a v) = P t)
    (hd : ∀ (t : State) (d : DIx) (k : KIx) (f : ChH → ChH), P (t.modCh d k f) = P t) (hl : ∀ (t : State) (d : DIx) (f : LockH → LockH), P (t.modLock d f) = P t)
    (s : State) (d : DIx) : P (s.evalChans d) = P s := by
  unfold State.evalChans
  rw [foldl_keeps P]
  intro s k _
  unfold State.evalCh
  extract_lets cmd t st armed
  have e : P t = P s := h _ _ _
  have w : ∀ (c : Bool) (n : Nat), P (t.when c (fun u => u.setCh d k n)) = P s := by
    intro c n; unfold State.when; split
    · rw [setCh_keeps P h hd hl, e]
    · exact e
  split
  · exact e
  · split
    · exact w _ _
    · split
      · rw [setCh_keeps P h hd hl, e]
      · split
        · exact e
        · split
          · exact w _ _
          · split
            · exact w _ _
            · exact w _ _

/-! ## Loops and SO outputs -/

/-- The registers that evaluating the outputs may write: LOOP_STATUS and SO_STATUS, and those of a record. -/
def outReg (a : Nat) : Bool := a == F.LOOP_STATUS_L1_CLOSED.addr || a == F.SO_STATUS_ON.addr || recReg a

theorem outReg_ne {a : Nat} (h : outReg a = false) : a ≠ F.LOOP_STATUS_L1_CLOSED.addr ∧ a ≠ F.SO_STATUS_ON.addr ∧ recReg a = false := by
  simp only [outReg, Bool.or_eq_false_iff, beq_eq_false_iff_ne, ne_eq] at h
  exact ⟨h.1.1, h.1.2, h.2⟩

theorem setLoop_reg (s : State) (n : Nat) (c : Bool) (b a : Nat) (h : outReg a = false) : (s.setLoop n c b).reg a = s.reg a := by
  obtain ⟨h1, -, h3⟩ := outReg_ne h
  have hb : a ≠ F.LOOP_STATUS_L1_BLOCK.addr := h1
  have h2 : a ≠ F.LOOP_STATUS_L2.addr := h1
  have h2b : a ≠ F.LOOP_STATUS_L2_BLOCK.addr := h1
  have w : ∀ (t : State) (c : Bool) (ws : List Nat), (t.when c (fun u => u.stage 0x3108 sysRec ws)).reg a = t.reg a := by
    intro t c ws; unfold State.when; split
    · exact stage_reg _ _ _ _ _ h3
    · rfl
  unfold State.setLoop
  split
  · extract_lets was t
    rw [w]
    show ((s.wr F.LOOP_STATUS_L1_BLOCK b).setF F.LOOP_STATUS_L1_CLOSED c).reg a = _
    rw [reg_setF_other _ _ _ _ h1, reg_wr_other _ _ _ _ hb]
  · extract_lets was t
    rw [w]
    show ((s.wr F.LOOP_STATUS_L2_BLOCK b).wr F.LOOP_STATUS_L2 (s.rd F.LOOP_STATUS_L2 / 2 * 2 + b2n c)).reg a = _
    rw [reg_wr_other _ _ _ _ h2, reg_wr_other _ _ _ _ h2b]

theorem setLoop_keeps {β : Type} (P : State → β) (h : ∀ t a v, P (State.setReg t a v) = P t)
    (hr : ∀ (t : State) (r : RecH), P { t with recd := r } = P t) (s : State) (n : Nat) (c : Bool) (b : Nat) : P (s.setLoop n c b) = P s := by
  have w : ∀ (t : State) (c : Bool) (ws : List Nat), P (t.when c (fun u => u.stage 0x3108 sysRec ws)) = P t := by
    intro t c ws; unfold State.when; split
    · exact stage_keeps P h hr _ _ _ _
    · rfl
  unfold State.setLoop
  split
  · extract_lets was t
    rw [w]
    show P ((s.wr F.LOOP_STATUS_L1_BLOCK b).setF F.LOOP_STATUS_L1_CLOSED c) = _
    simp only [State.setF, State.wr, h]
  · extract_lets was t
    rw [w]
    exact (h _ _ _).trans (h _ _ _)

/-- Evaluating the outputs leaves every register but LOOP_STATUS, SO_STATUS and those of a record. -/
theorem evalOutputs_reg (s : State) (a : Nat) (h : outReg a = false) : s.evalOutputs.reg a = s.reg a := by
  have h2 := (outReg_ne h).2.1
  unfold State.evalOutputs
  extract_lets ok b1 b2 t1 t2
  rw [foldl_keeps (fun t => t.reg a)]
  · exact (setLoop_reg _ _ _ _ _ h).trans (setLoop_reg _ _ _ _ _ h)
  · intro t k _
    exact reg_setBit_other _ _ _ _ _ h2

theorem evalOutputs_keeps {β : Type} (P : State → β) (h : ∀ t a v, P (State.setReg t a v) = P t)
    (hr : ∀ (t : State) (r : RecH), P { t with recd := r } = P t)
    (s : State) : P s.evalOutputs = P s := by
  unfold State.evalOutputs
  extract_lets ok b1 b2 t1 t2
  rw [foldl_keeps P]
  · exact (setLoop_keeps P h hr _ _ _ _).trans (setLoop_keeps P h hr _ _ _ _)
  · intro t k _
    exact h _ _ _

/-! ## Torque -/

/-- The registers that removing torque from doorway d may write: DEN_STATUS, OBST_STATUS, SS1_LAST, each AX_STATUS, SPEED and TARGET, and those
of a record. -/
def torqueReg (d : DIx) (a : Nat) : Bool :=
  a == (F.DEN_STATUS_DEN_A d).addr || a == (F.OBST_STATUS d).addr || a == (F.SS1_LAST d).addr ||
  allA.any (fun x => a == (F.AX_STATUS d x).addr || a == (F.SPEED d x).addr || a == (F.TARGET d x).addr) || recReg a

theorem torqueReg_ne {d : DIx} {a : Nat} (h : torqueReg d a = false) :
    a ≠ (F.DEN_STATUS_DEN_A d).addr ∧ a ≠ (F.OBST_STATUS d).addr ∧ a ≠ (F.SS1_LAST d).addr ∧
    (∀ x : AIx, a ≠ (F.AX_STATUS d x).addr ∧ a ≠ (F.SPEED d x).addr ∧ a ≠ (F.TARGET d x).addr) ∧ recReg a = false := by
  simp only [torqueReg, Bool.or_eq_false_iff, beq_eq_false_iff_ne, ne_eq] at h
  obtain ⟨⟨⟨⟨h1, h2⟩, h3⟩, h4⟩, h5⟩ := h
  refine ⟨h1, h2, h3, fun x => ?_, h5⟩
  rw [Bool.eq_false_iff] at h4
  refine ⟨fun e => h4 ?_, fun e => h4 ?_, fun e => h4 ?_⟩ <;> exact List.any_eq_true.mpr ⟨x, mem_allA x, by simp [e]⟩

theorem haltAxis_reg (s : State) (d : DIx) (x : AIx) (a : Nat) (h : torqueReg d a = false) : (s.haltAxis d x).reg a = s.reg a := by
  obtain ⟨-, -, -, h4, -⟩ := torqueReg_ne h
  obtain ⟨h1, h2, h3⟩ := h4 x
  have hm : a ≠ (F.AX_STATUS_MOVING d x).addr := h1
  have hs : a ≠ (F.AX_STATUS_STOPPING d x).addr := h1
  have hv : a ≠ (F.SPEED_VCMD d x).addr := h2
  unfold State.haltAxis
  extract_lets t1 t2
  rw [reg_wr_other _ _ _ _ h3, reg_wrS_other _ _ _ _ hv]
  show ((t1.setF (F.AX_STATUS_MOVING d x) false).setF (F.AX_STATUS_STOPPING d x) false).reg a = _
  rw [reg_setF_other _ _ _ _ hs, reg_setF_other _ _ _ _ hm]
  exact modAx_reg _ _ _ _ _

theorem denOff_reg (s : State) (d : DIx) (a : Nat) (h : torqueReg d a = false) : (s.denOff d).reg a = s.reg a := by
  obtain ⟨h1, -, -, h4, -⟩ := torqueReg_ne h
  have hb : a ≠ (F.DEN_STATUS_DEN_B d).addr := h1
  unfold State.denOff
  split
  · rfl
  · extract_lets t1 t2
    rw [foldl_keeps (fun t => t.reg a)]
    · have e1 : t1.reg a = s.reg a := by
        show ((s.setF (F.DEN_STATUS_DEN_A d) false).setF (F.DEN_STATUS_DEN_B d) false).reg a = _
        rw [reg_setF_other _ _ _ _ hb, reg_setF_other _ _ _ _ h1]
      exact (modDrv_reg _ _ _ _).trans e1
    · intro t x _
      have he : a ≠ (F.AX_STATUS_ENABLED d x).addr := (h4 x).1
      have hr : a ≠ (F.AX_STATUS_AT_REST d x).addr := (h4 x).1
      rw [haltAxis_reg _ _ _ _ h, reg_setF_other _ _ _ _ hr, reg_setF_other _ _ _ _ he]

theorem sto_reg (s : State) (d : DIx) (p f a : Nat) (h : torqueReg d a = false) : (s.sto d p f).reg a = s.reg a := by
  obtain ⟨-, h2, h3, -, h5⟩ := torqueReg_ne h
  have hd : a ≠ (F.SS1_LAST_DURATION d).addr := h3
  have he : a ≠ (F.SS1_LAST_END d).addr := h3
  have hv : a ≠ (F.SS1_LAST_V0 d).addr := h3
  have ho : a ≠ (F.OBST_STATUS_SS1 d).addr := h2
  unfold State.sto
  extract_lets o v0 t1 t2 t3 t4 t5
  have e1 : t1.reg a = s.reg a := by
    show ((s.wrSat (F.SS1_LAST_DURATION d) _).wr (F.SS1_LAST_END d) f).reg a = _
    rw [reg_wr_other _ _ _ _ he, reg_wrSat_other _ _ _ _ hd]
  have e2 : t2.reg a = s.reg a := by
    show ((t1.wrSat (F.SS1_LAST_V0 d) _).wr (F.OBST_STATUS_SS1 d) p).reg a = _
    rw [reg_wr_other _ _ _ _ ho, reg_wrSat_other _ _ _ _ hv, e1]
  have e3 : t3.reg a = s.reg a := (denOff_reg _ _ _ h).trans e2
  have e4 : t4.reg a = s.reg a := (modObst_reg _ _ _ _).trans e3
  have e5 : t5.reg a = s.reg a := by
    show State.reg (match o.cause with | none => t4 | some c => _) a = _
    split
    · exact e4
    · rw [stage_reg _ _ _ _ _ h5, e4]
  unfold State.when
  split
  · rw [stage_reg _ _ _ _ _ h5, e5]
  · exact e5

/-- Removing torque leaves every register but those of `torqueReg`. -/
theorem torqueOff_reg (s : State) (d : DIx) (a : Nat) (h : torqueReg d a = false) : (s.torqueOff d).reg a = s.reg a := by
  unfold State.torqueOff
  split
  · exact sto_reg _ _ _ _ _ h
  · exact denOff_reg _ _ _ h

theorem lockDrop_reg (s : State) (d : DIx) (a : Nat) (h : chanReg d a = false) : (s.lockDrop d).reg a = s.reg a := by
  have h1 := (chanReg_ne h).1
  have hc : a ≠ (F.LOCK_STATUS_CMD d).addr := h1
  have hp : a ≠ (F.LOCK_STATUS_PERMIT d).addr := h1
  unfold State.lockDrop
  split
  · extract_lets was t
    have e : t.reg a = s.reg a := by
      show ((s.setF (F.LOCK_STATUS_CMD d) false).setF (F.LOCK_STATUS_PERMIT d) false).reg a = _
      rw [reg_setF_other _ _ _ _ hp, reg_setF_other _ _ _ _ hc]
    rw [evalChans_reg _ _ _ h]
    unfold State.when
    split
    · rw [modCyc_reg, modSeq_reg]; exact e
    · exact e
  · rfl

/-! ## Fences -/

/-- The registers that a fence request for doorway d may write: its FLT_DWY and SEQ_STATUS, its torque, lock and channel registers, and the
outputs. -/
def fenceReg (d : DIx) (a : Nat) : Bool :=
  a == (F.FLT_DWY_FENCE_SET d.val).addr || a == (F.SEQ_STATUS_LOOP_CONTRIB d).addr || chanReg d a || torqueReg d a || outReg a

/-- A fence request leaves every other register. -/
theorem fence_reg (s : State) (d : DIx) (n a : Nat) (h : fenceReg d a = false) : (s.fence d n).reg a = s.reg a := by
  simp only [fenceReg, Bool.or_eq_false_iff, beq_eq_false_iff_ne, ne_eq] at h
  obtain ⟨⟨⟨⟨h1, h2⟩, h3⟩, h4⟩, h5⟩ := h
  have hr := (outReg_ne h5).2.2
  have hf : a ≠ (F.FLT_DWY_FIRST_SRC d.val).addr := h1
  unfold State.fence
  split
  · rfl
  · extract_lets t1 t2 t3 t4
    have e1 : t1.reg a = s.reg a := reg_setBit_other _ _ _ _ _ h1
    have e2 : t2.reg a = s.reg a := by
      show State.reg (if (t1.dwy d).fencedOnce = true then t1 else _) a = _
      split
      · exact e1
      · rw [modDwy_reg, stage_reg _ _ _ _ _ hr, reg_wr_other _ _ _ _ hf, e1]
    rw [evalOutputs_reg _ _ h5, reg_setF_other _ _ _ _ h2]
    show ((t3.torqueOff d).lockDrop d).reg a = _
    rw [lockDrop_reg _ _ _ h3, torqueOff_reg _ _ _ h4]
    show State.reg (if (t2.st d != SeqState.fenced) = true then _ else t2) a = _
    split
    · exact (modDwy_reg _ _ _ _).trans e2
    · exact e2

/-- A fault may count itself, and fence: it leaves every other register. -/
theorem fault_reg (s : State) (d : DIx) (c a : Nat) (he : a ≠ F.FLT_EVENTS.addr) (h : fenceReg d a = false) : (s.fault d c).reg a = s.reg a := by
  have hr : recReg a = false := by
    simp only [fenceReg, Bool.or_eq_false_iff] at h
    exact (outReg_ne h.2).2.2
  have e : (s.inc F.FLT_EVENTS).reg a = s.reg a := reg_inc_other _ _ _ he
  unfold State.fault State.secondFault
  split
  · rw [fence_reg _ _ _ _ h, stage_reg _ _ _ _ _ hr, e]
  · exact e

theorem faultM_reg (s : State) (a : Nat) (he : a ≠ F.FLT_EVENTS.addr) : s.faultM.reg a = s.reg a := reg_inc_other _ _ _ he

end Sys2Proof.Machine
end

