-- ==== Sys2Proof/Laws/Door.lean ====
section
/-!
SUPPORT. Laws/Door.lean: what the operations of a doorway leave alone: the windows of the other doorways, and its own SEQ register but for entries
to a state. One law per shared operation.
-/
set_option linter.unusedSimpArgs false
set_option linter.unusedSectionVars false

namespace Sys2Proof.Machine

/-- An address that the operations of doorway d do not write: its SEQ register, the windows of the other doorways, the microstep tables. -/
def still (d : DIx) (a : Nat) : Bool := decide (0x10000 ≤ a) && (decide (a < dw d 4) || decide (dw d 0x1000 ≤ a))

/-- An address of doorway d behind its SEQ register, or of no doorway. -/
def touched (d : DIx) (b : Nat) : Prop := b < 0x10000 ∨ (dw d 4 ≤ b ∧ b < dw d 0x1000)

theorem still_ne {d : DIx} {a b : Nat} (h : still d a = true) (hb : touched d b) : a ≠ b := by
  simp only [still, Bool.and_eq_true, Bool.or_eq_true, decide_eq_true_eq] at h
  unfold touched at hb
  unfold dw at h hb
  omega

theorem touched_low (d : DIx) {b : Nat} (h : b < 0x10000) : touched d b := Or.inl h
theorem touched_dw (d : DIx) {o : Nat} (h : 4 ≤ o) (h2 : o < 0x1000) : touched d (dw d o) := by unfold touched dw; omega
theorem touched_ax (d : DIx) (x : AIx) {o : Nat} (h : o < 0x80) : touched d (ax d x o) := by have := x.isLt; unfold touched dw ax; omega
theorem touched_en (d : DIx) (x : AIx) {o : Nat} (h : o < 0x40) : touched d (en d x o) := by have := x.isLt; unfold touched dw en; omega
theorem touched_ch (d : DIx) (k : KIx) {o : Nat} (h : o < 0x10) : touched d (ch d k o) := by have := k.isLt; unfold touched dw ch; omega
theorem touched_off (d : DIx) {b : Nat} (o : Nat) (h : 4 ≤ o) (h2 : o < 0x1000) (hb : b = dw d o) : touched d b := hb ▸ touched_dw d h h2

/-- Doorway d's window behind its SEQ register, or an address below every window. -/
theorem touched_win (d : DIx) {b : Nat} (h : b < 0x10000 ∨ (65536 + d.val * 4096 + 4 ≤ b ∧ b < 65536 + d.val * 4096 + 4096)) : touched d b := by
  unfold touched dw; omega

theorem reg_ite (c : Prop) [Decidable c] (x y : State) (a : Nat) : (if c then x else y).reg a = if c then x.reg a else y.reg a := by
  split <;> rfl

theorem when_reg (s : State) (c : Bool) (f : State → State) (a : Nat) : (s.when c f).reg a = if c then (f s).reg a else s.reg a := by
  unfold State.when; split <;> rfl

theorem foldl_reg {α : Type} (f : State → α → State) (l : List α) (a : Nat) (h : ∀ t, ∀ x ∈ l, (f t x).reg a = t.reg a) (s : State) :
    (l.foldl f s).reg a = s.reg a := foldl_keeps (fun t => t.reg a) f l h s

theorem reg_of_regs {s t : State} (h : t.regs = s.regs) (a : Nat) : t.reg a = s.reg a := by unfold State.reg; rw [h]

theorem reg_with_recd (s : State) (v : RecH) (a : Nat) : ({ s with recd := v } : State).reg a = s.reg a := Eq.trans rfl rfl
theorem reg_with_img (s : State) (v : ImgH) (a : Nat) : ({ s with img := v } : State).reg a = s.reg a := Eq.trans rfl rfl
theorem reg_with_plc (s : State) (v : PlcH) (a : Nat) : ({ s with plc := v } : State).reg a = s.reg a := Eq.trans rfl rfl
theorem reg_with_flt (s : State) (v : FltH) (a : Nat) : ({ s with flt := v } : State).reg a = s.reg a := Eq.trans rfl rfl
theorem reg_with_pwr (s : State) (v : PwrH) (a : Nat) : ({ s with pwr := v } : State).reg a = s.reg a := Eq.trans rfl rfl
theorem reg_with_pair (s : State) (v : PairH) (a : Nat) : ({ s with pair := v } : State).reg a = s.reg a := Eq.trans rfl rfl
theorem reg_with_trn (s : State) (v : TrnH) (a : Nat) : ({ s with trn := v } : State).reg a = s.reg a := Eq.trans rfl rfl
theorem reg_with_cop (s : State) (v : CopH) (a : Nat) : ({ s with cop := v } : State).reg a = s.reg a := Eq.trans rfl rfl
theorem reg_with_net (s : State) (v : NetH) (a : Nat) : ({ s with net := v } : State).reg a = s.reg a := Eq.trans rfl rfl
theorem reg_with_rap (s : State) (v : RapH) (a : Nat) : ({ s with rap := v } : State).reg a = s.reg a := Eq.trans rfl rfl
theorem reg_with_freeCtr (s : State) (v : Nat) (a : Nat) : ({ s with freeCtr := v } : State).reg a = s.reg a := Eq.trans rfl rfl
theorem reg_with_can (s : State) (v : Vector CanH 2) (a : Nat) : ({ s with can := v } : State).reg a = s.reg a := Eq.trans rfl rfl
theorem reg_with_asics (s : State) (v : Vector AsicH 4) (a : Nat) : ({ s with asics := v } : State).reg a = s.reg a := Eq.trans rfl rfl

/-- Bringing waiting values of a range into force writes registers of that range alone. -/
theorem applyRange_reg (s : State) (lo hi a : Nat) (h : a < lo ∨ hi ≤ a) : (s.applyRange lo hi).reg a = s.reg a := by
  unfold State.applyRange
  extract_lets inR take t
  split
  · rfl
  · rw [foldl_reg]
    · exact (reg_of_regs rfl a : t.reg a = s.reg a)
    · intro u p hp
      have hin : inR p = true := (List.mem_filter.mp hp).2
      simp only [inR, Bool.and_eq_true, decide_eq_true_eq] at hin
      rw [reg_setReg, if_neg (by omega)]

section
variable {d : DIx} {a : Nat} (h : still d a = true)
include h

theorem wr_still (s : State) (f : Fld) (v : Nat) (hf : touched d f.addr) : (s.wr f v).reg a = s.reg a := reg_wr_other _ _ _ _ (still_ne h hf)
theorem wrS_still (s : State) (f : Fld) (v : Int) (hf : touched d f.addr) : (s.wrS f v).reg a = s.reg a := reg_wrS_other _ _ _ _ (still_ne h hf)
theorem wrSat_still (s : State) (f : Fld) (v : Nat) (hf : touched d f.addr) : (s.wrSat f v).reg a = s.reg a := reg_wrSat_other _ _ _ _ (still_ne h hf)
theorem setF_still (s : State) (f : Fld) (b : Bool) (hf : touched d f.addr) : (s.setF f b).reg a = s.reg a := reg_setF_other _ _ _ _ (still_ne h hf)
theorem inc_still (s : State) (f : Fld) (hf : touched d f.addr) : (s.inc f).reg a = s.reg a := reg_inc_other _ _ _ (still_ne h hf)
theorem addSat_still (s : State) (f : Fld) (n : Nat) (hf : touched d f.addr) : (s.addSat f n).reg a = s.reg a := reg_addSat_other _ _ _ _ (still_ne h hf)
theorem setBit_still (s : State) (f : Fld) (i : Nat) (b : Bool) (hf : touched d f.addr) : (s.setBit f i b).reg a = s.reg a :=
  reg_setBit_other _ _ _ _ _ (still_ne h hf)

theorem still_recReg : recReg a = false := by
  simp only [recReg, Bool.or_eq_false_iff, beq_eq_false_iff_ne, ne_eq]
  exact ⟨still_ne h (touched_low d (by decide)), still_ne h (touched_low d (by decide))⟩

theorem still_outReg : outReg a = false := by
  simp only [outReg, Bool.or_eq_false_iff, beq_eq_false_iff_ne, ne_eq]
  exact ⟨⟨still_ne h (touched_low d (by decide)), still_ne h (touched_low d (by decide))⟩, still_recReg h⟩

theorem still_chanReg : chanReg d a = false := by
  simp only [chanReg, Bool.or_eq_false_iff, beq_eq_false_iff_ne, ne_eq, List.any_eq_false, beq_iff_eq]
  exact ⟨still_ne h (touched_dw d (by decide) (by decide)), fun k _ => still_ne h (touched_ch d k (by decide))⟩

theorem still_torqueReg : torqueReg d a = false := by
  simp only [torqueReg, Bool.or_eq_false_iff, beq_eq_false_iff_ne, ne_eq, List.any_eq_false, beq_iff_eq, Bool.or_eq_true, not_or]
  exact ⟨⟨⟨⟨still_ne h (touched_dw d (by decide) (by decide)), still_ne h (touched_dw d (by decide) (by decide))⟩,
    still_ne h (touched_dw d (by decide) (by decide))⟩, fun x _ => ⟨⟨still_ne h (touched_ax d x (by decide)), still_ne h (touched_ax d x (by decide))⟩,
    still_ne h (touched_ax d x (by decide))⟩⟩, still_recReg h⟩

theorem still_fenceReg : fenceReg d a = false := by
  simp only [fenceReg, Bool.or_eq_false_iff, beq_eq_false_iff_ne, ne_eq]
  exact ⟨⟨⟨⟨still_ne h (touched_low d (by show 0x3100 + d.val * 4 < _; omega)), still_ne h (touched_dw d (by decide) (by decide))⟩, still_chanReg h⟩,
    still_torqueReg h⟩, still_outReg h⟩

/-! ## The operations of a doorway -/

theorem applyRange_still (s : State) (lo hi : Nat) (hr : dw d 4 ≤ lo ∧ hi ≤ dw d 0x1000) : (s.applyRange lo hi).reg a = s.reg a := by
  refine applyRange_reg s lo hi a ?_
  simp only [still, Bool.and_eq_true, Bool.or_eq_true, decide_eq_true_eq] at h
  unfold dw at h hr
  omega

theorem still_winReg : winReg a = false := by
  simp only [winReg, Bool.or_eq_false_iff, beq_eq_false_iff_ne, ne_eq, List.any_eq_false, beq_iff_eq]
  exact ⟨⟨still_ne h (touched_low d (by decide)), still_ne h (touched_low d (by decide))⟩, fun e _ => still_ne h (touched_low d (by show 0x3100 + e.val * 4 < _; omega))⟩


theorem stage_still (s : State) (c e : Nat) (ws : List Nat) : (s.stage c e ws).reg a = s.reg a := stage_reg _ _ _ _ _ (still_recReg h)

theorem stageRec_still (s : State) (r : Rec) : (s.stageRec r).reg a = s.reg a := stageRec_reg _ _ _ (still_recReg h)

theorem evalOutputs_still (s : State) : s.evalOutputs.reg a = s.reg a := evalOutputs_reg _ _ (still_outReg h)

theorem enterWr_still (hs : a ≠ dw d 0) (s : State) (f : Fld) (v : Nat) (hf : f.addr = dw d 0) : (s.wr f v).reg a = s.reg a :=
  reg_wr_other _ _ _ _ (fun e => hs (e.trans hf))

theorem keepTick_still (s : State) : (s.keepTick d).reg a = s.reg a := by
  unfold State.keepTick
  simp (disch := first | (apply touched_win; simp only [dw, ax, en, ch]; omega) | (simp only [dw, ax, en, ch]; omega) | rfl) only [modTopi_reg]

theorem applyObst_still (s : State) : (s.applyObst d).reg a = s.reg a := by
  unfold State.applyObst
  simp (disch := first | (apply touched_win; simp only [dw, ax, en, ch]; omega) | (simp only [dw, ax, en, ch]; omega) | rfl) only [when_reg, ite_self, applyRange_still h]

theorem endHold_still (s : State) : (s.endHold d).reg a = s.reg a := by
  unfold State.endHold
  simp (disch := first | (apply touched_win; simp only [dw, ax, en, ch]; omega) | (simp only [dw, ax, en, ch]; omega) | rfl) only [setF_still h]

theorem applyDoor_still (s : State) : (s.applyDoor d).reg a = s.reg a := by
  unfold State.applyDoor
  simp (disch := first | (apply touched_win; simp only [dw, ax, en, ch]; omega) | (simp only [dw, ax, en, ch]; omega) | rfl) only [reg_ite, when_reg, ite_self, applyRange_still h, modProt_reg]

theorem setCh_still (s : State) (k : KIx) (n : Nat) : (s.setCh d k n).reg a = s.reg a := by
  exact setCh_reg _ _ _ _ _ (still_chanReg h)

theorem evalCh_still (s : State) (k : KIx) : (s.evalCh d k).reg a = s.reg a := by
  exact evalCh_reg _ _ _ _ (still_chanReg h)

theorem evalChans_still (s : State) : (s.evalChans d).reg a = s.reg a := by
  exact evalChans_reg _ _ _ (still_chanReg h)

theorem dropPermit_still (s : State) : (s.dropPermit d).reg a = s.reg a := by
  unfold State.dropPermit
  simp (disch := first | (apply touched_win; simp only [dw, ax, en, ch]; omega) | (simp only [dw, ax, en, ch]; omega) | rfl) only [setF_still h, evalChans_still h]

theorem loseRec_still (s : State) (r : Rec) : (s.loseRec r).reg a = s.reg a := by
  unfold State.loseRec
  simp (disch := first | (apply touched_win; simp only [dw, ax, en, ch]; omega) | (simp only [dw, ax, en, ch]; omega) | rfl) only [reg_ite, ite_self, inc_still h, reg_with_recd]

theorem takeEntry_still (s : State) (r : Rec) : (s.takeEntry r).reg a = s.reg a := by
  unfold State.takeEntry
  generalize (if r.code / 0x1000 = 1 then 512 else 488) = n
  split
  · rw [showFill_reg _ _ (still_recReg h)]; rfl
  · exact loseRec_still h _ _

theorem enterStepDeploy_still (s : State) : (s.enterStepDeploy d).reg a = s.reg a := by
  unfold State.enterStepDeploy
  simp (disch := first | (apply touched_win; simp only [dw, ax, en, ch]; omega) | (simp only [dw, ax, en, ch]; omega) | rfl) only [reg_ite, when_reg, ite_self, wr_still h, setF_still h, stage_still h, modCyc_reg]

theorem lcUpdate_still (s : State) : (s.lcUpdate d).reg a = s.reg a := by
  unfold State.lcUpdate
  simp (disch := first | (apply touched_win; simp only [dw, ax, en, ch]; omega) | (simp only [dw, ax, en, ch]; omega) | rfl) only [reg_ite, ite_self, setF_still h]

theorem lcTestStart_still (s : State) : (s.lcTestStart d).reg a = s.reg a := by
  unfold State.lcTestStart
  simp (disch := first | (apply touched_win; simp only [dw, ax, en, ch]; omega) | (simp only [dw, ax, en, ch]; omega) | rfl) only [reg_ite, ite_self, setF_still h, modProt_reg, evalChans_still h, lcUpdate_still h]

theorem refuseReq_still (s : State) (f : Fld) (hf : touched d f.addr) : (s.refuseReq d f).reg a = s.reg a := by
  unfold State.refuseReq
  rw [setF_still h _ _ _ (touched_win d (by simp only [dw]; omega)), setF_still h _ _ _ hf]

theorem setLock_still (s : State) (on : Bool) : (s.setLock d on).reg a = s.reg a := by
  unfold State.setLock
  simp (disch := first | (apply touched_win; simp only [dw, ax, en, ch]; omega) | (simp only [dw, ax, en, ch]; omega) | rfl) only [reg_ite, ite_self, setF_still h, modSeq_reg, modCyc_reg, evalChans_still h]

theorem showFenced_still (s : State) : (s.showFenced).reg a = s.reg a := by
  unfold State.showFenced
  simp (disch := first | (apply touched_win; simp only [dw, ax, en, ch]; omega) | (simp only [dw, ax, en, ch]; omega) | rfl) only [wr_still h]

theorem showX_still (s : State) (x : AIx) : (s.showX d x).reg a = s.reg a := by
  unfold State.showX
  simp (disch := first | (apply touched_win; simp only [dw, ax, en, ch]; omega) | (simp only [dw, ax, en, ch]; omega) | rfl) only [reg_ite, ite_self, wrS_still h]

theorem endMove_still (s : State) (x : AIx) (setTarget : Bool) : (s.endMove d x setTarget).reg a = s.reg a := by
  unfold State.endMove
  simp (disch := first | (apply touched_win; simp only [dw, ax, en, ch]; omega) | (simp only [dw, ax, en, ch]; omega) | rfl) only [when_reg, ite_self, wrS_still h, setF_still h, modAx_reg, showX_still h]

theorem obstSeen_still (s : State) : (s.obstSeen d).reg a = s.reg a := by
  unfold State.obstSeen
  simp (disch := first | (apply touched_win; simp only [dw, ax, en, ch]; omega) | (simp only [dw, ax, en, ch]; omega) | rfl) only [wr_still h]

theorem setX_still (s : State) (x : AIx) (p : Int) : (s.setX d x p).reg a = s.reg a := by
  unfold State.setX
  simp (disch := first | (apply touched_win; simp only [dw, ax, en, ch]; omega) | (simp only [dw, ax, en, ch]; omega) | rfl) only [wrS_still h, modAx_reg]

theorem stall_still (s : State) (x : AIx) : (s.stall d x).reg a = s.reg a := by
  unfold State.stall
  extract_lets dev st s1 s2 s3 s4 s5
  have e1 : s1.reg a = s.reg a := endMove_still h _ _ _
  have e2 : s2.reg a = s1.reg a := (wrS_still h _ _ _ (touched_ax d x (by decide))).trans (setX_still h _ _ _)
  have e3 : s3.reg a = s2.reg a := (modAx_reg _ _ _ _ _).trans (setF_still h _ _ _ (touched_ax d x (by decide)))
  have e4 : s4.reg a = s3.reg a := setF_still h _ _ _ (touched_ax d x (by decide))
  have e5 : s5.reg a = s4.reg a := (stage_still h _ _ _ _).trans (inc_still h _ _ (touched_ax d x (by decide)))
  have e : s5.reg a = s.reg a := by rw [e5, e4, e3, e2, e1]
  clear_value s5 st
  repeat' split
  all_goals first | with_reducible exact e | exact ((obstSeen_still h _).trans (setF_still h _ _ _ (touched_dw d (by decide) (by decide)))).trans e

theorem startProof_still (s : State) (afterClose : Bool) : (s.startProof d afterClose).reg a = s.reg a := by
  unfold State.startProof
  simp (disch := first | (apply touched_win; simp only [dw, ax, en, ch]; omega) | (simp only [dw, ax, en, ch]; omega) | rfl) only [wr_still h, setF_still h, modTopi_reg]

theorem enterRest_still (s : State) (old st : SeqState) (cause : Nat) : (s.enterRest d old st cause).reg a = s.reg a := by
  unfold State.enterRest
  extract_lets s4 s5 unp s6 s7 s8 s9 s10 s11 s12 s13 s14 s15 s16 s17 s18 s19 s20 s21 s22
  have es4 : s4.reg a = s.reg a := by
    simp only [s4]
    repeat' split
    all_goals first | with_reducible rfl | simp (disch := first | (apply touched_win; simp only [dw, ax, en, ch]; omega) | (simp only [dw, ax, en, ch]; omega) | rfl) only [reg_ite, when_reg, ite_self, wr_still h, setF_still h, modDwy_reg, modSeq_reg, modCyc_reg, modTopi_reg, applyDoor_still h, dropPermit_still h, enterStepDeploy_still h, lcTestStart_still h, refuseReq_still h, setLock_still h, showFenced_still h, startProof_still h]
  have es5 : s5.reg a = s4.reg a := by
    simp only [s5]
    repeat' split
    all_goals first | with_reducible rfl | simp (disch := first | (apply touched_win; simp only [dw, ax, en, ch]; omega) | (simp only [dw, ax, en, ch]; omega) | rfl) only [reg_ite, when_reg, ite_self, wr_still h, setF_still h, modDwy_reg, modSeq_reg, modCyc_reg, modTopi_reg, applyDoor_still h, dropPermit_still h, enterStepDeploy_still h, lcTestStart_still h, refuseReq_still h, setLock_still h, showFenced_still h, startProof_still h]
  have es6 : s6.reg a = s5.reg a := by
    simp only [s6]
    repeat' split
    all_goals first | with_reducible rfl | simp (disch := first | (apply touched_win; simp only [dw, ax, en, ch]; omega) | (simp only [dw, ax, en, ch]; omega) | rfl) only [reg_ite, when_reg, ite_self, wr_still h, setF_still h, modDwy_reg, modSeq_reg, modCyc_reg, modTopi_reg, applyDoor_still h, dropPermit_still h, enterStepDeploy_still h, lcTestStart_still h, refuseReq_still h, setLock_still h, showFenced_still h, startProof_still h]
  have es7 : s7.reg a = s6.reg a := by
    simp only [s7]
    repeat' split
    all_goals first | with_reducible rfl | simp (disch := first | (apply touched_win; simp only [dw, ax, en, ch]; omega) | (simp only [dw, ax, en, ch]; omega) | rfl) only [reg_ite, when_reg, ite_self, wr_still h, setF_still h, modDwy_reg, modSeq_reg, modCyc_reg, modTopi_reg, applyDoor_still h, dropPermit_still h, enterStepDeploy_still h, lcTestStart_still h, refuseReq_still h, setLock_still h, showFenced_still h, startProof_still h]
  have es8 : s8.reg a = s7.reg a := by
    simp only [s8]
    repeat' split
    all_goals first | with_reducible rfl | simp (disch := first | (apply touched_win; simp only [dw, ax, en, ch]; omega) | (simp only [dw, ax, en, ch]; omega) | rfl) only [reg_ite, when_reg, ite_self, wr_still h, setF_still h, modDwy_reg, modSeq_reg, modCyc_reg, modTopi_reg, applyDoor_still h, dropPermit_still h, enterStepDeploy_still h, lcTestStart_still h, refuseReq_still h, setLock_still h, showFenced_still h, startProof_still h]
  have es9 : s9.reg a = s8.reg a := by
    simp only [s9]
    repeat' split
    all_goals first | with_reducible rfl | simp (disch := first | (apply touched_win; simp only [dw, ax, en, ch]; omega) | (simp only [dw, ax, en, ch]; omega) | rfl) only [reg_ite, when_reg, ite_self, wr_still h, setF_still h, modDwy_reg, modSeq_reg, modCyc_reg, modTopi_reg, applyDoor_still h, dropPermit_still h, enterStepDeploy_still h, lcTestStart_still h, refuseReq_still h, setLock_still h, showFenced_still h, startProof_still h]
  have es10 : s10.reg a = s9.reg a := by
    simp only [s10]
    repeat' split
    all_goals first | with_reducible rfl | simp (disch := first | (apply touched_win; simp only [dw, ax, en, ch]; omega) | (simp only [dw, ax, en, ch]; omega) | rfl) only [reg_ite, when_reg, ite_self, wr_still h, setF_still h, modDwy_reg, modSeq_reg, modCyc_reg, modTopi_reg, applyDoor_still h, dropPermit_still h, enterStepDeploy_still h, lcTestStart_still h, refuseReq_still h, setLock_still h, showFenced_still h, startProof_still h]
  have es11 : s11.reg a = s10.reg a := by
    simp only [s11]
    repeat' split
    all_goals first | with_reducible rfl | simp (disch := first | (apply touched_win; simp only [dw, ax, en, ch]; omega) | (simp only [dw, ax, en, ch]; omega) | rfl) only [reg_ite, when_reg, ite_self, wr_still h, setF_still h, modDwy_reg, modSeq_reg, modCyc_reg, modTopi_reg, applyDoor_still h, dropPermit_still h, enterStepDeploy_still h, lcTestStart_still h, refuseReq_still h, setLock_still h, showFenced_still h, startProof_still h]
  have es12 : s12.reg a = s11.reg a := by
    simp only [s12]
    repeat' split
    all_goals first | with_reducible rfl | simp (disch := first | (apply touched_win; simp only [dw, ax, en, ch]; omega) | (simp only [dw, ax, en, ch]; omega) | rfl) only [reg_ite, when_reg, ite_self, wr_still h, setF_still h, modDwy_reg, modSeq_reg, modCyc_reg, modTopi_reg, applyDoor_still h, dropPermit_still h, enterStepDeploy_still h, lcTestStart_still h, refuseReq_still h, setLock_still h, showFenced_still h, startProof_still h]
  have es13 : s13.reg a = s12.reg a := by
    simp only [s13]
    repeat' split
    all_goals first | with_reducible rfl | simp (disch := first | (apply touched_win; simp only [dw, ax, en, ch]; omega) | (simp only [dw, ax, en, ch]; omega) | rfl) only [reg_ite, when_reg, ite_self, wr_still h, setF_still h, modDwy_reg, modSeq_reg, modCyc_reg, modTopi_reg, applyDoor_still h, dropPermit_still h, enterStepDeploy_still h, lcTestStart_still h, refuseReq_still h, setLock_still h, showFenced_still h, startProof_still h]
  have es14 : s14.reg a = s13.reg a := by
    simp only [s14]
    repeat' split
    all_goals first | with_reducible rfl | simp (disch := first | (apply touched_win; simp only [dw, ax, en, ch]; omega) | (simp only [dw, ax, en, ch]; omega) | rfl) only [reg_ite, when_reg, ite_self, wr_still h, setF_still h, modDwy_reg, modSeq_reg, modCyc_reg, modTopi_reg, applyDoor_still h, dropPermit_still h, enterStepDeploy_still h, lcTestStart_still h, refuseReq_still h, setLock_still h, showFenced_still h, startProof_still h]
  have es15 : s15.reg a = s14.reg a := by
    simp only [s15]
    repeat' split
    all_goals first | with_reducible rfl | simp (disch := first | (apply touched_win; simp only [dw, ax, en, ch]; omega) | (simp only [dw, ax, en, ch]; omega) | rfl) only [reg_ite, when_reg, ite_self, wr_still h, setF_still h, modDwy_reg, modSeq_reg, modCyc_reg, modTopi_reg, applyDoor_still h, dropPermit_still h, enterStepDeploy_still h, lcTestStart_still h, refuseReq_still h, setLock_still h, showFenced_still h, startProof_still h]
  have es16 : s16.reg a = s15.reg a := by
    simp only [s16]
    repeat' split
    all_goals first | with_reducible rfl | simp (disch := first | (apply touched_win; simp only [dw, ax, en, ch]; omega) | (simp only [dw, ax, en, ch]; omega) | rfl) only [reg_ite, when_reg, ite_self, wr_still h, setF_still h, modDwy_reg, modSeq_reg, modCyc_reg, modTopi_reg, applyDoor_still h, dropPermit_still h, enterStepDeploy_still h, lcTestStart_still h, refuseReq_still h, setLock_still h, showFenced_still h, startProof_still h]
  have es17 : s17.reg a = s16.reg a := by
    simp only [s17]
    repeat' split
    all_goals first | with_reducible rfl | simp (disch := first | (apply touched_win; simp only [dw, ax, en, ch]; omega) | (simp only [dw, ax, en, ch]; omega) | rfl) only [reg_ite, when_reg, ite_self, wr_still h, setF_still h, modDwy_reg, modSeq_reg, modCyc_reg, modTopi_reg, applyDoor_still h, dropPermit_still h, enterStepDeploy_still h, lcTestStart_still h, refuseReq_still h, setLock_still h, showFenced_still h, startProof_still h]
  have es18 : s18.reg a = s17.reg a := by
    simp only [s18]
    repeat' split
    all_goals first | with_reducible rfl | simp (disch := first | (apply touched_win; simp only [dw, ax, en, ch]; omega) | (simp only [dw, ax, en, ch]; omega) | rfl) only [reg_ite, when_reg, ite_self, wr_still h, setF_still h, modDwy_reg, modSeq_reg, modCyc_reg, modTopi_reg, applyDoor_still h, dropPermit_still h, enterStepDeploy_still h, lcTestStart_still h, refuseReq_still h, setLock_still h, showFenced_still h, startProof_still h]
  have es19 : s19.reg a = s18.reg a := by
    simp only [s19]
    repeat' split
    all_goals first | with_reducible rfl | simp (disch := first | (apply touched_win; simp only [dw, ax, en, ch]; omega) | (simp only [dw, ax, en, ch]; omega) | rfl) only [reg_ite, when_reg, ite_self, wr_still h, setF_still h, modDwy_reg, modSeq_reg, modCyc_reg, modTopi_reg, applyDoor_still h, dropPermit_still h, enterStepDeploy_still h, lcTestStart_still h, refuseReq_still h, setLock_still h, showFenced_still h, startProof_still h]
  have es20 : s20.reg a = s18.reg a := by
    simp only [s20]
    repeat' split
    all_goals first | with_reducible rfl | simp (disch := first | (apply touched_win; simp only [dw, ax, en, ch]; omega) | (simp only [dw, ax, en, ch]; omega) | rfl) only [reg_ite, when_reg, ite_self, wr_still h, setF_still h, modDwy_reg, modSeq_reg, modCyc_reg, modTopi_reg, applyDoor_still h, dropPermit_still h, enterStepDeploy_still h, lcTestStart_still h, refuseReq_still h, setLock_still h, showFenced_still h, startProof_still h]
  have es21 : s21.reg a = s18.reg a := by
    simp only [s21]
    repeat' split
    all_goals first | with_reducible rfl | simp (disch := first | (apply touched_win; simp only [dw, ax, en, ch]; omega) | (simp only [dw, ax, en, ch]; omega) | rfl) only [reg_ite, when_reg, ite_self, wr_still h, setF_still h, modDwy_reg, modSeq_reg, modCyc_reg, modTopi_reg, applyDoor_still h, dropPermit_still h, enterStepDeploy_still h, lcTestStart_still h, refuseReq_still h, setLock_still h, showFenced_still h, startProof_still h, es19, es20]
  have es22 : s22.reg a = s21.reg a := by
    simp only [s22]
    repeat' split
    all_goals first | with_reducible rfl | simp (disch := first | (apply touched_win; simp only [dw, ax, en, ch]; omega) | (simp only [dw, ax, en, ch]; omega) | rfl) only [reg_ite, when_reg, ite_self, wr_still h, setF_still h, modDwy_reg, modSeq_reg, modCyc_reg, modTopi_reg, applyDoor_still h, dropPermit_still h, enterStepDeploy_still h, lcTestStart_still h, refuseReq_still h, setLock_still h, showFenced_still h, startProof_still h]
  repeat' split
  all_goals simp (disch := first | (apply touched_win; simp only [dw, ax, en, ch]; omega) | (simp only [dw, ax, en, ch]; omega) | rfl) only [reg_ite, when_reg, ite_self, wr_still h, setF_still h, modDwy_reg, modSeq_reg, modCyc_reg, modTopi_reg, applyDoor_still h, dropPermit_still h, enterStepDeploy_still h, lcTestStart_still h, refuseReq_still h, setLock_still h, showFenced_still h, startProof_still h, es4, es5, es6, es7, es8, es9, es10, es11, es12, es13, es14, es15, es16, es17, es18, es19, es20, es21, es22]

theorem endStroke_still (s : State) (pass : Bool) (cause : Nat) : (s.endStroke d pass cause).reg a = s.reg a := by
  unfold State.endStroke
  simp (disch := first | (apply touched_win; simp only [dw, ax, en, ch]; omega) | (simp only [dw, ax, en, ch]; omega) | rfl) only [wr_still h, setF_still h, stage_still h, modSeq_reg]

theorem leaveWarning_still (s : State) : (s.leaveWarning d).reg a = s.reg a := by
  unfold State.leaveWarning
  simp (disch := first | (apply touched_win; simp only [dw, ax, en, ch]; omega) | (simp only [dw, ax, en, ch]; omega) | rfl) only [reg_ite, ite_self, stageRec_still h, modObst_reg]

theorem enterSeq_still (hs : a ≠ dw d 0) (s : State) (st : SeqState) (cause : Nat) : (s.enterSeq d st cause).reg a = s.reg a := by
  unfold State.enterSeq
  extract_lets old s1 s2 s3
  have es1 : s1.reg a = s.reg a := by
    simp only [s1]
    repeat' split
    all_goals first | with_reducible rfl | simp (disch := first | (apply touched_win; simp only [dw, ax, en, ch]; omega) | (simp only [dw, ax, en, ch]; omega) | rfl) only [reg_ite, ite_self, wr_still h, stage_still h, endStroke_still h, leaveWarning_still h, enterWr_still h hs]
  have es2 : s2.reg a = s1.reg a := by
    simp only [s2]
    repeat' split
    all_goals first | with_reducible rfl | simp (disch := first | (apply touched_win; simp only [dw, ax, en, ch]; omega) | (simp only [dw, ax, en, ch]; omega) | rfl) only [reg_ite, ite_self, wr_still h, stage_still h, endStroke_still h, leaveWarning_still h, enterWr_still h hs]
  have es3 : s3.reg a = s2.reg a := by
    simp only [s3]
    repeat' split
    all_goals first | with_reducible rfl | simp (disch := first | (apply touched_win; simp only [dw, ax, en, ch]; omega) | (simp only [dw, ax, en, ch]; omega) | rfl) only [reg_ite, ite_self, wr_still h, stage_still h, endStroke_still h, leaveWarning_still h, enterWr_still h hs]
  repeat' split
  all_goals simp (disch := first | (apply touched_win; simp only [dw, ax, en, ch]; omega) | (simp only [dw, ax, en, ch]; omega) | rfl) only [reg_ite, ite_self, wr_still h, stage_still h, endStroke_still h, leaveWarning_still h, enterWr_still h hs, es1, es2, es3]

theorem enter_still (hs : a ≠ dw d 0) (s : State) (st : SeqState) (cause : Nat) : (s.enter d st cause).reg a = s.reg a := by
  unfold State.enter
  simp (disch := first | (apply touched_win; simp only [dw, ax, en, ch]; omega) | (simp only [dw, ax, en, ch]; omega) | rfl) only [enterRest_still h, enterSeq_still h hs]

theorem haltAxis_still (s : State) (x : AIx) : (s.haltAxis d x).reg a = s.reg a := by
  exact haltAxis_reg _ _ _ _ (still_torqueReg h)

theorem denOff_still (s : State) : (s.denOff d).reg a = s.reg a := by
  exact denOff_reg _ _ _ (still_torqueReg h)

theorem sto_still (s : State) (p f : Nat) : (s.sto d p f).reg a = s.reg a := by
  exact sto_reg _ _ _ _ _ (still_torqueReg h)

theorem ss1Start_still (s : State) (cause : Option Nat) (twoHand : Bool) (axn : Nat) : (s.ss1Start d cause twoHand axn).reg a = s.reg a := by
  unfold State.ss1Start
  try simp (disch := first | (apply touched_win; simp only [dw, ax, en, ch]; omega) | (simp only [dw, ax, en, ch]; omega) | rfl) only [reg_ite, ite_self, wr_still h, setF_still h, modAx_reg, modObst_reg, sto_still h]
  repeat' split
  all_goals try with_reducible rfl
  all_goals repeat rw [foldl_reg]
  all_goals intros
  all_goals try simp (disch := first | (apply touched_win; simp only [dw, ax, en, ch]; omega) | (simp only [dw, ax, en, ch]; omega) | rfl) only [reg_ite, ite_self, wr_still h, setF_still h, modAx_reg, modObst_reg, sto_still h]
  all_goals repeat rw [foldl_reg]
  all_goals intros
  all_goals try simp (disch := first | (apply touched_win; simp only [dw, ax, en, ch]; omega) | (simp only [dw, ax, en, ch]; omega) | rfl) only [reg_ite, ite_self, wr_still h, setF_still h, modAx_reg, modObst_reg, sto_still h]

theorem enterEmergency_still (hs : a ≠ dw d 0) (s : State) : (s.enterEmergency d).reg a = s.reg a := by
  unfold State.enterEmergency
  simp (disch := first | (apply touched_win; simp only [dw, ax, en, ch]; omega) | (simp only [dw, ax, en, ch]; omega) | rfl) only [when_reg, ite_self, stage_still h, enter_still h hs, ss1Start_still h]

theorem enterIsolated_still (hs : a ≠ dw d 0) (s : State) : (s.enterIsolated d).reg a = s.reg a := by
  unfold State.enterIsolated
  simp (disch := first | (apply touched_win; simp only [dw, ax, en, ch]; omega) | (simp only [dw, ax, en, ch]; omega) | rfl) only [when_reg, ite_self, stage_still h, enter_still h hs, ss1Start_still h]

theorem prio123_still (hs : a ≠ dw d 0) (s : State) (u : State) (hu : s.prio123 d = some u) : u.reg a = s.reg a := by
  unfold State.prio123 at hu
  try extract_lets at hu
  repeat' split at hu
  all_goals first | cases hu | simp only [Option.some.injEq] at hu | skip
  all_goals try subst hu
  all_goals simp +zetaDelta (disch := first | (apply touched_win; simp only [reg_ite, ite_self, dw, ax, en, ch]; omega) | (simp only [reg_ite, ite_self, dw, ax, en, ch]; omega) | rfl) only [reg_ite, ite_self, ite_self, enter_still h hs, enterEmergency_still h hs, enterIsolated_still h hs]

theorem afterRelease_still (hs : a ≠ dw d 0) (s : State) (cause : Nat) : (s.afterRelease d cause).reg a = s.reg a := by
  unfold State.afterRelease
  simp (disch := first | (apply touched_win; simp only [dw, ax, en, ch]; omega) | (simp only [dw, ax, en, ch]; omega) | rfl) only [reg_ite, ite_self, enter_still h hs]

theorem stopAxis_still (s : State) (x : AIx) (g : Gen) : (s.stopAxis d x g).reg a = s.reg a := by
  unfold State.stopAxis
  simp (disch := first | (apply touched_win; simp only [dw, ax, en, ch]; omega) | (simp only [dw, ax, en, ch]; omega) | rfl) only [reg_ite, ite_self, setF_still h, modAx_reg]

theorem stopLeaves_still (s : State) : (s.stopLeaves d).reg a = s.reg a := by
  unfold State.stopLeaves
  simp (disch := first | (apply touched_win; simp only [dw, ax, en, ch]; omega) | (simp only [dw, ax, en, ch]; omega) | rfl) only [stopAxis_still h]

theorem heldZeroSpeed_still (hs : a ≠ dw d 0) (s : State) : (s.heldZeroSpeed d).reg a = s.reg a := by
  unfold State.heldZeroSpeed
  simp (disch := first | (apply touched_win; simp only [dw, ax, en, ch]; omega) | (simp only [dw, ax, en, ch]; omega) | rfl) only [stage_still h, setLock_still h, enter_still h hs, stopLeaves_still h]

theorem prio4_still (hs : a ≠ dw d 0) (s : State) (u : State) (hu : s.prio4 d = some u) : u.reg a = s.reg a := by
  unfold State.prio4 at hu
  try extract_lets at hu
  repeat' split at hu
  all_goals first | cases hu | simp only [Option.some.injEq] at hu | skip
  all_goals try subst hu
  all_goals simp +zetaDelta (disch := first | (apply touched_win; simp only [reg_ite, ite_self, dw, ax, en, ch]; omega) | (simp only [reg_ite, ite_self, dw, ax, en, ch]; omega) | rfl) only [reg_ite, ite_self, ite_self, enter_still h hs, afterRelease_still h hs, stopAxis_still h, heldZeroSpeed_still h hs]

theorem enterHeld_still (hs : a ≠ dw d 0) (s : State) (cause : Nat) : (s.enterHeld d cause).reg a = s.reg a := by
  unfold State.enterHeld
  simp (disch := first | (apply touched_win; simp only [dw, ax, en, ch]; omega) | (simp only [dw, ax, en, ch]; omega) | rfl) only [when_reg, ite_self, stage_still h, enter_still h hs]

theorem afterReversal_still (hs : a ≠ dw d 0) (s : State) : (s.afterReversal d).reg a = s.reg a := by
  unfold State.afterReversal
  simp (disch := first | (apply touched_win; simp only [dw, ax, en, ch]; omega) | (simp only [dw, ax, en, ch]; omega) | rfl) only [reg_ite, ite_self, enter_still h hs, enterHeld_still h hs]

theorem prio5_still (hs : a ≠ dw d 0) (s : State) (u : State) (hu : s.prio5 d = some u) : u.reg a = s.reg a := by
  unfold State.prio5 at hu
  try extract_lets at hu
  repeat' split at hu
  all_goals first | cases hu | simp only [Option.some.injEq] at hu | skip
  all_goals try subst hu
  all_goals simp +zetaDelta (disch := first | (apply touched_win; simp only [reg_ite, ite_self, dw, ax, en, ch]; omega) | (simp only [reg_ite, ite_self, dw, ax, en, ch]; omega) | rfl) only [reg_ite, ite_self, ite_self, enter_still h hs, sto_still h, afterReversal_still h hs]

theorem prio6_still (hs : a ≠ dw d 0) (s : State) (u : State) (hu : s.prio6 d = some u) : u.reg a = s.reg a := by
  unfold State.prio6 at hu
  try extract_lets at hu
  repeat' split at hu
  all_goals first | cases hu | simp only [Option.some.injEq] at hu | skip
  all_goals try subst hu
  all_goals simp +zetaDelta (disch := first | (apply touched_win; simp only [reg_ite, ite_self, dw, ax, en, ch]; omega) | (simp only [reg_ite, ite_self, dw, ax, en, ch]; omega) | rfl) only [reg_ite, ite_self, ite_self, setF_still h, stage_still h, modSeq_reg, enter_still h hs, stopAxis_still h, enterHeld_still h hs]

theorem hoursReset_still (s : State) : (s.hoursReset d).reg a = s.reg a := by
  unfold State.hoursReset
  simp (disch := first | (apply touched_win; simp only [dw, ax, en, ch]; omega) | (simp only [dw, ax, en, ch]; omega) | rfl) only [wr_still h, setF_still h, modSeq_reg]

theorem endStow_still (hs : a ≠ dw d 0) (s : State) : (s.endStow d).reg a = s.reg a := by
  unfold State.endStow
  simp (disch := first | (apply touched_win; simp only [dw, ax, en, ch]; omega) | (simp only [dw, ax, en, ch]; omega) | rfl) only [reg_ite, when_reg, ite_self, wr_still h, setF_still h, stage_still h, modCyc_reg, modTopi_reg, enter_still h hs, hoursReset_still h]

theorem enterReversing_still (hs : a ≠ dw d 0) (s : State) : (s.enterReversing d).reg a = s.reg a := by
  unfold State.enterReversing
  try simp (disch := first | (apply touched_win; simp only [dw, ax, en, ch]; omega) | (simp only [dw, ax, en, ch]; omega) | rfl) only [setX_still h, enter_still h hs, haltAxis_still h]
  repeat' split
  all_goals try with_reducible rfl
  all_goals repeat rw [foldl_reg]
  all_goals intros
  all_goals try simp (disch := first | (apply touched_win; simp only [dw, ax, en, ch]; omega) | (simp only [dw, ax, en, ch]; omega) | rfl) only [setX_still h, enter_still h hs, haltAxis_still h]
  all_goals repeat rw [foldl_reg]
  all_goals intros
  all_goals try simp (disch := first | (apply touched_win; simp only [dw, ax, en, ch]; omega) | (simp only [dw, ax, en, ch]; omega) | rfl) only [setX_still h, enter_still h hs, haltAxis_still h]

theorem grantPermit_still (s : State) : (s.grantPermit d).reg a = s.reg a := by
  unfold State.grantPermit
  simp (disch := first | (apply touched_win; simp only [dw, ax, en, ch]; omega) | (simp only [dw, ax, en, ch]; omega) | rfl) only [setF_still h, evalChans_still h]

theorem tryRelease_still (hs : a ≠ dw d 0) (s : State) (u : State) (hu : s.tryRelease d = some u) : u.reg a = s.reg a := by
  unfold State.tryRelease at hu
  try extract_lets at hu
  repeat' split at hu
  all_goals first | cases hu | simp only [Option.some.injEq] at hu | skip
  all_goals try subst hu
  all_goals simp +zetaDelta (disch := first | (apply touched_win; simp only [reg_ite, ite_self, dw, ax, en, ch]; omega) | (simp only [reg_ite, ite_self, dw, ax, en, ch]; omega) | rfl) only [reg_ite, ite_self, ite_self, setF_still h, enter_still h hs]

theorem prio7_still (hs : a ≠ dw d 0) (s : State) (u : State) (hu : s.prio7 d = some u) : u.reg a = s.reg a := by
  unfold State.prio7 at hu
  try extract_lets at hu
  repeat' split at hu
  all_goals first | exact tryRelease_still h hs _ _ hu | cases hu | simp only [Option.some.injEq] at hu | skip
  all_goals try subst hu
  all_goals simp +zetaDelta (disch := first | (apply touched_win; simp only [reg_ite, ite_self, dw, ax, en, ch]; omega) | (simp only [reg_ite, ite_self, dw, ax, en, ch]; omega) | rfl) only [reg_ite, ite_self, when_reg, ite_self, setF_still h, modSeq_reg, modCyc_reg, enter_still h hs, sto_still h, enterHeld_still h hs, afterReversal_still h hs, endStow_still h hs, enterReversing_still h hs, grantPermit_still h, tryRelease_still h hs]

theorem openFromHeld_still (hs : a ≠ dw d 0) (s : State) (cause : Nat) : (s.openFromHeld d cause).reg a = s.reg a := by
  unfold State.openFromHeld
  simp (disch := first | (apply touched_win; simp only [dw, ax, en, ch]; omega) | (simp only [dw, ax, en, ch]; omega) | rfl) only [enter_still h hs, grantPermit_still h]

theorem startPhase_still (s : State) (n : Nat) : (s.startPhase d n).reg a = s.reg a := by
  unfold State.startPhase
  simp (disch := first | (apply touched_win; simp only [dw, ax, en, ch]; omega) | (simp only [dw, ax, en, ch]; omega) | rfl) only [reg_ite, when_reg, ite_self, wr_still h, setF_still h, modSeq_reg, modTopi_reg, setLock_still h, startProof_still h]

theorem strokeStart_still (hs : a ≠ dw d 0) (s : State) : (s.strokeStart d).reg a = s.reg a := by
  unfold State.strokeStart
  simp (disch := first | (apply touched_win; simp only [dw, ax, en, ch]; omega) | (simp only [dw, ax, en, ch]; omega) | rfl) only [wr_still h, setF_still h, modSeq_reg, setLock_still h, enter_still h hs, grantPermit_still h, startPhase_still h]

theorem takeOpen_still (s : State) : (s.takeOpen d).reg a = s.reg a := by
  unfold State.takeOpen
  simp (disch := first | (apply touched_win; simp only [dw, ax, en, ch]; omega) | (simp only [dw, ax, en, ch]; omega) | rfl) only [setF_still h, modSeq_reg]

theorem prio8_still (hs : a ≠ dw d 0) (s : State) (u : State) (hu : s.prio8 d = some u) : u.reg a = s.reg a := by
  unfold State.prio8 at hu
  try extract_lets at hu
  repeat' split at hu
  all_goals first | cases hu | simp only [Option.some.injEq] at hu | skip
  all_goals try subst hu
  all_goals simp +zetaDelta (disch := first | (apply touched_win; simp only [reg_ite, ite_self, dw, ax, en, ch]; omega) | (simp only [reg_ite, ite_self, dw, ax, en, ch]; omega) | rfl) only [reg_ite, ite_self, ite_self, inc_still h, enter_still h hs, stopLeaves_still h, openFromHeld_still h hs, strokeStart_still h hs, takeOpen_still h]

theorem refuseReqs_still (s : State) (noOpen noClose : Bool) : (s.refuseReqs d noOpen noClose).reg a = s.reg a := by
  unfold State.refuseReqs
  simp (disch := first | (apply touched_win; simp only [dw, ax, en, ch]; omega) | (simp only [dw, ax, en, ch]; omega) | rfl) only [reg_ite, when_reg, ite_self, wr_still h, modSeq_reg, refuseReq_still h]

theorem refuseOld_still (s s0 : State) : (s.refuseOld s0 d).reg a = s.reg a := by
  exact refuseReqs_still h _ _ _

theorem refuseRest_still (s : State) : (s.refuseRest d).reg a = s.reg a := by
  exact refuseReqs_still h _ _ _

theorem strokeEnds_still (hs : a ≠ dw d 0) (s : State) (c : Nat) : (s.strokeEnds d c).reg a = s.reg a := by
  unfold State.strokeEnds
  simp (disch := first | (apply touched_win; simp only [dw, ax, en, ch]; omega) | (simp only [dw, ax, en, ch]; omega) | rfl) only [reg_ite, ite_self, endHold_still h, endStroke_still h, enter_still h hs]

theorem strokeFail_still (s : State) (cause : Nat) : (s.strokeFail d cause).reg a = s.reg a := by
  unfold State.strokeFail
  simp (disch := first | (apply touched_win; simp only [dw, ax, en, ch]; omega) | (simp only [dw, ax, en, ch]; omega) | rfl) only [reg_ite, ite_self, modSeq_reg, setLock_still h, stopLeaves_still h]

theorem present__still (s : State) (x : AIx) (y2 : Int) : (s.present_ d x y2).reg a = s.reg a := by
  unfold State.present_
  simp (disch := first | (apply touched_win; simp only [dw, ax, en, ch]; omega) | (simp only [dw, ax, en, ch]; omega) | rfl) only [modAx_reg]

theorem strokeTargets_still (s : State) : (s.strokeTargets d).reg a = s.reg a := by
  unfold State.strokeTargets
  simp (disch := first | (apply touched_win; simp only [dw, ax, en, ch]; omega) | (simp only [dw, ax, en, ch]; omega) | rfl) only [reg_ite, ite_self, modSeq_reg, present__still h]

theorem strokeGoes_still (hs : a ≠ dw d 0) (s : State) : (s.strokeGoes d).reg a = s.reg a := by
  unfold State.strokeGoes
  simp (disch := first | (apply touched_win; simp only [dw, ax, en, ch]; omega) | (simp only [dw, ax, en, ch]; omega) | rfl) only [reg_ite, when_reg, ite_self, setF_still h, modSeq_reg, endStroke_still h, enter_still h hs, hoursReset_still h, startPhase_still h, strokeTargets_still h]

theorem strokeRun_still (hs : a ≠ dw d 0) (s : State) : (s.strokeRun d).reg a = s.reg a := by
  unfold State.strokeRun
  split
  · exact strokeEnds_still h hs _ _
  · split
    · rw [strokeEnds_still h hs, strokeFail_still h]
    · split
      · rfl
      · exact strokeGoes_still h hs _

theorem strokeTick_still (hs : a ≠ dw d 0) (s : State) : (s.strokeTick d).reg a = s.reg a := by
  unfold State.strokeTick
  simp (disch := first | (apply touched_win; simp only [dw, ax, en, ch]; omega) | (simp only [dw, ax, en, ch]; omega) | rfl) only [wr_still h, strokeRun_still h hs]

theorem decide__still (hs : a ≠ dw d 0) (s : State) : (s.decide_ d).reg a = s.reg a := by
  unfold State.decide_
  split
  · rename_i u hu; rw [refuseOld_still h, endHold_still h, prio123_still h hs _ _ hu]
  · split
    · rw [refuseRest_still h, strokeTick_still h hs]
    · split
      · rename_i u hu; rw [refuseOld_still h, endHold_still h, prio4_still h hs _ _ hu]
      · split
        · rename_i u hu; rw [refuseOld_still h, endHold_still h, prio5_still h hs _ _ hu]
        · split
          · rename_i u hu; rw [refuseOld_still h, endHold_still h, prio6_still h hs _ _ hu]
          · split
            · exact refuseOld_still h _ _
            · split
              · rename_i u hu; rw [refuseOld_still h, prio7_still h hs _ _ hu]
              · split
                · rename_i u hu; rw [refuseRest_still h, prio8_still h hs _ _ hu]
                · rw [refuseRest_still h]

theorem endMaint_still (s : State) : (s.endMaint d).reg a = s.reg a := by
  unfold State.endMaint
  try simp (disch := first | (apply touched_win; simp only [dw, ax, en, ch]; omega) | (simp only [dw, ax, en, ch]; omega) | rfl) only [reg_ite, ite_self, wrS_still h, setF_still h, setX_still h]
  repeat' split
  all_goals try with_reducible rfl
  all_goals repeat rw [foldl_reg]
  all_goals intros
  all_goals try simp (disch := first | (apply touched_win; simp only [dw, ax, en, ch]; omega) | (simp only [dw, ax, en, ch]; omega) | rfl) only [reg_ite, ite_self, wrS_still h, setF_still h, setX_still h]
  all_goals repeat rw [foldl_reg]
  all_goals intros
  all_goals try simp (disch := first | (apply touched_win; simp only [dw, ax, en, ch]; omega) | (simp only [dw, ax, en, ch]; omega) | rfl) only [reg_ite, ite_self, wrS_still h, setF_still h, setX_still h]

theorem refuseIdle_still (s : State) : (s.refuseIdle d).reg a = s.reg a := by
  unfold State.refuseIdle
  simp (disch := first | (apply touched_win; simp only [dw, ax, en, ch]; omega) | (simp only [dw, ax, en, ch]; omega) | rfl) only [when_reg, ite_self, wr_still h, refuseReq_still h, refuseRest_still h]

theorem fixSignature_still (s : State) : (s.fixSignature d).reg a = s.reg a := by
  unfold State.fixSignature
  try simp (disch := first | (apply touched_win; simp only [dw, ax, en, ch]; omega) | (simp only [dw, ax, en, ch]; omega) | rfl) only [reg_ite, ite_self, setF_still h, modTopi_reg]
  repeat' split
  all_goals try with_reducible rfl
  all_goals repeat rw [foldl_reg]
  all_goals intros
  all_goals try simp (disch := first | (apply touched_win; simp only [dw, ax, en, ch]; omega) | (simp only [dw, ax, en, ch]; omega) | rfl) only [reg_ite, ite_self, setF_still h, modTopi_reg]
  all_goals repeat rw [foldl_reg]
  all_goals intros
  all_goals try simp (disch := first | (apply touched_win; simp only [dw, ax, en, ch]; omega) | (simp only [dw, ax, en, ch]; omega) | rfl) only [reg_ite, ite_self, setF_still h, modTopi_reg]

theorem countObstacle_still (s : State) (c : Nat) : (s.countObstacle d c).reg a = s.reg a := by
  unfold State.countObstacle
  try simp (disch := first | (apply touched_win; simp only [dw, ax, en, ch]; omega) | (simp only [dw, ax, en, ch]; omega) | rfl) only [inc_still h, modCyc_reg]
  repeat' split
  all_goals try with_reducible rfl
  all_goals try simp (disch := first | (apply touched_win; simp only [dw, ax, en, ch]; omega) | (simp only [dw, ax, en, ch]; omega) | rfl) only [inc_still h, modCyc_reg]

theorem obstLevels_still (s : State) : (s.obstLevels d).reg a = s.reg a := by
  unfold State.obstLevels
  simp (disch := first | (apply touched_win; simp only [dw, ax, en, ch]; omega) | (simp only [dw, ax, en, ch]; omega) | rfl) only [setF_still h, obstSeen_still h]

theorem warnRestart_still (s : State) (src : Nat) : (s.warnRestart d src).reg a = s.reg a := by
  unfold State.warnRestart
  simp (disch := first | (apply touched_win; simp only [dw, ax, en, ch]; omega) | (simp only [dw, ax, en, ch]; omega) | rfl) only [reg_ite, ite_self, modObst_reg, modSeq_reg]

theorem fusion_still (s : State) (v : Bool) : (s.fusion d v).reg a = s.reg a := by
  unfold State.fusion
  try simp (disch := first | (apply touched_win; simp only [dw, ax, en, ch]; omega) | (simp only [dw, ax, en, ch]; omega) | rfl) only [reg_ite, ite_self, setF_still h, modObst_reg, ss1Start_still h, countObstacle_still h, obstLevels_still h, warnRestart_still h]
  repeat' split
  all_goals try with_reducible rfl
  all_goals try simp (disch := first | (apply touched_win; simp only [dw, ax, en, ch]; omega) | (simp only [dw, ax, en, ch]; omega) | rfl) only [reg_ite, ite_self, setF_still h, modObst_reg, ss1Start_still h, countObstacle_still h, obstLevels_still h, warnRestart_still h]

theorem tickPrepare_still (s : State) : (s.tickPrepare d).reg a = s.reg a := by
  unfold State.tickPrepare
  simp (disch := first | (apply touched_win; simp only [dw, ax, en, ch]; omega) | (simp only [dw, ax, en, ch]; omega) | rfl) only [reg_ite, when_reg, ite_self, wr_still h, wrSat_still h, setF_still h, modCyc_reg, modTopi_reg, obstSeen_still h, fixSignature_still h, fusion_still h]

theorem tickReady_still (s : State) : (s.tickReady d).reg a = s.reg a := by
  unfold State.tickReady
  simp (disch := first | (apply touched_win; simp only [dw, ax, en, ch]; omega) | (simp only [dw, ax, en, ch]; omega) | rfl) only [when_reg, ite_self, setF_still h, modSeq_reg, stopLeaves_still h, tickPrepare_still h]

theorem tickSees_still (s : State) : (s.tickSees d).reg a = s.reg a := by
  unfold State.tickSees
  simp (disch := first | (apply touched_win; simp only [dw, ax, en, ch]; omega) | (simp only [dw, ax, en, ch]; omega) | rfl) only [applyObst_still h, endMaint_still h, tickReady_still h]

theorem denOn_still (s : State) : (s.denOn d).reg a = s.reg a := by
  unfold State.denOn
  try simp (disch := first | (apply touched_win; simp only [dw, ax, en, ch]; omega) | (simp only [dw, ax, en, ch]; omega) | rfl) only [reg_ite, ite_self, wr_still h, setF_still h, modAx_reg, modDrv_reg, modObst_reg, sto_still h]
  repeat' split
  all_goals try with_reducible rfl
  all_goals repeat rw [foldl_reg]
  all_goals intros
  all_goals try simp (disch := first | (apply touched_win; simp only [dw, ax, en, ch]; omega) | (simp only [dw, ax, en, ch]; omega) | rfl) only [reg_ite, ite_self, wr_still h, setF_still h, modAx_reg, modDrv_reg, modObst_reg, sto_still h]
  all_goals repeat rw [foldl_reg]
  all_goals intros
  all_goals try simp (disch := first | (apply touched_win; simp only [dw, ax, en, ch]; omega) | (simp only [dw, ax, en, ch]; omega) | rfl) only [reg_ite, ite_self, wr_still h, setF_still h, modAx_reg, modDrv_reg, modObst_reg, sto_still h]

theorem denOnMeasured_still (s : State) : (s.denOnMeasured d).reg a = s.reg a := by
  unfold State.denOnMeasured
  try simp (disch := first | (apply touched_win; simp only [dw, ax, en, ch]; omega) | (simp only [dw, ax, en, ch]; omega) | rfl) only [reg_ite, ite_self, wrS_still h, setX_still h, denOn_still h]
  repeat' split
  all_goals try with_reducible rfl
  all_goals repeat rw [foldl_reg]
  all_goals intros
  all_goals try simp (disch := first | (apply touched_win; simp only [dw, ax, en, ch]; omega) | (simp only [dw, ax, en, ch]; omega) | rfl) only [reg_ite, ite_self, wrS_still h, setX_still h, denOn_still h]
  all_goals repeat rw [foldl_reg]
  all_goals intros
  all_goals try simp (disch := first | (apply touched_win; simp only [dw, ax, en, ch]; omega) | (simp only [dw, ax, en, ch]; omega) | rfl) only [reg_ite, ite_self, wrS_still h, setX_still h, denOn_still h]

theorem lockDrop_still (s : State) : (s.lockDrop d).reg a = s.reg a := by
  exact lockDrop_reg _ _ _ (still_chanReg h)

theorem torqueOff_still (s : State) : (s.torqueOff d).reg a = s.reg a := by
  exact torqueOff_reg _ _ _ (still_torqueReg h)

theorem fence_still (s : State) (n : Nat) : (s.fence d n).reg a = s.reg a := by
  exact fence_reg _ _ _ _ (still_fenceReg h)

theorem rejectTarget_still (s : State) (x : AIx) : (s.rejectTarget d x).reg a = s.reg a := by
  unfold State.rejectTarget
  simp (disch := first | (apply touched_win; simp only [dw, ax, en, ch]; omega) | (simp only [dw, ax, en, ch]; omega) | rfl) only [setF_still h, inc_still h]

theorem denService_still (s : State) : (s.denService d).reg a = s.reg a := by
  unfold State.denService
  simp (disch := first | (apply touched_win; simp only [dw, ax, en, ch]; omega) | (simp only [dw, ax, en, ch]; omega) | rfl) only [reg_ite, ite_self, stage_still h, denOff_still h, denOn_still h, denOnMeasured_still h, fence_still h]

theorem presentTargets_still (s : State) : (s.presentTargets d).reg a = s.reg a := by
  unfold State.presentTargets
  try simp (disch := first | (apply touched_win; simp only [dw, ax, en, ch]; omega) | (simp only [dw, ax, en, ch]; omega) | rfl) only [reg_ite, ite_self, modSeq_reg, stopAxis_still h, present__still h]
  repeat' split
  all_goals try with_reducible rfl
  all_goals try simp (disch := first | (apply touched_win; simp only [dw, ax, en, ch]; omega) | (simp only [dw, ax, en, ch]; omega) | rfl) only [reg_ite, ite_self, modSeq_reg, stopAxis_still h, present__still h]

theorem tickServe_still (s : State) : (s.tickServe d).reg a = s.reg a := by
  unfold State.tickServe
  simp (disch := first | (apply touched_win; simp only [dw, ax, en, ch]; omega) | (simp only [dw, ax, en, ch]; omega) | rfl) only [when_reg, ite_self, modSeq_reg, denService_still h, presentTargets_still h]

theorem seqTick_still (hs : a ≠ dw d 0) (s : State) : (s.seqTick d).reg a = s.reg a := by
  unfold State.seqTick
  extract_lets t
  have e : t.reg a = s.reg a := (applyObst_still h _).trans (endMaint_still h _)
  rw [← e]
  clear_value t
  split
  · rw [refuseIdle_still h]
    split
    · rename_i u hu; exact prio123_still h hs _ _ hu
    · exact wr_still h _ _ _ (touched_dw d (by decide) (by decide))
  · split
    · rw [tickServe_still h, decide__still h hs, tickSees_still h, e]
    · split
      · exact refuseOld_still h _ _
      · exact refuseIdle_still h _

theorem fenceClear_still (s : State) (src : Nat) : (s.fenceClear d src).reg a = s.reg a := by
  unfold State.fenceClear
  simp (disch := first | (apply touched_win; simp only [dw, ax, en, ch]; omega) | (simp only [dw, ax, en, ch]; omega) | rfl) only [when_reg, ite_self, wr_still h, setBit_still h]

theorem requestRecord_still (s : State) (ms : Nat) (acted : Bool) : (s.requestRecord ms acted).reg a = s.reg a := by
  unfold State.requestRecord
  simp (disch := first | (apply touched_win; simp only [dw, ax, en, ch]; omega) | (simp only [dw, ax, en, ch]; omega) | rfl) only [reg_ite, ite_self, stage_still h, reg_with_trn]

theorem resetResult_still (s : State) (src res : Nat) (count : Bool) : (s.resetResult d src res count).reg a = s.reg a := by
  unfold State.resetResult
  simp (disch := first | (apply touched_win; simp only [dw, ax, en, ch]; omega) | (simp only [dw, ax, en, ch]; omega) | rfl) only [when_reg, ite_self, wr_still h, inc_still h]

theorem judgedEdge_still (s : State) (en_ : HeldEdge) (left : Bool) : (s.judgedEdge d en_ left).reg a = s.reg a := by
  unfold State.judgedEdge
  try simp (disch := first | (apply touched_win; simp only [dw, ax, en, ch]; omega) | (simp only [dw, ax, en, ch]; omega) | rfl) only [reg_ite, ite_self, stage_still h, requestRecord_still h, resetResult_still h]
  repeat' split
  all_goals try with_reducible rfl
  all_goals try simp (disch := first | (apply touched_win; simp only [dw, ax, en, ch]; omega) | (simp only [dw, ax, en, ch]; omega) | rfl) only [reg_ite, ite_self, stage_still h, requestRecord_still h, resetResult_still h]

theorem secondFault_still (s : State) (code : Nat) : (s.secondFault d code).reg a = s.reg a := by
  unfold State.secondFault
  simp (disch := first | (apply touched_win; simp only [dw, ax, en, ch]; omega) | (simp only [dw, ax, en, ch]; omega) | rfl) only [reg_ite, ite_self, stage_still h, fence_still h]

theorem fault_still (s : State) (c : Nat) : (s.fault d c).reg a = s.reg a := by
  exact fault_reg _ _ _ _ (still_ne h (touched_low d (by decide))) (still_fenceReg h)

theorem showWindows_still (s : State) : (s.showWindows).reg a = s.reg a := by
  exact showWindows_reg _ _ (still_winReg h)

theorem closeWin_still (s : State) (kind n : Nat) : (s.closeWin kind n).reg a = s.reg a := by
  exact closeWin_reg _ _ _ _ (still_winReg h)

theorem headCmd_still (s : State) (cmd : Nat) : (s.headCmd d cmd).reg a = s.reg a := by
  unfold State.headCmd
  simp (disch := first | (apply touched_win; simp only [dw, ax, en, ch]; omega) | (simp only [dw, ax, en, ch]; omega) | rfl) only [modHead_reg]

theorem showStale_still (s : State) : (s.showStale d).reg a = s.reg a := by
  unfold State.showStale
  try simp (disch := first | (apply touched_win; simp only [dw, ax, en, ch]; omega) | (simp only [dw, ax, en, ch]; omega) | rfl) only [setF_still h]
  repeat' split
  all_goals try with_reducible rfl
  all_goals try simp (disch := first | (apply touched_win; simp only [dw, ax, en, ch]; omega) | (simp only [dw, ax, en, ch]; omega) | rfl) only [setF_still h]

theorem driveTrain_still (s : State) : (s.driveTrain d).reg a = s.reg a := by
  unfold State.driveTrain
  simp (disch := first | (apply touched_win; simp only [dw, ax, en, ch]; omega) | (simp only [dw, ax, en, ch]; omega) | rfl) only [reg_ite, ite_self, wr_still h, setF_still h, modDrv_reg, torqueOff_still h]

theorem openWin_still (s : State) (kind n : Nat) : (s.openWin kind n).reg a = s.reg a := by
  exact openWin_reg _ _ _ _ (still_winReg h)

theorem stallAll_still (s : State) (was : List AIx) : (s.stallAll d was).reg a = s.reg a := by
  unfold State.stallAll
  try simp (disch := first | (apply touched_win; simp only [dw, ax, en, ch]; omega) | (simp only [dw, ax, en, ch]; omega) | rfl) only [stall_still h]
  repeat' split
  all_goals try with_reducible rfl
  all_goals repeat rw [foldl_reg]
  all_goals intros
  all_goals try simp (disch := first | (apply touched_win; simp only [dw, ax, en, ch]; omega) | (simp only [dw, ax, en, ch]; omega) | rfl) only [stall_still h]
  all_goals repeat rw [foldl_reg]
  all_goals intros
  all_goals try simp (disch := first | (apply touched_win; simp only [dw, ax, en, ch]; omega) | (simp only [dw, ax, en, ch]; omega) | rfl) only [stall_still h]

theorem driveRetrain_still (s : State) (cause : Nat) : (s.driveRetrain d cause).reg a = s.reg a := by
  unfold State.driveRetrain
  simp (disch := first | (apply touched_win; simp only [dw, ax, en, ch]; omega) | (simp only [dw, ax, en, ch]; omega) | rfl) only [when_reg, ite_self, inc_still h, stage_still h, fault_still h, closeWin_still h, driveTrain_still h, openWin_still h, stallAll_still h]

theorem headTrain_still (s : State) : (s.headTrain d).reg a = s.reg a := by
  unfold State.headTrain
  simp (disch := first | (apply touched_win; simp only [dw, ax, en, ch]; omega) | (simp only [dw, ax, en, ch]; omega) | rfl) only [when_reg, ite_self, wr_still h, setF_still h, modHead_reg, headCmd_still h, showStale_still h]

theorem headBringup_still (s : State) : (s.headBringup d).reg a = s.reg a := by
  unfold State.headBringup
  simp (disch := first | (apply touched_win; simp only [dw, ax, en, ch]; omega) | (simp only [dw, ax, en, ch]; omega) | rfl) only [closeWin_still h, openWin_still h, headTrain_still h]

theorem headRetrain_still (s : State) (cause : Nat) : (s.headRetrain d cause).reg a = s.reg a := by
  unfold State.headRetrain
  simp (disch := first | (apply touched_win; simp only [dw, ax, en, ch]; omega) | (simp only [dw, ax, en, ch]; omega) | rfl) only [when_reg, ite_self, inc_still h, stage_still h, fault_still h, headBringup_still h]

theorem showStanding_still (s : State) : (s.showStanding d).reg a = s.reg a := by
  unfold State.showStanding
  simp (disch := first | (apply touched_win; simp only [dw, ax, en, ch]; omega) | (simp only [dw, ax, en, ch]; omega) | rfl) only [setF_still h]

theorem standingFault_still (s : State) (code : Nat) : (s.standingFault d code).reg a = s.reg a := by
  unfold State.standingFault
  simp (disch := first | (apply touched_win; simp only [dw, ax, en, ch]; omega) | (simp only [dw, ax, en, ch]; omega) | rfl) only [fault_still h, showStanding_still h]

theorem headFail_still (s : State) : (s.headFail d).reg a = s.reg a := by
  unfold State.headFail
  try simp (disch := first | (apply touched_win; simp only [dw, ax, en, ch]; omega) | (simp only [dw, ax, en, ch]; omega) | rfl) only [reg_ite, ite_self, setF_still h, stage_still h, modHead_reg, closeWin_still h, standingFault_still h]
  repeat' split
  all_goals try with_reducible rfl
  all_goals try simp (disch := first | (apply touched_win; simp only [dw, ax, en, ch]; omega) | (simp only [dw, ax, en, ch]; omega) | rfl) only [reg_ite, ite_self, setF_still h, stage_still h, modHead_reg, closeWin_still h, standingFault_still h]

theorem headCfg_still (s : State) : (s.headCfg d).reg a = s.reg a := by
  unfold State.headCfg
  simp (disch := first | (apply touched_win; simp only [dw, ax, en, ch]; omega) | (simp only [dw, ax, en, ch]; omega) | rfl) only [setF_still h, modHead_reg]

theorem modModels_still (s : State) (f : List MEntry → List MEntry) : (s.modModels f).reg a = s.reg a := by
  unfold State.modModels
  simp (disch := first | (apply touched_win; simp only [dw, ax, en, ch]; omega) | (simp only [dw, ax, en, ch]; omega) | rfl) only [reg_with_img]

theorem dropModel_still (s : State) (d2 kind : Nat) : (s.dropModel d2 kind).reg a = s.reg a := by
  unfold State.dropModel
  simp (disch := first | (apply touched_win; simp only [dw, ax, en, ch]; omega) | (simp only [dw, ax, en, ch]; omega) | rfl) only [modModels_still h]

theorem dropOffs_still (s : State) (d2 : Nat) : (s.dropOffs d2).reg a = s.reg a := by
  unfold State.dropOffs
  simp (disch := first | (apply touched_win; simp only [dw, ax, en, ch]; omega) | (simp only [dw, ax, en, ch]; omega) | rfl) only [reg_with_img]

theorem disarmModel_still (s : State) : (s.disarmModel d).reg a = s.reg a := by
  unfold State.disarmModel
  try simp (disch := first | (apply touched_win; simp only [dw, ax, en, ch]; omega) | (simp only [dw, ax, en, ch]; omega) | rfl) only [reg_ite, ite_self, wr_still h, reg_with_img]
  repeat' split
  all_goals try with_reducible rfl
  all_goals try simp (disch := first | (apply touched_win; simp only [dw, ax, en, ch]; omega) | (simp only [dw, ax, en, ch]; omega) | rfl) only [reg_ite, ite_self, wr_still h, reg_with_img]

theorem dropPending_still (s : State) (cause : Nat) : (s.dropPending d cause).reg a = s.reg a := by
  unfold State.dropPending
  simp (disch := first | (apply touched_win; simp only [dw, ax, en, ch]; omega) | (simp only [dw, ax, en, ch]; omega) | rfl) only [reg_ite, ite_self, wr_still h, setF_still h, stage_still h, modTopi_reg, dropModel_still h, disarmModel_still h]

theorem modelCheck_still (s : State) : (s.modelCheck d).reg a = s.reg a := by
  unfold State.modelCheck
  simp (disch := first | (apply touched_win; simp only [dw, ax, en, ch]; omega) | (simp only [dw, ax, en, ch]; omega) | rfl) only [reg_ite, when_reg, ite_self, wr_still h, stage_still h, modTopi_reg, dropModel_still h, dropOffs_still h, dropPending_still h]

theorem headAdvance_still (s : State) : (s.headAdvance d).reg a = s.reg a := by
  unfold State.headAdvance
  try simp (disch := first | (apply touched_win; simp only [dw, ax, en, ch]; omega) | (simp only [dw, ax, en, ch]; omega) | rfl) only [reg_ite, ite_self, wr_still h, setF_still h, modHead_reg, headCmd_still h]
  repeat' split
  all_goals try with_reducible rfl
  all_goals try simp (disch := first | (apply touched_win; simp only [dw, ax, en, ch]; omega) | (simp only [dw, ax, en, ch]; omega) | rfl) only [reg_ite, ite_self, wr_still h, setF_still h, modHead_reg, headCmd_still h]

theorem calCheck_still (s : State) : (s.calCheck d).reg a = s.reg a := by
  unfold State.calCheck
  simp (disch := first | (apply touched_win; simp only [dw, ax, en, ch]; omega) | (simp only [dw, ax, en, ch]; omega) | rfl) only [reg_ite, ite_self, wr_still h, setF_still h, stage_still h, modHead_reg, headCmd_still h, headFail_still h]

theorem applyEnc_still (s : State) (x : AIx) : (s.applyEnc d x).reg a = s.reg a := by
  unfold State.applyEnc
  simp (disch := first | (apply touched_win; simp only [dw, ax, en, ch]; omega) | (simp only [dw, ax, en, ch]; omega) | rfl) only [reg_ite, when_reg, ite_self, setF_still h, applyRange_still h]

theorem breachCheck_still (s : State) (x : AIx) : (s.breachCheck d x).reg a = s.reg a := by
  unfold State.breachCheck
  simp (disch := first | (apply touched_win; simp only [dw, ax, en, ch]; omega) | (simp only [dw, ax, en, ch]; omega) | rfl) only [reg_ite, ite_self, setF_still h, stage_still h, modAx_reg, sto_still h]

theorem currentFrame_still (s : State) (x : AIx) : (s.currentFrame d x).reg a = s.reg a := by
  unfold State.currentFrame
  simp (disch := first | (apply touched_win; simp only [dw, ax, en, ch]; omega) | (simp only [dw, ax, en, ch]; omega) | rfl) only [reg_ite, when_reg, ite_self, wr_still h, wrSat_still h, setF_still h, modAx_reg, modCyc_reg]

theorem deviationFrame_still (s : State) (x : AIx) : (s.deviationFrame d x).reg a = s.reg a := by
  unfold State.deviationFrame
  simp (disch := first | (apply touched_win; simp only [dw, ax, en, ch]; omega) | (simp only [dw, ax, en, ch]; omega) | rfl) only [reg_ite, ite_self, wrS_still h, modAx_reg, stall_still h]

theorem profMiss_still (s : State) (q p : Int) : (s.profMiss d q p).reg a = s.reg a := by
  unfold State.profMiss
  simp (disch := first | (apply touched_win; simp only [dw, ax, en, ch]; omega) | (simp only [dw, ax, en, ch]; omega) | rfl) only [reg_ite, ite_self, modTopi_reg]

theorem profSample_still (s : State) (x : AIx) (q p f : Int) : (s.profSample d x q p f).reg a = s.reg a := by
  unfold State.profSample
  simp (disch := first | (apply touched_win; simp only [dw, ax, en, ch]; omega) | (simp only [dw, ax, en, ch]; omega) | rfl) only [reg_ite, ite_self, modTopi_reg]

theorem forceFrame_still (s : State) (x : AIx) (fresh : Bool) : (s.forceFrame d x fresh).reg a = s.reg a := by
  unfold State.forceFrame
  extract_lets run f q s1 isOver s2 n1 n2 s3 closing pk s4 s5 s6
  have e2 : s2.reg a = s.reg a := (modAx_reg _ _ _ _ _).trans (modAx_reg _ _ _ _ _)
  have e3 : s3.reg a = s2.reg a := by
    simp only [s3]
    split
    · exact (setF_still h _ _ _ (touched_dw d (by decide) (by decide))).trans (wrS_still h _ _ _ (touched_dw d (by decide) (by decide)))
    · exact (setF_still h _ _ _ (touched_dw d (by decide) (by decide))).trans (wrS_still h _ _ _ (touched_dw d (by decide) (by decide)))
  have hp : touched d pk.addr := by
    simp only [pk]; split <;> exact touched_dw d (by decide) (by decide)
  have e4 : s4.reg a = s3.reg a := by
    simp only [s4]
    unfold State.when
    split
    · exact wrS_still h _ _ _ hp
    · rfl
  have e5 : s5.reg a = s4.reg a := obstSeen_still h _
  have e6 : s6.reg a = s5.reg a := by
    simp only [s6]
    split
    · exact modTopi_reg _ _ _ _
    · rfl
  have e : s6.reg a = s.reg a := by rw [e6, e5, e4, e3, e2]
  clear_value s6 s2 q
  repeat' split
  all_goals first | with_reducible exact e | exact e2 | exact (profSample_still h _ _ _ _ _).trans e | exact (profMiss_still h _ _ _).trans e

theorem moveFrame_still (s : State) (x : AIx) : (s.moveFrame d x).reg a = s.reg a := by
  unfold State.moveFrame
  simp (disch := first | (apply touched_win; simp only [dw, ax, en, ch]; omega) | (simp only [dw, ax, en, ch]; omega) | rfl) only [reg_ite, ite_self, modAx_reg, showX_still h, endMove_still h]

theorem extend_still (s : State) (x : AIx) : (s.extend d x).reg a = s.reg a := by
  unfold State.extend
  simp (disch := first | (apply touched_win; simp only [dw, ax, en, ch]; omega) | (simp only [dw, ax, en, ch]; omega) | rfl) only [modEnc_reg]

theorem posUpdate_still (s : State) (x : AIx) : (s.posUpdate d x).reg a = s.reg a := by
  unfold State.posUpdate
  simp (disch := first | (apply touched_win; simp only [dw, ax, en, ch]; omega) | (simp only [dw, ax, en, ch]; omega) | rfl) only [wrS_still h, setF_still h, extend_still h]

theorem atRest_still (s : State) (x : AIx) : (s.atRest d x).reg a = s.reg a := by
  unfold State.atRest
  simp (disch := first | (apply touched_win; simp only [dw, ax, en, ch]; omega) | (simp only [dw, ax, en, ch]; omega) | rfl) only [setF_still h]

theorem restFrame_still (s : State) (x : AIx) : (s.restFrame d x).reg a = s.reg a := by
  unfold State.restFrame
  simp (disch := first | (apply touched_win; simp only [dw, ax, en, ch]; omega) | (simp only [dw, ax, en, ch]; omega) | rfl) only [reg_ite, when_reg, ite_self, setF_still h, modAx_reg, atRest_still h]

theorem stopFrame_still (s : State) (x : AIx) : (s.stopFrame d x).reg a = s.reg a := by
  unfold State.stopFrame
  simp (disch := first | (apply touched_win; simp only [dw, ax, en, ch]; omega) | (simp only [dw, ax, en, ch]; omega) | rfl) only [reg_ite, ite_self, modAx_reg, showX_still h, endMove_still h]

theorem applyMove_still (s : State) (x : AIx) : (s.applyMove d x).reg a = s.reg a := by
  unfold State.applyMove
  simp (disch := first | (apply touched_win; simp only [dw, ax, en, ch]; omega) | (simp only [dw, ax, en, ch]; omega) | rfl) only [reg_ite, when_reg, ite_self, applyRange_still h, modAx_reg, setX_still h]

theorem acceptTarget_still (s : State) (x : AIx) (p : Int) (host : Bool) : (s.acceptTarget d x p host).reg a = s.reg a := by
  unfold State.acceptTarget
  simp (disch := first | (apply touched_win; simp only [dw, ax, en, ch]; omega) | (simp only [dw, ax, en, ch]; omega) | rfl) only [reg_ite, ite_self, wr_still h, wrS_still h, setF_still h, modAx_reg, showX_still h, applyMove_still h]

theorem targetFrame_still (s : State) (x : AIx) : (s.targetFrame d x).reg a = s.reg a := by
  unfold State.targetFrame
  try simp (disch := first | (apply touched_win; simp only [dw, ax, en, ch]; omega) | (simp only [dw, ax, en, ch]; omega) | rfl) only [reg_ite, when_reg, ite_self, setF_still h, modAx_reg, rejectTarget_still h, acceptTarget_still h]
  repeat' split
  all_goals try with_reducible rfl
  all_goals try simp (disch := first | (apply touched_win; simp only [dw, ax, en, ch]; omega) | (simp only [dw, ax, en, ch]; omega) | rfl) only [reg_ite, when_reg, ite_self, setF_still h, modAx_reg, rejectTarget_still h, acceptTarget_still h]

theorem axisFrame_still (s : State) (x : AIx) (fresh : Bool) : (s.axisFrame d x fresh).reg a = s.reg a := by
  unfold State.axisFrame
  try simp (disch := first | (apply touched_win; simp only [dw, ax, en, ch]; omega) | (simp only [dw, ax, en, ch]; omega) | rfl) only [reg_ite, ite_self, wrSat_still h, setF_still h, modAx_reg, stall_still h, applyEnc_still h, breachCheck_still h, currentFrame_still h, deviationFrame_still h, forceFrame_still h, moveFrame_still h, posUpdate_still h, restFrame_still h, stopFrame_still h, targetFrame_still h]
  repeat' split
  all_goals try with_reducible rfl
  all_goals try simp (disch := first | (apply touched_win; simp only [dw, ax, en, ch]; omega) | (simp only [dw, ax, en, ch]; omega) | rfl) only [reg_ite, ite_self, wrSat_still h, setF_still h, modAx_reg, stall_still h, applyEnc_still h, breachCheck_still h, currentFrame_still h, deviationFrame_still h, forceFrame_still h, moveFrame_still h, posUpdate_still h, restFrame_still h, stopFrame_still h, targetFrame_still h]

theorem modEmu_still (s : State) (en_ : Fin 8) (f : EmuH → EmuH) : (s.modEmu en_ f).reg a = s.reg a := by
  unfold State.modEmu
  simp (disch := first | (apply touched_win; simp only [dw, ax, en, ch]; omega) | (simp only [dw, ax, en, ch]; omega) | rfl) only [reg_with_trn]

theorem emuFrame_still (s : State) (e : Fin 8) (x : AIx) : (s.emuFrame e d x).reg a = s.reg a := by
  unfold State.emuFrame
  simp (disch := first | (apply touched_win; simp only [dw, ax, en, ch]; omega) | (simp only [dw, ax, en, ch]; omega) | rfl) only [reg_ite, ite_self, wr_still h, wrS_still h, setF_still h, stage_still h, modEmu_still h]

theorem emuFrames_still (s : State) : (s.emuFrames d).reg a = s.reg a := by
  unfold State.emuFrames
  rw [foldl_reg]
  intro t e _
  dsimp only
  split
  · exact emuFrame_still h _ _ _
  · rfl

theorem sendDrive_still (s : State) : (s.sendDrive d).reg a = s.reg a := by
  unfold State.sendDrive
  simp (disch := first | (apply touched_win; simp only [dw, ax, en, ch]; omega) | (simp only [dw, ax, en, ch]; omega) | rfl) only [reg_ite, ite_self, modDrv_reg]

theorem ss1Check_still (s : State) : (s.ss1Check d).reg a = s.reg a := by
  unfold State.ss1Check
  simp (disch := first | (apply touched_win; simp only [dw, ax, en, ch]; omega) | (simp only [dw, ax, en, ch]; omega) | rfl) only [reg_ite, ite_self, sto_still h]

theorem denFault_still (s : State) (out kind : Nat) : (s.denFault d out kind).reg a = s.reg a := by
  unfold State.denFault
  simp (disch := first | (apply touched_win; simp only [dw, ax, en, ch]; omega) | (simp only [dw, ax, en, ch]; omega) | rfl) only [reg_ite, ite_self, setF_still h, stage_still h, fence_still h, fault_still h]

theorem cntErr_still (s : State) (x : AIx) : (s.cntErr d x).reg a = s.reg a := by
  unfold State.cntErr
  simp (disch := first | (apply touched_win; simp only [dw, ax, en, ch]; omega) | (simp only [dw, ax, en, ch]; omega) | rfl) only [setF_still h, modEnc_reg]

theorem indexLatch_still (s : State) (x : AIx) : (s.indexLatch d x).reg a = s.reg a := by
  unfold State.indexLatch
  simp (disch := first | (apply touched_win; simp only [dw, ax, en, ch]; omega) | (simp only [dw, ax, en, ch]; omega) | rfl) only [reg_ite, ite_self, wr_still h, wrS_still h, setF_still h, inc_still h, stage_still h, modEnc_reg, fault_still h, cntErr_still h]

theorem indexStep_still (s : State) (x : AIx) (en_ : EncH) : (s.indexStep d x en_).reg a = s.reg a := by
  unfold State.indexStep
  simp (disch := first | (apply touched_win; simp only [dw, ax, en, ch]; omega) | (simp only [dw, ax, en, ch]; omega) | rfl) only [when_reg, ite_self, indexLatch_still h]

theorem dirChange_still (s : State) (x : AIx) (down : Bool) : (s.dirChange d x down).reg a = s.reg a := by
  unfold State.dirChange
  simp (disch := first | (apply touched_win; simp only [dw, ax, en, ch]; omega) | (simp only [dw, ax, en, ch]; omega) | rfl) only [reg_ite, ite_self, setF_still h, inc_still h, stage_still h, modEnc_reg]

theorem countOne_still (s : State) (x : AIx) (up : Bool) : (s.countOne d x up).reg a = s.reg a := by
  unfold State.countOne
  simp (disch := first | (apply touched_win; simp only [dw, ax, en, ch]; omega) | (simp only [dw, ax, en, ch]; omega) | rfl) only [reg_ite, ite_self, wr_still h, setF_still h, modEnc_reg, dirChange_still h]

theorem encoderLoss_still (s : State) (x : AIx) (cause : Nat) : (s.encoderLoss d x cause).reg a = s.reg a := by
  unfold State.encoderLoss
  simp (disch := first | (apply touched_win; simp only [dw, ax, en, ch]; omega) | (simp only [dw, ax, en, ch]; omega) | rfl) only [reg_ite, ite_self, setF_still h, stage_still h, fence_still h, fault_still h, cntErr_still h]

theorem illegalTransition_still (s : State) (x : AIx) : (s.illegalTransition d x).reg a = s.reg a := by
  unfold State.illegalTransition
  simp (disch := first | (apply touched_win; simp only [dw, ax, en, ch]; omega) | (simp only [dw, ax, en, ch]; omega) | rfl) only [reg_ite, ite_self, setF_still h, inc_still h, stage_still h, modEnc_reg, fault_still h, cntErr_still h, encoderLoss_still h]

theorem quadSample_still (s : State) (x : AIx) (va vb : Bool) : (s.quadSample d x va vb).reg a = s.reg a := by
  unfold State.quadSample
  simp (disch := first | (apply touched_win; simp only [dw, ax, en, ch]; omega) | (simp only [dw, ax, en, ch]; omega) | rfl) only [reg_ite, ite_self, modEnc_reg, countOne_still h, illegalTransition_still h]

theorem setOrigin_still (s : State) (x : AIx) (ext p : Int) : (s.setOrigin d x ext p).reg a = s.reg a := by
  unfold State.setOrigin
  simp (disch := first | (apply touched_win; simp only [dw, ax, en, ch]; omega) | (simp only [dw, ax, en, ch]; omega) | rfl) only [wrS_still h, modAx_reg, modEnc_reg, posUpdate_still h]

theorem plausErr_still (s : State) (i : Nat) : (s.plausErr d i).reg a = s.reg a := by
  unfold State.plausErr
  simp (disch := first | (apply touched_win; simp only [dw, ax, en, ch]; omega) | (simp only [dw, ax, en, ch]; omega) | rfl) only [reg_ite, ite_self, wr_still h, setF_still h, stage_still h, modLock_reg, fault_still h]

theorem handleOperate_still (s : State) : (s.handleOperate d).reg a = s.reg a := by
  unfold State.handleOperate
  simp (disch := first | (apply touched_win; simp only [dw, ax, en, ch]; omega) | (simp only [dw, ax, en, ch]; omega) | rfl) only [reg_ite, when_reg, ite_self, setF_still h, inc_still h, evalOutputs_still h, ss1Start_still h]

theorem guardShort_still (s : State) : (s.guardShort d).reg a = s.reg a := by
  unfold State.guardShort
  simp (disch := first | (apply touched_win; simp only [dw, ax, en, ch]; omega) | (simp only [dw, ax, en, ch]; omega) | rfl) only [reg_ite, ite_self, stage_still h, modProt_reg, fault_still h]

theorem handleShort_still (s : State) (chn kind : Nat) : (s.handleShort d chn kind).reg a = s.reg a := by
  unfold State.handleShort
  simp (disch := first | (apply touched_win; simp only [dw, ax, en, ch]; omega) | (simp only [dw, ax, en, ch]; omega) | rfl) only [reg_ite, ite_self, setF_still h, stage_still h, fault_still h, handleOperate_still h]

theorem thLost_still (s : State) : (s.thLost d).reg a = s.reg a := by
  unfold State.thLost
  try simp (disch := first | (apply touched_win; simp only [dw, ax, en, ch]; omega) | (simp only [dw, ax, en, ch]; omega) | rfl) only [reg_ite, ite_self, setF_still h, inc_still h, ss1Start_still h]
  repeat' split
  all_goals try with_reducible rfl
  all_goals try simp (disch := first | (apply touched_win; simp only [dw, ax, en, ch]; omega) | (simp only [dw, ax, en, ch]; omega) | rfl) only [reg_ite, ite_self, setF_still h, inc_still h, ss1Start_still h]

theorem lcFaultClear_still (s : State) : (s.lcFaultClear d).reg a = s.reg a := by
  unfold State.lcFaultClear
  simp (disch := first | (apply touched_win; simp only [dw, ax, en, ch]; omega) | (simp only [dw, ax, en, ch]; omega) | rfl) only [setF_still h, lcUpdate_still h, showStanding_still h]

theorem lcTestEnd_still (s : State) (ok : Bool) : (s.lcTestEnd d ok).reg a = s.reg a := by
  unfold State.lcTestEnd
  simp (disch := first | (apply touched_win; simp only [dw, ax, en, ch]; omega) | (simp only [dw, ax, en, ch]; omega) | rfl) only [reg_ite, ite_self, setF_still h, modProt_reg, evalChans_still h, lcUpdate_still h]

theorem lcFaultSet_still (s : State) (kind : Nat) : (s.lcFaultSet d kind).reg a = s.reg a := by
  unfold State.lcFaultSet
  simp (disch := first | (apply touched_win; simp only [dw, ax, en, ch]; omega) | (simp only [dw, ax, en, ch]; omega) | rfl) only [setF_still h, stage_still h, modProt_reg, lcUpdate_still h, fault_still h, showStanding_still h]

theorem handleRest_still (s : State) : (s.handleRest d).reg a = s.reg a := by
  unfold State.handleRest
  simp (disch := first | (apply touched_win; simp only [dw, ax, en, ch]; omega) | (simp only [dw, ax, en, ch]; omega) | rfl) only [when_reg, ite_self, setF_still h, modProt_reg]

theorem say_still (s : State) (code dwy : Nat) (ws : List Nat) : (s.say code dwy ws).reg a = s.reg a := by
  unfold State.say
  simp (disch := first | (apply touched_win; simp only [dw, ax, en, ch]; omega) | (simp only [dw, ax, en, ch]; omega) | rfl) only [when_reg, ite_self, stage_still h]

theorem showRestarts_still (s : State) (k : KIx) : (s.showRestarts d k).reg a = s.reg a := by
  unfold State.showRestarts
  simp (disch := first | (apply touched_win; simp only [dw, ax, en, ch]; omega) | (simp only [dw, ax, en, ch]; omega) | rfl) only [reg_ite, ite_self, wr_still h, modCh_reg]

theorem showClamp_still (s : State) (k : KIx) : (s.showClamp d k).reg a = s.reg a := by
  unfold State.showClamp
  simp (disch := first | (apply touched_win; simp only [dw, ax, en, ch]; omega) | (simp only [dw, ax, en, ch]; omega) | rfl) only [wrSat_still h]

theorem modPwr_still (s : State) (f : PwrH → PwrH) : (s.modPwr f).reg a = s.reg a := by
  unfold State.modPwr
  simp (disch := first | (apply touched_win; simp only [dw, ax, en, ch]; omega) | (simp only [dw, ax, en, ch]; omega) | rfl) only [reg_with_pwr]

theorem learnFail_still (s : State) (cause : Nat) : (s.learnFail d cause).reg a = s.reg a := by
  unfold State.learnFail
  simp (disch := first | (apply touched_win; simp only [dw, ax, en, ch]; omega) | (simp only [dw, ax, en, ch]; omega) | rfl) only [setF_still h, stage_still h, modTopi_reg]

end

end Sys2Proof.Machine
end

