-- ==== Sys2Proof/Laws/Sequencer.lean ====
section
/-!
SUPPORT. Laws/Sequencer.lean: what an entry to a state leaves in SEQ, and what the tick keeps of it.
-/
set_option linter.unusedSimpArgs false

namespace Sys2Proof.Machine

/-- The SEQ register of a doorway is not touched by its operations but for entries. -/
theorem still_seq (d : DIx) : still d (dw d 0) = true := by
  have := d.isLt
  simp only [still, dw, Bool.and_eq_true, Bool.or_eq_true, decide_eq_true_eq]
  omega

/-- The code of a state reads back as that state. -/
theorem ofCode_code (x : SeqState) : SeqState.ofCode x.code = x := by cases x <;> rfl

theorem code_lt (x : SeqState) : x.code < 256 := by cases x <;> decide

/-- An entry to a state leaves that state in SEQ.STATE. -/
theorem enter_st (s : State) (d : DIx) (x : SeqState) (c : Nat) : (s.enter d x c).st d = x := by
  have e : (s.enter d x c).reg (dw d 0) = (s.enterSeq d x c).reg (dw d 0) := enterRest_still (still_seq d) _ _ _ _
  have h : (s.enter d x c).rd (F.SEQ_STATE d) = x.code := by
    rw [rd_congr e]
    unfold State.enterSeq
    extract_lets old t u
    rw [rd_wr_ne _ _ _ _ (Or.inr ⟨by simp, by simp⟩), rd_wr_same _ _ _ (by simp)]
    exact Nat.mod_eq_of_lt (code_lt x)
  unfold State.st
  rw [h]
  exact ofCode_code x

/-- And its cause in SEQ.CAUSE. -/
theorem enter_cause (s : State) (d : DIx) (x : SeqState) (c : Nat) : (s.enter d x c).rd (F.SEQ_CAUSE d) = c % 256 := by
  have e : (s.enter d x c).reg (dw d 0) = (s.enterSeq d x c).reg (dw d 0) := enterRest_still (still_seq d) _ _ _ _
  rw [rd_congr e]
  unfold State.enterSeq
  extract_lets old t u
  exact rd_wr_same _ _ _ (by simp)

/-- What an operation leaves of the SEQ register, it leaves of the state and its cause. -/
theorem st_congr {s t : State} {d : DIx} (h : t.reg (dw d 0) = s.reg (dw d 0)) : t.st d = s.st d := by
  unfold State.st; rw [rd_congr h]

/-! ## The failure of a proof stroke stands through what a tick serves -/

/-- The check that a proof stroke has failed, none while none has. -/
def failOf (d : DIx) (t : State) : Option Nat := (t.seq d).fail

section
variable (d : DIx)

theorem failOf_setReg (t : State) (a : Nat) (v : Word) : failOf d (t.setReg a v) = failOf d t := Eq.trans rfl rfl
theorem failOf_recd (t : State) (r : RecH) : failOf d { t with recd := r } = failOf d t := Eq.trans rfl rfl

/-- A change of a doorway's hidden state that keeps the failure keeps it. -/
theorem failOf_modDwy (t : State) (e : DIx) (f : Dwy → Dwy) (h : ∀ x, (f x).seq.fail = x.seq.fail) : failOf d (t.modDwy e f) = failOf d t := by
  unfold failOf State.seq
  by_cases he : d = e
  · subst he; rw [modDwy_dwy_same, h]
  · rw [modDwy_dwy_other _ _ _ _ he]

theorem failOf_modSeq (t : State) (f : SeqH → SeqH) (h : ∀ q, (f q).fail = q.fail) : failOf d (t.modSeq d f) = failOf d t :=
  failOf_modDwy d t d _ (fun x => h x.seq)
theorem failOf_set (t : State) (c : Option Nat) : failOf d (t.modSeq d (fun q => { q with fail := c })) = c := by
  unfold failOf; rw [modSeq_same]
theorem failOf_pend (t : State) (b : Bool) : failOf d (t.modDwy d (fun x => { x with fencePend := b })) = failOf d t := failOf_modDwy d t d _ (fun _ => rfl)
theorem failOf_once (t : State) (b : Bool) : failOf d (t.modDwy d (fun x => { x with fencedOnce := b })) = failOf d t := failOf_modDwy d t d _ (fun _ => rfl)
theorem failOf_modAx (t : State) (x : AIx) (f : AxH → AxH) : failOf d (t.modAx d x f) = failOf d t := failOf_modDwy d t d _ (fun _ => rfl)
theorem failOf_modCh (t : State) (x : KIx) (f : ChH → ChH) : failOf d (t.modCh d x f) = failOf d t := failOf_modDwy d t d _ (fun _ => rfl)
theorem failOf_modDrv (t : State) (f : DrvH → DrvH) : failOf d (t.modDrv d f) = failOf d t := failOf_modDwy d t d _ (fun _ => rfl)
theorem failOf_modObst (t : State) (f : ObstH → ObstH) : failOf d (t.modObst d f) = failOf d t := failOf_modDwy d t d _ (fun _ => rfl)
theorem failOf_modCyc (t : State) (f : CycH → CycH) : failOf d (t.modCyc d f) = failOf d t := failOf_modDwy d t d _ (fun _ => rfl)
theorem failOf_modLock (t : State) (f : LockH → LockH) : failOf d (t.modLock d f) = failOf d t := failOf_modDwy d t d _ (fun _ => rfl)
theorem failOf_wr (t : State) (f : Fld) (v : Nat) : failOf d (t.wr f v) = failOf d t := Eq.trans rfl rfl
theorem failOf_wrSat (t : State) (f : Fld) (v : Nat) : failOf d (t.wrSat f v) = failOf d t := Eq.trans rfl rfl
theorem failOf_wrS (t : State) (f : Fld) (v : Int) : failOf d (t.wrS f v) = failOf d t := Eq.trans rfl rfl
theorem failOf_setF (t : State) (f : Fld) (b : Bool) : failOf d (t.setF f b) = failOf d t := Eq.trans rfl rfl
theorem failOf_setBit (t : State) (f : Fld) (i : Nat) (b : Bool) : failOf d (t.setBit f i b) = failOf d t := Eq.trans rfl rfl
theorem failOf_ite (c : Prop) [Decidable c] (x y : State) : failOf d (if c then x else y) = if c then failOf d x else failOf d y := by split <;> rfl
theorem failOf_when (t : State) (c : Bool) (f : State → State) : failOf d (t.when c f) = if c then failOf d (f t) else failOf d t := by
  unfold State.when; split <;> rfl
theorem failOf_stage (t : State) (c e : Nat) (ws : List Nat) : failOf d (t.stage c e ws) = failOf d t :=
  stage_keeps (failOf d) (failOf_setReg d) (failOf_recd d) _ _ _ _
theorem failOf_evalOutputs (t : State) : failOf d t.evalOutputs = failOf d t :=
  evalOutputs_keeps (failOf d) (failOf_setReg d) (failOf_recd d) _
theorem failOf_evalChans (t : State) : failOf d (t.evalChans d) = failOf d t :=
  evalChans_keeps (failOf d) (failOf_setReg d) (fun u e _ _ => failOf_modDwy d u e _ (fun _ => rfl)) (fun u e _ => failOf_modDwy d u e _ (fun _ => rfl)) _ _

theorem failOf_haltAxis (t : State) (x : AIx) : failOf d (t.haltAxis d x) = failOf d t := by
  unfold State.haltAxis
  simp (disch := (intro _; rfl)) only [failOf_ite, failOf_when, failOf_wr, failOf_wrSat, failOf_wrS, failOf_setF, failOf_setBit, failOf_modAx, failOf_modDrv, failOf_modObst, failOf_modCyc, failOf_modLock, failOf_pend, failOf_once, failOf_stage, failOf_evalOutputs, failOf_evalChans, ite_self, failOf_modSeq]

theorem failOf_denOff (t : State) : failOf d (t.denOff d) = failOf d t := by
  unfold State.denOff
  split
  · rfl
  · extract_lets t1 t2
    rw [foldl_keeps (failOf d)]
    · simp only [t2, t1, failOf_modDrv, failOf_setF]
    · intro u x _; simp (disch := (intro _; rfl)) only [failOf_ite, failOf_when, failOf_wr, failOf_wrSat, failOf_wrS, failOf_setF, failOf_setBit, failOf_modAx, failOf_modDrv, failOf_modObst, failOf_modCyc, failOf_modLock, failOf_pend, failOf_once, failOf_stage, failOf_evalOutputs, failOf_evalChans, ite_self, failOf_modSeq, failOf_haltAxis]

theorem failOf_sto (t : State) (p f : Nat) : failOf d (t.sto d p f) = failOf d t := by
  unfold State.sto
  extract_lets o v0 t1 t2 t3 t4 t5
  have e4 : failOf d t4 = failOf d t := by
    simp only [t4, t3, t2, t1]; simp (disch := (intro _; rfl)) only [failOf_ite, failOf_when, failOf_wr, failOf_wrSat, failOf_wrS, failOf_setF, failOf_setBit, failOf_modAx, failOf_modDrv, failOf_modObst, failOf_modCyc, failOf_modLock, failOf_pend, failOf_once, failOf_stage, failOf_evalOutputs, failOf_evalChans, ite_self, failOf_modSeq, failOf_haltAxis, failOf_denOff]
  have e5 : failOf d t5 = failOf d t := by
    simp only [t5]; split
    · exact e4
    · rw [failOf_stage, e4]
  simp only [failOf_when, failOf_stage, e5, ite_self]

theorem failOf_torqueOff (t : State) : failOf d (t.torqueOff d) = failOf d t := by
  unfold State.torqueOff
  simp (disch := (intro _; rfl)) only [failOf_ite, failOf_when, failOf_wr, failOf_wrSat, failOf_wrS, failOf_setF, failOf_setBit, failOf_modAx, failOf_modDrv, failOf_modObst, failOf_modCyc, failOf_modLock, failOf_pend, failOf_once, failOf_stage, failOf_evalOutputs, failOf_evalChans, ite_self, failOf_modSeq, failOf_haltAxis, failOf_denOff, failOf_sto]

theorem failOf_lockDrop (t : State) : failOf d (t.lockDrop d) = failOf d t := by
  unfold State.lockDrop
  simp (disch := (intro _; rfl)) only [failOf_ite, failOf_when, failOf_wr, failOf_wrSat, failOf_wrS, failOf_setF, failOf_setBit, failOf_modAx, failOf_modDrv, failOf_modObst, failOf_modCyc, failOf_modLock, failOf_pend, failOf_once, failOf_stage, failOf_evalOutputs, failOf_evalChans, ite_self, failOf_modSeq, failOf_haltAxis, failOf_denOff, failOf_sto, failOf_torqueOff]

theorem failOf_fence (t : State) (n : Nat) : failOf d (t.fence d n) = failOf d t := by
  unfold State.fence
  simp (disch := (intro _; rfl)) only [failOf_ite, failOf_when, failOf_wr, failOf_wrSat, failOf_wrS, failOf_setF, failOf_setBit, failOf_modAx, failOf_modDrv, failOf_modObst, failOf_modCyc, failOf_modLock, failOf_pend, failOf_once, failOf_stage, failOf_evalOutputs, failOf_evalChans, ite_self, failOf_modSeq, failOf_haltAxis, failOf_denOff, failOf_sto, failOf_torqueOff, failOf_lockDrop]

theorem failOf_denOn (t : State) : failOf d (t.denOn d) = failOf d t := by
  unfold State.denOn
  split
  · rfl
  · extract_lets t1 t2 t3
    rw [foldl_keeps (failOf d)]
    · simp only [t3, t2, t1]; simp (disch := (intro _; rfl)) only [failOf_ite, failOf_when, failOf_wr, failOf_wrSat, failOf_wrS, failOf_setF, failOf_setBit, failOf_modAx, failOf_modDrv, failOf_modObst, failOf_modCyc, failOf_modLock, failOf_pend, failOf_once, failOf_stage, failOf_evalOutputs, failOf_evalChans, ite_self, failOf_modSeq, failOf_haltAxis, failOf_denOff, failOf_sto, failOf_torqueOff, failOf_lockDrop, failOf_fence]
    · intro u x _; simp (disch := (intro _; rfl)) only [failOf_ite, failOf_when, failOf_wr, failOf_wrSat, failOf_wrS, failOf_setF, failOf_setBit, failOf_modAx, failOf_modDrv, failOf_modObst, failOf_modCyc, failOf_modLock, failOf_pend, failOf_once, failOf_stage, failOf_evalOutputs, failOf_evalChans, ite_self, failOf_modSeq, failOf_haltAxis, failOf_denOff, failOf_sto, failOf_torqueOff, failOf_lockDrop, failOf_fence]

theorem failOf_denOnMeasured (t : State) : failOf d (t.denOnMeasured d) = failOf d t := by
  unfold State.denOnMeasured
  split
  · rfl
  · rw [failOf_denOn, foldl_keeps (failOf d)]
    intro u x _
    unfold State.setX
    simp only [failOf_wrS, failOf_modAx]

theorem failOf_denService (t : State) : failOf d (t.denService d) = failOf d t := by
  unfold State.denService
  simp (disch := (intro _; rfl)) only [failOf_ite, failOf_when, failOf_wr, failOf_wrSat, failOf_wrS, failOf_setF, failOf_setBit, failOf_modAx, failOf_modDrv, failOf_modObst, failOf_modCyc, failOf_modLock, failOf_pend, failOf_once, failOf_stage, failOf_evalOutputs, failOf_evalChans, ite_self, failOf_modSeq, failOf_haltAxis, failOf_denOff, failOf_sto, failOf_torqueOff, failOf_lockDrop, failOf_fence, failOf_denOn, failOf_denOnMeasured]

theorem failOf_stopAxis (t : State) (x : AIx) (g : Gen) : failOf d (t.stopAxis d x g) = failOf d t := by
  unfold State.stopAxis
  simp (disch := (intro _; rfl)) only [failOf_ite, failOf_when, failOf_wr, failOf_wrSat, failOf_wrS, failOf_setF, failOf_setBit, failOf_modAx, failOf_modDrv, failOf_modObst, failOf_modCyc, failOf_modLock, failOf_pend, failOf_once, failOf_stage, failOf_evalOutputs, failOf_evalChans, ite_self, failOf_modSeq, failOf_haltAxis, failOf_denOff, failOf_sto, failOf_torqueOff, failOf_lockDrop, failOf_fence, failOf_denOn, failOf_denService]

theorem failOf_stopLeaves (t : State) : failOf d (t.stopLeaves d) = failOf d t := by
  unfold State.stopLeaves
  simp (disch := (intro _; rfl)) only [failOf_ite, failOf_when, failOf_wr, failOf_wrSat, failOf_wrS, failOf_setF, failOf_setBit, failOf_modAx, failOf_modDrv, failOf_modObst, failOf_modCyc, failOf_modLock, failOf_pend, failOf_once, failOf_stage, failOf_evalOutputs, failOf_evalChans, ite_self, failOf_modSeq, failOf_haltAxis, failOf_denOff, failOf_sto, failOf_torqueOff, failOf_lockDrop, failOf_fence, failOf_denOn, failOf_denService, failOf_stopAxis]

theorem failOf_present (t : State) (x : AIx) (p : Int) : failOf d (t.present_ d x p) = failOf d t := by
  unfold State.present_
  simp (disch := (intro _; rfl)) only [failOf_ite, failOf_when, failOf_wr, failOf_wrSat, failOf_wrS, failOf_setF, failOf_setBit, failOf_modAx, failOf_modDrv, failOf_modObst, failOf_modCyc, failOf_modLock, failOf_pend, failOf_once, failOf_stage, failOf_evalOutputs, failOf_evalChans, ite_self, failOf_modSeq, failOf_haltAxis, failOf_denOff, failOf_sto, failOf_torqueOff, failOf_lockDrop, failOf_fence, failOf_denOn, failOf_denService, failOf_stopAxis, failOf_stopLeaves]

theorem failOf_presentTargets (t : State) : failOf d (t.presentTargets d) = failOf d t := by
  unfold State.presentTargets
  try simp (disch := (intro _; rfl)) only [failOf_ite, failOf_when, failOf_wr, failOf_wrSat, failOf_wrS, failOf_setF, failOf_setBit, failOf_modAx, failOf_modDrv, failOf_modObst, failOf_modCyc, failOf_modLock, failOf_pend, failOf_once, failOf_stage, failOf_evalOutputs, failOf_evalChans, ite_self, failOf_modSeq, failOf_haltAxis, failOf_denOff, failOf_sto, failOf_torqueOff, failOf_lockDrop, failOf_fence, failOf_denOn, failOf_denService, failOf_stopAxis, failOf_stopLeaves, failOf_present]
  repeat' split
  all_goals try with_reducible rfl
  all_goals try simp (disch := (intro _; rfl)) only [failOf_ite, failOf_when, failOf_wr, failOf_wrSat, failOf_wrS, failOf_setF, failOf_setBit, failOf_modAx, failOf_modDrv, failOf_modObst, failOf_modCyc, failOf_modLock, failOf_pend, failOf_once, failOf_stage, failOf_evalOutputs, failOf_evalChans, ite_self, failOf_modSeq, failOf_haltAxis, failOf_denOff, failOf_sto, failOf_torqueOff, failOf_lockDrop, failOf_fence, failOf_denOn, failOf_denService, failOf_stopAxis, failOf_stopLeaves, failOf_present]

/-- What a tick serves leaves the failure of a stroke. -/
theorem failOf_tickServe (t : State) : failOf d (t.tickServe d) = failOf d t := by
  unfold State.tickServe
  simp (disch := (intro _; rfl)) only [failOf_ite, failOf_when, failOf_wr, failOf_wrSat, failOf_wrS, failOf_setF, failOf_setBit, failOf_modAx, failOf_modDrv, failOf_modObst, failOf_modCyc, failOf_modLock, failOf_pend, failOf_once, failOf_stage, failOf_evalOutputs, failOf_evalChans, ite_self, failOf_modSeq, failOf_haltAxis, failOf_denOff, failOf_sto, failOf_torqueOff, failOf_lockDrop, failOf_fence, failOf_denOn, failOf_denService, failOf_stopAxis, failOf_stopLeaves, failOf_present, failOf_presentTargets]

theorem failOf_refuseReq (t : State) (f : Fld) : failOf d (t.refuseReq d f) = failOf d t := by
  unfold State.refuseReq
  simp (disch := (intro _; rfl)) only [failOf_ite, failOf_when, failOf_wr, failOf_wrSat, failOf_wrS, failOf_setF, failOf_setBit, failOf_modAx, failOf_modDrv, failOf_modObst, failOf_modCyc, failOf_modLock, failOf_pend, failOf_once, failOf_stage, failOf_evalOutputs, failOf_evalChans, ite_self, failOf_modSeq, failOf_haltAxis, failOf_denOff, failOf_sto, failOf_torqueOff, failOf_lockDrop, failOf_fence, failOf_denOn, failOf_denService, failOf_stopAxis, failOf_stopLeaves, failOf_present, failOf_presentTargets, failOf_tickServe]

theorem failOf_refuseReqs (t : State) (x y : Bool) : failOf d (t.refuseReqs d x y) = failOf d t := by
  unfold State.refuseReqs
  simp (disch := (intro _; rfl)) only [failOf_ite, failOf_when, failOf_wr, failOf_wrSat, failOf_wrS, failOf_setF, failOf_setBit, failOf_modAx, failOf_modDrv, failOf_modObst, failOf_modCyc, failOf_modLock, failOf_pend, failOf_once, failOf_stage, failOf_evalOutputs, failOf_evalChans, ite_self, failOf_modSeq, failOf_haltAxis, failOf_denOff, failOf_sto, failOf_torqueOff, failOf_lockDrop, failOf_fence, failOf_denOn, failOf_denService, failOf_stopAxis, failOf_stopLeaves, failOf_present, failOf_presentTargets, failOf_tickServe, failOf_refuseReq]

theorem failOf_refuseRest (t : State) : failOf d (t.refuseRest d) = failOf d t := failOf_refuseReqs d t _ _

theorem failOf_refuseOld (t p : State) : failOf d (t.refuseOld p d) = failOf d t := failOf_refuseReqs d t _ _

theorem failOf_keepTick (t : State) : failOf d (t.keepTick d) = failOf d t := by
  unfold State.keepTick State.modTopi; exact failOf_modDwy d t d _ (fun _ => rfl)

theorem failOf_setLock (t : State) (on : Bool) : failOf d (t.setLock d on) = failOf d t := by
  unfold State.setLock
  simp (disch := (intro _; rfl)) only [failOf_ite, failOf_when, failOf_wr, failOf_wrSat, failOf_wrS, failOf_setF, failOf_setBit, failOf_modAx, failOf_modDrv, failOf_modObst, failOf_modCyc, failOf_modLock, failOf_pend, failOf_once, failOf_stage, failOf_evalOutputs, failOf_evalChans, ite_self, failOf_modSeq, failOf_haltAxis, failOf_denOff, failOf_sto, failOf_torqueOff, failOf_lockDrop, failOf_fence, failOf_denOn, failOf_denService, failOf_stopAxis, failOf_stopLeaves, failOf_present, failOf_presentTargets, failOf_tickServe, failOf_refuseReq, failOf_refuseRest]

/-- A check that fails is the failure of the stroke. -/
theorem failOf_strokeFail (t : State) (c : Nat) (h : failOf d t = none) : failOf d (t.strokeFail d c) = some c := by
  unfold State.strokeFail
  have hn : ¬ (t.seq d).fail.isSome = true := by
    have : (t.seq d).fail = none := h
    rw [this]; decide
  rw [if_neg hn]
  simp only [failOf_setLock, failOf_stopLeaves, failOf_set]

end

/-! ## What a tick decides -/

/-- Where no rule of a higher priority acts, the timeout of the state does. -/
theorem decide_prio6 (p u : State) (d : DIx) (h1 : p.prio123 d = none) (hs : (p.st d == SeqState.proofStroke) = false) (h4 : p.prio4 d = none)
    (h5 : p.prio5 d = none) (h6 : p.prio6 d = some u) : p.decide_ d = (u.endHold d).refuseOld p d := by
  unfold State.decide_
  split
  · rename_i x hx; rw [h1] at hx; cases hx
  · rw [if_neg (by rw [hs]; decide)]
    split
    · rename_i x hx; rw [h4] at hx; cases hx
    · split
      · rename_i x hx; rw [h5] at hx; cases hx
      · split
        · rename_i x hx; rw [h6] at hx; cases hx; rfl
        · rename_i hx; rw [h6] at hx; cases hx

/-- Where nothing else acts, a request does. -/
theorem decide_prio8 (p u : State) (d : DIx) (h1 : p.prio123 d = none) (hs : (p.st d == SeqState.proofStroke) = false) (h4 : p.prio4 d = none)
    (h5 : p.prio5 d = none) (h6 : p.prio6 d = none) (hh : p.flag (F.SEQ_STATUS_TAKEOVER_HOLD d) = false) (h7 : p.prio7 d = none)
    (h8 : p.prio8 d = some u) : p.decide_ d = u.refuseRest d := by
  unfold State.decide_
  split
  · rename_i x hx; rw [h1] at hx; cases hx
  · rw [if_neg (by rw [hs]; decide)]
    split
    · rename_i x hx; rw [h4] at hx; cases hx
    · split
      · rename_i x hx; rw [h5] at hx; cases hx
      · split
        · rename_i x hx; rw [h6] at hx; cases hx
        · rw [if_neg (by rw [hh]; decide)]
          split
          · rename_i x hx; rw [h7] at hx; cases hx
          · split
            · rename_i x hx; rw [h8] at hx; cases hx; rfl
            · rename_i hx; rw [h8] at hx; cases hx

/-- In PROOF_STROKE the tick is the stroke's, unless a rule of the first three priorities acts. -/
theorem decide_stroke (p : State) (d : DIx) (h1 : p.prio123 d = none) (hs : (p.st d == SeqState.proofStroke) = true) :
    p.decide_ d = (p.strokeTick d).refuseRest d := by
  unfold State.decide_
  split
  · rename_i x hx; rw [h1] at hx; cases hx
  · rw [if_pos hs]

/-- A timed command that is due runs the tick. -/
theorem tickDue_runs (s : State) (d : DIx) (due : State → Bool) (h : s.tickDue d due = true) :
    s.dueTick d due = (((s.tickSees d).decide_ d).tickServe d).keepTick d ∧ due (s.tickSees d) = true ∧ (s.tickSees d).prio123 d = none ∧
      (s.tickSees d).prio4 d = none ∧ (s.tickSees d).prio5 d = none := by
  unfold State.tickDue at h
  simp only [Bool.and_eq_true, Option.isNone_iff_eq_none, bne_iff_ne, ne_eq] at h
  obtain ⟨⟨⟨⟨⟨⟨⟨h1, h2⟩, h3⟩, h4⟩, h5⟩, h6⟩, h7⟩, h8⟩ := h
  refine ⟨?_, h5, h6, h7, h8⟩
  have e1 : s.dueTick d due = (s.seqTick d).keepTick d := by
    unfold State.dueTick State.onD; simp only [h1, h4, if_true]
  have e2 : s.seqTick d = ((s.tickSees d).decide_ d).tickServe d := by
    unfold State.seqTick
    have h2' : ¬ (((s.endMaint d).applyObst d).modState == 4) = true := by simp [h2]
    show (if (((s.endMaint d).applyObst d).modState == 4) = true then _ else _) = _
    rw [if_neg h2', if_pos h3]
  rw [e1, e2]

/-- A timer of a state that is due enters the state that the timeout rule gives. -/
theorem tick_acts (s : State) (d : DIx) (due : State → Bool) (x : SeqState) (c : Nat) (h : s.tickDue d due = true)
    (hx : ∀ p : State, due p = true → ∃ u : State, p.prio6 d = some u ∧ u.st d = x ∧ u.rd (F.SEQ_CAUSE d) = c)
    (hp : ∀ p : State, due p = true → (p.st d == SeqState.proofStroke) = false) (s' : State) :
    (s'.done (s.dueTick d due)).st d = x ∧ (s'.done (s.dueTick d due)).rd (F.SEQ_CAUSE d) = c := by
  obtain ⟨e1, h5, h6, h7, h8⟩ := tickDue_runs s d due h
  obtain ⟨u, hu, hs, hc⟩ := hx _ h5
  have e : s.dueTick d due = (((u.endHold d).refuseOld (s.tickSees d) d).tickServe d).keepTick d := by rw [e1, decide_prio6 _ _ _ h6 (hp _ h5) h7 h8 hu]
  have hr : (s'.done (s.dueTick d due)).reg (dw d 0) = u.reg (dw d 0) := by
    rw [done_reg _ _ _ (gatedReg_dw d 0 (by decide) (by decide)), e, keepTick_still (still_seq d), tickServe_still (still_seq d),
      refuseOld_still (still_seq d), endHold_still (still_seq d)]
  exact ⟨(st_congr hr).trans hs, (rd_congr (f := F.SEQ_CAUSE d) hr).trans hc⟩

end Sys2Proof.Machine
end

