-- ==== Sys2Proof/Laws/Reading.lean ====
section
/-!
SUPPORT. Laws/Reading.lean: what a command leaves, read by field: the gates do not hide it, and a write shows in its own field alone. One law per place of
a register: a doorway window, its axis, encoder and channel groups, and the registers below the windows.
-/
namespace Sys2Proof.Machine

/-! ## The gates hide nothing but their own registers -/

theorem gatedReg_ax (d : DIx) (x : AIx) (o : Nat) (h : o < 0x80) : gatedReg (ax d x o) = false := by
  have := x.isLt
  have e : ax d x o = dw d (0x300 + x.val * 0x80 + o) := by unfold ax dw; omega
  rw [e]; exact gatedReg_dw d _ (by omega) (by omega)

theorem gatedReg_en (d : DIx) (x : AIx) (o : Nat) (h : o < 0x40) : gatedReg (en d x o) = false := by
  have := x.isLt
  have e : en d x o = dw d (0x500 + x.val * 0x40 + o) := by unfold en dw; omega
  rw [e]; exact gatedReg_dw d _ (by omega) (by omega)

theorem gatedReg_ch (d : DIx) (k : KIx) (o : Nat) (h : o < 0x10) : gatedReg (ch d k o) = false := by
  have := k.isLt
  have e : ch d k o = dw d (0xB00 + k.val * 0x10 + o) := by unfold ch dw; omega
  rw [e]; exact gatedReg_dw d _ (by omega) (by omega)

/-- An address of no window and of no gated register. -/
def plainReg (a : Nat) : Prop := a < 0x10000 ∧ a ≠ 0x601C ∧ a ≠ 0x602C

theorem gatedReg_plain {a : Nat} (h : plainReg a) : gatedReg a = false := gatedReg_low a h.1 h.2.1 h.2.2

theorem done_rd_dw (s t : State) (d : DIx) (o lo w : Nat) (h : o < 0x1000) (h2 : o ≠ 0x4A0) :
    (s.done t).rd ⟨dw d o, lo, w⟩ = t.rd ⟨dw d o, lo, w⟩ := done_rd _ _ _ (gatedReg_dw d o h h2)
theorem done_flag_dw (s t : State) (d : DIx) (o lo w : Nat) (h : o < 0x1000) (h2 : o ≠ 0x4A0) :
    (s.done t).flag ⟨dw d o, lo, w⟩ = t.flag ⟨dw d o, lo, w⟩ := done_flag _ _ _ (gatedReg_dw d o h h2)
theorem done_rd_ax (s t : State) (d : DIx) (x : AIx) (o lo w : Nat) (h : o < 0x80) :
    (s.done t).rd ⟨ax d x o, lo, w⟩ = t.rd ⟨ax d x o, lo, w⟩ := done_rd _ _ _ (gatedReg_ax d x o h)
theorem done_flag_ax (s t : State) (d : DIx) (x : AIx) (o lo w : Nat) (h : o < 0x80) :
    (s.done t).flag ⟨ax d x o, lo, w⟩ = t.flag ⟨ax d x o, lo, w⟩ := done_flag _ _ _ (gatedReg_ax d x o h)
theorem done_rd_en (s t : State) (d : DIx) (x : AIx) (o lo w : Nat) (h : o < 0x40) :
    (s.done t).rd ⟨en d x o, lo, w⟩ = t.rd ⟨en d x o, lo, w⟩ := done_rd _ _ _ (gatedReg_en d x o h)
theorem done_flag_en (s t : State) (d : DIx) (x : AIx) (o lo w : Nat) (h : o < 0x40) :
    (s.done t).flag ⟨en d x o, lo, w⟩ = t.flag ⟨en d x o, lo, w⟩ := done_flag _ _ _ (gatedReg_en d x o h)
theorem done_rd_ch (s t : State) (d : DIx) (k : KIx) (o lo w : Nat) (h : o < 0x10) :
    (s.done t).rd ⟨ch d k o, lo, w⟩ = t.rd ⟨ch d k o, lo, w⟩ := done_rd _ _ _ (gatedReg_ch d k o h)
theorem done_flag_ch (s t : State) (d : DIx) (k : KIx) (o lo w : Nat) (h : o < 0x10) :
    (s.done t).flag ⟨ch d k o, lo, w⟩ = t.flag ⟨ch d k o, lo, w⟩ := done_flag _ _ _ (gatedReg_ch d k o h)
theorem done_rd_lo (s t : State) (a lo w : Nat) (h : a < 0x10000) (h1 : a ≠ 0x601C) (h2 : a ≠ 0x602C) :
    (s.done t).rd ⟨a, lo, w⟩ = t.rd ⟨a, lo, w⟩ := done_rd _ _ _ (gatedReg_low a h h1 h2)
theorem done_flag_lo (s t : State) (a lo w : Nat) (h : a < 0x10000) (h1 : a ≠ 0x601C) (h2 : a ≠ 0x602C) :
    (s.done t).flag ⟨a, lo, w⟩ = t.flag ⟨a, lo, w⟩ := done_flag _ _ _ (gatedReg_low a h h1 h2)

theorem done_st (s t : State) (d : DIx) : (s.done t).st d = t.st d := st_congr (done_reg _ _ _ (gatedReg_dw d 0 (by decide) (by decide)))

/-! ## A write shows in its field alone -/

theorem setF_rd (s : State) (a lo : Nat) (b : Bool) (h : lo + 1 ≤ 32) : (s.setF ⟨a, lo, 1⟩ b).rd ⟨a, lo, 1⟩ = b2n b := by
  unfold State.setF; rw [rd_wr_same _ _ _ h]; cases b <;> rfl

theorem setF_flag (s : State) (a lo : Nat) (b : Bool) (h : lo + 1 ≤ 32) : (s.setF ⟨a, lo, 1⟩ b).flag ⟨a, lo, 1⟩ = b :=
  flag_setF_same _ _ _ h rfl

theorem wr_rd (s : State) (a lo w v : Nat) (h : lo + w ≤ 32) : (s.wr ⟨a, lo, w⟩ v).rd ⟨a, lo, w⟩ = v % 2 ^ w := rd_wr_same _ _ _ h

/-- A write of a field of the same register. -/
theorem wr_rd_bits (s : State) (a lo w lo' w' v : Nat) (h : lo' + w' ≤ 32) (h2 : lo + w ≤ lo' ∨ lo' + w' ≤ lo) :
    (s.wr ⟨a, lo', w'⟩ v).rd ⟨a, lo, w⟩ = s.rd ⟨a, lo, w⟩ := rd_wr_ne _ _ _ _ (Or.inr ⟨h, h2⟩)
theorem wr_flag_bits (s : State) (a lo w lo' w' v : Nat) (h : lo' + w' ≤ 32) (h2 : lo + w ≤ lo' ∨ lo' + w' ≤ lo) :
    (s.wr ⟨a, lo', w'⟩ v).flag ⟨a, lo, w⟩ = s.flag ⟨a, lo, w⟩ := flag_wr_ne _ _ _ _ (Or.inr ⟨h, h2⟩)

/-- A write of another register of the same window. -/
theorem wr_rd_dw (s : State) (d : DIx) (o o' lo w lo' w' v : Nat) (h : o ≠ o') :
    (s.wr ⟨dw d o', lo', w'⟩ v).rd ⟨dw d o, lo, w⟩ = s.rd ⟨dw d o, lo, w⟩ := rd_wr_addr _ _ _ _ (by show dw d o ≠ dw d o'; unfold dw; omega)
theorem wr_flag_dw (s : State) (d : DIx) (o o' lo w lo' w' v : Nat) (h : o ≠ o') :
    (s.wr ⟨dw d o', lo', w'⟩ v).flag ⟨dw d o, lo, w⟩ = s.flag ⟨dw d o, lo, w⟩ := flag_wr_ne _ _ _ _ (Or.inl (by show dw d o ≠ dw d o'; unfold dw; omega))

/-! ## Hidden state of an axis, an encoder channel, a load channel -/

@[simp] theorem modAx_same (s : State) (d : DIx) (x : AIx) (f : AxH → AxH) : (s.modAx d x f).axis d x = f (s.axis d x) := by
  unfold State.axis State.modAx
  rw [modDwy_dwy_same]; simp
@[simp] theorem modEnc_same (s : State) (d : DIx) (x : AIx) (f : EncH → EncH) : (s.modEnc d x f).enc d x = f (s.enc d x) := by
  unfold State.enc State.modEnc
  rw [modDwy_dwy_same]; simp
@[simp] theorem modCh_same (s : State) (d : DIx) (k : KIx) (f : ChH → ChH) : (s.modCh d k f).chan d k = f (s.chan d k) := by
  unfold State.chan State.modCh
  rw [modDwy_dwy_same]; simp

/-! ## A fence request stands in FENCE_SET -/

theorem bitOf_or (v i w : Nat) (h : v < 2 ^ w) (hi : i < w) : bitOf ((if bitOf v i = true then v else v + 2 ^ i) % 2 ^ w) i = true := by
  have hp : 0 < 2 ^ i := Nat.two_pow_pos i
  have hb : ∀ x, bitOf x i = true ↔ x / 2 ^ i % 2 = 1 := by intro x; simp [bitOf]
  have hd : ∀ x, (x % 2 ^ w) / 2 ^ i % 2 = x / 2 ^ i % 2 := by
    intro x
    obtain ⟨k, rfl⟩ : ∃ k, w = i + 1 + k := ⟨w - i - 1, by omega⟩
    have e : x % 2 ^ (i + 1 + k) / 2 ^ i = x / 2 ^ i % 2 ^ (1 + k) := by
      rw [show i + 1 + k = i + (1 + k) by omega, Nat.pow_add, Nat.mod_mul_right_div_self]
    rw [e, Nat.pow_add, Nat.pow_one, Nat.mod_mul_right_mod]
  rw [hb, hd]
  split
  · rename_i hv; exact (hb v).mp hv
  · rename_i hv
    rw [hb] at hv
    rw [Nat.add_div_right _ hp]
    omega

/-- A fence request of a participating doorway leaves its source in FENCE_SET. -/
theorem fence_set (s : State) (d : DIx) (n : Nat) (hd : s.declared d = true) (hn : n < 15) : bitOf ((s.fence d (n + 1)).fenceSet d) n = true := by
  have ha : (F.FLT_DWY_FENCE_SET d.val).addr = 0x3100 + d.val * 4 := rfl
  have hlt := d.isLt
  have key : (s.fence d (n + 1)).rd (F.FLT_DWY_FENCE_SET d.val) = (s.setBit (F.FLT_DWY_FENCE_SET d.val) n true).rd (F.FLT_DWY_FENCE_SET d.val) := by
    have hrec : recReg (0x3100 + d.val * 4) = false := by
      have h1 : (0x3100 + d.val * 4) ≠ F.REC_STAGE_FILL.addr := by simp only []; omega
      have h2 : (0x3100 + d.val * 4) ≠ F.REC_LOST.addr := by simp only []; omega
      simp [recReg, h1, h2]
    have hout : outReg (0x3100 + d.val * 4) = false := by
      have h1 : (0x3100 + d.val * 4) ≠ F.LOOP_STATUS_L1_CLOSED.addr := by simp only []; omega
      have h2 : (0x3100 + d.val * 4) ≠ F.SO_STATUS_ON.addr := by simp only []; omega
      simp [outReg, h1, h2, hrec]
    have hch : chanReg d (0x3100 + d.val * 4) = false := by
      have h1 : (0x3100 + d.val * 4) ≠ (F.LOCK_STATUS d).addr := by simp only [dw]; omega
      have h2 : ∀ k : KIx, (0x3100 + d.val * 4) ≠ (F.CH_STATUS_STATE d k).addr := fun k => by simp only [ch]; omega
      simp [chanReg, h1, h2]
    have htq : torqueReg d (0x3100 + d.val * 4) = false := by
      have h1 : (0x3100 + d.val * 4) ≠ (F.DEN_STATUS_DEN_A d).addr := by simp only [dw]; omega
      have h2 : (0x3100 + d.val * 4) ≠ (F.OBST_STATUS d).addr := by simp only [dw]; omega
      have h3 : (0x3100 + d.val * 4) ≠ (F.SS1_LAST d).addr := by simp only [dw]; omega
      have h4 : ∀ x : AIx, (0x3100 + d.val * 4) ≠ (F.AX_STATUS d x).addr := fun x => by simp only [ax]; omega
      have h5 : ∀ x : AIx, (0x3100 + d.val * 4) ≠ (F.SPEED d x).addr := fun x => by simp only [ax]; omega
      have h6 : ∀ x : AIx, (0x3100 + d.val * 4) ≠ (F.TARGET d x).addr := fun x => by simp only [ax]; omega
      simp [torqueReg, h1, h2, h3, h5, h6, hrec]
      exact fun x _ => h4 x
    unfold State.fence
    rw [if_neg (by rw [hd]; decide)]
    extract_lets t1 t2 t3 t4
    have e4 : t4.reg (0x3100 + d.val * 4) = t2.reg (0x3100 + d.val * 4) := by
      simp only [t4]; rw [lockDrop_reg _ _ _ hch, torqueOff_reg _ _ _ htq]; simp only [t3]; unfold State.when; split
      · exact modDwy_reg _ _ _ _
      · rfl
    have e5 : (t4.setF (F.SEQ_STATUS_LOOP_CONTRIB d) false).evalOutputs.reg (0x3100 + d.val * 4) = t4.reg (0x3100 + d.val * 4) := by
      rw [evalOutputs_reg _ _ hout, reg_setF_other _ _ _ _ (by simp only [dw]; omega)]
    rw [rd_congr (f := F.FLT_DWY_FENCE_SET d.val) (e5.trans e4)]
    simp only [t2, t1]
    split
    · rfl
    · have e6 : ∀ x : State, (x.modDwy d (fun x => { x with fencedOnce := true })).rd (F.FLT_DWY_FENCE_SET d.val) = x.rd (F.FLT_DWY_FENCE_SET d.val) :=
        fun x => rd_congr (modDwy_reg _ _ _ _)
      rw [e6, stage_rd _ _ _ _ _ hrec, rd_wr_ne _ _ _ _ (Or.inr ⟨by simp, by simp⟩), Nat.add_sub_cancel]
  unfold State.fenceSet
  rw [key]
  unfold State.setBit putBit
  rw [rd_wr_same _ _ _ (by simp)]
  have hv := rd_lt s (F.FLT_DWY_FENCE_SET d.val)
  simp only [if_true]
  exact bitOf_or _ n 15 hv hn

/-! ## The other fields of DEN_STATUS -/

/-- The gates write of DEN_STATUS the two enables alone. -/
theorem done_rd_den (s t : State) (d : DIx) (lo w : Nat) (h : 2 ≤ lo) : (s.done t).rd ⟨dw d 0x4A0, lo, w⟩ = t.rd ⟨dw d 0x4A0, lo, w⟩ := by
  have l : ∀ x : State, x.loopGate.rd ⟨dw d 0x4A0, lo, w⟩ = x.rd ⟨dw d 0x4A0, lo, w⟩ := by
    intro x
    have h1 : ∀ b, (x.setF F.LOOP_STATUS_L1_CLOSED b).reg (dw d 0x4A0) = x.reg (dw d 0x4A0) := fun b => reg_setF_other _ _ _ _ (by simp only [dw]; omega)
    have h2 : ∀ (y : State) b, (y.setBit F.LOOP_STATUS_L2 0 b).reg (dw d 0x4A0) = y.reg (dw d 0x4A0) := fun y b => reg_setBit_other _ _ _ _ _ (by simp only [dw]; omega)
    refine rd_congr ?_
    unfold State.loopGate
    extract_lets y
    have e : y.reg (dw d 0x4A0) = x.reg (dw d 0x4A0) := by
      simp only [y]; split
      · rfl
      · exact h1 _
    split
    · exact e
    · rw [h2]; exact e
  have g : ∀ x : State, x.gate.rd ⟨dw d 0x4A0, lo, w⟩ = x.rd ⟨dw d 0x4A0, lo, w⟩ := by
    intro x
    unfold State.gate
    split
    · rfl
    · extract_lets y z
      have e : z.rd ⟨dw d 0x4A0, lo, w⟩ = x.rd ⟨dw d 0x4A0, lo, w⟩ := by
        refine rd_congr ?_
        simp only [z, y]
        rw [reg_wr_other _ _ _ _ (by simp only [dw]; omega), reg_setBit_other _ _ _ _ _ (by simp only [dw]; omega), reg_setF_other _ _ _ _ (by simp only [dw]; omega)]
      rw [foldl_keeps (fun t => t.rd ⟨dw d 0x4A0, lo, w⟩)]
      · exact e
      · intro u e' _
        unfold State.setF
        rw [rd_wr_ne _ _ _ _ (Or.inr ⟨by simp, by right; show 1 + 1 ≤ lo; omega⟩), rd_wr_ne _ _ _ _ (Or.inr ⟨by simp, by right; show 0 + 1 ≤ lo; omega⟩)]
  unfold State.done
  rw [g, l]
  exact rd_congr (Eq.trans rfl rfl)

theorem done_flag_den (s t : State) (d : DIx) (lo w : Nat) (h : 2 ≤ lo) : (s.done t).flag ⟨dw d 0x4A0, lo, w⟩ = t.flag ⟨dw d 0x4A0, lo, w⟩ := by
  unfold State.flag; rw [done_rd_den _ _ _ _ _ h]

end Sys2Proof.Machine
end

