-- ==== Sys2Proof/Laws/Engine.lean ====
section
/-!
SUPPORT. Laws/Engine.lean: what a mismatch, a migration and a fence leave alone in the windows of the engine pairs: every register but PAIR_STATUS.
-/
set_option linter.unusedSimpArgs false
set_option linter.unusedSectionVars false

namespace Sys2Proof.Machine

/-- A register of an engine pair other than a PAIR_STATUS. -/
def engQuiet (a : Nat) : Bool := decide (0xB000 ≤ a) && decide (a < 0xC000) && decide ((a - 0xB000) % 0x80 ≠ 0)

theorem engQuiet_eng (p : PIx) (o : Nat) (h : 0 < o) (h2 : o < 0x80) : engQuiet (eng p o) = true := by
  have := p.isLt
  simp only [engQuiet, eng, Bool.and_eq_true, decide_eq_true_eq]; omega

section
variable {a : Nat} (h : engQuiet a = true)
include h

theorem quiet_ne {b : Nat} (hb : b < 0xB000 ∨ 0xC000 ≤ b ∨ (b - 0xB000) % 0x80 = 0) : a ≠ b := by
  simp only [engQuiet, Bool.and_eq_true, decide_eq_true_eq] at h; omega

theorem wr_quiet (s : State) (f : Fld) (v : Nat) (hf : f.addr < 0xB000 ∨ 0xC000 ≤ f.addr ∨ (f.addr - 0xB000) % 0x80 = 0) : (s.wr f v).reg a = s.reg a :=
  reg_wr_other _ _ _ _ (quiet_ne h hf)
theorem wrS_quiet (s : State) (f : Fld) (v : Int) (hf : f.addr < 0xB000 ∨ 0xC000 ≤ f.addr ∨ (f.addr - 0xB000) % 0x80 = 0) : (s.wrS f v).reg a = s.reg a :=
  reg_wrS_other _ _ _ _ (quiet_ne h hf)
theorem setF_quiet (s : State) (f : Fld) (b : Bool) (hf : f.addr < 0xB000 ∨ 0xC000 ≤ f.addr ∨ (f.addr - 0xB000) % 0x80 = 0) : (s.setF f b).reg a = s.reg a :=
  reg_setF_other _ _ _ _ (quiet_ne h hf)
theorem inc_quiet (s : State) (f : Fld) (hf : f.addr < 0xB000 ∨ 0xC000 ≤ f.addr ∨ (f.addr - 0xB000) % 0x80 = 0) : (s.inc f).reg a = s.reg a :=
  reg_inc_other _ _ _ (quiet_ne h hf)
theorem setBit_quiet (s : State) (f : Fld) (i : Nat) (b : Bool) (hf : f.addr < 0xB000 ∨ 0xC000 ≤ f.addr ∨ (f.addr - 0xB000) % 0x80 = 0) :
    (s.setBit f i b).reg a = s.reg a := reg_setBit_other _ _ _ _ _ (quiet_ne h hf)

theorem quiet_recReg : recReg a = false := by
  have h1 : a ≠ F.REC_STAGE_FILL.addr := quiet_ne h (by decide)
  have h2 : a ≠ F.REC_LOST.addr := quiet_ne h (by decide)
  simp [recReg, h1, h2]
theorem quiet_outReg : outReg a = false := by
  have h1 : a ≠ F.LOOP_STATUS_L1_CLOSED.addr := quiet_ne h (by decide)
  have h2 : a ≠ F.SO_STATUS_ON.addr := quiet_ne h (by decide)
  simp [outReg, h1, h2, quiet_recReg h]
theorem quiet_chanReg (d : DIx) : chanReg d a = false := by
  have h1 : a ≠ (F.LOCK_STATUS d).addr := quiet_ne h (by simp only [dw]; omega)
  have h2 : ∀ k : KIx, a ≠ (F.CH_STATUS_STATE d k).addr := fun k => quiet_ne h (by simp only [ch]; omega)
  simp [chanReg, h1, h2]
theorem quiet_torqueReg (d : DIx) : torqueReg d a = false := by
  have h1 : a ≠ (F.DEN_STATUS_DEN_A d).addr := quiet_ne h (by simp only [dw]; omega)
  have h2 : a ≠ (F.OBST_STATUS d).addr := quiet_ne h (by simp only [dw]; omega)
  have h3 : a ≠ (F.SS1_LAST d).addr := quiet_ne h (by simp only [dw]; omega)
  have h4 : ∀ x : AIx, a ≠ (F.AX_STATUS d x).addr := fun x => quiet_ne h (by simp only [ax]; omega)
  have h5 : ∀ x : AIx, a ≠ (F.SPEED d x).addr := fun x => quiet_ne h (by simp only [ax]; omega)
  have h6 : ∀ x : AIx, a ≠ (F.TARGET d x).addr := fun x => quiet_ne h (by simp only [ax]; omega)
  simp [torqueReg, h1, h2, h3, h5, h6, quiet_recReg h]
  exact fun x _ => h4 x
theorem quiet_fenceReg (d : DIx) : fenceReg d a = false := by
  have h1 : a ≠ (F.FLT_DWY_FENCE_SET d.val).addr := quiet_ne h (by have := d.isLt; simp only []; omega)
  have h2 : a ≠ (F.SEQ_STATUS_LOOP_CONTRIB d).addr := quiet_ne h (by simp only [dw]; omega)
  simp [fenceReg, h1, h2, quiet_chanReg h, quiet_torqueReg h, quiet_outReg h]
theorem quiet_winReg : winReg a = false := by
  have h1 : a ≠ F.FLT_WINDOWS_OPEN.addr := quiet_ne h (by decide)
  have h2 : a ≠ F.FLT_STATUS_WINDOWS.addr := quiet_ne h (by decide)
  have h3 : ∀ d : DIx, a ≠ (F.FLT_DWY_WINDOW d.val).addr := fun d => quiet_ne h (by have := d.isLt; simp only []; omega)
  simp [winReg, h1, h2, h3]

theorem stage_quiet (s : State) (c e : Nat) (ws : List Nat) : (s.stage c e ws).reg a = s.reg a := stage_reg _ _ _ _ _ (quiet_recReg h)
theorem fence_quiet (s : State) (d : DIx) (n : Nat) : (s.fence d n).reg a = s.reg a := fence_reg _ _ _ _ (quiet_fenceReg h d)
theorem fault_quiet (s : State) (d : DIx) (c : Nat) : (s.fault d c).reg a = s.reg a :=
  fault_reg _ _ _ _ (quiet_ne h (by decide)) (quiet_fenceReg h d)
theorem openWin_quiet (s : State) (k n : Nat) : (s.openWin k n).reg a = s.reg a := openWin_reg _ _ _ _ (quiet_winReg h)
theorem closeWin_quiet (s : State) (k n : Nat) : (s.closeWin k n).reg a = s.reg a := closeWin_reg _ _ _ _ (quiet_winReg h)
theorem noSpare_quiet (s : State) (d : DIx) (o c : Nat) : (s.noSpare d o c).reg a = s.reg a := by
  unfold State.noSpare; rw [fence_quiet h, stage_quiet h]

theorem setPair_quiet (s : State) (p : PIx) (st n : Nat) : (s.setPair p st n).reg a = s.reg a := by
  unfold State.setPair
  rw [wr_quiet h _ _ _ (by simp only [eng]; omega), wr_quiet h _ _ _ (by simp only [eng]; omega)]
theorem dropFrame_quiet (s : State) (p : PIx) : (s.dropFrame p).reg a = s.reg a := modEng_reg _ _ _ _

theorem showPool_quiet (s : State) (p : Nat) (hp : p < 8) : (s.showPool p).reg a = s.reg a := by
  unfold State.showPool
  simp (disch := (simp only []; omega)) only [wr_quiet h]

theorem setFm_quiet (s : State) (p r st : Nat) (hp : p < 8) : (s.setFm p r st).reg a = s.reg a := by
  unfold State.setFm
  rw [showPool_quiet h _ _ hp]
  split <;> (try split) <;> simp (disch := (simp only []; omega)) only [setBit_quiet h, reg_with_plc]

theorem vacate_quiet (s : State) (p : PIx) (b : Bool) : (s.vacate p b).reg a = s.reg a := by
  unfold State.vacate
  rw [modEng_reg, setFm_quiet h _ _ _ _ (by decide), setPair_quiet h, dropFrame_quiet h]

theorem plcDwy_quiet (d : DIx) (p : Nat) : (plcDwy d.val p).addr < 0xB000 := by
  have := d.isLt
  unfold plcDwy; split <;> simp only [] <;> omega

theorem showPlc_quiet (s : State) : s.showPlc.reg a = s.reg a := by
  unfold State.showPlc
  extract_lets bs insts s1 s2 s3 placed s4
  have e1 : s1.reg a = s.reg a := by
    simp only [s1]
    rw [foldl_reg]
    intro t d _
    rw [foldl_reg]
    intro t p _
    exact wr_quiet h _ _ _ (Or.inl (plcDwy_quiet h d p))
  have e2 : s2.reg a = s1.reg a := by
    simp only [s2]
    rw [foldl_reg]
    intro t d _
    exact setF_quiet h _ _ _ (by have := d.isLt; simp only []; omega)
  have e3 : s3.reg a = s2.reg a := setF_quiet h _ _ _ (by decide)
  have e4 : s4.reg a = s3.reg a := by
    simp only [s4]; rw [setF_quiet h _ _ _ (by decide), wr_quiet h _ _ _ (by decide)]
  rw [foldl_reg]
  · rw [e4, e3, e2, e1]
  · intro t p hp
    refine showPool_quiet h _ _ ?_
    simp only [List.mem_cons, List.not_mem_nil, or_false] at hp
    omega

theorem placementChanged_quiet (s : State) (c p d o n : Nat) : (s.placementChanged c p d o n).reg a = s.reg a := by
  unfold State.placementChanged
  simp (disch := decide) only [stage_quiet h, wr_quiet h, inc_quiet h, showPlc_quiet h]

theorem rebind_quiet (s : State) (d : DIx) (p n c : Nat) : (s.rebind d p n c).reg a = s.reg a := by
  unfold State.rebind
  rw [placementChanged_quiet h]; exact reg_with_plc _ _ _

theorem verdictOut_quiet (s : State) (d : DIx) (c : Nat) : (s.verdictOut d c).reg a = s.reg a := by
  unfold State.verdictOut
  rw [modTopi_reg]
  simp (disch := (simp only [dw]; omega)) only [wr_quiet h]

theorem showStill_quiet (s : State) (d : DIx) : (s.showStill d).reg a = s.reg a := by
  unfold State.showStill
  simp (disch := (simp only [dw]; omega)) only [setF_quiet h]

theorem showPlat_quiet (s : State) (d : DIx) : (s.showPlat d).reg a = s.reg a := by
  unfold State.showPlat
  simp (disch := (simp only [dw]; omega)) only [when_reg, ite_self, setF_quiet h, wr_quiet h, wrS_quiet h, showStill_quiet h]

theorem platResult_quiet (s : State) (d : DIx) (t : Nat) (r : Option (Option (Int × Int))) : (s.platResult d t r).reg a = s.reg a := by
  unfold State.platResult
  rw [showPlat_quiet h, modTopi_reg]

theorem swapPicks_quiet (s : State) (p x y : Nat) : (s.swapPicks p x y).reg a = s.reg a := by
  unfold State.swapPicks
  extract_lets at_ other ra rb binds moves picks c t1 q r t2
  have e : t2.reg a = s.reg a := by
    simp only [t2]
    rw [when_keeps (fun u => u.reg a)]
    · exact reg_with_plc _ _ _
    · rw [wr_quiet h _ _ _ (by simp only [eng]; omega), wr_quiet h _ _ _ (by simp only [eng]; omega), modEng_reg, modEng_reg]
  rw [placementChanged_quiet h, placementChanged_quiet h, e]

theorem picked_quiet (s : State) (d : DIx) (p n : Nat) : (s.picked d p n).reg a = s.reg a := by
  unfold State.picked
  extract_lets ms was t
  have e : ∀ (l : List Nat) (x : State × Nat), (l.foldl (fun (b : State × Nat) e =>
      if d.val < e && was.any (fun k => k.pool == p && k.dwy == e) then (b.1.swapPicks p b.2 e, e) else b) x).1.reg a = x.1.reg a := by
    intro l
    induction l with
    | nil => intro x; rfl
    | cons e l ih =>
      intro x
      rw [List.foldl_cons, ih]
      split
      · exact swapPicks_quiet h _ _ _ _
      · rfl
  exact (e _ _).trans (reg_with_plc _ _ _)

theorem toSpare_quiet (s : State) (d : DIx) (n : Nat) : (s.toSpare d n).reg a = s.reg a := by
  unfold State.toSpare
  split
  · rw [verdictOut_quiet h]
    simp only [when_reg, picked_quiet h, ite_self]
    rw [modEng_reg, setPair_quiet h, rebind_quiet h]
  · rw [noSpare_quiet h, closeWin_quiet h, rebind_quiet h]

theorem migrate_quiet (s : State) (d : DIx) (p : PIx) (b : Bool) : (s.migrate d p b).reg a = s.reg a := by
  unfold State.migrate
  rw [toSpare_quiet h, vacate_quiet h]

theorem quit_quiet (s : State) (d : DIx) (p : PIx) : (s.quit d p).reg a = s.reg a := by
  unfold State.quit
  split
  · rw [modEng_reg, setPair_quiet h, dropFrame_quiet h]
  · rw [migrate_quiet h, openWin_quiet h]

end

/-! ## The record of a mismatch -/

/-- What a mismatch does leaves MISMATCH as it shows it. -/
theorem mismatchActs_quiet {a : Nat} (h : engQuiet a = true) (s : State) (p : PIx) (u r : Word) : (s.mismatchActs p u r).reg a = s.reg a := by
  unfold State.mismatchActs
  split
  · exact vacate_quiet h _ _ _
  · extract_lets was t1 t2 t3
    rw [quit_quiet h]
    simp only [t3, t2, t1, when_reg, noSpare_quiet h, ite_self, platResult_quiet h, verdictOut_quiet h, fault_quiet h, stage_quiet h]

theorem mismatchShow_rd (s : State) (p : PIx) (kind stage tile : Nat) :
    (s.mismatchShow p kind stage tile).rd (F.MISMATCH_KIND p) = kind % 8 ∧ (s.mismatchShow p kind stage tile).rd (F.MISMATCH_STAGE p) = stage % 8 ∧
    (s.mismatchShow p kind stage tile).rd (F.MISMATCH_TILE p) = tile % 512 := by
  have e2 : ∀ (x : State) (lo w : Nat), (x.inc (F.MISMATCH_CNT p)).rd ⟨eng p 8, lo, w⟩ = x.rd ⟨eng p 8, lo, w⟩ := fun x lo w =>
    rd_congr (reg_inc_other x _ _ (by simp only [eng]; omega))
  unfold State.mismatchShow
  extract_lets ctr x1
  clear_value ctr
  refine ⟨?_, ?_, ?_⟩ <;> rw [e2] <;> rw [wr_rd_bits _ _ _ _ _ _ _ (by decide) (by decide)] <;> simp only [x1]
  · rw [wr_rd_bits _ _ _ _ _ _ _ (by decide) (by decide), wr_rd _ _ _ _ _ (by decide)] <;> rfl
  · rw [wr_rd_bits _ _ _ _ _ _ _ (by decide) (by decide), wr_rd_bits _ _ _ _ _ _ _ (by decide) (by decide), wr_rd _ _ _ _ _ (by decide)] <;> rfl
  · rw [wr_rd _ _ _ _ _ (by decide)] <;> rfl

/-- Whatever else a mismatch does, it leaves its kind, stage and tile in MISMATCH. -/
theorem pairMismatch_rd (s : State) (p : PIx) (kind stage tile : Nat) (u r : Word) :
    (s.pairMismatch p kind stage tile u r).rd (F.MISMATCH_KIND p) = kind % 8 ∧ (s.pairMismatch p kind stage tile u r).rd (F.MISMATCH_STAGE p) = stage % 8 ∧
    (s.pairMismatch p kind stage tile u r).rd (F.MISMATCH_TILE p) = tile % 512 := by
  have hq : engQuiet (eng p 8) = true := engQuiet_eng p 8 (by decide) (by decide)
  have k := mismatchShow_rd s p kind stage tile
  unfold State.pairMismatch
  generalize s.mismatchShow p kind stage tile = x at k ⊢
  have e := mismatchActs_quiet hq x p u r
  exact ⟨(rd_congr (f := F.MISMATCH_KIND p) e).trans k.1, (rd_congr (f := F.MISMATCH_STAGE p) e).trans k.2.1, (rd_congr (f := F.MISMATCH_TILE p) e).trans k.2.2⟩

end Sys2Proof.Machine
end

