-- ==== Sys2Proof/Laws/Operands.lean ====
section
/-!
SUPPORT. Laws/Operands.lean: what the operand forms can do: byte strings read back the value they were made of, check values have their width, and a
string that ends in its own check value passes the check.
-/
namespace Sys2Proof.Machine

/-- A byte string made of a value has the length asked for. -/
theorem leBytes_length (n v : Nat) : (leBytes n v).length = n := by
  induction n generalizing v with
  | zero => rfl
  | succ n ih => simp [leBytes, ih]

/-- A byte string made of a value reads back that value, cut to its width. -/
theorem leNat_leBytes (n v : Nat) : leNat (leBytes n v) = v % 256 ^ n := by
  induction n generalizing v with
  | zero => simp [leBytes, leNat, Nat.mod_one]
  | succ n ih =>
    have e : 256 ^ (n + 1) = 256 * 256 ^ n := by rw [Nat.pow_succ, Nat.mul_comm]
    rw [leBytes, leNat, ih, BitVec.toNat_ofNat, e, Nat.mod_mul]

/-- A reversed value has the width it was reversed in. -/
theorem reflect_lt (w v : Nat) : reflect w v < 2 ^ w := by
  induction w generalizing v with
  | zero => simp [reflect]
  | succ w ih =>
    have h := ih (v / 2)
    have hm : v % 2 * 2 ^ w ≤ 1 * 2 ^ w := Nat.mul_le_mul_right _ (by omega)
    rw [reflect, Nat.pow_succ]; omega

/-- A CRC-32C has 32 bits. -/
theorem crc32c_lt (l : List Byte) : crc32c l < 2 ^ 32 := by
  unfold crc32c crcOf
  exact Nat.xor_lt_two_pow (reflect_lt 32 _) (Nat.mod_lt _ (by decide))

/-- A string followed by its CRC-32C passes the check. -/
theorem crcTail_withCrc (l : List Byte) : crcTail (withCrc l) = true := by
  have h4 : (withCrc l).length - 4 = l.length := by simp [withCrc, leBytes_length]
  have hc : crc32c l < 4294967296 := crc32c_lt l
  unfold crcTail
  rw [h4]
  simp [withCrc, leBytes_length, leNat_leBytes, hc, Nat.mod_eq_of_lt hc]

/-- A string of a telegram's length that ends in its own check value is the telegram its first two bytes name. -/
theorem headTelegram_withCrc {typ n : Nat} {l : List Byte} (hn : headLen typ = some n) (h46 : 46 ≤ n) (hl : l.length + 4 = n)
    (ht : fieldAt (withCrc l) 0 1 = typ) (hv : fieldAt (withCrc l) 1 1 = 1) : headTelegram typ true (withCrc l) = true := by
  have hlen : (withCrc l).length = n := by simp [withCrc, leBytes_length, hl]
  unfold headTelegram
  rw [hn]
  simp [hlen, Nat.max_eq_right h46, ht, hv, List.take_of_length_le (Nat.le_of_eq hlen), crcTail_withCrc]

end Sys2Proof.Machine
end

