-- ==== Sys2Proof/WellFormed.lean ====
section
/-!
DEFINITION. WellFormed.lean: which commands can arrive at all. Index operands are bounded by their types; the checks here bound the lists and
measurements that come with a command by the sizes that the rules give.
-/
namespace Sys2Proof

/-- Data bytes of a DLC (ISO 11898-1, R497): a classic frame has at most eight. -/
def canLen (fdf : Bool) (dlc : Nat) : Nat :=
  if dlc ≤ 8 then dlc
  else if !fdf then 8
  else if dlc ≤ 12 then 4 * (dlc - 6)
  else if dlc = 13 then 32
  else if dlc = 14 then 48
  else 64

/-- A frame that can be on the bus: an 11-bit identifier unless IDE, as many bytes as its DLC says, none in a remote frame, and no remote
frame or switch of bit rate out of place. -/
def CanFrame.wf (f : CanFrame) : Bool :=
  (f.ide || decide (f.id.toNat < 2 ^ 11)) && f.data.length == (if f.rtr then 0 else canLen f.fdf f.dlc.toNat) &&
  !(f.rtr && f.fdf) && (f.fdf || (!f.brs && !f.esi))

/-- A telegram of at most 32 items and 1,472 bytes (R498), whose first item carries `data`. -/
def RapTel.wf (t : RapTel) (data : List Byte) : Bool :=
  decide (t.rest.length < 32) && decide (24 + data.length + (t.rest.map (fun i => 8 + i.data.length)).sum ≤ 1472)

/-- A well-formed command: six doorways in a field scan (R308), sixteen and 36 conversions (R329, R332), a page of 512 bytes (R455), slots of the
recorder flash (R455), frames and telegrams as above. -/
def Instr.wf (i : Instr) : Bool :=
  match i with
  | .sequencerTick _ => true
  | .proofPhaseTimeout _ => true
  | .sealTimeout _ => true
  | .unlockTimeout _ => true
  | .lockTimeout _ => true
  | .stepDeployTimeout _ => true
  | .stowTimeout _ => true
  | .warnTimeElapsed _ => true
  | .autoCloseElapsed _ => true
  | .retryDelayElapsed _ => true
  | .openReq _ => true
  | .closeReq _ => true
  | .proofReq _ _ => true
  | .proofAll _ => true
  | .passengerOpenInput _ => true
  | .resetEdge _ => true
  | .resetInputHeldLong _ => true
  | .syncSend _ => true
  | .lineReceived _ _ _ _ => true
  | .helloReceived _ _ _ _ => true
  | .headStatusReceived _ _ _ => true
  | .cfgAckReceived _ _ _ => true
  | .calHdrReceived _ _ _ => true
  | .calDataReceived _ _ _ => true
  | .frameLineDeadline _ => true
  | .depthFrameReady _ => true
  | .headPhyLinkLoss _ => true
  | .headPhyLinkUp _ => true
  | .headRetrainStart _ _ => true
  | .headFramesMissing _ => true
  | .headStatusMissing _ => true
  | .headRetrain _ => true
  | .headRetrainWindowExpired _ => true
  | .headBringupRepeat _ => true
  | .tileSignatureCompare _ _ _ _ _ _ _ _ _ _ _ => true
  | .binderSelftest _ _ => true
  | .stageSkewTimeout _ _ => true
  | .residentImageLoaded _ _ => true
  | .migrationTimeout _ => true
  | .goldenTestStart _ => true
  | .goldenTestComplete _ _ => true
  | .goldenTestPeriodic _ => true
  | .pairSelftest _ => true
  | .localMemoryEccError _ => true
  | .pairSplit _ => true
  | .coppiceRejoin => true
  | .rejoinStepComplete _ _ => true
  | .rejoinComplete => true
  | .sealSeamTask _ _ => true
  | .occupancyTask _ _ => true
  | .learnStart _ => true
  | .learnAbort _ => true
  | .discardPending _ => true
  | .modelLearned _ => true
  | .adaptationPass _ => true
  | .driveFrame _ => true
  | .atRestReached _ _ => true
  | .move _ _ => true
  | .stop _ _ => true
  | .driveFbReceived _ _ _ _ => true
  | .driveFeedbackTimeout _ => true
  | .drivePhyLinkLoss _ => true
  | .driveRetrain _ => true
  | .drivePhyLinkUp _ => true
  | .driveRetrainWindowExpired _ => true
  | .driveBringupRepeat _ => true
  | .authConflictTimeout _ => true
  | .faultClearIntervalEnd _ => true
  | .denTestPulse _ _ _ => true
  | .denReadbackTimeout _ _ _ => true
  | .encoderCount _ _ _ _ _ _ => true
  | .indexEvent _ _ _ _ => true
  | .lineFaultSample _ _ _ _ _ => true
  | .lossClear _ _ => true
  | .referenceMakeEdge _ _ => true
  | .snap _ _ => true
  | .fieldScan _ _ _ _ ins _ lim _ => ins.length == 6 && lim.length == 6
  | .safetyEvalCycle _ => true
  | .ss1Timeout _ => true
  | .adcASequence _ codes _ => codes.length == 16
  | .edgeFault _ _ => true
  | .edgeFaultClear _ _ => true
  | .adcBPass _ codes _ => codes.length == 36
  | .lockCurrent _ => true
  | .lockStuckOn _ => true
  | .switchPlausibility _ => true
  | .trainLineChange _ => true
  | .zeroSpeedDiscrepancy => true
  | .depotModeActive => true
  | .sideMapStable => true
  | .sideMapMismatch => true
  | .sideMapMismatchClear => true
  | .loopTestPulse _ _ => true
  | .loopReadbackTimeout _ _ _ mA supply => decide (mA < 2 ^ 16) && decide (supply < 2 ^ 32)
  | .isolationDiscrepancy _ => true
  | .handleOperated _ => true
  | .handleDiscrepancy _ => true
  | .tpsPulseCheck _ _ _ _ => true
  | .guardOpen _ => true
  | .guardClosed _ => true
  | .guardFault _ => true
  | .twoHandChange _ => true
  | .twoHandFault _ _ => true
  | .ossdChange _ => true
  | .lcDiscrepancy _ => true
  | .lcTest _ => true
  | .lcTestResponseTimeout _ => true
  | .lcTestOverdue _ => true
  | .fieldSupplyChange _ _ => true
  | .aliveLost _ => true
  | .asicRearm _ => true
  | .thermalShutdown _ _ => true
  | .channelCooled _ _ => true
  | .inrushWindowEnd _ _ => true
  | .clampEnd _ _ _ => true
  | .clear _ _ => true
  | .limpHomeChange _ _ => true
  | .imageVerify _ => true
  | .imageVerified => true
  | .discard => true
  | .commitPress _ => true
  | .confirmLapsed => true
  | .structuralActivation => true
  | .evalSlotFault _ _ => true
  | .slotMoveComplete _ _ => true
  | .dramRegionDegraded _ => true
  | .deferredMoveStart _ => true
  | .deferredMoveComplete _ _ => true
  | .dramUncorrectable _ _ _ => true
  | .fabricFault _ _ => true
  | .configScrubPass _ _ _ _ _ => true
  | .sequencerMismatch _ => true
  | .comparatorSelftest _ _ => true
  | .cvuRebound _ _ => true
  | .watchdogService _ => true
  | .watchdogExpiry => true
  | .quickthornTrip _ _ _ => true
  | .engClockLoss => true
  | .cycleDue _ => true
  | .recoveryWindowExpired _ _ => true
  | .partnerRestartIn _ => true
  | .epochSend => true
  | .epochReceived _ _ _ => true
  | .resyncReqReceived _ _ _ => true
  | .snapReceived _ _ _ => true
  | .contentReceived _ _ _ => true
  | .recFwdReceived _ _ _ => true
  | .mirrorAckReceived _ _ _ => true
  | .mirrorLost => true
  | .resyncWindowExpired => true
  | .claimAuthority => true
  | .bothClaimed => true
  | .takeoverWindowExpired => true
  | .takeoverInputCheck _ => true
  | .handoverReq _ _ => true
  | .cancel => true
  | .handoverStart => true
  | .resync => true
  | .partnerRestart => true
  | .autoPartnerRestart => true
  | .safeCausePairClear => true
  | .variantMismatchClear => true
  | .recordDequeue => true
  | .pageBufferTimeout _ => true
  | .pageProgramComplete back _ _ => back.length == 0 || back.length == 512
  | .blockEraseComplete _ => true
  | .timeAnchor => true
  | .recorderReady => true
  | .resolve _ => true
  | .snapshotResolved _ => true
  | .snapshotEntryRead _ _ => true
  | .export_ _ _ => true
  | .forensicEntryRead _ _ _ => true
  | .checkpoint _ => true
  | .scrub _ => true
  | .refresh _ => true
  | .areaRefresh => true
  | .pdTelegramReceived _ _ => true
  | .pdRowTimeout _ => true
  | .sdtTimeout _ => true
  | .pdPublish _ => true
  | .mdRequest _ _ _ b => decide (b.length ≤ 1472)
  | .canFrameReceived _ f => f.wf
  | .pop _ _ => true
  | .slotFhdrRead _ _ _ => true
  | .req _ _ => true
  | .abort _ _ => true
  | .canTxComplete _ => true
  | .canBusOff _ => true
  | .recover _ => true
  | .canRecoveryComplete _ => true
  | .panelStatusSend _ => true
  | .open_ t _ => t.wf []
  | .close t _ => t.wf []
  | .read t _ _ => t.wf []
  | .write t _ _ data => t.wf data
  | .sync t _ => t.wf []
  | .load t _ _ data => t.wf data
  | .confirm t _ data => t.wf data
  | .postedWriteApply _ => true
  | .rapSessionTimeout _ => true
  | .registerWrite _ _ _ => true
  | .rcRegisterRead _ _ => true
  | .lowWordRead _ _ => true
  | .ecnLinkChange _ _ => true
  | .powerGood => true
  | .bootComplete _ => true
  | .configExit => true
  | .proveComplete => true
  | .mainSupplyLoss _ => true
  | .rideThroughEnd _ _ _ => true
  | .supplyExcursion _ _ _ => true
  | .supplyNormalRestored _ _ => true
  | .holdupMeasurement _ _ => true
  | .keepReq => true
  | .autoKeep => true
  | .wake _ _ => true
  | .vkeepLoss => true
  | .temperatureSample _ _ _ _ _ _ _ _ _ => true
  | .shedLevelExit => true
  | .pllLockLoss _ => true
  | .clockRelock _ _ => true
  | .relockRetry _ => true
  | .bothButtonsHeld => true
  | .mirrorLaneFault _ => true
  | .engClockRestored => true
  | .keepCrystalStopped => true
  | .handleDiscrepancyClear _ => true
  | .guardFaultClear _ => true
  | .twoHandFaultClear _ => true
  | .clampWindowBucket _ _ => true
  | .limpHomeInputChange _ _ => true
  | .partnerAuthLineChange _ => true
  | .partnerPresenceChange _ => true
  | .dramCorrectableError _ => true
  | .recorderScrubComplete lost _ => lost.all (fun n => decide (n < 4194304))
  | .mainRailOff => true
  | .keepEntryTimeout => true
  | .wakeHoldElapsed => true
  | .canBusError _ _ _ _ => true

end Sys2Proof
end

