-- ==== Sys2Proof/Tests/Slice0.lean ====
section
/-!
SUPPORT. Tests/Slice0.lean: tests of the model by decide. First the ill-formed commands that WellFormed refuses, then a few commands with results that
the spec's text states, then for each statement of the obligations one theorem with states that meet its hypotheses, clause by clause.
-/
-- one theorem after another: many at once would ask for more threads than there are
set_option Elab.async false

namespace Sys2Proof.Tests
open Sys2Proof Sys2Proof.Machine

/-- A running module: rail on, firmware A, all doorways declared, ASICs armed, MOD.STATE RUN, role SOLO with authority. -/
def W : State :=
  (((({ State.reset with
    rail := true, now := 1000000000000, tb0 := 1000000, img := { State.reset.img with running := some false, decl := 16777215 },
    asics := Vector.replicate 4 { pulseOk := true, armed := true } } : State).wr F.MOD_STATE_STATE 3).wr F.RP_STATUS_ROLE 3).setF F.RP_STATUS_AUTH true)

/-- The invariant of the outputs, as a proposition that `decide` can evaluate. -/
abbrev InvNow (s : State) : Prop :=
  ((s.gateOpen = false → s.flag F.LOOP_STATUS_L1_CLOSED = false ∧ bitOf (s.rd F.LOOP_STATUS_L2) 0 = false ∧ s.rd F.SO_STATUS_ON = 0 ∧
    ∀ d : DIx, s.flag (F.DEN_STATUS_DEN_A d) = false ∧ s.flag (F.DEN_STATUS_DEN_B d) = false)) ∧
  ((s.flag F.LOOP_STATUS_L1_CLOSED = true → ∀ d : DIx, (bitOf (s.rd F.LOOP1_MEMBERS % 2 ^ 24) d.val && s.declared d) = true → s.flag (F.SEQ_STATUS_LOOP_CONTRIB d) = true) ∧
   (bitOf (s.rd F.LOOP_STATUS_L2) 0 = true → ∀ d : DIx, (bitOf (s.rd F.LOOP2_MEMBERS % 2 ^ 24) d.val && s.declared d) = true → s.flag (F.SEQ_STATUS_LOOP_CONTRIB d) = true))

theorem inv_of {s : State} (h : InvNow s) : s.Inv := h

/-- The state that a command leaves. -/
def after (c : Instr) (s : State) : State :=
  match exec c s with
  | .next t => t
  | _ => s

/-! ## Commands that cannot arrive -/

/-- A classic CAN frame of two data bytes. -/
def frame2 : CanFrame := { id := 0x123, ide := false, rtr := false, fdf := false, brs := false, esi := false, dlc := 2, data := [1, 2] }

theorem test_wf_frame : Instr.wf (.canFrameReceived 0 frame2) = true := by decide
theorem test_ill_frame_length : Instr.wf (.canFrameReceived 0 { frame2 with dlc := 3 }) = false := by decide
theorem test_ill_frame_identifier : Instr.wf (.canFrameReceived 0 { frame2 with id := 0x800 }) = false := by decide
theorem test_ill_frame_remote_data : Instr.wf (.canFrameReceived 0 { frame2 with rtr := true }) = false := by decide
theorem test_ill_frame_remote_fd : Instr.wf (.canFrameReceived 0 { frame2 with rtr := true, fdf := true, dlc := 0, data := [] }) = false := by decide
theorem test_ill_frame_rate : Instr.wf (.canFrameReceived 0 { frame2 with brs := true }) = false := by decide

/-- A telegram of one item. -/
def tel1 : RapTel := { port := .service, ip := 5, session := 3, tag := 7, rest := [] }

theorem test_wf_telegram : Instr.wf (.write tel1 1 0 [1, 2, 3, 4]) = true := by decide
theorem test_ill_telegram_items : Instr.wf (.sync { tel1 with rest := List.replicate 32 { op := 0x20, count := 1, addr := 0, data := [] } } 1) = false := by
  decide +kernel
theorem test_ill_telegram_length : Instr.wf (.write tel1 1 0 (List.replicate 1449 0)) = false := by decide +kernel
theorem test_ill_scan_inputs : Instr.wf (.fieldScan 0 0 true true (List.replicate 5 0) 0 (List.replicate 6 0) false) = false := by decide
theorem test_ill_scan_limp : Instr.wf (.fieldScan 0 0 true true (List.replicate 6 0) 0 (List.replicate 7 0) false) = false := by decide
theorem test_ill_conversions_a : Instr.wf (.adcASequence 0 (List.replicate 15 0) 0) = false := by decide
theorem test_ill_conversions_b : Instr.wf (.adcBPass 0 (List.replicate 37 0) 0) = false := by decide
theorem test_ill_page : Instr.wf (.pageProgramComplete [1, 2, 3] 0 .agree) = false := by decide
theorem test_ill_loop_current : Instr.wf (.loopReadbackTimeout 0 false false 65536 0) = false := by decide
theorem test_ill_loop_supply : Instr.wf (.loopReadbackTimeout 0 false false 0 (2 ^ 32)) = false := by decide
theorem test_ill_request : Instr.wf (.mdRequest 0 5 4990 (List.replicate 1473 0)) = false := by decide +kernel

/-! ## Values that the spec's text states -/

/-- R15: the check value over "123456789". -/
theorem test_crc32c : crc32c [0x31, 0x32, 0x33, 0x34, 0x35, 0x36, 0x37, 0x38, 0x39] = 0xE3069283 := by decide +kernel

/-- No row of the table has bits. -/
theorem test_decode : decodeTableWord 32 5 = none := rfl

/-- R200: with ENC_INV 0 and B lagging A, the first edge counts upwards. -/
theorem test_encoder_up : (after (.encoderCount 3 1 true false 1000 0) W).rd (F.CNT 3 1) = 1 := by decide +kernel
/-- R200, R204: B leading A counts downwards, and the count wraps. -/
theorem test_encoder_down_wraps : (after (.encoderCount 3 1 false true 0 1000) W).rd (F.CNT 3 1) = 0xFFFFFFFF := by decide +kernel

/-- R199: a level that has not been seen in F consecutive samples does not pass. -/
theorem test_encoder_filter : (after (.encoderCount 3 1 true false 0 0) (W.wr (F.ENC_CFG_FILT 3 1) 2)).rd (F.CNT 3 1) = 0 := by decide +kernel

/-- R46: a request only sets its bit. -/
theorem test_open_request : (after (.openReq 3) W).flag (F.SEQ_CMD_OPEN_REQ 3) = true := by decide +kernel
/-- R343: a doorway that the image does not declare takes no request. -/
theorem test_open_request_undeclared :
    (after (.openReq 3) { W with img := { W.img with decl := 0xFFFFF7 } }).flag (F.SEQ_CMD_OPEN_REQ 3) = false := by decide +kernel

/-- R516: a filtered wake input latches PWR_WAKE and switches the main rail on. -/
theorem test_wake : (after (.wake .button true) { State.reset with pwr := { State.reset.pwr with keep := true, enables := 7 } }).pwr.latch = 4 := by
  decide +kernel

/-- R491: POP removes the oldest entry. -/
theorem test_pop : ((after (.pop 0 1) (W.modCan 0 (fun h => { h with q1 := [{ f := frame2, filter := 0, tick := 1 }, { f := frame2, filter := 1, tick := 2 }] }))).canH 0).q1 =
    [{ f := frame2, filter := 1, tick := 2 }] := by decide +kernel

/-- R263: DEPOT active for less than one second is no depot mode, for one second it is. -/
theorem test_depot_early : (after .depotModeActive { W with trn := { W.trn with depotSince := some (W.now - msT 999) } }).flag F.TRN_STATUS_DEPOT = false := by decide +kernel
theorem test_depot_late : (after .depotModeActive { W with trn := { W.trn with depotSince := some (W.now - msT 1000) } }).flag F.TRN_STATUS_DEPOT = true := by decide +kernel

/-- R244: SS1 of a moving axis whose drive link is down commands STO and records END 4. -/
theorem test_ss1_no_link :
    (((W.setF (F.AX_STATUS_MOVING 3 1) true).wr (F.DRV_STATUS_LINK 3) 2).ss1Start 3 (some 2) false 1).rd (F.SS1_LAST_END 3) = 4 := by decide +kernel

/-! ## The statements about the block are about something -/

theorem test_meets_StepRunsFrontCommand :
    (∃ (s : State) (c : Instr) (rest : List Instr), s.pending = c :: rest) ∧ (∃ s : State, s.pending = []) :=
  ⟨⟨{ W with pending := [.openReq 3] }, .openReq 3, [], rfl⟩, ⟨State.reset, rfl⟩⟩

theorem test_meets_StepKeepsOutputsInvariant : ∃ s t : State, s.Inv ∧ step s = .next t :=
  ⟨W, W.idle.gate, inv_of (by decide +kernel), by unfold step; rw [show W.pending = [] from rfl]⟩

theorem test_meets_UnclaimedLineTurnsOutputsOff : (after (.openReq 3) State.reset).flag F.RP_STATUS_AUTH = false := by decide +kernel

theorem test_meets_UnalignedAccessHasNoEffect_registers : ∃ (a : Nat) (r : RegDef), regDef a = some r := ⟨0x4000, _, rfl⟩

theorem test_meets_Ss1ThatCannotActIsSto :
    (∃ (s : State) (d : DIx) (x : AIx), s.rd (F.OBST_STATUS_SS1 d) = 0 ∧ s.flag (F.AX_STATUS_MOVING d x) = true ∧
      (s.flag (F.AX_STATUS_ENABLED d x) = false ∨ s.rd (F.DRV_STATUS_LINK d) < 3)) ∧
    (∃ (s : State) (d : DIx) (x : AIx), s.rd (F.OBST_STATUS_SS1 d) = 0 ∧ s.flag (F.AX_STATUS_MOVING d x) = true ∧
      s.flag (F.AX_STATUS_ENABLED d x) = true ∧ s.rd (F.DRV_STATUS_LINK d) < 3) :=
  ⟨⟨(W.setF (F.AX_STATUS_MOVING 3 1) true).wr (F.DRV_STATUS_LINK 3) 3, 3, 1, by decide +kernel⟩,
   ⟨((W.setF (F.AX_STATUS_MOVING 3 1) true).setF (F.AX_STATUS_ENABLED 3 1) true).wr (F.DRV_STATUS_LINK 3) 2, 3, 1, by decide +kernel⟩⟩

theorem test_meets_StowEndsProvenOrUnproven :
    (∃ (s : State) (d : DIx), s.flag (F.SEQ_STATUS_PROVEN d) = true) ∧
    (∃ (s : State) (d : DIx), s.flag (F.SEQ_STATUS_PROVEN d) = false ∧ s.flag (F.PROVE_STATUS_ALL_MADE d) = false) :=
  ⟨⟨W.setF (F.SEQ_STATUS_PROVEN 3) true, 3, by decide +kernel⟩, ⟨W, 3, by decide +kernel⟩⟩

/-- A record of a code. -/
def recOf (code : Nat) : Rec := { code := code, dwy := 1, flags := 0, rep := 1, gen := 0, ws := [1] }
/-- W with `n` records staged. -/
def staged (n : Nat) : State := { W with recd := { W.recd with queue := List.replicate n (recOf 0x5101) } }

theorem test_meets_StagingTakesOrLosesARecord :
    (∃ (s : State) (r x : Rec), s.flag F.REC_STATUS_STOPPED = false ∧ s.recd.queue.getLast? = some x ∧ r.mergesInto x = false ∧
      s.recd.queue.length < (if r.code / 0x1000 = 1 then 512 else 488)) ∧
    (∃ (s : State) (r x : Rec), s.flag F.REC_STATUS_STOPPED = false ∧ s.recd.queue.getLast? = some x ∧ r.mergesInto x = false ∧
      (if r.code / 0x1000 = 1 then 512 else 488) ≤ s.recd.queue.length) ∧
    (∃ s : State, s.flag F.REC_STATUS_STOPPED = false ∧ s.recd.queue = [] ∧ newestBuf s.recd.bufs = none) :=
  ⟨⟨staged 487, recOf 0x2101, recOf 0x5101, by decide +kernel⟩, ⟨staged 488, recOf 0x2101, recOf 0x5101, by decide +kernel⟩, ⟨W, by decide +kernel⟩⟩

/-- W with an entry in both receive queues of controller 0. -/
def queued : State := (W.modCan 0 (fun h => { h with q0 := [{ f := frame2, filter := 0, tick := 1 }], q1 := [{ f := frame2, filter := 1, tick := 2 }] }))

theorem test_meets_ReceiveQueuesKeepOrder_windows :
    (∃ (s : State) (c : CIx) (e : CanEnt) (k : Nat), k < 19 ∧ s.addrClass (0x8000 + 0x800 * c.val + 0x200 + 4 * k) = 0 ∧ (s.canH c).q0.head? = some e) ∧
    (∃ (s : State) (c : CIx) (e : CanEnt) (k : Nat), k < 19 ∧ s.addrClass (0x8000 + 0x800 * c.val + 0x280 + 4 * k) = 0 ∧ (s.canH c).q1.head? = some e) :=
  ⟨⟨queued, 0, { f := frame2, filter := 0, tick := 1 }, 18, by decide +kernel⟩, ⟨queued, 0, { f := frame2, filter := 1, tick := 2 }, 18, by decide +kernel⟩⟩

theorem test_meets_RegisterFileIsCanonical :
    (∃ s : State, s.regsWf) ∧ (∃ f g : Fld, f.lo + f.w ≤ 32 ∧ f.apart g) :=
  ⟨⟨W, (by decide +kernel : Al.wf resetWord W.regs = true)⟩, ⟨F.MOD_STATE_STATE, F.RP_STATUS_ROLE, by decide, Or.inl (by decide)⟩⟩

theorem test_meets_UndeclaredDoorwayIsUntouched : ∃ (c : Instr) (d : DIx) (s : State), Instr.door c = some d ∧ s.on d = false ∧ s.Inv :=
  ⟨.openReq 3, 3, { W with img := { W.img with decl := 0xFFFFF7 } }, by decide, by decide +kernel, inv_of (by decide +kernel)⟩

theorem test_meets_DeadLogicActsOnNothing : ∃ (c : Instr) (s : State), Instr.needsNoLogic c = false ∧ s.alive = false ∧ s.Inv :=
  ⟨.openReq 3, State.reset, by decide, by decide +kernel, inv_of (by decide +kernel)⟩

theorem test_meets_DoorwayCommandsKeepTheOthers : ∃ s : State, s.Inv := ⟨W, inv_of (by decide +kernel)⟩

/-! ## States that meet the hypotheses, clause by clause -/

/-- States that meet the hypotheses of RequestsWaitAndTimersEnd. -/
theorem test_meets_RequestsWaitAndTimersEnd :
    (∃ (s : State) (d : DIx), s.Inv ∧ s.on d = true) ∧
    (∃ (s : State) (d : DIx), s.Inv ∧ s.on d = true) ∧
    (∃ (s : State) (d : DIx), s.Inv ∧ s.on d = true) ∧
    (∃ (s : State) (d : DIx), s.on d = true ∧ s.st d = .unproven) ∧
    (∃ (s : State) (d : DIx), s.Inv ∧ s.on d = true ∧ (s.seq d).openEdge = true) ∧
    (∃ (s : State) (d : DIx), s.tickDue d (fun p => p.autoCloseDue d && !p.flag (F.SEQ_STATUS_TAKEOVER_HOLD d)) = true) ∧
    (∃ (s : State) (d : DIx), s.tickDue d (fun p => p.retryDue d && !(p.openReq d && p.flag (F.SEQ_STATUS_RELEASE_OK d)) && !p.flag (F.SEQ_STATUS_TAKEOVER_HOLD d)) = true) ∧
    (∃ (s : State) (d : DIx), s.tickDue d (fun p => p.st d == SeqState.proofStroke && (p.seq d).fail == none && p.zeroSpeed && !((p.obst d).cause.isSome && p.rd (F.OBST_STATUS_SS1 d) != 0) &&
      !p.flag (F.PROVE_STATUS_PLAUS_ERR d) && p.sw d 4 && !p.phasePasses d (p.seq d).phase &&
      (match p.phaseLimit d (p.seq d).phase with | some n => p.past (p.seq d).phaseFrom (msT n) | none => false)) = true) :=
  ⟨⟨W, 3, inv_of (by decide +kernel), by decide +kernel⟩,
   ⟨W, 3, inv_of (by decide +kernel), by decide +kernel⟩,
   ⟨W, 3, inv_of (by decide +kernel), by decide +kernel⟩,
   ⟨(let d : DIx := 3; W.wr (F.SEQ_STATE d) 0 : State), 3, by decide +kernel⟩,
   ⟨(let d : DIx := 3; W.modSeq d (fun q => { q with openEdge := true }) : State), 3, inv_of (by decide +kernel), by decide +kernel⟩,
   ⟨(let d : DIx := 3; (((W.wr (F.SEQ_STATE d) 0).modSeq d (fun q => { q with entered := 0, lockFrom := 0, warnFrom := 0, phaseFrom := 0 }))).wr (F.SEQ_STATE d) 6 |>.wr (F.SEQ_TIMING_AUTO_CLOSE d) 5 : State), 3, by decide +kernel⟩,
   ⟨(let d : DIx := 3; (((W.wr (F.SEQ_STATE d) 0).modSeq d (fun q => { q with entered := 0, lockFrom := 0, warnFrom := 0, phaseFrom := 0 }))).wr (F.SEQ_STATE d) 14 |>.wr (F.SEQ_CAUSE d) 6 |>.wr (F.SEQ_CFG_RETRY_MAX d) 3 |>.wr (F.SEQ_STATUS_RETRY d) 0 : State), 3, by decide +kernel⟩,
   ⟨(let d : DIx := 3; (((((W.wr (F.SEQ_STATE d) SeqState.proofStroke.code).modSeq d (fun q => { q with entered := 0, lockFrom := 0, warnFrom := 0, phaseFrom := 0 }))).wr (F.PROVE_STATUS_SW d) 16).wr F.TRN_STATUS_ZS_VALID 1).setF (F.PROVE_STATUS_PLAUS_ERR d) false |>.modSeq d (fun q => { q with phase := 2 }) : State), 3, by decide +kernel⟩⟩

/-- States that meet the hypotheses of TicksEndStates. -/
theorem test_meets_TicksEndStates :
    (∃ (s : State) (d : DIx), s.tickDue d (fun p => p.st d == SeqState.sealing && p.inStateFor d p.sealLimit) = true) ∧
    (∃ (s : State) (d : DIx), s.tickDue d (fun p => p.st d == SeqState.unlocking && !p.lockedOpen d && p.lockRan d (10 * p.rd (F.SEQ_LIMITS_UNLOCK_TIMEOUT d))) = true) ∧
    (∃ (s : State) (d : DIx), s.tickDue d (fun p => p.st d == SeqState.locking && !p.lockedMade d && p.lockRan d (10 * p.rd (F.SEQ_LIMITS_LOCK_TIMEOUT d))) = true) ∧
    (∃ (s : State) (d : DIx), s.tickDue d (fun p => p.st d == SeqState.stepDeploy && !p.atRestAt d 2 (p.rd (F.STEP_STATUS_TARGET d)) && p.inStateFor d 1200) = true) ∧
    (∃ (s : State) (d : DIx), s.tickDue d (fun p => p.st d == SeqState.stepStow && !p.sw d 4 && p.inStateFor d (10 * p.rd (F.SEQ_LIMITS_STOW_TIMEOUT d))) = true) ∧
    (∃ (s : State) (d : DIx), s.tickDue d (fun p => p.st d == SeqState.warning && p.past (p.seq d).warnFrom (msT (100 * p.rd (F.SEQ_TIMING_WARN_TIME d)))) = true) ∧
    (∃ (s : State) (d : DIx), s.on d = true) ∧
    (∃ (s : State) (d : DIx), s.on d = true) :=
  ⟨⟨(let d : DIx := 3; ((W.wr (F.SEQ_STATE d) SeqState.sealing.code).modSeq d (fun q => { q with entered := 0, lockFrom := 0, warnFrom := 0, phaseFrom := 0 })) : State), 3, by decide +kernel⟩,
   ⟨(let d : DIx := 3; (((W.wr (F.SEQ_STATE d) SeqState.unlocking.code).modSeq d (fun q => { q with entered := 0, lockFrom := 0, warnFrom := 0, phaseFrom := 0 }))).wr (F.PROVE_STATUS_SW d) 31 : State), 3, by decide +kernel⟩,
   ⟨(let d : DIx := 3; (((W.wr (F.SEQ_STATE d) SeqState.locking.code).modSeq d (fun q => { q with entered := 0, lockFrom := 0, warnFrom := 0, phaseFrom := 0 }))).wr (F.PROVE_STATUS_SW d) 0 : State), 3, by decide +kernel⟩,
   ⟨(let d : DIx := 3; ((W.wr (F.SEQ_STATE d) SeqState.stepDeploy.code).modSeq d (fun q => { q with entered := 0, lockFrom := 0, warnFrom := 0, phaseFrom := 0 })) : State), 3, by decide +kernel⟩,
   ⟨(let d : DIx := 3; (((W.wr (F.SEQ_STATE d) SeqState.stepStow.code).modSeq d (fun q => { q with entered := 0, lockFrom := 0, warnFrom := 0, phaseFrom := 0 }))).wr (F.PROVE_STATUS_SW d) 0 : State), 3, by decide +kernel⟩,
   ⟨(let d : DIx := 3; ((W.wr (F.SEQ_STATE d) SeqState.warning.code).modSeq d (fun q => { q with entered := 0, lockFrom := 0, warnFrom := 0, phaseFrom := 0 })) : State), 3, by decide +kernel⟩,
   ⟨W, 3, by decide +kernel⟩,
   ⟨W, 3, by decide +kernel⟩⟩

/-- States that meet the hypotheses of ResetEdgesAct. -/
theorem test_meets_ResetEdgesAct :
    (∃ (s : State) (d : DIx) (ms : Nat), s.Inv ∧ s.on d = true ∧ (s.lockH d).crewEdge = some ms ∧ (ms < 100 ∨ 2000 < ms)) ∧
    (∃ (s : State) (d : DIx) (ms : Nat), s.on d = true ∧ (s.lockH d).crewEdge = some ms ∧ 100 ≤ ms ∧ ms ≤ 2000 ∧ s.hasAuth = true ∧ s.st d = .fenced ∧ s.fenceSet d = 0 ∧ s.modState ≠ 4) ∧
    (∃ (s : State) (d : DIx) (ms : Nat), s.on d = true ∧ s.trn.rstEdge = some ms ∧ (ms < 100 ∨ 2000 < ms)) ∧
    (∃ (s : State) (d : DIx) (t0 : Nat), s.Inv ∧ s.on d = true ∧ (s.lockH d).crewOn = some t0 ∧ t0 + msT 2000 < s.now) ∧
    (∃ (s : State) (d : DIx) (t0 : Nat), s.on d = true ∧ s.trn.rstOn = some t0 ∧ t0 + msT 2000 < s.now) ∧
    (∃ (s : State) (d : DIx) (e : HeldEdge) (l : List HeldEdge), s.on d = true ∧ (s.drv d).edges = e :: l ∧ e.at_ + msT 5 ≤ s.now ∧ s.driveClear d = true ∧ s.fenceSet d = 2 ∧ s.st d = .fenced ∧ (s.dwy d).fencePend = false ∧ s.modState ≠ 4) ∧
    (∃ (s : State) (d : DIx) (e : HeldEdge) (l : List HeldEdge), s.on d = true ∧ (s.drv d).edges = e :: l ∧ e.at_ + msT 5 ≤ s.now ∧ e.src = 1 ∧ s.driveClear d = true ∧ s.fenceSet d = 2 ∧ s.st d = .fenced ∧ (s.dwy d).fencePend = false ∧ s.modState ≠ 4) :=
  ⟨⟨(let d : DIx := 3; let ms : Nat := 50; W.modLock d (fun l => { l with crewEdge := some ms }) : State), 3, 50, inv_of (by decide +kernel), by decide +kernel⟩,
   ⟨(let d : DIx := 3; let ms : Nat := 150; ((W.modLock d (fun l => { l with crewEdge := some ms })).wr (F.SEQ_STATE d) 16).wr (F.FLT_DWY_FENCE_SET d.val) 0 : State), 3, 150, by decide +kernel⟩,
   ⟨(let ms : Nat := 2050; { W with trn := { W.trn with rstEdge := some ms } } : State), 3, 2050, by decide +kernel⟩,
   ⟨(let d : DIx := 3; W.modLock d (fun l => { l with crewOn := some 0 }) : State), 3, 0, inv_of (by decide +kernel), by decide +kernel⟩,
   ⟨({ W with trn := { W.trn with rstOn := some 0 } } : State), 3, 0, by decide +kernel⟩,
   ⟨(let d : DIx := 3; let e : HeldEdge := { at_ := 0, src := 2, ms := 150, acted := false }; (((((W.modDrv d (fun v => { v with edges := [e] })).wr (F.FLT_DWY_FENCE_SET d.val) 2).wr (F.SEQ_STATE d) 16).wr (F.DRV_STATUS_FAULT d) 0).wr (F.DRV_STATUS_LINK d) 3).setF (F.DRV_STATUS_AUTH_CONFLICT d) false : State), 3, { at_ := 0, src := 2, ms := 150, acted := false }, [], by decide +kernel⟩,
   ⟨(let d : DIx := 3; let e : HeldEdge := { at_ := 0, src := 1, ms := 150, acted := false }; let l : List HeldEdge := [{ at_ := 0, src := 2, ms := 150, acted := true }]; (((((W.modDrv d (fun v => { v with edges := e :: l })).wr (F.FLT_DWY_FENCE_SET d.val) 2).wr (F.SEQ_STATE d) 16).wr (F.DRV_STATUS_FAULT d) 0).wr (F.DRV_STATUS_LINK d) 3).setF (F.DRV_STATUS_AUTH_CONFLICT d) false : State), 3, { at_ := 0, src := 1, ms := 150, acted := false }, [{ at_ := 0, src := 2, ms := 150, acted := true }], by decide +kernel⟩⟩

/-- States that meet the hypotheses of HeadTelegramsAreTaken. -/
theorem test_meets_HeadTelegramsAreTaken :
    (∃ (s : State) (d : DIx) (ok : Bool) (p : List Byte), s.Inv ∧ s.on d = true ∧ (s.head d).phyUp = true ∧ headTelegram 0x11 ok p = false) ∧
    (∃ (s : State) (d : DIx) (ok : Bool) (p : List Byte), s.Inv ∧ s.on d = true ∧ (s.head d).phyUp = true ∧ headTelegram 0x12 ok p = false) ∧
    (∃ (s : State) (d : DIx) (ok : Bool) (p : List Byte), s.Inv ∧ s.on d = true ∧ (s.head d).phyUp = true ∧ headTelegram 0x13 ok p = false) ∧
    (∃ (s : State) (d : DIx) (ok : Bool) (p : List Byte), s.Inv ∧ s.on d = true ∧ (s.head d).phyUp = true ∧ headTelegram 0x14 ok p = false) ∧
    (∃ (s : State) (d : DIx) (ok : Bool) (p : List Byte), s.Inv ∧ s.on d = true ∧ (s.head d).phyUp = true ∧ headTelegram 0x15 ok p = false) ∧
    (∃ (s : State) (d : DIx) (ok : Bool) (p : List Byte), s.Inv ∧ s.on d = true ∧ (s.head d).phyUp = true ∧ s.cvuOf 1 d.val = none ∧ (ok && p.length == 980 && fieldAt p 0 1 == 0x10 && fieldAt p 1 1 == 1 && crcTail p) = false) ∧
    (∃ (s : State) (d : DIx) (ok : Bool) (p : List Byte), s.on d = true ∧ (s.head d).phyUp = true ∧ headTelegram 0x11 ok p = true) ∧
    (∃ (s : State) (d : DIx) (ok : Bool) (p : List Byte), s.on d = true ∧ (s.head d).phyUp = true ∧ headTelegram 0x12 ok p = true) ∧
    (∃ (s : State) (d : DIx) (ok : Bool) (p : List Byte), s.Inv ∧ s.on d = true ∧ (s.head d).phyUp = true ∧ headTelegram 0x13 ok p = true ∧ (fieldAt p 2 2 + 1) % 65536 = (s.head d).cfgSeq) ∧
    (∃ (s : State) (d : DIx) (ok : Bool) (p : List Byte), s.Inv ∧ s.on d = true ∧ (s.head d).phyUp = true ∧ headTelegram 0x14 ok p = true ∧ 0 < (s.head d).calTry) ∧
    (∃ (s : State) (d : DIx) (ok : Bool) (p : List Byte), s.Inv ∧ s.on d = true ∧ (s.head d).phyUp = true ∧ headTelegram 0x15 ok p = true ∧ 0 < (s.head d).calTry ∧ (s.head d).opening = true ∧ (s.head d).calHdr ≠ [] ∧ s.flag (F.HEAD_STATUS_CAL_OK d) = false ∧ fieldAt p 4 4 % 1024 = 0 ∧ fieldAt p 4 4 ≠ 1024 * 1199) ∧
    (∃ (s : State) (d : DIx) (ok : Bool) (p : List Byte) (c : Cap), s.Inv ∧ s.on d = true ∧ (s.head d).phyUp = true ∧ s.cvuOf 1 d.val = none ∧ (ok && p.length == 980 && fieldAt p 0 1 == 0x10 && fieldAt p 1 1 == 1 && crcTail p) = true ∧ fieldAt p 6 2 < 480 ∧ c ∈ (s.head d).caps ∧ c.ctr = some (fieldAt p 2 2) ∧ s.tb ≤ c.start + usT 19000) :=
  ⟨⟨(let d : DIx := 3; W.modHead d (fun h => { h with phyUp := true }) : State), 3, true, [], inv_of (by decide +kernel), by decide +kernel⟩,
   ⟨(let d : DIx := 3; W.modHead d (fun h => { h with phyUp := true }) : State), 3, true, [], inv_of (by decide +kernel), by decide +kernel⟩,
   ⟨(let d : DIx := 3; W.modHead d (fun h => { h with phyUp := true }) : State), 3, true, [], inv_of (by decide +kernel), by decide +kernel⟩,
   ⟨(let d : DIx := 3; W.modHead d (fun h => { h with phyUp := true }) : State), 3, true, [], inv_of (by decide +kernel), by decide +kernel⟩,
   ⟨(let d : DIx := 3; W.modHead d (fun h => { h with phyUp := true }) : State), 3, true, [], inv_of (by decide +kernel), by decide +kernel⟩,
   ⟨(let d : DIx := 3; W.modHead d (fun h => { h with phyUp := true }) : State), 3, true, [], inv_of (by decide +kernel), by decide +kernel⟩,
   ⟨(let d : DIx := 3; (((W.modHead d (fun h => { h with phyUp := true })).wr (F.HEAD_EXPECT_VENDOR d) 0x201).wr (F.HEAD_EXPECT_MODEL d) 0x403).wr (F.HEAD_EXPECT_SN d) 0 : State), 3, true, let b : List Byte := withCrc ((([17, 1] : List Byte) ++ ([1,2, 3,4, 5,6, 7,8,9,10, 1,1,1,1, 0x80,2, 0xE0,1] : List Byte) ++ List.replicate 28 0).take 24); b ++ List.replicate (46 - b.length) 0, by decide +kernel⟩,
   ⟨(let d : DIx := 3; W.modHead d (fun h => { h with phyUp := true }) : State), 3, true, let b : List Byte := withCrc ((([18, 1] : List Byte) ++ ([1,2, 3,4,5,6, 3,0x45, 7,8,9,10, 1,1,1,1] : List Byte) ++ List.replicate 24 0).take 20); b ++ List.replicate (46 - b.length) 0, by decide +kernel⟩,
   ⟨(let d : DIx := 3; (W.modHead d (fun h => { h with phyUp := true })).modHead d (fun h => { h with cfgSeq := 0x202, cfgSent := some 0x6050403 }) : State), 3, true, let b : List Byte := withCrc ((([19, 1] : List Byte) ++ ([1,2, 3,4,5,6, 0] : List Byte) ++ List.replicate 16 0).take 12); b ++ List.replicate (46 - b.length) 0, inv_of (by decide +kernel), by decide +kernel⟩,
   ⟨(let d : DIx := 3; (W.modHead d (fun h => { h with phyUp := true })).modHead d (fun h => { h with calTry := 1 }) : State), 3, true, let b : List Byte := withCrc ((([20, 1] : List Byte) ++ ([1,2, 3,4,5,6, 0] : List Byte) ++ List.replicate 72 0).take 68); b ++ List.replicate (46 - b.length) 0, inv_of (by decide +kernel), by decide +kernel⟩,
   ⟨(let d : DIx := 3; ((W.modHead d (fun h => { h with phyUp := true })).modHead d (fun h => { h with calTry := 1, opening := true, calHdr := [1] })).setF (F.HEAD_STATUS_CAL_OK d) false : State), 3, true, withCrc ([21, 1, 1, 2, 0, 4, 0, 0] ++ List.replicate 1024 0), inv_of (by decide +kernel), by decide +kernel, by decide +kernel, headTelegram_withCrc rfl (by decide) (by decide +kernel) (by decide +kernel) (by decide +kernel), by decide +kernel, by decide +kernel, by decide +kernel, by decide +kernel, by decide +kernel, by decide +kernel⟩,
   ⟨(let d : DIx := 3; (W.modHead d (fun h => { h with phyUp := true })).modHead d (fun h => { h with caps := [{ start := W.tb, ctr := some 1 }] }) : State), 3, true, withCrc ([16, 1, 1, 0, 1, 4, 5, 0] ++ List.replicate 968 0), { start := W.tb, ctr := some 1 }, inv_of (by decide +kernel), by decide +kernel, by decide +kernel, by decide +kernel, by rw [crcTail_withCrc]; decide +kernel, by decide +kernel, by decide +kernel, by decide +kernel, by decide +kernel⟩⟩

/-- States that meet the hypotheses of HeadLinkRetrains. -/
theorem test_meets_HeadLinkRetrains :
    (∃ (s : State) (d : DIx), s.Inv ∧ s.on d = true ∧ (s.head d).phyUp = false) ∧
    (∃ (s : State) (d : DIx), s.Inv ∧ s.on d = true ∧ (s.head d).phyUp = true ∧ ((s.head d).lastSync = none ∨ ∃ x, (s.head d).lastSync = some x ∧ x + msT 20 ≤ s.now)) ∧
    (∃ (s : State) (d : DIx), s.on d = true ∧ (s.head d).opening = true ∧ (s.head d).trig + msT 400 ≤ s.now) ∧
    (∃ (s : State) (d : DIx) (t0 : Nat), s.on d = true ∧ (s.head d).failedAt = some t0 ∧ t0 + msT 2000 ≤ s.now ∧ (s.head d).opening = false) ∧
    (∃ (s : State) (d : DIx) (cause : Fin 5), s.on d = true ∧ ((cause = 0 ∧ s.rd (F.HEAD_STATUS_LINK d) = 0 ∧ s.modState ≠ 0) ∨ (cause = 1 ∧ s.rd (F.HEAD_STATUS_LINK d) = 3 ∧ (s.head d).phyUp = false) ∨
      (cause = 2 ∧ s.framesMissing d = true) ∨ (cause = 3 ∧ s.statusMissing d = true) ∨ (cause = 4 ∧ s.flag (F.HEAD_CTL_RETRAIN d) = true))) ∧
    (∃ (s : State) (d : DIx), s.on d = true ∧ s.framesMissing d = true) ∧
    (∃ (s : State) (d : DIx), s.on d = true ∧ s.statusMissing d = true) ∧
    (∃ (s : State) (d : DIx), s.on d = true) ∧
    (∃ (s : State) (d : DIx), s.on d = true ∧ (s.head d).phyUp = true ∧ s.rd (F.HEAD_STATUS_LINK d) ≠ 0) ∧
    (∃ (s : State) (d : DIx), s.Inv ∧ s.on d = true ∧ ((s.head d).phyUp = false ∨ s.rd (F.HEAD_STATUS_LINK d) = 0)) :=
  ⟨⟨W, 3, inv_of (by decide +kernel), by decide +kernel⟩,
   ⟨(let d : DIx := 3; (W).modHead d (fun h => { h with phyUp := true }) : State), 3, inv_of (by decide +kernel), by decide +kernel, by decide +kernel, Or.inl (by decide +kernel)⟩,
   ⟨(let d : DIx := 3; (W).modHead d (fun h => { h with opening := true }) : State), 3, by decide +kernel⟩,
   ⟨(let d : DIx := 3; (W).modHead d (fun h => { h with failedAt := some 0 }) : State), 3, 0, by decide +kernel⟩,
   ⟨(let d : DIx := 3; (W).wr (F.HEAD_STATUS_LINK d) 0 : State), 3, 0, by decide +kernel⟩,
   ⟨(let d : DIx := 3; (W).wr (F.HEAD_STATUS_LINK d) 3 : State), 3, by decide +kernel⟩,
   ⟨(let d : DIx := 3; ((W).modHead d (fun h => { h with miss := 5 })).wr (F.HEAD_STATUS_LINK d) 3 : State), 3, by decide +kernel⟩,
   ⟨W, 3, by decide +kernel⟩,
   ⟨(let d : DIx := 3; ((W).modHead d (fun h => { h with phyUp := true })).wr (F.HEAD_STATUS_LINK d) 3 : State), 3, by decide +kernel⟩,
   ⟨(let d : DIx := 3; ((W).modHead d (fun h => { h with phyUp := true })).wr (F.HEAD_STATUS_LINK d) 0 : State), 3, inv_of (by decide +kernel), by decide +kernel⟩⟩

/-- States that meet the hypotheses of BinderComparesFrames. -/
theorem test_meets_BinderComparesFrames :
    (∃ (s : State) (d : DIx) (c : Cap) (rest : List Cap), s.on d = true ∧ (s.head d).caps = c :: rest ∧ c.start + usT 19000 ≤ s.tb ∧ 7 ≤ (s.head d).step ∧ c.ctr = none ∧ c.lines = []) ∧
    (∃ (s : State) (d : DIx) (p : PIx) (r : RawFrame), s.on d = true ∧ s.pairOf d = some p ∧ s.pairReady p = true ∧ s.regionReady d = true ∧ s.nextRaw p d = some r) ∧
    (∃ (s : State) (p : PIx) (stage : Fin 8) (tile : Fin 300) (badU : Word) (badR : Word) (skipU : Bool) (skipR : Bool) (ovfU : Bool) (ovfR : Bool) (words : Bool) (c : CopyOut × CopyOut) (d : DIx) (u : Word) (r : Word) (skU : Bool) (skR : Bool) (oU : Bool) (oR : Bool), s.Inv ∧ s.alive = true ∧ s.pairHere p = true ∧ (s.eng p).cur = some c ∧ s.pairDwy p = some d ∧ u = c.1.sig stage.val tile.val ^^^ badU ∧ r = c.2.sig stage.val tile.val ^^^ badR ∧ skU = (tileStage stage.val && decide (stage.val ≠ 0) && (c.1.skipped stage.val (if tileStage stage.val then tile.val else 0x1FF) != skipU)) ∧ skR = (tileStage stage.val && decide (stage.val ≠ 0) && (c.2.skipped stage.val (if tileStage stage.val then tile.val else 0x1FF) != skipR)) ∧ oU = (ovfU || c.1.ovf.contains stage.val) ∧ oR = (ovfR || c.2.ovf.contains stage.val) ∧ u = r ∧ oU = false ∧ oR = false ∧ skU = false ∧ skR = false ∧ (stage ≠ 7 ∨ (words = true ∧ c.1.res.word = c.2.res.word)) ∧ EngH.complete { (s.eng p) with sigs := Al.insert (s.eng p).sigs (sigKey stage.val tile.val) (u, u) } = false) ∧
    (∃ (s : State) (p : PIx) (stage : Fin 8) (tile : Fin 300) (badU : Word) (badR : Word) (skipU : Bool) (skipR : Bool) (ovfU : Bool) (ovfR : Bool) (c : CopyOut × CopyOut) (d : DIx) (u : Word) (r : Word) (skU : Bool) (skR : Bool) (oU : Bool) (oR : Bool), s.Inv ∧ s.alive = true ∧ s.pairHere p = true ∧ (s.eng p).cur = some c ∧ s.pairDwy p = some d ∧ u = c.1.sig stage.val tile.val ^^^ badU ∧ r = c.2.sig stage.val tile.val ^^^ badR ∧ skU = (tileStage stage.val && decide (stage.val ≠ 0) && (c.1.skipped stage.val (if tileStage stage.val then tile.val else 0x1FF) != skipU)) ∧ skR = (tileStage stage.val && decide (stage.val ≠ 0) && (c.2.skipped stage.val (if tileStage stage.val then tile.val else 0x1FF) != skipR)) ∧ oU = (ovfU || c.1.ovf.contains stage.val) ∧ oR = (ovfR || c.2.ovf.contains stage.val) ∧ oU = false ∧ oR = false ∧ skU = true ∧ skR = true) ∧
    (∃ (s : State) (p : PIx), s.Inv ∧ s.alive = true ∧ s.pairHere p = true ∧ s.joined p = true) ∧
    (∃ (s : State) (p : PIx) (stage : Fin 8) (tile : Fin 300) (badU : Word) (badR : Word) (skipU : Bool) (skipR : Bool) (ovfU : Bool) (ovfR : Bool) (words : Bool) (c : CopyOut × CopyOut) (d : DIx) (u : Word) (r : Word) (skU : Bool) (skR : Bool) (oU : Bool) (oR : Bool) (kind : Nat), s.alive = true ∧ s.pairHere p = true ∧ (s.eng p).cur = some c ∧ s.pairDwy p = some d ∧ u = c.1.sig stage.val tile.val ^^^ badU ∧ r = c.2.sig stage.val tile.val ^^^ badR ∧ skU = (tileStage stage.val && decide (stage.val ≠ 0) && (c.1.skipped stage.val (if tileStage stage.val then tile.val else 0x1FF) != skipU)) ∧ skR = (tileStage stage.val && decide (stage.val ≠ 0) && (c.2.skipped stage.val (if tileStage stage.val then tile.val else 0x1FF) != skipR)) ∧ oU = (ovfU || c.1.ovf.contains stage.val) ∧ oR = (ovfR || c.2.ovf.contains stage.val) ∧ ((kind = 2 ∧ oU ≠ oR) ∨ (kind = 3 ∧ oU = false ∧ oR = false ∧ skU ≠ skR) ∨
      (kind = 0 ∧ oU = false ∧ oR = false ∧ skU = false ∧ skR = false ∧ u ≠ r) ∨
      (kind = 1 ∧ oU = false ∧ oR = false ∧ stage = 7 ∧ u = r ∧ (words = false ∨ c.1.res.word ≠ c.2.res.word)))) ∧
    (∃ (s : State) (p : PIx) (stage : Fin 8), s.alive = true ∧ s.pairHere p = true ∧ (s.eng p).cur.isSome = true ∧ s.joined p = true ∧ (s.eng p).stageDone stage.val = false ∧ (s.eng p).curAt + msT 10 ≤ s.now) ∧
    (∃ (s : State) (p : PIx), s.alive = true ∧ s.pairHere p = true ∧ s.joined p = true) :=
  ⟨⟨(let d : DIx := 3; (W).modHead d (fun h => { h with caps := [{ start := 0 }], accN := 1, step := 9 }) : State), 3, { start := 0 }, [], by decide +kernel⟩,
   ⟨(let d : DIx := 3; let p : PIx := 0; ((W.modHead d (fun h => { h with raws := [{ ctr := 1, tref := 100, trefTb := 100, lines := [] }] })).wr (plcDwy d.val poolEng) 0).wr (F.PAIR_STATUS_STATE p) pBound : State), 3, 0, { ctr := 1, tref := 100, trefTb := 100, lines := [] }, by decide +kernel⟩,
   ⟨(let p : PIx := 1; let c : CopyOut × CopyOut := (⟨{ ctr := 7, tref := 1, trefTb := 1, zoneset := 1, zones := [], fgPix := 0, ridgeMax := 0, ridgeLen := 0, invPct := 0, word := 0x5A, causes := [], zoneCauses := [], plat := none, resid := [] }, [], [], []⟩, ⟨{ ctr := 7, tref := 1, trefTb := 1, zoneset := 1, zones := [], fgPix := 0, ridgeMax := 0, ridgeLen := 0, invPct := 0, word := 0x5A, causes := [], zoneCauses := [], plat := none, resid := [] }, [], [], []⟩); (((W.wr (F.PAIR_STATUS_STATE p) pBound).wr (F.PAIR_STATUS_DOORWAY p) 3).modEng p (fun e => { e with cur := some c })) : State), 1, 2, 5, 1, 1, false, false, false, false, true, (⟨{ ctr := 7, tref := 1, trefTb := 1, zoneset := 1, zones := [], fgPix := 0, ridgeMax := 0, ridgeLen := 0, invPct := 0, word := 0x5A, causes := [], zoneCauses := [], plat := none, resid := [] }, [], [], []⟩, ⟨{ ctr := 7, tref := 1, trefTb := 1, zoneset := 1, zones := [], fgPix := 0, ridgeMax := 0, ridgeLen := 0, invPct := 0, word := 0x5A, causes := [], zoneCauses := [], plat := none, resid := [] }, [], [], []⟩), 3, (let c : CopyOut × CopyOut := (⟨{ ctr := 7, tref := 1, trefTb := 1, zoneset := 1, zones := [], fgPix := 0, ridgeMax := 0, ridgeLen := 0, invPct := 0, word := 0x5A, causes := [], zoneCauses := [], plat := none, resid := [] }, [], [], []⟩, ⟨{ ctr := 7, tref := 1, trefTb := 1, zoneset := 1, zones := [], fgPix := 0, ridgeMax := 0, ridgeLen := 0, invPct := 0, word := 0x5A, causes := [], zoneCauses := [], plat := none, resid := [] }, [], [], []⟩); c.1.sig 2 5 ^^^ 1), (let c : CopyOut × CopyOut := (⟨{ ctr := 7, tref := 1, trefTb := 1, zoneset := 1, zones := [], fgPix := 0, ridgeMax := 0, ridgeLen := 0, invPct := 0, word := 0x5A, causes := [], zoneCauses := [], plat := none, resid := [] }, [], [], []⟩, ⟨{ ctr := 7, tref := 1, trefTb := 1, zoneset := 1, zones := [], fgPix := 0, ridgeMax := 0, ridgeLen := 0, invPct := 0, word := 0x5A, causes := [], zoneCauses := [], plat := none, resid := [] }, [], [], []⟩); c.2.sig 2 5 ^^^ 1), false, false, false, false, inv_of (by decide +kernel), by decide +kernel⟩,
   ⟨(let p : PIx := 1; let c : CopyOut × CopyOut := (⟨{ ctr := 7, tref := 1, trefTb := 1, zoneset := 1, zones := [], fgPix := 0, ridgeMax := 0, ridgeLen := 0, invPct := 0, word := 0x5A, causes := [], zoneCauses := [], plat := none, resid := [] }, [], [], []⟩, ⟨{ ctr := 7, tref := 1, trefTb := 1, zoneset := 1, zones := [], fgPix := 0, ridgeMax := 0, ridgeLen := 0, invPct := 0, word := 0x5A, causes := [], zoneCauses := [], plat := none, resid := [] }, [], [], []⟩); (((W.wr (F.PAIR_STATUS_STATE p) pBound).wr (F.PAIR_STATUS_DOORWAY p) 3).modEng p (fun e => { e with cur := some c })) : State), 1, 2, 5, 1, 2, true, true, false, false, (⟨{ ctr := 7, tref := 1, trefTb := 1, zoneset := 1, zones := [], fgPix := 0, ridgeMax := 0, ridgeLen := 0, invPct := 0, word := 0x5A, causes := [], zoneCauses := [], plat := none, resid := [] }, [], [], []⟩, ⟨{ ctr := 7, tref := 1, trefTb := 1, zoneset := 1, zones := [], fgPix := 0, ridgeMax := 0, ridgeLen := 0, invPct := 0, word := 0x5A, causes := [], zoneCauses := [], plat := none, resid := [] }, [], [], []⟩), 3, (let c : CopyOut × CopyOut := (⟨{ ctr := 7, tref := 1, trefTb := 1, zoneset := 1, zones := [], fgPix := 0, ridgeMax := 0, ridgeLen := 0, invPct := 0, word := 0x5A, causes := [], zoneCauses := [], plat := none, resid := [] }, [], [], []⟩, ⟨{ ctr := 7, tref := 1, trefTb := 1, zoneset := 1, zones := [], fgPix := 0, ridgeMax := 0, ridgeLen := 0, invPct := 0, word := 0x5A, causes := [], zoneCauses := [], plat := none, resid := [] }, [], [], []⟩); c.1.sig 2 5 ^^^ 1), (let c : CopyOut × CopyOut := (⟨{ ctr := 7, tref := 1, trefTb := 1, zoneset := 1, zones := [], fgPix := 0, ridgeMax := 0, ridgeLen := 0, invPct := 0, word := 0x5A, causes := [], zoneCauses := [], plat := none, resid := [] }, [], [], []⟩, ⟨{ ctr := 7, tref := 1, trefTb := 1, zoneset := 1, zones := [], fgPix := 0, ridgeMax := 0, ridgeLen := 0, invPct := 0, word := 0x5A, causes := [], zoneCauses := [], plat := none, resid := [] }, [], [], []⟩); c.2.sig 2 5 ^^^ 2), true, true, false, false, inv_of (by decide +kernel), by decide +kernel⟩,
   ⟨(let p : PIx := 1; ((W.wr (F.PAIR_STATUS_STATE p) pBound).wr (F.PAIR_STATUS_DOORWAY p) 3) : State), 1, inv_of (by decide +kernel), by decide +kernel⟩,
   ⟨(let p : PIx := 1; let c : CopyOut × CopyOut := (⟨{ ctr := 7, tref := 1, trefTb := 1, zoneset := 1, zones := [], fgPix := 0, ridgeMax := 0, ridgeLen := 0, invPct := 0, word := 0x5A, causes := [], zoneCauses := [], plat := none, resid := [] }, [], [], []⟩, ⟨{ ctr := 7, tref := 1, trefTb := 1, zoneset := 1, zones := [], fgPix := 0, ridgeMax := 0, ridgeLen := 0, invPct := 0, word := 0x5A, causes := [], zoneCauses := [], plat := none, resid := [] }, [], [], []⟩); (((W.wr (F.PAIR_STATUS_STATE p) pBound).wr (F.PAIR_STATUS_DOORWAY p) 3).modEng p (fun e => { e with cur := some c })) : State), 1, 2, 5, 1, 2, false, false, false, false, true, (⟨{ ctr := 7, tref := 1, trefTb := 1, zoneset := 1, zones := [], fgPix := 0, ridgeMax := 0, ridgeLen := 0, invPct := 0, word := 0x5A, causes := [], zoneCauses := [], plat := none, resid := [] }, [], [], []⟩, ⟨{ ctr := 7, tref := 1, trefTb := 1, zoneset := 1, zones := [], fgPix := 0, ridgeMax := 0, ridgeLen := 0, invPct := 0, word := 0x5A, causes := [], zoneCauses := [], plat := none, resid := [] }, [], [], []⟩), 3, (let c : CopyOut × CopyOut := (⟨{ ctr := 7, tref := 1, trefTb := 1, zoneset := 1, zones := [], fgPix := 0, ridgeMax := 0, ridgeLen := 0, invPct := 0, word := 0x5A, causes := [], zoneCauses := [], plat := none, resid := [] }, [], [], []⟩, ⟨{ ctr := 7, tref := 1, trefTb := 1, zoneset := 1, zones := [], fgPix := 0, ridgeMax := 0, ridgeLen := 0, invPct := 0, word := 0x5A, causes := [], zoneCauses := [], plat := none, resid := [] }, [], [], []⟩); c.1.sig 2 5 ^^^ 1), (let c : CopyOut × CopyOut := (⟨{ ctr := 7, tref := 1, trefTb := 1, zoneset := 1, zones := [], fgPix := 0, ridgeMax := 0, ridgeLen := 0, invPct := 0, word := 0x5A, causes := [], zoneCauses := [], plat := none, resid := [] }, [], [], []⟩, ⟨{ ctr := 7, tref := 1, trefTb := 1, zoneset := 1, zones := [], fgPix := 0, ridgeMax := 0, ridgeLen := 0, invPct := 0, word := 0x5A, causes := [], zoneCauses := [], plat := none, resid := [] }, [], [], []⟩); c.2.sig 2 5 ^^^ 2), false, false, false, false, 0, by decide +kernel⟩,
   ⟨(let p : PIx := 1; (((W.wr (F.PAIR_STATUS_STATE p) pBound).wr (F.PAIR_STATUS_DOORWAY p) 3).modEng p (fun e => { e with cur := some (⟨{ ctr := 7, tref := 1, trefTb := 1, zoneset := 1, zones := [], fgPix := 0, ridgeMax := 0, ridgeLen := 0, invPct := 0, word := 0x5A, causes := [], zoneCauses := [], plat := none, resid := [] }, [], [], []⟩, ⟨{ ctr := 7, tref := 1, trefTb := 1, zoneset := 1, zones := [], fgPix := 0, ridgeMax := 0, ridgeLen := 0, invPct := 0, word := 0x5A, causes := [], zoneCauses := [], plat := none, resid := [] }, [], [], []⟩) })) : State), 1, 6, by decide +kernel⟩,
   ⟨(let p : PIx := 1; ((W.wr (F.PAIR_STATUS_STATE p) pBound).wr (F.PAIR_STATUS_DOORWAY p) 3) : State), 1, by decide +kernel⟩⟩

/-- States that meet the hypotheses of MigrationsAndTestsEnd. -/
theorem test_meets_MigrationsAndTestsEnd :
    (∃ (s : State) (p : PIx) (d : DIx), s.alive = true ∧ s.pairHere p = true ∧ s.pairDwy p = some d ∧ s.pst p = pMigrating ∧ (s.eng p).job = .loading ∧ s.modState ≠ 4 ∧ (s.head d).raws = []) ∧
    (∃ (s : State) (p : PIx) (d : DIx), s.Inv ∧ s.alive = true ∧ s.pairHere p = true ∧ s.pairDwy p = some d ∧ s.pst p = pMigrating ∧ (s.eng p).job = .loading ∧ s.modState ≠ 4 ∧ (s.head d).raws ≠ []) ∧
    (∃ (s : State) (d : DIx) (p : PIx), s.on d = true ∧ s.pairOf d = some p ∧ s.pst p = pMigrating ∧ (s.eng p).jobAt + msT 80 ≤ s.now ∧ (s.eng p).late = false) ∧
    (∃ (s : State) (p : PIx), s.alive = true ∧ s.pairHere p = true ∧ s.flag (F.PAIR_STATUS_TESTING p) = false ∧ (s.eng p).vacated = true ∧ s.pst p ≠ pFaulty) ∧
    (∃ (s : State) (p : PIx), s.alive = true ∧ s.pairHere p = true ∧ s.inRun = true ∧ s.pst p = pSpare ∧ s.fm poolEng p.val = 0 ∧ (s.eng p).testDue + msT 590000 ≤ s.now) ∧
    (∃ (s : State) (p : PIx), s.alive = true ∧ s.pairHere p = true ∧ s.pst p = pSpare ∧ s.fm poolEng p.val = 0) ∧
    (∃ (s : State) (p : PIx), s.Inv ∧ s.alive = true ∧ s.pairHere p = true ∧ (s.pst p ≠ pSpare ∨ s.fm poolEng p.val ≠ 0)) ∧
    (∃ (s : State) (p : PIx), s.alive = true ∧ s.pairHere p = true ∧ s.flag (F.PAIR_STATUS_TESTING p) = true ∧ s.pairDwy p = none) :=
  ⟨⟨(let p : PIx := 1; (((W.wr (F.PAIR_STATUS_STATE p) pMigrating).wr (F.PAIR_STATUS_DOORWAY p) 3).modEng p (fun e => { e with job := .loading })) : State), 1, 3, by decide +kernel⟩,
   ⟨(let p : PIx := 1; (((W.wr (F.PAIR_STATUS_STATE p) pMigrating).wr (F.PAIR_STATUS_DOORWAY p) 3).modEng p (fun e => { e with job := .loading })).modHead 3 (fun h => { h with raws := [{ ctr := 1, tref := 100, trefTb := 100, lines := [] }] }) : State), 1, 3, inv_of (by decide +kernel), by decide +kernel⟩,
   ⟨(let p : PIx := 1; (((W.wr (F.PAIR_STATUS_STATE p) pMigrating).wr (F.PAIR_STATUS_DOORWAY p) 3).wr (plcDwy 3 poolEng) 1).wr (F.FLT_DWY_FENCE_SET 3) 0 : State), 3, 1, by decide +kernel⟩,
   ⟨(let p : PIx := 1; (((W.wr (F.PAIR_STATUS_STATE p) pSuspect).wr (F.PAIR_STATUS_DOORWAY p) 3).modEng p (fun e => { e with vacated := true })).setF (F.PAIR_STATUS_TESTING p) false : State), 1, by decide +kernel⟩,
   ⟨(let p : PIx := 1; ((W.wr (F.PAIR_STATUS_STATE p) pSpare).wr (F.PAIR_STATUS_DOORWAY p) 3) : State), 1, by decide +kernel⟩,
   ⟨(let p : PIx := 1; ((W.wr (F.PAIR_STATUS_STATE p) pSpare).wr (F.PAIR_STATUS_DOORWAY p) 3) : State), 1, by decide +kernel⟩,
   ⟨(let p : PIx := 1; ((W.wr (F.PAIR_STATUS_STATE p) pBound).wr (F.PAIR_STATUS_DOORWAY p) 3) : State), 1, inv_of (by decide +kernel), by decide +kernel⟩,
   ⟨(let p : PIx := 1; ((W.wr (F.PAIR_STATUS_STATE p) pSuspect).wr (F.PAIR_STATUS_DOORWAY p) 31).setF (F.PAIR_STATUS_TESTING p) true : State), 1, by decide +kernel⟩⟩

/-- States that meet the hypotheses of PairsSplitAndRejoin. -/
theorem test_meets_PairsSplitAndRejoin :
    (∃ (s : State) (p : PIx), s.alive = true ∧ s.pairHere p = true) ∧
    (∃ (s : State) (p : PIx) (t0 : Nat), s.alive = true ∧ s.pairHere p = true ∧ s.cop.decided = some t0 ∧ s.pst p = pSpare ∧ s.flag (F.PAIR_STATUS_TESTING p) = false) ∧
    (∃ (s : State), s.alive = true ∧ s.flag F.MOD_STATE_COPPICE = true ∧ s.flag F.COPPICE_STATUS_REJOINING = false ∧ s.outputsOff = false) ∧
    (∃ (s : State), s.Inv ∧ s.alive = true ∧ s.flag F.MOD_STATE_COPPICE = false ∧ s.flag F.COPPICE_STATUS_REJOINING = false) ∧
    (∃ (s : State) (p : PIx), s.alive = true ∧ s.pairHere p = true ∧ (s.eng p).job = .rejoin 1 ∧ (s.eng p).upEcc = false) ∧
    (∃ (s : State) (p : PIx), s.Inv ∧ s.alive = true ∧ s.pairHere p = true ∧ (s.eng p).job = .rejoin 3) ∧
    (∃ (s : State) (p : PIx) (d : DIx), s.alive = true ∧ s.pairHere p = true ∧ (s.eng p).job = .rejoin 4 ∧ s.pairDwy p = some d ∧ (s.head d).raws.length < 2) ∧
    (∃ (s : State) (t0 : Nat), s.alive = true ∧ s.cop.rejoinAt = some t0 ∧ s.pairsIn pSplit = 0 ∧ s.pairsIn pRejoining = 0) :=
  ⟨⟨(let p : PIx := 1; ((W.wr (F.PAIR_STATUS_STATE p) pBound).wr (F.PAIR_STATUS_DOORWAY p) 3) : State), 1, by decide +kernel⟩,
   ⟨(let p : PIx := 1; let t0 : Nat := 5; let s0 := ((W.wr (F.PAIR_STATUS_STATE p) pSpare).wr (F.PAIR_STATUS_DOORWAY p) 31).setF (F.PAIR_STATUS_TESTING p) false; { s0 with cop := { s0.cop with decided := some t0 } } : State), 1, 5, by decide +kernel⟩,
   ⟨((W.setF F.MOD_STATE_COPPICE true).setF F.COPPICE_STATUS_REJOINING false : State), by decide +kernel⟩,
   ⟨((W.setF F.MOD_STATE_COPPICE false).setF F.COPPICE_STATUS_REJOINING false : State), inv_of (by decide +kernel), by decide +kernel⟩,
   ⟨(let p : PIx := 1; (((W.wr (F.PAIR_STATUS_STATE p) pSplit).wr (F.PAIR_STATUS_DOORWAY p) 3).modEng p (fun e => { e with job := .rejoin 1 })) : State), 1, by decide +kernel⟩,
   ⟨(let p : PIx := 1; (((W.wr (F.PAIR_STATUS_STATE p) pRejoining).wr (F.PAIR_STATUS_DOORWAY p) 3).modEng p (fun e => { e with job := .rejoin 3 })) : State), 1, inv_of (by decide +kernel), by decide +kernel⟩,
   ⟨(let p : PIx := 1; (((W.wr (F.PAIR_STATUS_STATE p) pRejoining).wr (F.PAIR_STATUS_DOORWAY p) 3).modEng p (fun e => { e with job := .rejoin 4 })) : State), 1, 3, by decide +kernel⟩,
   ⟨(let t0 : Nat := 5; { W with cop := { W.cop with rejoinAt := some t0 } } : State), 5, by decide +kernel⟩⟩

/-- States that meet the hypotheses of LearningAndTasksRun. -/
theorem test_meets_LearningAndTasksRun :
    (∃ (s : State) (d : DIx) (r : RawFrame) (l : List RawFrame), s.on d = true ∧ s.taskDue d s.cop.seamAt F.COPPICE_CFG_SEAM_EN = true ∧ (s.head d).raws = r :: l) ∧
    (∃ (s : State) (d : DIx), s.Inv ∧ s.on d = true ∧ (s.taskDue d s.cop.seamAt F.COPPICE_CFG_SEAM_EN = false ∨ (s.head d).raws = [])) ∧
    (∃ (s : State) (d : DIx) (r : RawFrame) (l : List RawFrame), s.on d = true ∧ s.taskDue d s.cop.occAt F.COPPICE_CFG_OCC_EN = true ∧ s.taskDue d s.cop.seamAt F.COPPICE_CFG_SEAM_EN = false ∧ (s.head d).raws = r :: l) ∧
    (∃ (s : State) (d : DIx), s.Inv ∧ s.on d = true ∧ (s.taskDue d s.cop.occAt F.COPPICE_CFG_OCC_EN = false ∨ s.taskDue d s.cop.seamAt F.COPPICE_CFG_SEAM_EN = true ∨ (s.head d).raws = [])) ∧
    (∃ (s : State) (d : DIx), s.on d = true ∧ s.taskPool ≠ [] ∧ s.taskDue d s.cop.seamAt F.COPPICE_CFG_SEAM_EN = true ∧ (s.head d).raws ≠ []) ∧
    (∃ (s : State) (d : DIx), s.on d = true ∧ s.taskPool ≠ [] ∧ s.taskDue d s.cop.occAt F.COPPICE_CFG_OCC_EN = true ∧ s.taskDue d s.cop.seamAt F.COPPICE_CFG_SEAM_EN = false ∧ (s.head d).raws ≠ []) ∧
    (∃ (s : State) (d : DIx) (t0 : Nat), s.on d = true ∧ (s.topi d).adaptFrom = some t0 ∧ t0 + msT 500 ≤ s.now ∧ (s.topi d).adapted = false ∧ s.st d = .closedLocked ∧ s.modelOk d = true ∧ s.flag (F.TOPI_STATUS_DRIFT d) = false ∧ s.resOf d poolEng < 32 ∧ s.rd (F.PAIR_STATUS_STATE (Fin.ofNat 32 (s.resOf d poolEng))) = 2 ∧ s.framed d = true) ∧
    (∃ (s : State) (d : DIx) (t0 : Nat), s.on d = true ∧ (s.topi d).adaptFrom = some t0 ∧ t0 + msT 500 ≤ s.now ∧ (s.topi d).adapted = false ∧ s.st d = .closedLocked ∧ s.modelOk d = true ∧ s.flag (F.TOPI_STATUS_DRIFT d) = false ∧ s.resOf d poolEng < 32 ∧ s.rd (F.PAIR_STATUS_STATE (Fin.ofNat 32 (s.resOf d poolEng))) = 2 ∧ s.framed d = false ∧ (s.topi d).confirmKey = none) ∧
    (∃ (s : State) (d : DIx) (a : AIx), s.Inv ∧ s.on d = true ∧ s.flag (F.AX_STATUS_MOVING d a) = false ∧ (s.rdS (F.DEVIATION d a)).natAbs ≤ s.rd (F.REST_REST_WIN d a) ∧ 40 * s.rd (F.REST_REST_TIME d a) ≤ (s.axis d a).restN) ∧
    (∃ (s : State) (d : DIx), s.on d = true ∧ ((s.st d == .unproven || s.st d == .released || s.st d == .opened) && decide (79 ≤ s.freeSectors d.val) && s.zeroSpeed && s.flag F.TRN_STATUS_DEPOT) = true) ∧
    (∃ (s : State) (d : DIx), s.Inv ∧ s.on d = true ∧ ((s.st d == .unproven || s.st d == .released || s.st d == .opened) && decide (79 ≤ s.freeSectors d.val) && s.zeroSpeed && s.flag F.TRN_STATUS_DEPOT) = false) ∧
    (∃ (s : State) (d : DIx), s.on d = true) ∧
    (∃ (s : State) (d : DIx), s.on d = true ∧ s.flag (F.TOPI_STATUS_PENDING d) = true) ∧
    (∃ (s : State) (d : DIx), s.on d = true ∧ s.flag (F.TOPI_STATUS_LEARNING d) = true ∧ s.rd (F.TOPI_STATUS_LEARN_OK d) = 8) :=
  ⟨⟨((((((((W.wr (F.PAIR_STATUS_STATE 1) pSplit).wr (F.PAIR_STATUS_DOORWAY 1) 3).modHead 3 (fun h => { h with raws := [{ ctr := 1, tref := 100, trefTb := 100, lines := [] }] })).wr (plcDwy 3 poolEng) 1).setF F.PWR_STATUS_KEEP_ENTRY false).setF F.PWR_STATUS_SHUTDOWN false).setF F.COPPICE_CFG_SEAM_EN true).wr F.COPPICE_CFG_PERSON_AREA 25 : State), 3, { ctr := 1, tref := 100, trefTb := 100, lines := [] }, [], by decide +kernel⟩,
   ⟨(W.setF F.COPPICE_CFG_SEAM_EN false : State), 3, inv_of (by decide +kernel), by decide +kernel⟩,
   ⟨(((((((((W.wr (F.PAIR_STATUS_STATE 1) pSplit).wr (F.PAIR_STATUS_DOORWAY 1) 3).modHead 3 (fun h => { h with raws := [{ ctr := 1, tref := 100, trefTb := 100, lines := [] }] })).wr (plcDwy 3 poolEng) 1).setF F.PWR_STATUS_KEEP_ENTRY false).setF F.PWR_STATUS_SHUTDOWN false).setF F.COPPICE_CFG_OCC_EN true).wr F.COPPICE_CFG_PERSON_AREA 25).setF F.COPPICE_CFG_SEAM_EN false : State), 3, { ctr := 1, tref := 100, trefTb := 100, lines := [] }, [], by decide +kernel⟩,
   ⟨(W.setF F.COPPICE_CFG_OCC_EN false : State), 3, inv_of (by decide +kernel), by decide +kernel⟩,
   ⟨((((((((W.wr (F.PAIR_STATUS_STATE 1) pSplit).wr (F.PAIR_STATUS_DOORWAY 1) 3).modHead 3 (fun h => { h with raws := [{ ctr := 1, tref := 100, trefTb := 100, lines := [] }] })).wr (plcDwy 3 poolEng) 1).setF F.PWR_STATUS_KEEP_ENTRY false).setF F.PWR_STATUS_SHUTDOWN false).setF F.COPPICE_CFG_SEAM_EN true).wr F.COPPICE_CFG_PERSON_AREA 25 : State), 3, by decide +kernel⟩,
   ⟨(((((((((W.wr (F.PAIR_STATUS_STATE 1) pSplit).wr (F.PAIR_STATUS_DOORWAY 1) 3).modHead 3 (fun h => { h with raws := [{ ctr := 1, tref := 100, trefTb := 100, lines := [] }] })).wr (plcDwy 3 poolEng) 1).setF F.PWR_STATUS_KEEP_ENTRY false).setF F.PWR_STATUS_SHUTDOWN false).setF F.COPPICE_CFG_OCC_EN true).wr F.COPPICE_CFG_PERSON_AREA 25).setF F.COPPICE_CFG_SEAM_EN false : State), 3, by decide +kernel⟩,
   ⟨(let d : DIx := 3; ((((((((W.wr (F.SEQ_STATE 3) (SeqState.closedLocked.code)).wr (F.TOPI_STATUS_MODEL 3) (1)).wr (F.TOPI_STATUS_DRIFT 3) (0)).wr (plcDwy 3 poolEng) (1)).wr (F.PAIR_STATUS_STATE 1) (2)).wr (F.HEAD_STATUS_LINK 3) (3))).modTopi d (fun h => { h with adaptFrom := some 0, adapted := false, offs := [3, -2] })) : State), 3, 0, by decide +kernel⟩,
   ⟨(let d : DIx := 3; ((((((((W.wr (F.SEQ_STATE 3) (SeqState.closedLocked.code)).wr (F.TOPI_STATUS_MODEL 3) (1)).wr (F.TOPI_STATUS_DRIFT 3) (0)).wr (plcDwy 3 poolEng) (1)).wr (F.PAIR_STATUS_STATE 1) (2)).wr (F.HEAD_STATUS_LINK 3) (1))).modTopi d (fun h => { h with adaptFrom := some 0, adapted := false, offs := [3, -2] })) : State), 3, 0, by decide +kernel⟩,
   ⟨((((W.setF (F.AX_STATUS_MOVING 3 1) false).wr (F.DEVIATION 3 1) (0))).modAx 3 1 (fun x => { x with restN := 100000 }) : State), 3, 1, inv_of (by decide +kernel), by decide +kernel⟩,
   ⟨((((W.wr (F.TRN_STATUS_ZS_VALID) (1)).setF (F.TRN_STATUS_DEPOT) true).wr (F.SEQ_STATE 3) (SeqState.opened.code)) : State), 3, by decide +kernel⟩,
   ⟨((W.setF (F.TRN_STATUS_DEPOT) false) : State), 3, inv_of (by decide +kernel), by decide +kernel⟩,
   ⟨((W.setF (F.TOPI_STATUS_LEARNING 3) true) : State), 3, by decide +kernel⟩,
   ⟨((W.setF (F.TOPI_STATUS_PENDING 3) true) : State), 3, by decide +kernel⟩,
   ⟨(((W.setF (F.TOPI_STATUS_LEARNING 3) true).wr (F.TOPI_STATUS_LEARN_OK 3) (8)) : State), 3, by decide +kernel⟩⟩

/-- States that meet the hypotheses of HostMovesAndStops. -/
theorem test_meets_HostMovesAndStops :
    (∃ (s : State) (d : DIx), s.Inv ∧ s.on d = true ∧ s.hostMoveOk d = false) ∧
    (∃ (s : State) (d : DIx) (a : AIx), s.Inv ∧ s.on d = true ∧ s.hostMoveOk d = true ∧ s.flag (F.AX_STATUS_MOVING d a) = true) ∧
    (∃ (s : State) (d : DIx) (a : AIx), s.Inv ∧ s.on d = true ∧ s.hostMoveOk d = true ∧ s.flag (F.AX_STATUS_MOVING d a) = false) ∧
    (∃ (s : State) (d : DIx) (a : AIx), s.Inv ∧ s.on d = true ∧ s.flag (F.AX_STATUS_MOVING d a) = true ∧ (s.axis d a).gen ≠ .ss1) ∧
    (∃ (s : State) (d : DIx) (a : AIx), s.Inv ∧ s.on d = true ∧ (s.flag (F.AX_STATUS_MOVING d a) = false ∨ (s.axis d a).gen = .ss1)) :=
  ⟨⟨((W.setF (F.TRN_STATUS_DEPOT) false) : State), 3, inv_of (by decide +kernel), by decide +kernel⟩,
   ⟨(((((((W.wr (F.SEQ_STATE 3) (SeqState.held.code)).wr (F.TRN_STATUS_ZS_VALID) (1)).setF (F.TRN_STATUS_DEPOT) true).setF (F.PD_STATUS_MAINT 3) false).setF (F.PD_CFG_TH_REQ 3) false).setF (F.AX_STATUS_MOVING 3 1) true) : State), 3, 1, inv_of (by decide +kernel), by decide +kernel⟩,
   ⟨(((((((W.wr (F.SEQ_STATE 3) (SeqState.held.code)).wr (F.TRN_STATUS_ZS_VALID) (1)).setF (F.TRN_STATUS_DEPOT) true).setF (F.PD_STATUS_MAINT 3) false).setF (F.PD_CFG_TH_REQ 3) false).setF (F.AX_STATUS_MOVING 3 1) false) : State), 3, 1, inv_of (by decide +kernel), by decide +kernel⟩,
   ⟨(((W.setF (F.AX_STATUS_MOVING 3 1) true).setF (F.AX_STATUS_AT_REST 3 1) false) : State), 3, 1, inv_of (by decide +kernel), by decide +kernel⟩,
   ⟨((W.setF (F.AX_STATUS_MOVING 3 1) false) : State), 3, 1, inv_of (by decide +kernel), by decide +kernel⟩⟩

/-- States that meet the hypotheses of DriveLinkRetrains. -/
theorem test_meets_DriveLinkRetrains :
    (∃ (s : State) (d : DIx), s.on d = true ∧ 10 ≤ (s.drv d).fbMiss ∧ s.rd (F.DRV_STATUS_LINK d) = 3) ∧
    (∃ (s : State) (d : DIx), s.on d = true ∧ (s.drv d).phyUp = true ∧ s.rd (F.DRV_STATUS_LINK d) ≠ 0) ∧
    (∃ (s : State) (d : DIx), s.Inv ∧ s.on d = true ∧ ((s.drv d).phyUp = false ∨ s.rd (F.DRV_STATUS_LINK d) = 0)) ∧
    (∃ (s : State) (d : DIx), s.on d = true) ∧
    (∃ (s : State) (d : DIx), s.Inv ∧ s.on d = true) ∧
    (∃ (s : State) (d : DIx), s.on d = true ∧ (s.drv d).retrainOpen = true ∧ (s.drv d).trig + msT 5 ≤ s.now) ∧
    (∃ (s : State) (d : DIx) (t0 : Nat), s.on d = true ∧ (s.drv d).failedAt = some t0 ∧ t0 + msT 1000 ≤ s.now ∧ s.rd (F.DRV_STATUS_LINK d) ≠ 3) :=
  ⟨⟨(let d : DIx := 3; (((W.wr (F.DRV_STATUS_LINK 3) (3))).modDrv d (fun h => { h with fbMiss := 10 })) : State), 3, by decide +kernel⟩,
   ⟨(let d : DIx := 3; (((W).modDrv d (fun h => { h with phyUp := true })).wr (F.DRV_STATUS_LINK 3) (2)) : State), 3, by decide +kernel⟩,
   ⟨W, 3, inv_of (by decide +kernel), by decide +kernel⟩,
   ⟨W, 3, by decide +kernel⟩,
   ⟨W, 3, inv_of (by decide +kernel), by decide +kernel⟩,
   ⟨(let d : DIx := 3; ((W).modDrv d (fun h => { h with retrainOpen := true, trig := 0 })) : State), 3, by decide +kernel⟩,
   ⟨(let d : DIx := 3; (((W.wr (F.DRV_STATUS_LINK 3) (1))).modDrv d (fun h => { h with failedAt := some 0 })) : State), 3, 0, by decide +kernel⟩⟩

/-- States that meet the hypotheses of DriveFramesAndEnables. -/
theorem test_meets_DriveFramesAndEnables :
    (∃ (s : State) (d : DIx) (t0 : Nat), s.on d = true ∧ (s.drv d).conflictAt = some t0 ∧ t0 + msT 5 < s.now ∧ (s.drv d).conflictTold = false) ∧
    (∃ (s : State) (d : DIx) (out : Fin 2) (on : Bool), s.Inv ∧ s.on d = true ∧ (on = false ∨ (if out.val = 0 then (s.drv d).onFailA else (s.drv d).onFailB) = 0)) ∧
    (∃ (s : State) (d : DIx) (out : Fin 2), s.on d = true ∧ (if out.val = 0 then (s.drv d).onFailA else (s.drv d).onFailB) = 1) ∧
    (∃ (s : State) (d : DIx) (out : Fin 2), s.on d = true ∧ s.flag (if out.val = 0 then F.DEN_STATUS_DEN_A d else F.DEN_STATUS_DEN_B d) = true) ∧
    (∃ (s : State) (d : DIx) (out : Fin 2) (on : Bool), s.on d = true ∧ ((on = true ∨ s.flag (if out.val = 0 then F.DEN_STATUS_DEN_A d else F.DEN_STATUS_DEN_B d) = false)) ∧ (s.hasAuth && s.ran (s.drv d).podBad 10 && (bitOf (s.rd (F.DRV_STATUS_STO_LOW d)) out.val == s.flag (if out.val = 0 then F.DEN_STATUS_DEN_A d else F.DEN_STATUS_DEN_B d))) = true) ∧
    (∃ (s : State) (d : DIx) (out : Fin 2) (on : Bool), s.Inv ∧ s.on d = true ∧ ((on = true ∨ s.flag (if out.val = 0 then F.DEN_STATUS_DEN_A d else F.DEN_STATUS_DEN_B d) = false)) ∧ (s.hasAuth && s.ran (s.drv d).podBad 10 && (bitOf (s.rd (F.DRV_STATUS_STO_LOW d)) out.val == s.flag (if out.val = 0 then F.DEN_STATUS_DEN_A d else F.DEN_STATUS_DEN_B d))) = false) ∧
    (∃ (s : State) (d : DIx), s.on d = true ∧ 2 ≤ s.rd (F.DRV_STATUS_LINK d)) ∧
    (∃ (s : State) (d : DIx) (ok : Bool) (p : List Byte), s.Inv ∧ s.on d = true ∧ (s.drv d).phyUp = true ∧ (driveFbFramed ok p = false ∨ (s.cvuOf 2 d.val = none ∧ driveFbOk ok p = false))) ∧
    (∃ (s : State) (d : DIx) (ok : Bool) (p : List Byte), s.on d = true ∧ (s.drv d).phyUp = true ∧ s.cvuOf 2 d.val = none ∧ driveFbOk ok p = true ∧ s.rd (F.DRV_STATUS_LINK d) = 3 ∧ bitOf (fieldAt p 6 1) 3 = false ∧ fieldAt p 7 1 % 64 = 0) ∧
    (∃ (s : State) (d : DIx) (ok : Bool) (p : List Byte), s.on d = true ∧ (s.drv d).phyUp = true ∧ s.cvuOf 2 d.val = none ∧ driveFbOk ok p = true ∧ s.rd (F.DRV_STATUS_LINK d) = 3 ∧ bitOf (fieldAt p 6 1) 3 = false ∧ fieldAt p 7 1 % 64 ≠ 0 ∧ fieldAt p 7 1 % 64 ≠ s.rd (F.DRV_STATUS_FAULT d)) :=
  ⟨⟨(let d : DIx := 3; ((W).modDrv d (fun h => { h with conflictAt := some 0 })) : State), 3, 0, by decide +kernel⟩,
   ⟨W, 3, 1, true, inv_of (by decide +kernel), by decide +kernel⟩,
   ⟨(let d : DIx := 3; ((W).modDrv d (fun h => { h with onFailB := 1 })) : State), 3, 1, by decide +kernel⟩,
   ⟨((W.setF (F.DEN_STATUS_DEN_B 3) true) : State), 3, 1, by decide +kernel⟩,
   ⟨(let d : DIx := 3; (((W.wr (F.DRV_STATUS_STO_LOW 3) (0))).modDrv d (fun h => { h with podBad := some 0 })) : State), 3, 1, true, by decide +kernel⟩,
   ⟨W, 3, 1, true, inv_of (by decide +kernel), by decide +kernel⟩,
   ⟨(let d : DIx := 3; (((W.wr (F.DRV_STATUS_LINK 3) (3))).modDrv d (fun h => { h with clrFault := true })) : State), 3, by decide +kernel⟩,
   ⟨(let d : DIx := 3; ((W).modDrv d (fun h => { h with phyUp := true })) : State), 3, true, [], inv_of (by decide +kernel), by decide +kernel⟩,
   ⟨(let d : DIx := 3; ((((W).modDrv d (fun h => { h with phyUp := true })).wr (F.DRV_STATUS_LINK 3) (3)).wr (F.DRV_STATUS_FAULT 3) (0)) : State), 3, true, withCrc (([0x21,1,0,0,5,0,3,0] : List Byte) ++ (List.replicate 12 7) ++ [1,2,3,4, 2,0, 9,9,9,9] : List Byte) ++ List.replicate 12 0, by decide +kernel⟩,
   ⟨(let d : DIx := 3; ((((W).modDrv d (fun h => { h with phyUp := true })).wr (F.DRV_STATUS_LINK 3) (3)).wr (F.DRV_STATUS_FAULT 3) (0)) : State), 3, true, withCrc (([0x21,1,0,0,5,0,3,5] : List Byte) ++ (List.replicate 12 7) ++ [1,2,3,4, 2,0, 9,9,9,9] : List Byte) ++ List.replicate 12 0, by decide +kernel⟩⟩

/-- States that meet the hypotheses of EncoderCounts. -/
theorem test_meets_EncoderCounts :
    (∃ (s : State) (d : DIx) (a : AIx) (va : Bool) (vb : Bool) (na : Nat) (nb : Nat) (fa : Bool) (fb : Bool), s.alive = true ∧ s.present d = true ∧ fa = (if s.filtN d a ≤ na then va else (s.enc d a).a) ∧ fb = (if s.filtN d a ≤ nb then vb else (s.enc d a).b) ∧ ((s.enc d a).a != fa) ≠ ((s.enc d a).b != fb)) ∧
    (∃ (s : State) (d : DIx) (a : AIx) (va : Bool) (vb : Bool) (na : Nat) (nb : Nat) (fa : Bool) (fb : Bool), s.Inv ∧ s.alive = true ∧ s.present d = true ∧ fa = (if s.filtN d a ≤ na then va else (s.enc d a).a) ∧ fb = (if s.filtN d a ≤ nb then vb else (s.enc d a).b) ∧ (s.enc d a).a = fa ∧ (s.enc d a).b = fb) ∧
    (∃ (s : State) (d : DIx) (a : AIx) (va : Bool) (vb : Bool) (na : Nat) (nb : Nat) (fa : Bool) (fb : Bool), s.alive = true ∧ s.present d = true ∧ fa = (if s.filtN d a ≤ na then va else (s.enc d a).a) ∧ fb = (if s.filtN d a ≤ nb then vb else (s.enc d a).b) ∧ (s.enc d a).a ≠ fa ∧ (s.enc d a).b ≠ fb) ∧
    (∃ (s : State) (d : DIx), s.Inv ∧ s.on d = true) :=
  ⟨⟨(let d : DIx := 3; let a : AIx := 1; ((W).modEnc d a (fun h => { h with a := false, b := false })) : State), 3, 1, true, false, 1000, 1000, true, false, by decide +kernel⟩,
   ⟨(let d : DIx := 3; let a : AIx := 1; ((W).modEnc d a (fun h => { h with a := true, b := false })) : State), 3, 1, true, false, 1000, 1000, true, false, inv_of (by decide +kernel), by decide +kernel⟩,
   ⟨(let d : DIx := 3; let a : AIx := 1; ((W).modEnc d a (fun h => { h with a := false, b := false })) : State), 3, 1, true, true, 1000, 1000, true, true, by decide +kernel⟩,
   ⟨W, 3, inv_of (by decide +kernel), by decide +kernel⟩⟩

/-- States that meet the hypotheses of IndexReferenceAndLoss. -/
theorem test_meets_IndexReferenceAndLoss :
    (∃ (s : State) (d : DIx) (a : AIx) (z : Bool) (n : Nat) (fz : Bool), s.alive = true ∧ s.present d = true ∧ fz = (if s.filtN d a ≤ n then z else (s.enc d a).z) ∧ indexHit (s.rd (F.ENC_CFG_IDX_MODE d a)) (s.enc d a) { (s.enc d a) with z := fz } = true ∧ (s.enc d a).idxHave = false) ∧
    (∃ (s : State) (d : DIx) (a : AIx) (z : Bool) (n : Nat) (fz : Bool), s.alive = true ∧ s.present d = true ∧ fz = (if s.filtN d a ≤ n then z else (s.enc d a).z) ∧ indexHit (s.rd (F.ENC_CFG_IDX_MODE d a)) (s.enc d a) { (s.enc d a) with z := fz } = true ∧ (s.enc d a).idxHave = true) ∧
    (∃ (s : State) (d : DIx) (a : AIx) (z : Bool) (n : Nat) (fz : Bool), s.Inv ∧ s.alive = true ∧ s.present d = true ∧ fz = (if s.filtN d a ≤ n then z else (s.enc d a).z) ∧ indexHit (s.rd (F.ENC_CFG_IDX_MODE d a)) (s.enc d a) { (s.enc d a) with z := fz } = false) ∧
    (∃ (s : State) (d : DIx) (a : AIx) (t0 : Nat), s.on d = true ∧ (s.enc d a).refEdge = some t0 ∧ s.flag (F.POS_STATUS_LOSS d a) = false ∧ (s.flag (F.POS_STATUS_DIR d a) || s.flag (F.POS_STATUS_STILL d a)) = true ∧ s.flag (F.AX_STATUS_REFERENCED d a) = false) ∧
    (∃ (s : State) (d : DIx) (a : AIx) (t0 : Nat), s.on d = true ∧ (s.enc d a).refEdge = some t0 ∧ s.flag (F.POS_STATUS_LOSS d a) = false ∧ (s.flag (F.POS_STATUS_DIR d a) || s.flag (F.POS_STATUS_STILL d a)) = true ∧ s.flag (F.AX_STATUS_REFERENCED d a) = true) ∧
    (∃ (s : State) (d : DIx) (a : AIx) (fa : Bool) (fb : Bool), s.on d = true ∧ (fa = true ∨ fb = true) ∧ 15 ≤ (s.enc d a).detN) ∧
    (∃ (s : State) (d : DIx), s.Inv ∧ s.on d = true) ∧
    (∃ (s : State) (d : DIx) (a : AIx) (t0 : Nat), s.on d = true ∧ (s.enc d a).quiet = some t0 ∧ t0 + msT 100 ≤ s.now ∧ s.flag (F.POS_STATUS_LOSS d a) = true ∧ (s.enc d a).illegal.all (fun x => s.past x (msT 100)) = true) :=
  ⟨⟨(let d : DIx := 3; let a : AIx := 1; (((W.wr (F.ENC_CFG_IDX_MODE 3 1) (1))).modEnc d a (fun h => { h with z := false, idxHave := false })) : State), 3, 1, true, 1000, true, by decide +kernel⟩,
   ⟨(let d : DIx := 3; let a : AIx := 1; (((W.wr (F.ENC_CFG_IDX_MODE 3 1) (2))).modEnc d a (fun h => { h with z := false, a := true, b := true, idxHave := true })) : State), 3, 1, true, 1000, true, by decide +kernel⟩,
   ⟨((W.wr (F.ENC_CFG_IDX_MODE 3 1) (0)) : State), 3, 1, true, 1000, true, inv_of (by decide +kernel), by decide +kernel⟩,
   ⟨(let d : DIx := 3; let a : AIx := 1; (((((W.setF (F.POS_STATUS_LOSS 3 1) false).setF (F.POS_STATUS_DIR 3 1) true).setF (F.AX_STATUS_REFERENCED 3 1) false)).modEnc d a (fun h => { h with refEdge := some 5 })) : State), 3, 1, 5, by decide +kernel⟩,
   ⟨(let d : DIx := 3; let a : AIx := 1; (((((W.setF (F.POS_STATUS_LOSS 3 1) false).setF (F.POS_STATUS_DIR 3 1) true).setF (F.AX_STATUS_REFERENCED 3 1) true)).modEnc d a (fun h => { h with refEdge := some 5 })) : State), 3, 1, 5, by decide +kernel⟩,
   ⟨(let d : DIx := 3; let a : AIx := 1; (((((W.setF (F.POS_STATUS_LOSS 3 1) false).setF (F.DEN_STATUS_DEN_A 3) true).setF (F.DEN_STATUS_DEN_B 3) true)).modEnc d a (fun h => { h with detN := 15 })) : State), 3, 1, true, false, by decide +kernel⟩,
   ⟨W, 3, inv_of (by decide +kernel), by decide +kernel⟩,
   ⟨(let d : DIx := 3; let a : AIx := 1; (((W.setF (F.POS_STATUS_LOSS 3 1) true)).modEnc d a (fun h => { h with quiet := some 0 })) : State), 3, 1, 0, by decide +kernel⟩⟩

/-- States that meet the hypotheses of FieldInputsAreRead. -/
theorem test_meets_FieldInputsAreRead :
    (∃ (s : State) (j : JIx) (d : DIx), s.alive = true ∧ (s.asic j.val).carryA = 0 ∧ s.present d = true ∧ d.val = 6 * j.val + (s.asic j.val).seqN % 3) ∧
    (∃ (s : State) (j : JIx) (d : DIx), s.alive = true ∧ (s.asic j.val).carryB = 0 ∧ s.present d = true ∧ d.val / 6 = j.val) ∧
    (∃ (s : State), s.alive = true) ∧
    (∃ (s : State) (d : DIx), s.on d = true ∧ s.rd (F.OBST_STATUS_SS1 d) = 1 ∧ (s.obst d).t0 + msT 120 ≤ s.now) ∧
    (∃ (s : State) (d : DIx) (n : Fin 2), s.on d = true ∧ s.edgeEn d n.val = true ∧ s.ran (s.edge d n.val).badSince 100 = true) ∧
    (∃ (s : State) (d : DIx) (n : Fin 2), s.Inv ∧ s.on d = true ∧ s.ran (s.edge d n.val).normSince 1000 = true) :=
  ⟨⟨(W.modAsic 0 (fun a => { a with seqN := 1, carryA := 0 }) : State), 0, 1, by decide +kernel⟩,
   ⟨W, 0, 1, by decide +kernel⟩,
   ⟨W, by decide +kernel⟩,
   ⟨((W.wr (F.OBST_STATUS_SS1 3) (1)) : State), 3, by decide +kernel⟩,
   ⟨((let s0 : State := W; (s0.wr (F.OBST_CFG_EDGE1_EN 3) 1).modObst 3 (fun o => { o with edge1 := { o.edge1 with badSince := some 0 } })) : State), 3, 1, by decide +kernel⟩,
   ⟨((let s0 : State := W; s0.modObst 3 (fun o => { o with edge1 := { o.edge1 with normSince := some 0 } })) : State), 3, 1, inv_of (by decide +kernel), by decide +kernel⟩⟩

/-- States that meet the hypotheses of LocksAndTrainLines. -/
theorem test_meets_LocksAndTrainLines :
    (∃ (s : State) (d : DIx), s.on d = true ∧ s.ran (s.lockH d).lowSince 20 = true) ∧
    (∃ (s : State) (d : DIx), s.on d = true ∧ s.ran (s.lockH d).lowSince 20 = false ∧ s.ran (s.lockH d).highSince 20 = true) ∧
    (∃ (s : State) (d : DIx), s.on d = true ∧ s.ran (s.lockH d).stuckSince 10 = true ∧ s.flag (F.LOCK_STATUS_STUCK_ON d) = false) ∧
    (∃ (s : State) (d : DIx) (i : Nat), s.on d = true ∧ (List.range 8).filter (fun i => (nth (s.implausible d) i (0, false)).2 && s.ran (nth (s.lockH d).plausSince i none) 50 && !nth (s.lockH d).plausTold i false) = [i]) ∧
    (∃ (s : State) (d : DIx), s.on d = true ∧ s.ran (s.lockH d).isoDiff 500 = true ∧ s.flag (F.PROVE_STATUS_ISO_DISC d) = false) ∧
    (∃ (s : State), s.alive = true) ∧
    (∃ (s : State), s.alive = true ∧ s.ran s.trn.zsDiff 500 = true ∧ s.flag F.TRN_STATUS_ZS_DISC = false ∧ s.tl 0 ≠ s.tl 1) ∧
    (∃ (s : State), s.Inv ∧ s.alive = true ∧ s.ran s.trn.depotSince 1000 = true) ∧
    (∃ (s : State), s.Inv ∧ s.alive = true ∧ s.rd F.SIDE_MAP_MAP ≠ 0 ∧ s.trn.mapSince + msT 1000 ≤ s.now) ∧
    (∃ (s : State), s.alive = true ∧ s.ran s.trn.misSince 2000 = true) ∧
    (∃ (s : State), s.Inv ∧ s.alive = true ∧ s.ran s.trn.okSince 1000 = true) :=
  ⟨⟨(let d : DIx := 3; ((W).modLock d (fun h => { h with lowSince := some 0 })) : State), 3, by decide +kernel⟩,
   ⟨(let d : DIx := 3; ((W).modLock d (fun h => { h with highSince := some 0 })) : State), 3, by decide +kernel⟩,
   ⟨(let d : DIx := 3; (((W).modLock d (fun h => { h with stuckSince := some 0 })).setF (F.LOCK_STATUS_STUCK_ON 3) false) : State), 3, by decide +kernel⟩,
   ⟨(let d : DIx := 3; ((((W).modLock d (fun h => { h with plausSince := List.replicate 8 (some 0) })).wr (F.PROVE_STATUS_SW 3) (4)).wr (F.SEQ_STATE 3) (SeqState.held.code)) : State), 3, 4, by decide +kernel⟩,
   ⟨(let d : DIx := 3; (((W).modLock d (fun h => { h with isoDiff := some 0 })).setF (F.PROVE_STATUS_ISO_DISC 3) false) : State), 3, by decide +kernel⟩,
   ⟨W, by decide +kernel⟩,
   ⟨((((let s0 : State := W; ({ s0 with trn := { s0.trn with zsDiff := some 0 } } : State)).wr (F.TL_STATE) (1)).setF (F.TRN_STATUS_ZS_DISC) false) : State), by decide +kernel⟩,
   ⟨((let s0 : State := W; ({ s0 with trn := { s0.trn with depotSince := some 0 } } : State)) : State), inv_of (by decide +kernel), by decide +kernel⟩,
   ⟨(((let s0 : State := W; ({ s0 with trn := { s0.trn with mapSince := 0 } } : State)).wr (F.SIDE_MAP_MAP) (1)) : State), inv_of (by decide +kernel), by decide +kernel⟩,
   ⟨((let s0 : State := W; ({ s0 with trn := { s0.trn with misSince := some 0 } } : State)) : State), by decide +kernel⟩,
   ⟨((let s0 : State := W; ({ s0 with trn := { s0.trn with okSince := some 0 } } : State)) : State), inv_of (by decide +kernel), by decide +kernel⟩⟩

/-- States that meet the hypotheses of OutputsAreTested. -/
theorem test_meets_OutputsAreTested :
    (∃ (s : State) (conducting : Bool), s.Inv ∧ s.alive = true ∧ s.imgPend = [] ∧ s.hasAuth = true ∧ s.slotDue 0 = true ∧ (conducting = false ∨ nth s.trn.stuck 0 0 = 0)) ∧
    (∃ (s : State) (w : Fin 12), s.alive = true ∧ s.imgPend = [] ∧ s.hasAuth = true ∧ s.slotDue w.val = true ∧ 1 ≤ nth s.trn.stuck w.val 0) ∧
    (∃ (s : State) (o : Fin 6) (hs : Bool) (ls : Bool) (mA : Nat), s.alive = true ∧ s.hasAuth = true ∧ ((s.outOn o.val = true ∧ (hs && ls) = false) ∨ (if o.val < 2 then 3000 else 750) < mA)) ∧
    (∃ (s : State) (o : Fin 6) (hs : Bool) (ls : Bool) (mA : Nat), s.alive = true ∧ s.hasAuth = true ∧ (s.outOn o.val = false ∨ (hs && ls) = true) ∧ mA ≤ (if o.val < 2 then 3000 else 750)) :=
  ⟨⟨W, true, inv_of (by decide +kernel), by decide +kernel⟩,
   ⟨((let s0 : State := W; ({ s0 with trn := { s0.trn with stuck := List.replicate 12 1 } } : State)) : State), 3, by decide +kernel⟩,
   ⟨((W.wr F.LOOP_STATUS_L2 1).wr F.LOOP2_MEMBERS 0 : State), 1, true, false, 5, by decide +kernel⟩,
   ⟨((W.wr F.LOOP_STATUS_L2 0) : State), 1, true, false, 5, by decide +kernel⟩⟩

/-- States that meet the hypotheses of HandleOpensTheLoops. -/
theorem test_meets_HandleOpensTheLoops :
    (∃ (s : State) (d : DIx), s.on d = true ∧ s.handleOpen d = true) ∧
    (∃ (s : State) (d : DIx), s.Inv ∧ s.on d = true ∧ s.handleOpen d = false) ∧
    (∃ (s : State) (d : DIx) (t0 : Nat), s.on d = true ∧ (s.prot d).hDiff = some t0 ∧ t0 + msT 500 < s.now ∧ s.flag (F.PD_STATUS_HANDLE_DISC d) = false) ∧
    (∃ (s : State) (d : DIx) (src : Fin 2) (ch : Fin 4) (shown : Bool), s.on d = true ∧ s.hasPd = true ∧ s.tpsChecked d ch.val = true ∧ s.hasAuth = true ∧ s.tpsDue d src.val ch.val = true ∧ ch.val < 2 ∧ shown ≠ (src.val == ch.val % 2) ∧ 1 ≤ s.xsCount d (2 * ch.val + b2n (src.val == ch.val % 2))) ∧
    (∃ (s : State) (d : DIx) (ch : Fin 4), s.Inv ∧ s.on d = true ∧ s.hasPd = true ∧ s.tpsChecked d ch.val = true) ∧
    (∃ (s : State) (d : DIx), s.Inv ∧ s.on d = true ∧ s.hasPd = true ∧ (s.prot d).handleEdge = true ∧ s.flag (F.PD_STATUS_H1 d) = true ∧ s.flag (F.PD_STATUS_H2 d) = true ∧ s.flag (F.PD_STATUS_HANDLE_DISC d) = true) :=
  ⟨⟨(((((W.setF (F.PD_STATUS_H1 3) false).setF (F.PD_STATUS_H2 3) true).setF (F.PD_STATUS_HANDLE_OP 3) false).wr (F.LOOP1_MEMBERS) (0xFFFFFF)) : State), 3, by decide +kernel⟩,
   ⟨((((((W.setF (F.PD_STATUS_H1 3) true).setF (F.PD_STATUS_H2 3) true).setF (F.PD_STATUS_HANDLE_OP 3) false).setF (F.PD_STATUS_HANDLE_DISC 3) false).setF (F.PD_STATUS_HANDLE_XS 3) false) : State), 3, inv_of (by decide +kernel), by decide +kernel⟩,
   ⟨(let d : DIx := 3; (((((((W.setF (F.PD_STATUS_H1 3) true).setF (F.PD_STATUS_H2 3) true).setF (F.PD_STATUS_HANDLE_OP 3) false).setF (F.PD_STATUS_HANDLE_DISC 3) false).setF (F.PD_STATUS_HANDLE_XS 3) false)).modProt d (fun h => { h with hDiff := some 0 })) : State), 3, 0, by decide +kernel⟩,
   ⟨(let d : DIx := 3; (((((((W.setF (F.PD_STATUS_H1 3) true).setF (F.PD_STATUS_H2 3) true).setF (F.PD_STATUS_HANDLE_OP 3) false).setF (F.PD_STATUS_HANDLE_DISC 3) false).setF (F.PD_STATUS_HANDLE_XS 3) false)).modProt d (fun h => { h with xsRuns := List.replicate 8 1 })) : State), 3, 1, 1, false, by decide +kernel⟩,
   ⟨((((((W.setF (F.PD_STATUS_H1 3) true).setF (F.PD_STATUS_H2 3) true).setF (F.PD_STATUS_HANDLE_OP 3) false).setF (F.PD_STATUS_HANDLE_DISC 3) false).setF (F.PD_STATUS_HANDLE_XS 3) false) : State), 3, 1, inv_of (by decide +kernel), by decide +kernel⟩,
   ⟨(let d : DIx := 3; (((((((W.setF (F.PD_STATUS_H1 3) true).setF (F.PD_STATUS_H2 3) true).setF (F.PD_STATUS_HANDLE_DISC 3) true).setF (F.PD_STATUS_HANDLE_XS 3) false).setF (F.PD_STATUS_HANDLE_OP 3) true)).modProt d (fun h => { h with handleEdge := true })) : State), 3, inv_of (by decide +kernel), by decide +kernel⟩⟩

/-- States that meet the hypotheses of GuardAndTwoHands. -/
theorem test_meets_GuardAndTwoHands :
    (∃ (s : State) (d : DIx), s.on d = true ∧ s.hasGuard d = true ∧ s.guardIsOpen d = true ∧ s.flag (F.PD_STATUS_GUARD_OPEN d) = false ∧ (s.flag F.TRN_STATUS_DEPOT && s.zeroSpeed && (s.st d == .held || s.st d == .unproven || s.st d == .closedLocked || s.st d == .isolated)) = true ∧ ((s.hostAxis d).isSome && s.flag (F.PD_STATUS_TH_OK d)) = false) ∧
    (∃ (s : State) (d : DIx), s.on d = true ∧ s.hasGuard d = true ∧ s.guardIsOpen d = true ∧ s.flag (F.PD_STATUS_GUARD_OPEN d) = false ∧ (s.flag F.TRN_STATUS_DEPOT && s.zeroSpeed && (s.st d == .held || s.st d == .unproven || s.st d == .closedLocked || s.st d == .isolated)) = true ∧ ((s.hostAxis d).isSome && s.flag (F.PD_STATUS_TH_OK d)) = true) ∧
    (∃ (s : State) (d : DIx), s.on d = true ∧ s.hasGuard d = true ∧ s.guardIsOpen d = true ∧ s.flag (F.PD_STATUS_GUARD_OPEN d) = false ∧ (s.st d = .fenced ∨ s.st d = .emergency)) ∧
    (∃ (s : State) (d : DIx), s.on d = true ∧ s.hasGuard d = true ∧ s.guardIsOpen d = true ∧ s.flag (F.PD_STATUS_GUARD_OPEN d) = false ∧ (s.flag F.TRN_STATUS_DEPOT && s.zeroSpeed && (s.st d == .held || s.st d == .unproven || s.st d == .closedLocked || s.st d == .isolated)) = false ∧ s.st d ≠ .fenced ∧ s.st d ≠ .emergency) ∧
    (∃ (s : State) (d : DIx), s.Inv ∧ s.on d = true ∧ s.hasGuard d = true ∧ s.guardIsOpen d = false) ∧
    (∃ (s : State) (d : DIx) (t0 : Nat), s.on d = true ∧ s.hasGuard d = true ∧ (s.prot d).gDiff = some t0 ∧ t0 + msT 500 < s.now) ∧
    (∃ (s : State) (d : DIx), s.Inv ∧ s.on d = true ∧ s.hasGuard d = true ∧ s.ran (s.prot d).gAgree 1000 = true ∧ s.flag (F.PD_CFG_GUARD_TPS d) = false) ∧
    (∃ (s : State) (d : DIx), s.on d = true ∧ s.hasTh d = true ∧ (s.thDevices d) = (false, false)) ∧
    (∃ (s : State) (d : DIx) (ta : Nat) (tb : Nat), s.on d = true ∧ s.hasTh d = true ∧ (s.thDevices d) = (true, true) ∧ (s.flag (F.PD_STATUS_TH_A d) && s.flag (F.PD_STATUS_TH_B d)) = false ∧ (s.prot d).thReady = true ∧ s.flag (F.PD_STATUS_TH_OK d) = false ∧ (s.prot d).thAAt = some ta ∧ (s.prot d).thBAt = some tb ∧ s.flag (F.PD_STATUS_TH_FAULT d) = false) ∧
    (∃ (s : State) (d : DIx) (ta : Nat) (tb : Nat), s.on d = true ∧ s.hasTh d = true ∧ (s.thDevices d) = (true, true) ∧ (s.flag (F.PD_STATUS_TH_A d) && s.flag (F.PD_STATUS_TH_B d)) = false ∧ (s.prot d).thReady = false ∧ (s.prot d).thAAt = some ta ∧ (s.prot d).thBAt = some tb) ∧
    (∃ (s : State) (d : DIx), s.on d = true ∧ s.hasTh d = true ∧ ((s.thDevices d).1 && (s.thDevices d).2) = false) ∧
    (∃ (s : State) (d : DIx) (dev : Fin 2), s.on d = true ∧ s.hasTh d = true ∧ s.ran (if dev.val = 0 then (s.prot d).thADiff else (s.prot d).thBDiff) 50 = true ∧ s.flag (F.PD_STATUS_TH_FAULT d) = false) ∧
    (∃ (s : State) (d : DIx), s.Inv ∧ s.on d = true ∧ s.hasTh d = true ∧ s.ran (s.prot d).thRelSince 1000 = true) :=
  ⟨⟨(((((((((W.setF (F.PD_STATUS_G1 3) false).setF (F.PD_STATUS_G2 3) true).setF (F.PD_STATUS_GUARD_OPEN 3) false).setF (F.PD_STATUS_GUARD_FAULT 3) false).setF (F.PD_CFG_GUARD_EN 3) true).setF (F.TRN_STATUS_DEPOT) true).setF (F.TRN_STATUS_ZS_VALID) true).wr (F.SEQ_STATE 3) (SeqState.held.code)) : State), 3, by decide +kernel⟩,
   ⟨((((((((((((((W.setF (F.PD_STATUS_G1 3) false).setF (F.PD_STATUS_G2 3) true).setF (F.PD_STATUS_GUARD_OPEN 3) false).setF (F.PD_STATUS_GUARD_FAULT 3) false).setF (F.PD_CFG_GUARD_EN 3) true).setF (F.TRN_STATUS_DEPOT) true).setF (F.TRN_STATUS_ZS_VALID) true).setF (F.PD_STATUS_TH_OK 3) true).setF (F.AX_STATUS_MOVING 3 0) true).wr (F.SEQ_STATE 3) (SeqState.held.code))).modAx 3 0 (fun a => { a with host := true }))) : State), 3, by decide +kernel⟩,
   ⟨(((((((W.setF (F.PD_STATUS_G1 3) false).setF (F.PD_STATUS_G2 3) true).setF (F.PD_STATUS_GUARD_OPEN 3) false).setF (F.PD_STATUS_GUARD_FAULT 3) false).setF (F.PD_CFG_GUARD_EN 3) true).wr (F.SEQ_STATE 3) (SeqState.fenced.code)) : State), 3, by decide +kernel⟩,
   ⟨(((((((W.setF (F.PD_STATUS_G1 3) false).setF (F.PD_STATUS_G2 3) true).setF (F.PD_STATUS_GUARD_OPEN 3) false).setF (F.PD_STATUS_GUARD_FAULT 3) false).setF (F.PD_CFG_GUARD_EN 3) true).wr (F.SEQ_STATE 3) (SeqState.opening.code)) : State), 3, by decide +kernel⟩,
   ⟨(let d : DIx := 3; (((((((W.setF (F.PD_STATUS_G1 3) true).setF (F.PD_STATUS_G2 3) true).setF (F.PD_STATUS_GUARD_OPEN 3) true).setF (F.PD_STATUS_GUARD_FAULT 3) false).setF (F.PD_CFG_GUARD_EN 3) true)).modProt d (fun h => { h with gXs := false })) : State), 3, inv_of (by decide +kernel), by decide +kernel⟩,
   ⟨(let d : DIx := 3; (((((((W.setF (F.PD_STATUS_G1 3) false).setF (F.PD_STATUS_G2 3) true).setF (F.PD_STATUS_GUARD_OPEN 3) false).setF (F.PD_STATUS_GUARD_FAULT 3) false).setF (F.PD_CFG_GUARD_EN 3) true)).modProt d (fun h => { h with gDiff := some 0 })) : State), 3, 0, by decide +kernel⟩,
   ⟨(let d : DIx := 3; ((((((((W.setF (F.PD_STATUS_G1 3) false).setF (F.PD_STATUS_G2 3) true).setF (F.PD_STATUS_GUARD_OPEN 3) false).setF (F.PD_STATUS_GUARD_FAULT 3) false).setF (F.PD_CFG_GUARD_EN 3) true).setF (F.PD_CFG_GUARD_TPS 3) false)).modProt d (fun h => { h with gAgree := some 0 })) : State), 3, inv_of (by decide +kernel), by decide +kernel⟩,
   ⟨(((((((W.setF (F.PD_CFG_TH_EN 3) true).setF (F.PD_CFG_TH_MODE 3) false).wr (F.PD_IN2_TH1 3) (0)).wr (F.PD_IN2_TH2 3) (1)).wr (F.IN_STATE_FILT 3) (0)).setF (F.PD_STATUS_TH_OK 3) true) : State), 3, by decide +kernel⟩,
   ⟨(let d : DIx := 3; ((((((((((W.setF (F.PD_CFG_TH_EN 3) true).setF (F.PD_CFG_TH_MODE 3) false).wr (F.PD_IN2_TH1 3) (0)).wr (F.PD_IN2_TH2 3) (1)).wr (F.IN_STATE_FILT 3) (3)).setF (F.PD_STATUS_TH_OK 3) false).setF (F.PD_STATUS_TH_FAULT 3) false).setF (F.PD_STATUS_TH_B 3) false)).modProt d (fun h => { h with thReady := true, thAAt := some 5, thBAt := some 9 })) : State), 3, 5, 9, by decide +kernel⟩,
   ⟨(let d : DIx := 3; ((((((((W.setF (F.PD_CFG_TH_EN 3) true).setF (F.PD_CFG_TH_MODE 3) false).wr (F.PD_IN2_TH1 3) (0)).wr (F.PD_IN2_TH2 3) (1)).wr (F.IN_STATE_FILT 3) (3)).setF (F.PD_STATUS_TH_B 3) false)).modProt d (fun h => { h with thReady := false, thAAt := some 5, thBAt := some 80000009 })) : State), 3, 5, 80000009, by decide +kernel⟩,
   ⟨(((((((W.setF (F.PD_CFG_TH_EN 3) true).setF (F.PD_CFG_TH_MODE 3) false).wr (F.PD_IN2_TH1 3) (0)).wr (F.PD_IN2_TH2 3) (1)).wr (F.IN_STATE_FILT 3) (1)).setF (F.PD_STATUS_TH_OK 3) true) : State), 3, by decide +kernel⟩,
   ⟨(let d : DIx := 3; (((((((((W.setF (F.PD_CFG_TH_EN 3) true).setF (F.PD_CFG_TH_MODE 3) false).wr (F.PD_IN2_TH1 3) (0)).wr (F.PD_IN2_TH2 3) (1)).wr (F.IN_STATE_FILT 3) (1)).setF (F.PD_STATUS_TH_OK 3) true).setF (F.PD_STATUS_TH_FAULT 3) false)).modProt d (fun h => { h with thBDiff := some 0 })) : State), 3, 1, by decide +kernel⟩,
   ⟨(let d : DIx := 3; (((((((W.setF (F.PD_CFG_TH_EN 3) true).setF (F.PD_CFG_TH_MODE 3) false).wr (F.PD_IN2_TH1 3) (0)).wr (F.PD_IN2_TH2 3) (1)).wr (F.IN_STATE_FILT 3) (0))).modProt d (fun h => { h with thRelSince := some 0 })) : State), 3, inv_of (by decide +kernel), by decide +kernel⟩⟩

/-- States that meet the hypotheses of CurtainIsTested. -/
theorem test_meets_CurtainIsTested :
    (∃ (s : State) (d : DIx), s.Inv ∧ s.on d = true ∧ s.hasLc d = true ∧ s.flag (F.LC_CFG_LC_TYPE d) = false ∧ s.flag (F.PD_STATUS_LC_FAULT d) = false) ∧
    (∃ (s : State) (d : DIx), s.on d = true ∧ s.hasLc d = true ∧ s.flag (F.LC_CFG_LC_TYPE d) = true ∧ (s.prot d).lcKind = 2 ∧ s.flag (F.PD_STATUS_OSSD1 d) = true) ∧
    (∃ (s : State) (d : DIx) (t0 : Nat), s.on d = true ∧ s.hasLc d = true ∧ s.flag (F.LC_CFG_LC_TYPE d) = false ∧ (s.prot d).lcDiff = some t0 ∧ t0 + s.lcDisc d < s.now ∧ s.flag (F.PD_STATUS_LC_FAULT d) = false) ∧
    (∃ (s : State) (d : DIx), s.on d = true ∧ s.hasLc d = true ∧ s.flag (F.LC_CFG_LC_TYPE d) = true ∧ s.flag (F.PD_STATUS_LC_TESTING d) = false) ∧
    (∃ (s : State) (d : DIx), s.on d = true ∧ (s.prot d).lcKind = 1 ∧ s.ran (s.prot d).lcTestAt (s.rd (F.LC_CFG_LC_TEST_RESP d)) = true) ∧
    (∃ (s : State) (d : DIx), s.on d = true ∧ (s.prot d).lcKind = 2 ∧ s.ran (s.prot d).lcOffSince 200 = true) ∧
    (∃ (s : State) (d : DIx), s.on d = true ∧ s.hasLc d = true ∧ s.flag (F.LC_CFG_LC_TYPE d) = true ∧ s.inRun = true ∧ s.lcLate d = true ∧ s.flag (F.PD_STATUS_LC_FAULT d) = false) :=
  ⟨⟨(((((W.setF (F.PD_STATUS_LC_FAULT 3) false).setF (F.PD_STATUS_OSSD1 3) false).setF (F.OBST_CFG_LC_EN 3) true).setF (F.LC_CFG_LC_TYPE 3) false) : State), 3, inv_of (by decide +kernel), by decide +kernel⟩,
   ⟨(let d : DIx := 3; ((((((W.setF (F.PD_STATUS_OSSD1 3) true).setF (F.PD_STATUS_LC_TESTING 3) true).setF (F.OBST_CFG_LC_EN 3) true).setF (F.LC_CFG_LC_TYPE 3) true)).modProt d (fun h => { h with lcKind := 2 })) : State), 3, by decide +kernel⟩,
   ⟨(let d : DIx := 3; (((((W.setF (F.PD_STATUS_LC_FAULT 3) false).setF (F.OBST_CFG_LC_EN 3) true).setF (F.LC_CFG_LC_TYPE 3) false)).modProt d (fun h => { h with lcDiff := some 0 })) : State), 3, 0, by decide +kernel⟩,
   ⟨((((W.setF (F.PD_STATUS_LC_TESTING 3) false).setF (F.OBST_CFG_LC_EN 3) true).setF (F.LC_CFG_LC_TYPE 3) true) : State), 3, by decide +kernel⟩,
   ⟨(let d : DIx := 3; (((((W.setF (F.PD_STATUS_LC_TESTING 3) true).setF (F.OBST_CFG_LC_EN 3) true).setF (F.LC_CFG_LC_TYPE 3) true)).modProt d (fun h => { h with lcKind := 1, lcTestAt := some 0, lcOffSince := some 0 })) : State), 3, by decide +kernel⟩,
   ⟨(let d : DIx := 3; (((((W.setF (F.PD_STATUS_LC_TESTING 3) true).setF (F.OBST_CFG_LC_EN 3) true).setF (F.LC_CFG_LC_TYPE 3) true)).modProt d (fun h => { h with lcKind := 2, lcTestAt := some 0, lcOffSince := some 0 })) : State), 3, by decide +kernel⟩,
   ⟨(let d : DIx := 3; ((((((W.setF (F.PD_STATUS_LC_FAULT 3) false).setF (F.OBST_CFG_LC_EN 3) true).setF (F.LC_CFG_LC_TYPE 3) true) |> fun (x : State) => { x with now := 10^15 })).modProt d (fun h => { h with lcPassAt := some 0 })) : State), 3, by decide +kernel⟩⟩

/-- States that meet the hypotheses of SuppliesClampsAndLimpHome. -/
theorem test_meets_SuppliesClampsAndLimpHome :
    (∃ (s : State) (d : DIx) (st : Fin 3), s.alive = true ∧ s.present d = true ∧ st.val ≠ s.rd (F.FSUP_STATE d) ∧ (¬ (s.rd (F.FSUP_STATE d) = 2 ∧ st = 1))) ∧
    (∃ (s : State) (d : DIx) (st : Fin 3), s.Inv ∧ s.present d = true ∧ (st.val = s.rd (F.FSUP_STATE d) ∨ (s.rd (F.FSUP_STATE d) = 2 ∧ st = 1))) ∧
    (∃ (s : State) (d : DIx) (st : Fin 3) (k : KIx), s.alive = false ∧ s.present d = true ∧ s.rd (F.FSUP_STATE d) = 0 ∧ st ≠ 0 ∧ (s.chan d k).limp = true ∧ s.flag (F.CH_STATUS_CMD d k) = true ∧ (s.rd (F.CH_STATUS_STATE d k) = chInrush ∨ s.rd (F.CH_STATUS_STATE d k) = chOn)) ∧
    (∃ (s : State) (j : JIx) (d : DIx), s.alive = true ∧ (s.asic j.val).lostSince = none ∧ (s.asic j.val).pulseOk = false ∧ (s.asic j.val).pulseSince + msT 1 ≤ s.now ∧ s.flag (F.FIO_STATUS_LINK_OK j.val) = true ∧ d.val / 6 = j.val) ∧
    (∃ (s : State) (j : JIx) (d : DIx), s.alive = true ∧ (s.asic j.val).lostSince = none ∧ (s.asic j.val).pulseOk = false ∧ (s.asic j.val).pulseSince + msT 1 ≤ s.now ∧ s.flag (F.FIO_STATUS_LINK_OK j.val) = false ∧ d.val / 6 = j.val) ∧
    (∃ (s : State) (j : JIx), s.alive = true ∧ (s.asic j.val).armed = false ∧ (s.asic j.val).pulseOk = true ∧ (s.asic j.val).pulseSince + msT 10 ≤ s.now ∧ s.flag (F.FIO_STATUS_LINK_OK j.val) = true) ∧
    (∃ (s : State) (d : DIx) (k : KIx) (cur : List Nat), s.present d = true ∧ (cur.foldl (clampStep (clampBudget k) (s.chan d k).bkt) ((s.chan d k).buckets, false)).2 = true ∧ s.rd (F.CH_STATUS_STATE d k) ≠ chLocked) ∧
    (∃ (s : State) (d : DIx) (k : KIx) (cur : List Nat), s.Inv ∧ s.present d = true ∧ (cur.foldl (clampStep (clampBudget k) (s.chan d k).bkt) ((s.chan d k).buckets, false)).2 = false) ∧
    (∃ (s : State) (d : DIx) (k : KIx), s.Inv ∧ s.present d = true ∧ (s.chan d k).last + 10000000 ≤ s.now) ∧
    (∃ (s : State) (i : IIx), s.Inv ∧ s.lhChan i.val = none) ∧
    (∃ (s : State) (i : IIx) (d : DIx) (k : KIx), s.lhChan i.val = some (d, k) ∧ (s.chan d k).limp = true ∧ s.present d = true) :=
  ⟨⟨((W.wr (F.FSUP_STATE 3) (0)) : State), 3, 2, by decide +kernel⟩,
   ⟨((W.wr (F.FSUP_STATE 3) (2)) : State), 3, 1, inv_of (by decide +kernel), by decide +kernel⟩,
   ⟨(let d : DIx := 3; let k : KIx := 2; (let s0 : State := (((((W.wr (F.FSUP_STATE 3) (0)).wr (F.CH_STATUS_STATE 3 2) (chOn)).setF (F.CH_STATUS_CMD 3 2) true)).modCh d k (fun h => { h with limp := true })); { s0 with rail := false }) : State), 3, 1, 2, by decide +kernel⟩,
   ⟨((W.setF (F.FIO_STATUS_LINK_OK 0) true).modAsic 0 (fun a => { a with pulseOk := false, lostSince := none, pulseSince := 0 }) : State), 0, 3, by decide +kernel⟩,
   ⟨((W.setF (F.FIO_STATUS_LINK_OK 0) false).modAsic 0 (fun a => { a with pulseOk := false, lostSince := none, pulseSince := 0 }) : State), 0, 3, by decide +kernel⟩,
   ⟨((W.setF (F.FIO_STATUS_LINK_OK 0) true).modAsic 0 (fun a => { a with pulseOk := true, armed := false, pulseSince := 0 }) : State), 0, by decide +kernel⟩,
   ⟨((W.wr (F.CH_STATUS_STATE 3 2) (chOn)) : State), 3, 2, [10000000], by decide +kernel⟩,
   ⟨((W.wr (F.CH_STATUS_STATE 3 2) (chOn)) : State), 3, 2, [100], inv_of (by decide +kernel), by decide +kernel⟩,
   ⟨W, 3, 2, inv_of (by decide +kernel), by decide +kernel⟩,
   ⟨W, 5, inv_of (by decide +kernel), by decide +kernel⟩,
   ⟨(let d : DIx := 3; let k : KIx := 2; (((let s0 : State := W; ({ s0.wr (F.LH_CFG_CH 5) 21 with img := { s0.img with loaded := true } } : State))).modCh d k (fun h => { h with limp := true }))|>.wr (F.LH_CFG_CH 5) 20 : State), 5, 3, 2, by decide +kernel⟩⟩

/-- States that meet the hypotheses of ChannelsProtectThemselves. -/
theorem test_meets_ChannelsProtectThemselves :
    (∃ (s : State) (d : DIx) (k : KIx), s.present d = true ∧ (s.rd (F.CH_STATUS_STATE d k) = chInrush ∨ s.rd (F.CH_STATUS_STATE d k) = chOn) ∧ ((s.chan d k).restarts.filter (fun x => decide (s.now < x + msT 10000))).length < 3) ∧
    (∃ (s : State) (d : DIx) (k : KIx), s.present d = true ∧ (s.rd (F.CH_STATUS_STATE d k) = chInrush ∨ s.rd (F.CH_STATUS_STATE d k) = chOn) ∧ 3 ≤ ((s.chan d k).restarts.filter (fun x => decide (s.now < x + msT 10000))).length) ∧
    (∃ (s : State) (d : DIx) (k : KIx), s.Inv ∧ s.present d = true ∧ (s.rd (F.CH_STATUS_STATE d k) = chLatched ∨ s.rd (F.CH_STATUS_STATE d k) = chLocked)) ∧
    (∃ (s : State) (d : DIx) (k : KIx), s.present d = true ∧ s.rd (F.CH_STATUS_STATE d k) ≠ chTsd) ∧
    (∃ (s : State) (d : DIx) (k : KIx), s.present d = true ∧ s.rd (F.CH_STATUS_STATE d k) = chTsd ∧ s.flag (F.CH_STATUS_CMD d k) = true ∧ s.supplyOk d = true) ∧
    (∃ (s : State) (d : DIx) (k : KIx), s.present d = true ∧ s.rd (F.CH_STATUS_STATE d k) = chTsd ∧ (s.flag (F.CH_STATUS_CMD d k) = false ∨ s.supplyOk d = false)) ∧
    (∃ (s : State) (d : DIx) (k : KIx), s.present d = true ∧ s.rd (F.CH_STATUS_STATE d k) = chInrush ∧ (s.chan d k).inrushAt ≤ s.now) ∧
    (∃ (s : State) (d : DIx) (k : KIx), s.alive = true ∧ s.present d = true ∧ s.rd (F.CH_STATUS_STATE d k) = chLatched ∧ (s.chan d k).hot = false) ∧
    (∃ (s : State) (d : DIx) (k : KIx), s.Inv ∧ s.alive = true ∧ s.present d = true ∧ (s.rd (F.CH_STATUS_STATE d k) ≠ chLatched ∨ (s.chan d k).hot = true) ∧ (s.rd (F.CH_STATUS_STATE d k) ≠ chLocked ∨ clampBudget k ≤ 2 * sumNat (s.chan d k).buckets)) :=
  ⟨⟨(let d : DIx := 3; let k : KIx := 2; (((W.wr (F.CH_STATUS_STATE 3 2) (chOn))).modCh d k (fun h => { h with restarts := [] })) : State), 3, 2, by decide +kernel⟩,
   ⟨(let d : DIx := 3; let k : KIx := 2; (((W.wr (F.CH_STATUS_STATE 3 2) (chOn))).modCh d k (fun h => { h with restarts := [W.now, W.now - 5, W.now - 9] })) : State), 3, 2, by decide +kernel⟩,
   ⟨((W.wr (F.CH_STATUS_STATE 3 2) (chLatched)) : State), 3, 2, inv_of (by decide +kernel), by decide +kernel⟩,
   ⟨(let d : DIx := 3; let k : KIx := 2; ((((((W.wr (F.FSUP_STATE 3) (0)).wr (F.CH_CFG_SRC 3 2) (1)).wr (F.CH_STATUS_STATE 3 2) (chUv)).setF (F.CH_CTL_ON 3 2) true)).modCh d k (fun h => { h with hot := true })) : State), 3, 2, by decide +kernel⟩,
   ⟨((((W.wr (F.FSUP_STATE 3) (0)).wr (F.CH_STATUS_STATE 3 2) (chTsd)).setF (F.CH_STATUS_CMD 3 2) true) : State), 3, 2, by decide +kernel⟩,
   ⟨(((W.wr (F.CH_STATUS_STATE 3 2) (chTsd)).setF (F.CH_STATUS_CMD 3 2) false) : State), 3, 2, by decide +kernel⟩,
   ⟨((W.wr (F.CH_STATUS_STATE 3 2) (chInrush)) : State), 3, 2, by decide +kernel⟩,
   ⟨((W.wr (F.CH_STATUS_STATE 3 2) (chLatched)) : State), 3, 2, by decide +kernel⟩,
   ⟨((W.wr (F.CH_STATUS_STATE 3 2) (chOn)) : State), 3, 2, inv_of (by decide +kernel), by decide +kernel⟩⟩

/-- States that meet the hypotheses of ImagesAreVerifiedAndConfirmed. -/
theorem test_meets_ImagesAreVerifiedAndConfirmed :
    (∃ (s : State) (x : Option Bad), s.alive = true ∧ (s.hasAuth || s.recovers) = true ∧ s.img.load = .receiving ∧ s.cvuOf 5 0 = none ∧ ((s.setF F.CFG_CTL_VERIFY true).setLoad .verifying).imageBad (s.slot s.loadSlot) false = x) ∧
    (∃ (s : State), s.alive = true ∧ s.img.load = .verifying ∧ s.img.checked = true ∧ s.img.running = none ∧ fieldAt (s.slot s.loadSlot) 16 1 ≠ 1) ∧
    (∃ (s : State), s.alive = true ∧ (s.hasAuth || s.recovers) = true ∧ s.imgHeld = true) ∧
    (∃ (s : State) (ms : Nat), s.Inv ∧ s.alive = true ∧ s.pwr.bothC = false ∧ (ms < 200 ∨ s.img.arm = none)) ∧
    (∃ (s : State) (ms : Nat) (a : Arm), s.alive = true ∧ s.pwr.bothC = false ∧ 200 ≤ ms ∧ (s.hasAuth || s.recovers) = true ∧ s.img.arm = some a ∧ s.now < a.until_ ∧ a.target = 1 ∧ s.img.loadClass = 3) ∧
    (∃ (s : State) (a : Arm), s.alive = true ∧ s.img.arm = some a ∧ a.until_ ≤ s.now) ∧
    (∃ (s : State), s.alive = true ∧ s.img.load = .verifying ∧ s.img.checked = true ∧ s.img.running.isSome = true ∧ fieldAt (s.slot s.loadSlot) 16 1 ≠ 1 ∧ secData (s.slot s.loadSlot) 1 = secData s.runImage 1 ∧ secData (s.slot s.loadSlot) 2 ≠ secData s.runImage 2) ∧
    (∃ (s : State), s.alive = true ∧ s.img.load = .verifying ∧ s.img.checked = true ∧ s.img.running.isSome = true ∧ fieldAt (s.slot s.loadSlot) 16 1 ≠ 1 ∧ secData (s.slot s.loadSlot) 1 = secData s.runImage 1 ∧ secData (s.slot s.loadSlot) 2 = secData s.runImage 2) ∧
    (∃ (s : State), s.alive = true ∧ s.img.load = .verifying ∧ s.img.checked = true ∧ fieldAt (s.slot s.loadSlot) 16 1 = 1) ∧
    (∃ (s : State) (ms : Nat) (a : Arm), s.alive = true ∧ s.pwr.bothC = false ∧ 200 ≤ ms ∧ (s.hasAuth || s.recovers) = true ∧ s.img.arm = some a ∧ s.now < a.until_ ∧ a.target = 1 ∧ s.img.loadClass ≠ 3) ∧
    (∃ (s : State) (ms : Nat) (a : Arm), s.alive = true ∧ s.pwr.bothC = false ∧ 200 ≤ ms ∧ (s.hasAuth || s.recovers) = true ∧ s.img.arm = some a ∧ s.now < a.until_ ∧ a.target = 2) ∧
    (∃ (s : State), s.alive = true ∧ (s.modState = 3 ∨ s.modState = 1) ∧ s.img.load = .waitingImg ∧ s.img.loadClass = 3 ∧ s.zeroSpeed = true ∧ s.outputsOff = false ∧ s.faultMoves = false ∧ (∀ d : DIx, s.present d = true → bitOf (Nat.lor s.img.decl (imgDecl (s.slot s.loadSlot))) d.val = true → s.st d = .closedLocked ∨ s.st d = .unproven ∨ s.st d = .isolated ∨ s.st d = .fenced)) :=
  ⟨⟨((let s0 : State := W; ({ s0 with img := { s0.img with load := .receiving } } : State)) : State), ((W.setF F.CFG_CTL_VERIFY true).setLoad .verifying).imageBad (W.slot W.loadSlot) false, by decide +kernel⟩,
   ⟨((let s0 : State := W; ({ s0 with img := { s0.img with load := .verifying, checked := true, running := none } } : State)) : State), by decide +kernel⟩,
   ⟨((let s0 : State := W; ({ s0 with img := { s0.img with load := .pendingImg } } : State)) : State), by decide +kernel⟩,
   ⟨W, 150, inv_of (by decide +kernel), by decide +kernel⟩,
   ⟨((let s0 : State := W; ({ s0 with img := { s0.img with arm := some { target := 1, dwy := 0, until_ := W.now + 5, key := 0, code := 0 }, loadClass := 3 } } : State)) : State), 250, { target := 1, dwy := 0, until_ := W.now + 5, key := 0, code := 0 }, by decide +kernel⟩,
   ⟨((let s0 : State := W; ({ s0 with img := { s0.img with arm := some { target := 1, dwy := 0, until_ := W.now, key := 0, code := 0 } } } : State)) : State), { target := 1, dwy := 0, until_ := W.now, key := 0, code := 0 }, by decide +kernel⟩,
   ⟨((let s0 : State := W; ({ s0 with img := { s0.img with load := .verifying, checked := true, running := some true, commit := some true, slotA := (List.replicate 80 0 ++ [0,0,0,0, 2,0,0,0] ++ List.replicate 300 7 : List Byte) } } : State)) : State), by decide +kernel⟩,
   ⟨((let s0 : State := W; ({ s0 with img := { s0.img with load := .verifying, checked := true, running := some true, commit := some true } } : State)) : State), by decide +kernel⟩,
   ⟨((let s0 : State := W; ({ s0 with img := { s0.img with load := .verifying, checked := true, commit := some true, slotA := List.replicate 16 0 ++ [1] } } : State)) : State), by decide +kernel⟩,
   ⟨((let s0 : State := W; ({ s0 with img := { s0.img with arm := some { target := 1, dwy := 0, until_ := W.now + 5, key := 0, code := 0 }, loadClass := 2 } } : State)) : State), 250, { target := 1, dwy := 0, until_ := W.now + 5, key := 0, code := 0 }, by decide +kernel⟩,
   ⟨((let s0 : State := W; ({ s0 with img := { s0.img with arm := some { target := 2, dwy := 0, until_ := W.now + 5, key := 0, code := 0 }, loadClass := 0 } } : State)) : State), 250, { target := 2, dwy := 0, until_ := W.now + 5, key := 0, code := 0 }, by decide +kernel⟩,
   ⟨((((((((((((((((((((((((((((let s0 : State := W; ({ s0 with img := { s0.img with load := .waitingImg, loadClass := 3 } } : State)).wr (F.MOD_STATE_STATE) (3)).wr (F.TRN_STATUS_ZS_VALID) (1)).wr (F.SEQ_STATE 0) (1)).wr (F.SEQ_STATE 1) (1)).wr (F.SEQ_STATE 2) (1)).wr (F.SEQ_STATE 3) (1)).wr (F.SEQ_STATE 4) (1)).wr (F.SEQ_STATE 5) (1)).wr (F.SEQ_STATE 6) (1)).wr (F.SEQ_STATE 7) (1)).wr (F.SEQ_STATE 8) (1)).wr (F.SEQ_STATE 9) (1)).wr (F.SEQ_STATE 10) (1)).wr (F.SEQ_STATE 11) (1)).wr (F.SEQ_STATE 12) (1)).wr (F.SEQ_STATE 13) (1)).wr (F.SEQ_STATE 14) (1)).wr (F.SEQ_STATE 15) (1)).wr (F.SEQ_STATE 16) (1)).wr (F.SEQ_STATE 17) (1)).wr (F.SEQ_STATE 18) (1)).wr (F.SEQ_STATE 19) (1)).wr (F.SEQ_STATE 20) (1)).wr (F.SEQ_STATE 21) (1)).wr (F.SEQ_STATE 22) (1)).wr (F.SEQ_STATE 23) (1)) : State), by decide +kernel⟩⟩

/-- States that meet the hypotheses of ResourcesMove. -/
theorem test_meets_ResourcesMove :
    (∃ (s : State) (d : DIx) (kind : Fin 3), s.on d = true ∧ s.resOf d poolSes ≠ noRes ∧ kind ≠ 0) ∧
    (∃ (s : State) (d : DIx), s.on d = true ∧ s.resOf d poolSes ≠ noRes ∧ s.fm poolSes (s.resOf d poolSes) = 0 ∧ bitOf (s.fenceSet d) 7 = true) ∧
    (∃ (s : State) (r : PIx), s.alive = true ∧ 16 ≤ s.regionErrs r.val ∧ r.val < s.nPair ∧ s.fm poolDram r.val = 0) ∧
    (∃ (s : State) (d : DIx), s.Inv ∧ s.on d = true ∧ s.plc.moves.filter (fun m => s.moveStartable d m) = []) ∧
    (∃ (s : State) (d : DIx) (m : Move) (n : Nat), s.on d = true ∧ s.plc.moves.filter (fun m => s.moveStartable d m) = [m] ∧ m.pool = poolDram ∧ s.targetBusy d poolDram = false ∧ s.pickSpare d poolDram = some n) ∧
    (∃ (s : State) (d : DIx) (m : Move) (n : Nat), s.on d = true ∧ s.plc.moves.filter (fun m => s.moveStartable d m) = [m] ∧ m.pool = poolEng ∧ s.targetBusy d poolEng = false ∧ s.pairOf d = none ∧ s.pickSpare d poolEng = some n ∧ s.waits d poolEng = some m ∧ m.target = n ∧ n < s.nPair) ∧
    (∃ (s : State) (d : DIx) (pool : Fin 8), s.on d = true ∧ s.plc.moves.any (fun m => m.started && m.dwy == d.val && m.pool == pool.val) = true) ∧
    (∃ (s : State) (r : Fin 33), s.Inv ∧ s.alive = true ∧ s.inRun = true ∧ r.val < 32) ∧
    (∃ (s : State) (n : Fin 25) (d : DIx), s.on d = true ∧ d.val = n.val ∧ (s.drv d).retrainOpen = true ∧ (s.drv d).trig + msT 5 ≤ s.now) ∧
    (∃ (s : State) (n : Fin 25) (d : DIx), s.on d = true ∧ d.val = n.val ∧ (s.head d).opening = true ∧ (s.head d).trig + msT 400 ≤ s.now) ∧
    (∃ (s : State) (n : Fin 25) (d : DIx), s.on d = true ∧ d.val = n.val ∧ s.winRanOut 5 d.val = true) ∧
    (∃ (s : State) (n : Fin 25) (d : DIx), s.on d = true ∧ d.val = n.val ∧ s.winRanOut 6 d.val = true) ∧
    (∃ (s : State) (n : Fin 25), s.alive = true ∧ s.winRanOut 7 n.val = true) :=
  ⟨⟨((W.wr (plcDwy 3 poolSes) (1)) : State), 3, 1, by decide +kernel⟩,
   ⟨(((W.wr (plcDwy 3 poolSes) (1)).wr (F.FLT_DWY_FENCE_SET 3) (128)) : State), 3, by decide +kernel⟩,
   ⟨((let s0 : State := W; ({ s0 with plc := { s0.plc with dramErr := List.replicate 16 (2, W.runTime) } } : State)) : State), 2, by decide +kernel⟩,
   ⟨W, 3, inv_of (by decide +kernel), by decide +kernel⟩,
   ⟨(((((let s0 : State := W; ({ s0 with plc := { s0.plc with moves := [{ dwy := 3, pool := poolDram, target := noRes }] } } : State)).wr (F.SEQ_STATE 3) (SeqState.held.code)).wr (F.TRN_STATUS_ZS_VALID) (1)).wr (plcDwy 3 poolDram) (1)) : State), 3, { dwy := 3, pool := poolDram, target := noRes }, (W.pickSpare 3 poolDram).getD 0, by decide +kernel⟩,
   ⟨((((((let s0 : State := W; ({ s0 with plc := { s0.plc with moves := [{ dwy := 3, pool := poolEng, target := 5, plan := true }] } } : State)).wr (F.SEQ_STATE 3) (SeqState.held.code)).wr (F.TRN_STATUS_ZS_VALID) (1)).wr (plcDwy 3 poolEng) (255)).wr (F.PAIR_STATUS_STATE 5) (1)) : State), 3, { dwy := 3, pool := poolEng, target := 5, plan := true }, 5, by decide +kernel⟩,
   ⟨((let s0 : State := W; ({ s0 with plc := { s0.plc with moves := [{ dwy := 3, pool := poolDram, target := noRes, started := true }] } } : State)) : State), 3, 5, by decide +kernel⟩,
   ⟨W, 2, inv_of (by decide +kernel), by decide +kernel⟩,
   ⟨(W.modDrv 3 (fun v => { v with retrainOpen := true, trig := 0 }) : State), 3, 3, by decide +kernel⟩,
   ⟨(W.modHead 3 (fun v => { v with opening := true, trig := 0 }) : State), 3, 3, by decide +kernel⟩,
   ⟨((let s0 : State := W; ({ s0 with flt := { s0.flt with windows := [{ kind := 5, dwy := 3, opened := 0 }] } } : State)) : State), 3, 3, by decide +kernel⟩,
   ⟨((let s0 : State := W; ({ s0 with flt := { s0.flt with windows := [{ kind := 6, dwy := 3, opened := 0 }] } } : State)) : State), 3, 3, by decide +kernel⟩,
   ⟨((let s0 : State := W; ({ s0 with flt := { s0.flt with windows := [{ kind := 7, dwy := 24, opened := 0 }] } } : State)) : State), 24, by decide +kernel⟩⟩

/-- States that meet the hypotheses of ModuleFaultsLeadToSafe. -/
theorem test_meets_ModuleFaultsLeadToSafe :
    (∃ (s : State), s.alive = true) ∧
    (∃ (s : State) (region : Fin 33) (d : DIx), s.alive = true ∧ region.val < 32 ∧ s.userOf poolDram region.val = some d) ∧
    (∃ (s : State) (slot : Fin 34) (d : DIx), s.alive = true ∧ slot.val < 32 ∧ s.userOf poolSes slot.val = some d ∧ s.on d = true) ∧
    (∃ (s : State), s.alive = true) ∧
    (∃ (s : State) (region : Fin 26) (u : UIx), s.alive = true ∧ s.cvuOf 6 region.val = some u) ∧
    (∃ (s : State) (region : Fin 26) (ref : Word) (val : Word) (u : UIx), s.alive = true ∧ s.cvuOf 6 region.val = some u ∧ ref ≠ val ∧ 24 ≤ region.val) ∧
    (∃ (s : State) (region : Fin 26) (ref : Word) (val : Word) (u : UIx), s.alive = true ∧ s.cvuOf 6 region.val = some u ∧ ref ≠ val ∧ region.val < 24 ∧ s.declared (Fin.ofNat 24 region.val) = true) ∧
    (∃ (s : State) (d : DIx), s.on d = true) ∧
    (∃ (s : State) (slot : Fin 34), s.alive = true ∧ 32 ≤ slot.val) ∧
    (∃ (s : State), s.Inv ∧ s.alive = true) ∧
    (∃ (s : State), s.alive = true ∧ s.flag F.FLT_CLK_ENG = true) :=
  ⟨⟨W, by decide +kernel⟩,
   ⟨((W.wr (plcDwy 3 poolDram) (2)) : State), 2, ((W.wr (plcDwy 3 poolDram) 2).userOf poolDram 2).getD 3, by decide +kernel⟩,
   ⟨((W.wr (plcDwy 3 poolSes) (2)) : State), 2, ((W.wr (plcDwy 3 poolSes) 2).userOf poolSes 2).getD 3, by decide +kernel⟩,
   ⟨W, by decide +kernel⟩,
   ⟨((((W.wr (F.CVU_STATUS_STATE 2) 1).wr (F.CVU_CFG_STREAM 2) 6).wr (F.CVU_CFG_SEL 2) 24) : State), 24, 2, by decide +kernel⟩,
   ⟨((((W.wr (F.CVU_STATUS_STATE 2) 1).wr (F.CVU_CFG_STREAM 2) 6).wr (F.CVU_CFG_SEL 2) 24) : State), 24, 1, 2, 2, by decide +kernel⟩,
   ⟨((((W.wr (F.CVU_STATUS_STATE 2) 1).wr (F.CVU_CFG_STREAM 2) 6).wr (F.CVU_CFG_SEL 2) 3) : State), 3, 1, 2, 2, by decide +kernel⟩,
   ⟨W, 3, by decide +kernel⟩,
   ⟨W, 33, by decide +kernel⟩,
   ⟨W, inv_of (by decide +kernel), by decide +kernel⟩,
   ⟨((W.setF (F.FLT_CLK_ENG) true) : State), by decide +kernel⟩⟩

/-- States that meet the hypotheses of QuickthornTrips. -/
theorem test_meets_QuickthornTrips :
    (∃ (s : State) (bit : Fin 5), s.alive = true ∧ bit = 4 → s.claimStuck = true) ∧
    (∃ (s : State), s.Inv ∧ s.claimStuck = false) ∧
    (∃ (s : State), s.alive = true ∧ s.flt.wdogAt + msT 8 ≤ s.now) ∧
    (∃ (s : State) (right : Bool), s.alive = true ∧ (right = false ∨ s.now < s.flt.wdogAt + msT 2 ∨ s.flt.wdogAt + msT 8 < s.now)) ∧
    (∃ (s : State), s.Inv ∧ s.alive = true ∧ s.flt.wdogAt + msT 2 ≤ s.now ∧ s.now ≤ s.flt.wdogAt + msT 8) ∧
    (∃ (s : State) (u : UIx), s.alive = true ∧ s.rd (F.CVU_STATUS_STATE u) = 2) ∧
    (∃ (s : State) (d : DIx), s.on d = true ∧ 24 ≤ s.rd (F.FLT_DWY_HOURS d.val) ∧ s.flag (F.FLT_DWY_CYCLE_DUE d.val) = false) :=
  ⟨⟨W, 2, by decide +kernel⟩,
   ⟨W, inv_of (by decide +kernel), by decide +kernel⟩,
   ⟨W, by decide +kernel⟩,
   ⟨W, true, by decide +kernel⟩,
   ⟨((let s0 : State := W; ({ s0 with flt := { s0.flt with wdogAt := W.now - msT 5 } } : State)) : State), inv_of (by decide +kernel), by decide +kernel⟩,
   ⟨((W.wr (F.CVU_STATUS_STATE 5) (2)) : State), 5, by decide +kernel⟩,
   ⟨(((W.wr (F.FLT_DWY_HOURS 3) (30)).wr (F.FLT_DWY_CYCLE_DUE 3) (0)) : State), 3, by decide +kernel⟩⟩

/-- States that meet the hypotheses of MirrorLinkCarries. -/
theorem test_meets_MirrorLinkCarries :
    (∃ (s : State), s.alive = true ∧ s.modState ≠ 0 ∧ s.hasAuth = true) ∧
    (∃ (s : State), s.alive = true ∧ s.modState ≠ 0 ∧ s.hasAuth = false) ∧
    (∃ (s : State) (c0 : List Byte) (c1 : List Byte) (cf : CheckFault) (p : List Byte), s.alive = true ∧ s.modState ≠ 0 ∧ (s.takeCopy 0x40 c0 c1 cf).1 = some p) ∧
    (∃ (s : State) (c0 : List Byte) (c1 : List Byte), s.Inv ∧ s.alive = true ∧ s.cvuOf 3 0 = none ∧ s.cvuOf 3 1 = none ∧ mirrorOk 0x40 c0 = false ∧ mirrorOk 0x40 c1 = false) ∧
    (∃ (s : State) (t0 : Nat), s.alive = true ∧ s.pair.epochAt = some t0 ∧ t0 + msT 3 ≤ s.now ∧ s.flag F.RP_STATUS_LINK_UP = true) ∧
    (∃ (s : State) (lane : Fin 2) (t0 : Nat), s.Inv ∧ s.alive = true ∧ nth s.pair.laneAt lane.val none = none ∧ nth s.pair.laneAt (1 - lane.val) none = some t0 ∧ s.now < t0 + msT 3) ∧
    (∃ (s : State) (c0 : List Byte) (c1 : List Byte) (cf : CheckFault) (p : List Byte), s.Inv ∧ s.alive = true ∧ (s.takeCopy 0x41 c0 c1 cf).1 = some p ∧ s.hasAuth = true ∧ s.cvuOf 3 0 = none ∧ s.cvuOf 3 1 = none) ∧
    (∃ (s : State) (c0 : List Byte) (c1 : List Byte) (cf : CheckFault) (p : List Byte), s.alive = true ∧ (s.takeCopy 0x42 c0 c1 cf).1 = some p ∧ s.pair.phase = 2 ∧ s.pair.snap = [] ∧ 0 < fieldAt p 8 4) ∧
    (∃ (s : State) (c0 : List Byte) (c1 : List Byte) (cf : CheckFault) (p : List Byte), s.alive = true ∧ (s.takeCopy 0x42 c0 c1 cf).1 = some p ∧ s.pair.phase ≠ 2) ∧
    (∃ (s : State) (c0 : List Byte) (c1 : List Byte) (cf : CheckFault) (p : List Byte), s.alive = true ∧ (s.takeCopy 0x43 c0 c1 cf).1 = some p ∧ s.hasAuth = false ∧ s.modState ≠ 0 ∧ s.modState ≠ 4 ∧ fieldAt p 8 4 = 0 ∧ ((p.drop 20).take (fieldAt p 2 2)).length ≠ fieldAt p 12 4) ∧
    (∃ (s : State) (c0 : List Byte) (c1 : List Byte) (cf : CheckFault) (p : List Byte), s.alive = true ∧ (s.takeCopy 0x43 c0 c1 cf).1 = some p ∧ s.hasAuth = true) ∧
    (∃ (s : State) (c0 : List Byte) (c1 : List Byte) (cf : CheckFault) (p : List Byte), s.alive = true ∧ (s.takeCopy 0x44 c0 c1 cf).1 = some p ∧ s.hasAuth = true ∧ p.length = 64) ∧
    (∃ (s : State) (c0 : List Byte) (c1 : List Byte) (cf : CheckFault) (p : List Byte), s.alive = true ∧ (s.takeCopy 0x45 c0 c1 cf).1 = some p ∧ fieldAt p 4 1 = 0x44) :=
  ⟨⟨W, by decide +kernel⟩,
   ⟨((W.wr (F.RP_STATUS_ROLE) (2)) : State), by decide +kernel⟩,
   ⟨W, withCrc (([0x40, 1] : List Byte) ++ ([56,0, 5,0,0,0, 3, 2, 3, 0, 1,0,0,0,0,0, 2,0] ++ List.replicate 32 0 : List Byte)), [], .agree, (let c0 : List Byte := withCrc (([0x40, 1] : List Byte) ++ ([56,0, 5,0,0,0, 3, 2, 3, 0, 1,0,0,0,0,0, 2,0] ++ List.replicate 32 0 : List Byte)); c0), by decide +kernel⟩,
   ⟨W, [1,2], [], inv_of (by decide +kernel), by decide +kernel⟩,
   ⟨(((let s0 : State := W; ({ s0 with pair := { s0.pair with epochAt := some 0 } } : State)).setF (F.RP_STATUS_LINK_UP) true) : State), 0, by decide +kernel⟩,
   ⟨((let s0 : State := W; ({ s0 with pair := { s0.pair with laneAt := [some W.now, none] } } : State)) : State), 1, W.now, inv_of (by decide +kernel), by decide +kernel⟩,
   ⟨W, withCrc (([0x41, 1] : List Byte) ++ ([0,0, 1,0,0,0, 4,0,0,0] : List Byte)), [], .agree, (let c0 : List Byte := withCrc (([0x41, 1] : List Byte) ++ ([0,0, 1,0,0,0, 4,0,0,0] : List Byte)); c0), inv_of (by decide +kernel), by decide +kernel⟩,
   ⟨((let s0 : State := W; ({ s0 with pair := { s0.pair with phase := 2 } } : State)) : State), withCrc (([0x42, 1] : List Byte) ++ ([3,0, 5,0,0,0, 7,0,0,0, 9,8,7] : List Byte)), [], .agree, (let c0 : List Byte := withCrc (([0x42, 1] : List Byte) ++ ([3,0, 5,0,0,0, 7,0,0,0, 9,8,7] : List Byte)); c0), by decide +kernel⟩,
   ⟨W, withCrc (([0x42, 1] : List Byte) ++ ([3,0, 5,0,0,0, 7,0,0,0, 9,8,7] : List Byte)), [], .agree, (let c0 : List Byte := withCrc (([0x42, 1] : List Byte) ++ ([3,0, 5,0,0,0, 7,0,0,0, 9,8,7] : List Byte)); c0), by decide +kernel⟩,
   ⟨((W.wr (F.RP_STATUS_ROLE) (2)) : State), withCrc (([0x43, 1] : List Byte) ++ ([3,0, 1,0,0,0, 0,0,0,0, 9,0,0,0, 1,2,3,4, 9,8,7] : List Byte)), [], .agree, (let c0 : List Byte := withCrc (([0x43, 1] : List Byte) ++ ([3,0, 1,0,0,0, 0,0,0,0, 9,0,0,0, 1,2,3,4, 9,8,7] : List Byte)); c0), by decide +kernel⟩,
   ⟨W, withCrc (([0x43, 1] : List Byte) ++ ([3,0, 1,0,0,0, 0,0,0,0, 9,0,0,0, 1,2,3,4, 9,8,7] : List Byte)), [], .agree, (let c0 : List Byte := withCrc (([0x43, 1] : List Byte) ++ ([3,0, 1,0,0,0, 0,0,0,0, 9,0,0,0, 1,2,3,4, 9,8,7] : List Byte)); c0), by decide +kernel⟩,
   ⟨W, withCrc (([0x44, 1] : List Byte) ++ (List.replicate 58 7 : List Byte)), [], .agree, (let c0 : List Byte := withCrc (([0x44, 1] : List Byte) ++ (List.replicate 58 7 : List Byte)); c0), by decide +kernel⟩,
   ⟨((let s0 : State := W; ({ s0 with pair := { s0.pair with fwdSent := 3 } } : State)) : State), withCrc (([0x45, 1] : List Byte) ++ ([0,0,0x44,0,0,0,2,0,0,0] : List Byte)), [], .agree, (let c0 : List Byte := withCrc (([0x45, 1] : List Byte) ++ ([0,0,0x44,0,0,0,2,0,0,0] : List Byte)); c0), by decide +kernel⟩⟩

/-- States that meet the hypotheses of AuthorityIsClaimedAndGivenUp. -/
theorem test_meets_AuthorityIsClaimedAndGivenUp :
    (∃ (s : State) (c : Nat), s.alive = true ∧ s.claimDue false = some c) ∧
    (∃ (s : State) (t0 : Nat), s.alive = true ∧ s.pair.bothSince = some t0 ∧ s.chip.slotB = true ∧ s.pair.claim = true ∧ t0 + msT 2 < s.now) ∧
    (∃ (s : State) (t0 : Nat), s.alive = true ∧ s.pair.claimAt = some t0 ∧ t0 + msT 20 ≤ s.now ∧ s.winOpen 3 25 = true) ∧
    (∃ (s : State) (d : DIx) (t0 : Nat), s.Inv ∧ s.on d = true ∧ s.pair.claimAt = some t0 ∧ s.flag (F.SEQ_STATUS_TAKEOVER_HOLD d) = true ∧ t0 + msT 200 ≤ s.now ∧ s.allAtRest d = true ∧ s.inputsAgree d = true) ∧
    (∃ (s : State) (d : DIx), s.on d = true ∧ s.inputsAgree d = false) :=
  ⟨⟨((let s0 : State := W; (({ s0 with pair := { s0.pair with firstDone := true, partFreeSince := some 0, hbAt := none } }.wr F.RP_STATUS_ROLE 1).setF F.RP_STATUS_PARTNER_AUTH false).setF F.RP_STATUS_SLOT_CONFLICT false |>.setF F.RP_STATUS_VARIANT_MISMATCH false) : State), 5, by decide +kernel⟩,
   ⟨({ (let s0 : State := W; ({ s0 with pair := { s0.pair with bothSince := some 0, claim := true } } : State)) with chip := { variant := .ds24x24, slotB := true, compat := true, fw := 0, serial := 0 } } : State), 0, by decide +kernel⟩,
   ⟨((let s0 : State := W; { s0 with pair := { s0.pair with claimAt := some 0, holdWait := [3, 4] }, flt := { s0.flt with windows := [{ kind := 3, dwy := 25, opened := 0 }] } }) : State), 0, by decide +kernel⟩,
   ⟨((let s0 : State := (let s0 : State := W; ({ s0 with pair := { s0.pair with claimAt := some 0, epochIn := List.replicate 3000 0 } } : State)); [0,1,2].foldl (fun (s : State) a => s.setF (F.AX_STATUS_AT_REST 3 (Fin.ofNat 3 a)) true) (((([F.PROVE_IN2_ISO_IN 3, F.PROVE_IN2_ISO_IN2 3, F.PD_IN_HANDLE1 3, F.PD_IN_HANDLE2 3, F.PD_IN_GUARD1 3, F.PD_IN_GUARD2 3] : List Fld).foldl (fun (s : State) f => s.wr f 31) s0).setF (F.SEQ_STATUS_TAKEOVER_HOLD 3) true).wr F.TRN_STATUS 0)) : State), 3, 0, inv_of (by decide +kernel), by decide +kernel⟩,
   ⟨(((let s0 : State := W; ({ s0 with pair := { s0.pair with epochIn := List.replicate 3000 0 } } : State)).wr (F.TRN_STATUS_ZS_VALID) (1)) : State), 3, by decide +kernel⟩⟩

/-- States that meet the hypotheses of HandoverIsAskedFor. -/
theorem test_meets_HandoverIsAskedFor :
    (∃ (s : State) (remove : Bool) (ms : Nat), s.Inv ∧ s.alive = true ∧ s.rd F.RP_STATUS_ROLE = 3 ∧ (remove = false ∨ (s.pwr.bothR = false ∧ 200 ≤ ms ∧ s.pair.hoReq = false))) ∧
    (∃ (s : State), s.Inv ∧ s.alive = true ∧ s.rd F.RP_STATUS_ROLE ≠ 3) ∧
    (∃ (s : State) (ms : Nat), s.Inv ∧ s.alive = true ∧ s.pwr.bothR = false ∧ 200 ≤ ms ∧ s.pair.hoReq = true ∧ s.pair.hoRun = false) ∧
    (∃ (s : State), s.Inv ∧ s.alive = true ∧ s.pair.hoReq = true ∧ s.pair.hoRun = false) ∧
    (∃ (s : State), s.alive = true ∧ s.pair.hoReq = true ∧ s.pair.hoRun = false ∧ s.hasAuth = true ∧ s.stillAll = true) ∧
    (∃ (s : State), s.Inv ∧ s.alive = true ∧ s.pair.hoRun = false) ∧
    (∃ (s : State), s.alive = true ∧ s.pair.hoRun = true ∧ s.pair.claim = true) ∧
    (∃ (s : State), s.Inv ∧ s.alive = true) :=
  ⟨⟨W, true, 250, inv_of (by decide +kernel), by decide +kernel⟩,
   ⟨((W.wr (F.RP_STATUS_ROLE) (0)) : State), inv_of (by decide +kernel), by decide +kernel⟩,
   ⟨((let s0 : State := W; ({ s0 with pair := { s0.pair with hoReq := true } } : State)) : State), 250, inv_of (by decide +kernel), by decide +kernel⟩,
   ⟨((let s0 : State := W; ({ s0 with pair := { s0.pair with hoReq := true } } : State)) : State), inv_of (by decide +kernel), by decide +kernel⟩,
   ⟨((let s0 : State := W; ({ s0 with pair := { s0.pair with hoReq := true } } : State)) : State), by decide +kernel⟩,
   ⟨W, inv_of (by decide +kernel), by decide +kernel⟩,
   ⟨((let s0 : State := W; ({ s0 with pair := { s0.pair with hoRun := true, claim := true, hoReq := true } } : State)) : State), by decide +kernel⟩,
   ⟨W, inv_of (by decide +kernel), by decide +kernel⟩⟩

/-- States that meet the hypotheses of PairRecovers. -/
theorem test_meets_PairRecovers :
    (∃ (s : State), s.Inv ∧ s.alive = true ∧ (s.hasAuth = true ∨ s.flag F.RP_STATUS_LINK_UP = false)) ∧
    (∃ (s : State), s.alive = true ∧ s.hasAuth = false ∧ s.flag F.RP_STATUS_LINK_UP = true) ∧
    (∃ (s : State), s.alive = true ∧ (s.pair.phase = 2 ∨ s.pair.phase = 3) ∧ s.pair.resyncAt + msT 300 ≤ s.now) ∧
    (∃ (s : State), s.alive = true ∧ s.hasAuth = true ∧ s.flag F.RP_STATUS_PARTNER_PRESENT = true) ∧
    (∃ (s : State), s.Inv ∧ s.alive = true ∧ (s.hasAuth = false ∨ s.flag F.RP_STATUS_PARTNER_PRESENT = false)) ∧
    (∃ (s : State) (t0 : Nat), s.alive = true ∧ s.hasAuth = true ∧ s.flag F.RP_CFG_AUTO_RESTART = true ∧ s.flag F.RP_STATUS_PARTNER_PRESENT = true ∧ s.pair.fittedAt = some t0 ∧ t0 + msT (1000 * s.rd F.RP_CFG_RESTART_WAIT) ≤ s.now ∧ s.pair.hbAt = none ∧ s.pair.autoAt = none) ∧
    (∃ (s : State) (t0 : Nat), s.Inv ∧ s.alive = true ∧ s.pair.agreeSince = some t0 ∧ t0 + msT 10000 ≤ s.now) ∧
    (∃ (s : State) (t0 : Nat), s.Inv ∧ s.alive = true ∧ s.pair.epochAt = some t0 ∧ t0 + msT 1000 ≤ s.now) ∧
    (∃ (s : State) (ms : Nat), s.rail = true ∧ 10 ≤ ms ∧ ms ≤ 100 ∧ s.outputsOff = false) ∧
    (∃ (s : State) (ms : Nat), s.Inv ∧ (ms < 10 ∨ 100 < ms)) :=
  ⟨⟨W, inv_of (by decide +kernel), by decide +kernel⟩,
   ⟨(((W.wr (F.RP_STATUS_ROLE) (2)).setF (F.RP_STATUS_LINK_UP) true) : State), by decide +kernel⟩,
   ⟨((let s0 : State := W; ({ s0 with pair := { s0.pair with phase := 3 } } : State)) : State), by decide +kernel⟩,
   ⟨((W.setF (F.RP_STATUS_PARTNER_PRESENT) true) : State), by decide +kernel⟩,
   ⟨((W.setF (F.RP_STATUS_PARTNER_PRESENT) false) : State), inv_of (by decide +kernel), by decide +kernel⟩,
   ⟨(((((let s0 : State := W; ({ s0 with pair := { s0.pair with fittedAt := some 0 } } : State)).wr (F.RP_CFG_RESTART_WAIT) (1)).setF (F.RP_CFG_AUTO_RESTART) true).setF (F.RP_STATUS_PARTNER_PRESENT) true) : State), 0, by decide +kernel⟩,
   ⟨((let s0 : State := W; ({ s0 with pair := { s0.pair with agreeSince := some 0 } } : State)) : State), 0, inv_of (by decide +kernel), by decide +kernel⟩,
   ⟨((let s0 : State := W; ({ s0 with pair := { s0.pair with epochAt := some 0 } } : State)) : State), 0, inv_of (by decide +kernel), by decide +kernel⟩,
   ⟨W, 50, by decide +kernel⟩,
   ⟨W, 5, inv_of (by decide +kernel), by decide +kernel⟩⟩

/-- States that meet the hypotheses of RecordsReachFlash. -/
theorem test_meets_RecordsReachFlash :
    (∃ (s : State) (r : Rec) (rest : List Rec), s.alive = true ∧ s.hasAuth = true ∧ s.recd.queue = r :: rest ∧ s.recd.next < lastNumber ∧ s.opensF r = false ∧ (s.advance (s.streamOf r)).mayLeave r s.numberLimit = true) ∧
    (∃ (s : State) (r : Rec) (rest : List Rec), s.alive = true ∧ s.hasAuth = true ∧ s.recd.queue = r :: rest ∧ s.recd.next < lastNumber ∧ s.opensF r = true ∧ s.bufFree (s.streamOf r) = true ∧ (nth s.recd.bufs (s.streamOf r) {}).recs = [] ∧ ((s.openF).advance (s.streamOf r)).mayLeave r s.numberLimit = true) ∧
    (∃ (s : State) (r : Rec) (rest : List Rec), s.alive = true ∧ s.hasAuth = true ∧ s.recd.queue = r :: rest ∧ lastNumber ≤ s.recd.next ∧ (s.advance (s.streamOf s.lastRec)).mayLeave s.lastRec s.numberLimit = true) ∧
    (∃ (s : State), s.alive = true ∧ s.hasAuth = false ∧ s.recd.queue ≠ []) ∧
    (∃ (s : State), s.Inv ∧ s.alive = true ∧ s.recd.queue = [] ∧ s.recd.lostN = 0) ∧
    (∃ (s : State) (i : Fin 4) (b : Nat), s.alive = true ∧ s.recd.prog = none ∧ s.flag F.REC_STATUS_STOPPED = false ∧ s.bufDue (nth s.recd.bufs i.val {}) = true ∧ (∀ j ∈ List.range 4, j ≠ i.val → (nth s.recd.bufs j {}).recs = []) ∧ (s.strm i.val).blk = some b ∧ (s.strm i.val).page < 512 ∧ s.recd.rollBoot = false) ∧
    (∃ (s : State) (p : PageProg) (back : List Byte) (stable : BitVec 8), s.alive = true ∧ s.recd.prog = some p ∧ p.recs ≠ [] ∧ s.cvuOf 4 0 = none ∧ p.recs.length ≤ 8 ∧ (back.length ≠ 512 ∨ chunks 64 8 back = p.recs.map (fun x => recBytes x.1 x.2 p.areaF) ++ List.replicate (8 - p.recs.length) (List.replicate 64 0xFF)) ∧ (List.range p.recs.length).all (bitOf stable.toNat) = true) ∧
    (∃ (s : State) (p : PageProg) (back : List Byte) (stable : BitVec 8), s.alive = true ∧ s.recd.prog = some p ∧ p.recs ≠ [] ∧ s.cvuOf 4 0 = none ∧ p.recs.length ≤ 8 ∧ ((back.length = 512 ∧ chunks 64 8 back ≠ p.recs.map (fun x => recBytes x.1 x.2 p.areaF) ++ List.replicate (8 - p.recs.length) (List.replicate 64 0xFF)) ∨ (List.range p.recs.length).all (bitOf stable.toNat) = false)) ∧
    (∃ (s : State) (b : Nat), s.alive = true ∧ s.flag F.REC_STATUS_READY = true ∧ s.recd.erasing = some (4, b)) ∧
    (∃ (s : State) (i : Nat) (b : Nat), s.alive = true ∧ s.recd.erasing = some (i, b) ∧ i ≠ 4) ∧
    (∃ (s : State) (i : Nat) (b : Nat), s.alive = true ∧ s.recd.erasing = some (i, b)) :=
  ⟨⟨((let s0 : State := (((W.setF (F.REC_STATUS_READY) true).setF (F.REC_STATUS_STOPPED) false).setF (F.REC_CFG_MODE) false); ({ s0 with recd := { s0.recd with queue := [{ code := 0x3104, dwy := 3, flags := 1, rep := 1, gen := 0, ws := [1, 2] }], strms := List.replicate 4 { blk := some 5, page := 3, ready := none }, next := 77 } } : State)) : State), { code := 0x3104, dwy := 3, flags := 1, rep := 1, gen := 0, ws := [1, 2] }, [], by decide +kernel⟩,
   ⟨((let s0 : State := (let s0 : State := (((W.setF (F.REC_STATUS_READY) true).setF (F.REC_STATUS_STOPPED) false).setF (F.REC_CFG_MODE) false); ({ s0 with recd := { s0.recd with queue := [{ code := 0x3104, dwy := 3, flags := 1, rep := 1, gen := 0, ws := [1, 2] }], strms := List.replicate 4 { blk := some 5, page := 3, ready := none }, next := 77 } } : State)); ({ s0 with recd := { s0.recd with queue := [{ code := 0x5B03, dwy := 0x1F, flags := 1, rep := 1, gen := 0, ws := [9] }], fGen := some 9, dir := { W.recd.dir with fState := 0 } } } : State)) : State), { code := 0x5B03, dwy := 0x1F, flags := 1, rep := 1, gen := 0, ws := [9] }, [], by decide +kernel⟩,
   ⟨((let s0 : State := (let s0 : State := (((W.setF (F.REC_STATUS_READY) true).setF (F.REC_STATUS_STOPPED) false).setF (F.REC_CFG_MODE) false); ({ s0 with recd := { s0.recd with queue := [{ code := 0x3104, dwy := 3, flags := 1, rep := 1, gen := 0, ws := [1, 2] }], strms := List.replicate 4 { blk := some 5, page := 3, ready := none }, next := 77 } } : State)); ({ s0 with recd := { s0.recd with next := lastNumber } } : State)) : State), { code := 0x3104, dwy := 3, flags := 1, rep := 1, gen := 0, ws := [1, 2] }, [], by decide +kernel⟩,
   ⟨(((let s0 : State := (((W.setF (F.REC_STATUS_READY) true).setF (F.REC_STATUS_STOPPED) false).setF (F.REC_CFG_MODE) false); ({ s0 with recd := { s0.recd with queue := [{ code := 0x3104, dwy := 3, flags := 1, rep := 1, gen := 0, ws := [1, 2] }], strms := List.replicate 4 { blk := some 5, page := 3, ready := none }, next := 77 } } : State))).wr F.RP_STATUS_ROLE 2 : State), by decide +kernel⟩,
   ⟨W, inv_of (by decide +kernel), by decide +kernel⟩,
   ⟨((let s0 : State := (W.setF (F.REC_STATUS_STOPPED) false); ({ s0 with recd := { s0.recd with bufs := [{}, { recs := [(7, { code := 0x3104, dwy := 3, flags := 1, rep := 1, gen := 0, ws := [1, 2] })], since := 0 }, {}, {}], strms := List.replicate 4 { blk := some 5, page := 3, ready := none } } } : State)) : State), 1, 5, by decide +kernel⟩,
   ⟨((let s0 : State := W; ({ s0 with recd := { s0.recd with prog := some { stream := 0, blk := 5, page := 3, areaF := false, recs := [(7, { code := 0x3104, dwy := 3, flags := 1, rep := 1, gen := 0, ws := [1, 2] })] } } } : State)) : State), { stream := 0, blk := 5, page := 3, areaF := false, recs := [(7, { code := 0x3104, dwy := 3, flags := 1, rep := 1, gen := 0, ws := [1, 2] })] }, [], 0x1, by decide +kernel⟩,
   ⟨((let s0 : State := W; ({ s0 with recd := { s0.recd with prog := some { stream := 0, blk := 5, page := 3, areaF := false, recs := [(7, { code := 0x3104, dwy := 3, flags := 1, rep := 1, gen := 0, ws := [1, 2] })] } } } : State)) : State), { stream := 0, blk := 5, page := 3, areaF := false, recs := [(7, { code := 0x3104, dwy := 3, flags := 1, rep := 1, gen := 0, ws := [1, 2] })] }, [], 0, by decide +kernel⟩,
   ⟨((let s0 : State := (((W.setF (F.REC_STATUS_READY) true).setF (F.REC_STATUS_ROLLING) true).setF (F.REC_CTL_CHECKPOINT) true); ({ s0 with recd := { s0.recd with erasing := some (4, 2), roll := some (2, false), ckBlk := 1 } } : State)) : State), 2, by decide +kernel⟩,
   ⟨((let s0 : State := W; ({ s0 with recd := { s0.recd with erasing := some (0, 5), slots := [(4096, [1,2]), (9000, [3])] } } : State)) : State), 0, 5, by decide +kernel⟩,
   ⟨((let s0 : State := W; ({ s0 with recd := { s0.recd with erasing := some (0, 5), slots := [(4096, [1,2]), (9000, [3])] } } : State)) : State), 0, 5, by decide +kernel⟩⟩

/-- States that meet the hypotheses of RecorderIsServed. -/
theorem test_meets_RecorderIsServed :
    (∃ (s : State), s.alive = true ∧ s.flag F.REC_STATUS_READY = false ∧ s.modState ≠ 0) ∧
    (∃ (s : State) (sec : Nat) (ns : Nat) (n : NetTime), s.alive = true ∧ s.netNow = some (sec, ns) ∧ s.recd.net = some n ∧ s.anchorDue ≠ 0) ∧
    (∃ (s : State), s.Inv ∧ s.alive = true ∧ s.flag F.REC_STATUS_READY = true ∧ s.recd.roll = none ∧ s.nextCk.isSome = true) ∧
    (∃ (s : State), s.Inv ∧ s.alive = true ∧ (s.flag F.REC_STATUS_READY = false ∨ s.recd.roll.isSome = true)) ∧
    (∃ (s : State) (bad : Word) (r : Nat), s.alive = true ∧ s.flag F.REC_STATUS_READY = true ∧ s.recd.roll = none ∧ bad.toNat = 2 ^ r ∧ (s.userOf poolRec r).isSome = true) ∧
    (∃ (s : State), s.Inv ∧ s.alive = true ∧ s.inRun = true ∧ s.recd.scrubRun + msT 86400000 ≤ s.runTime) ∧
    (∃ (s : State), s.Inv ∧ s.alive = true) ∧
    (∃ (s : State), s.alive = true ∧ s.flag F.REC_STATUS_SCRUBBING = true) ∧
    (∃ (s : State), s.Inv ∧ s.alive = true ∧ s.flag F.REC_STATUS_SCRUBBING = true) ∧
    (∃ (s : State), s.Inv ∧ s.alive = true ∧ (s.flag F.REC_STATUS_REFRESHING || (!s.modeSev && s.recd.dir.fState == 0)) = true) ∧
    (∃ (s : State), s.Inv ∧ s.alive = true ∧ (s.flag F.REC_STATUS_REFRESHING || (!s.modeSev && s.recd.dir.fState == 0)) = false) ∧
    (∃ (s : State), s.Inv ∧ s.alive = true ∧ (s.flag F.REC_STATUS_REFRESHING || (!s.modeSev && s.recd.dir.fState == 0)) = false ∧ s.refreshDue = true) ∧
    (∃ (s : State), s.alive = true ∧ s.flag F.REC_STATUS_REFRESHING = true ∧ s.flag F.REC_STATUS_READY = true ∧ s.recd.roll = none) :=
  ⟨⟨((W.setF (F.REC_STATUS_READY) false) : State), by decide +kernel⟩,
   ⟨((let s0 : State := W; ({ s0 with recd := { s0.recd with net := some { sec := 100, ns := 5, comId := 7 }, netAt := W.now, anchored := false } } : State)) : State), 100, 5, { sec := 100, ns := 5, comId := 7 }, by decide +kernel⟩,
   ⟨((W.setF (F.REC_STATUS_READY) true) : State), inv_of (by decide +kernel), by decide +kernel⟩,
   ⟨((W.setF (F.REC_STATUS_READY) false) : State), inv_of (by decide +kernel), by decide +kernel⟩,
   ⟨(((W.setF (F.REC_STATUS_READY) true).wr (plcDwy 3 poolRec) (2)) : State), 4, 2, by decide +kernel⟩,
   ⟨({ W with now := 10^15 } : State), inv_of (by decide +kernel), by decide +kernel⟩,
   ⟨W, inv_of (by decide +kernel), by decide +kernel⟩,
   ⟨((W.setF (F.REC_STATUS_SCRUBBING) true) : State), by decide +kernel⟩,
   ⟨((W.setF (F.REC_STATUS_SCRUBBING) true) : State), inv_of (by decide +kernel), by decide +kernel⟩,
   ⟨W, inv_of (by decide +kernel), by decide +kernel⟩,
   ⟨((let s0 : State := W; ({ (s0.setF F.REC_STATUS_REFRESHING false) with recd := { s0.recd with dir := { s0.recd.dir with fState := 1 } } } : State)) : State), inv_of (by decide +kernel), by decide +kernel⟩,
   ⟨((let s0 : State := W; ({ (s0.setF F.REC_STATUS_REFRESHING false) with recd := { s0.recd with dir := { s0.recd.dir with fState := 1, fTime := 0, fHours := 50000 } } } : State)) : State), inv_of (by decide +kernel), by decide +kernel⟩,
   ⟨(((W.setF (F.REC_STATUS_REFRESHING) true).setF (F.REC_STATUS_READY) true) : State), by decide +kernel⟩⟩

/-- States that meet the hypotheses of SessionsRead. -/
theorem test_meets_SessionsRead :
    (∃ (s : State) (i : Fin 8), s.Inv ∧ s.alive = true ∧ (s.sess i.val).open_ = true) ∧
    (∃ (s : State) (i : Fin 8), s.Inv ∧ s.alive = true ∧ (s.sess i.val).resolving = true ∧ s.flag F.REC_STATUS_READY = true) ∧
    (∃ (s : State) (i : Fin 8) (on : Bool), s.Inv ∧ s.alive = true ∧ (s.sess i.val).open_ = true ∧ (on && s.img.level == 0) = false) ∧
    (∃ (s : State) (i : Fin 8), s.Inv ∧ s.alive = true ∧ (s.sess i.val).open_ = true ∧ s.img.level = 0) ∧
    (∃ (s : State) (i : Fin 8) (j : Fin 8192), s.Inv ∧ s.alive = true ∧ (s.sess i.val).open_ = true ∧ j.val < (s.sess i.val).list.length) ∧
    (∃ (s : State) (i : Fin 8) (j : Fin 8192), s.Inv ∧ s.alive = true ∧ (s.sess i.val).open_ = true ∧ (s.sess i.val).list.length ≤ j.val) ∧
    (∃ (s : State) (i : Fin 8), s.Inv ∧ s.alive = true ∧ (s.sess i.val).open_ = true) ∧
    (∃ (s : State) (i : Fin 8) (c : CIx) (n : Fin 8) (e : CanEnt), s.Inv ∧ s.alive = true ∧ (s.sess i.val).open_ = true ∧ nth (s.canH c).slots n.val none = some e) ∧
    (∃ (s : State) (i : Fin 8) (c : CIx) (n : Fin 8), s.Inv ∧ s.alive = true ∧ (s.sess i.val).open_ = true ∧ nth (s.canH c).slots n.val none = none) ∧
    (∃ (s : State) (i : Fin 8) (addr : Word) (r : RegDef), s.alive = true ∧ (s.sess i.val).open_ = true ∧ addr.toNat % 4 = 0 ∧ s.addrClass addr.toNat = 0 ∧ regDef addr.toNat = some r ∧ r.rc ≠ 0 ∧ addr.toNat ≠ F.SUPPLY_EVT.addr ∧ addr.toNat < 0x10000) ∧
    (∃ (s : State) (i : Fin 8) (addr : Word) (r : RegDef) (d : DIx), s.alive = true ∧ (s.sess i.val).open_ = true ∧ addr.toNat % 4 = 0 ∧ s.addrClass addr.toNat = 0 ∧ regDef addr.toNat = some r ∧ r.rc ≠ 0 ∧ addr.toNat ≠ F.SUPPLY_EVT.addr ∧ 0x10000 ≤ addr.toNat ∧ addr.toNat < 0x28000 ∧ d.val = (addr.toNat - 0x10000) / 0x1000 ∧ s.declared d = true) ∧
    (∃ (s : State) (i : Fin 8), s.alive = true ∧ (s.sess i.val).open_ = true) ∧
    (∃ (s : State) (i : Fin 8) (addr : Word), s.alive = true ∧ (s.sess i.val).open_ = true ∧ lowWord addr.toNat = true ∧ s.addrClass addr.toNat = 0) :=
  ⟨⟨((((W.setF (F.NET_STATUS_SVC_LINK) true)).modSess 2 (fun y => { y with open_ := true, port := .service, lastTag := some 9 })) : State), 2, inv_of (by decide +kernel), by decide +kernel⟩,
   ⟨(((((W.setF (F.NET_STATUS_SVC_LINK) true)).modSess 2 (fun y => { y with open_ := true, port := .service, lastTag := some 9, resolving := true })).setF (F.REC_STATUS_READY) true) : State), 2, inv_of (by decide +kernel), by decide +kernel⟩,
   ⟨((((W.setF (F.NET_STATUS_SVC_LINK) true)).modSess 2 (fun y => { y with open_ := true, port := .service, lastTag := some 9 })) : State), 2, false, inv_of (by decide +kernel), by decide +kernel⟩,
   ⟨((((W.setF (F.NET_STATUS_SVC_LINK) true)).modSess 2 (fun y => { y with open_ := true, port := .service, lastTag := some 9 })) : State), 2, inv_of (by decide +kernel), by decide +kernel⟩,
   ⟨((((W.setF (F.NET_STATUS_SVC_LINK) true)).modSess 2 (fun y => { y with open_ := true, port := .service, lastTag := some 9, list := [.never, .staged, .never] })) : State), 2, 1, inv_of (by decide +kernel), by decide +kernel⟩,
   ⟨((((W.setF (F.NET_STATUS_SVC_LINK) true)).modSess 2 (fun y => { y with open_ := true, port := .service, lastTag := some 9 })) : State), 2, 3, inv_of (by decide +kernel), by decide +kernel⟩,
   ⟨((((W.setF (F.NET_STATUS_SVC_LINK) true)).modSess 2 (fun y => { y with open_ := true, port := .service, lastTag := some 9, forBase := 9 })) : State), 2, inv_of (by decide +kernel), by decide +kernel⟩,
   ⟨((let s0 : State := (((W.setF (F.NET_STATUS_SVC_LINK) true)).modSess 2 (fun y => { y with open_ := true, port := .service, lastTag := some 9 })); s0.modCan 1 (fun h => { h with slots := setNth h.slots 3 (some { f := { id := 5, ide := false, rtr := false, fdf := false, brs := false, esi := false, dlc := 2, data := [1,2] }, filter := 0, tick := 0, new_ := true }) })) : State), 2, 1, 3, { f := { id := 5, ide := false, rtr := false, fdf := false, brs := false, esi := false, dlc := 2, data := [1,2] }, filter := 0, tick := 0, new_ := true }, inv_of (by decide +kernel), by decide +kernel⟩,
   ⟨((((W.setF (F.NET_STATUS_SVC_LINK) true)).modSess 2 (fun y => { y with open_ := true, port := .service, lastTag := some 9 })) : State), 2, 1, 3, inv_of (by decide +kernel), by decide +kernel⟩,
   ⟨(((((W.setF (F.NET_STATUS_SVC_LINK) true)).modSess 2 (fun y => { y with open_ := true, port := .service, lastTag := some 9 })).wr (F.RP_MIRROR_ERR_LANE0) (7)) : State), 2, BitVec.ofNat 32 F.RP_MIRROR_ERR_LANE0.addr, (regDef F.RP_MIRROR_ERR_LANE0.addr).getD { off := 0, stride := 0, cnt := 0, words := 0, reset := 0 }, by decide +kernel⟩,
   ⟨(((((W.setF (F.NET_STATUS_SVC_LINK) true)).modSess 2 (fun y => { y with open_ := true, port := .service, lastTag := some 9 })).wr (F.POS_ERR_QUAD 3 0) (7)) : State), 2, BitVec.ofNat 32 (F.POS_ERR_QUAD 3 0).addr, (regDef (F.POS_ERR_QUAD 3 0).addr).getD { off := 0, stride := 0, cnt := 0, words := 0, reset := 0 }, 3, by decide +kernel⟩,
   ⟨(((((W.setF (F.NET_STATUS_SVC_LINK) true)).modSess 2 (fun y => { y with open_ := true, port := .service, lastTag := some 9 })).wr (F.SUPPLY_EVT_LOWEST) (7)) : State), 2, by decide +kernel⟩,
   ⟨((((W.setF (F.NET_STATUS_SVC_LINK) true)).modSess 2 (fun y => { y with open_ := true, port := .service, lastTag := some 9 })) : State), 2, BitVec.ofNat 32 F.REC_NEXT_LO.addr, by decide +kernel⟩⟩

/-- States that meet the hypotheses of WritesAreChecked. -/
theorem test_meets_WritesAreChecked :
    (∃ (s : State) (i : Fin 8) (addr : Word) (value : Word), s.Inv ∧ s.alive = true ∧ (s.sess i.val).open_ = true ∧ s.writeStatus (s.sess i.val) addr.toNat [value.toNat] ≠ 0) ∧
    (∃ (s : State) (i : Fin 8) (value : Word) (d : DIx) (a : AIx), s.Inv ∧ s.alive = true ∧ (s.sess i.val).open_ = true ∧ s.writeStatus (s.sess i.val) (F.MOVE_TARGET d a).addr [value.toNat] = 0 ∧ s.declared d = true) ∧
    (∃ (s : State) (i : Fin 8) (addr : Word) (value : Word) (r : RegDef), s.alive = true ∧ (s.sess i.val).open_ = true ∧ addr.toNat % 4 = 0 ∧ s.writeStatus (s.sess i.val) addr.toNat [value.toNat] = 0 ∧ sessionReg addr.toNat = false ∧ regDef addr.toNat = some r ∧ r.w1s = 0 ∧ addr.toNat < 0x10000 ∧ addr.toNat / 0x1000 ≠ 8 ∧ addr.toNat / 0x1000 ≠ 11) ∧
    (∃ (s : State) (i : Fin 8) (addr : Word) (value : Word) (r : RegDef) (d : DIx), s.alive = true ∧ (s.sess i.val).open_ = true ∧ addr.toNat % 4 = 0 ∧ s.writeStatus (s.sess i.val) addr.toNat [value.toNat] = 0 ∧ sessionReg addr.toNat = false ∧ regDef addr.toNat = some r ∧ r.w1s = 0 ∧ 0x10000 ≤ addr.toNat ∧ addr.toNat < 0x28000 ∧ d.val = (addr.toNat - 0x10000) / 0x1000 ∧ s.declared d = true) ∧
    (∃ (s : State) (i : Fin 8), s.Inv ∧ s.alive = true ∧ (s.sess i.val).open_ = true) ∧
    (∃ (s : State) (i : Fin 8) (e : WEntry) (rest : List WEntry) (b : List Byte), s.alive = true ∧ (s.sess i.val).queue = e :: rest ∧ (∀ k ∈ List.range 8, (s.sess k).flights = []) ∧ e.load = some b) ∧
    (∃ (s : State) (i : Fin 8) (rest : List WEntry) (d : DIx) (a : AIx) (v : Nat), s.alive = true ∧ (s.sess i.val).queue = { addr := (F.MOVE_TARGET d a).addr, words := [v] } :: rest ∧ (∀ k ∈ List.range 8, (s.sess k).flights = []) ∧ s.declared d = true) ∧
    (∃ (s : State) (i : Fin 8), s.alive = true ∧ (s.sess i.val).open_ = true ∧ (s.sess i.val).lastAt + msT 30000 ≤ s.now) :=
  ⟨⟨((((W.setF (F.NET_STATUS_SVC_LINK) true)).modSess 2 (fun y => { y with open_ := true, port := .service, lastTag := some 9 })) : State), 2, 3, 7, inv_of (by decide +kernel), by decide +kernel⟩,
   ⟨((((W.setF (F.NET_STATUS_SVC_LINK) true)).modSess 2 (fun y => { y with open_ := true, port := .service, lastTag := some 9 })) : State), 2, 77, 3, 1, inv_of (by decide +kernel), by decide +kernel⟩,
   ⟨((((((W.setF (F.NET_STATUS_SVC_LINK) true)).modSess 2 (fun y => { y with open_ := true, port := .service, lastTag := some 9 }))).setReg 0x6060 0xFFFF) : State), 2, BitVec.ofNat 32 0x6060, 0xC, (regDef 0x6060).getD { off := 0, stride := 0, cnt := 0, words := 0, reset := 0 }, by decide +kernel⟩,
   ⟨((((((W.setF (F.NET_STATUS_SVC_LINK) true)).modSess 2 (fun y => { y with open_ := true, port := .service, lastTag := some 9 }))).setReg (F.IN_EDGE_RISE 3).addr 0xFFFF) : State), 2, BitVec.ofNat 32 (F.IN_EDGE_RISE 3).addr, 0x77, (regDef (F.IN_EDGE_RISE 3).addr).getD { off := 0, stride := 0, cnt := 0, words := 0, reset := 0 }, 3, by decide +kernel⟩,
   ⟨((((W.setF (F.NET_STATUS_SVC_LINK) true)).modSess 2 (fun y => { y with open_ := true, port := .service, lastTag := some 9 })) : State), 2, inv_of (by decide +kernel), by decide +kernel⟩,
   ⟨((((W.setF (F.NET_STATUS_SVC_LINK) true)).modSess 2 (fun y => { y with open_ := true, port := .service, lastTag := some 9, queue := [{ addr := 8, load := some [1,2,3,4] }] })) : State), 2, { addr := 8, load := some [1,2,3,4] }, [], [1,2,3,4], by decide +kernel⟩,
   ⟨((((W.setF (F.NET_STATUS_SVC_LINK) true)).modSess 2 (fun y => { y with open_ := true, port := .service, lastTag := some 9, queue := [{ addr := (F.MOVE_TARGET 3 1).addr, words := [77] }] })) : State), 2, [], 3, 1, 77, by decide +kernel⟩,
   ⟨((((W.setF (F.NET_STATUS_SVC_LINK) true)).modSess 2 (fun y => { y with open_ := true, port := .service, lastTag := some 9, lastAt := 0 })) : State), 2, by decide +kernel⟩⟩

/-- States that meet the hypotheses of TelegramsAreAnswered. -/
theorem test_meets_TelegramsAreAnswered :
    (∃ (s : State) (x : RapTel) (i : Nat), s.alive = true ∧ s.portUp x.port = true ∧ x.rest = [] ∧ x.session = 0 ∧ s.freeSess = some i) ∧
    (∃ (s : State) (x : RapTel) (i : Nat), s.alive = true ∧ s.portUp x.port = true ∧ x.rest = [] ∧ s.findSess x.port x.session.toNat = some i ∧ (s.sess i).lastTag ≠ some x.tag.toNat) ∧
    (∃ (s : State) (x : RapTel) (i : Nat) (addr : Word) (u : State), s.alive = true ∧ s.portUp x.port = true ∧ x.rest = [] ∧ s.findSess x.port x.session.toNat = some i ∧ (s.sess i).lastTag ≠ some x.tag.toNat ∧ u = (({ s with rap := { s.rap with out := [], read := [] } } : State).modSess i (fun y => { y with lastAt := s.now })).modSess i (fun y => { y with lastTag := some x.tag.toNat, resp := [] }) ∧ addr.toNat % 4 = 0 ∧ s.readWaits addr.toNat 1 = false ∧ s.addrClass addr.toNat = 0) ∧
    (∃ (s : State) (x : RapTel) (i : Nat) (addr : Word) (data : List Byte) (u : State), s.Inv ∧ s.alive = true ∧ s.portUp x.port = true ∧ x.rest = [] ∧ s.findSess x.port x.session.toNat = some i ∧ (s.sess i).lastTag ≠ some x.tag.toNat ∧ u = (({ s with rap := { s.rap with out := [], read := [] } } : State).modSess i (fun y => { y with lastAt := s.now })).modSess i (fun y => { y with lastTag := some x.tag.toNat, resp := [] }) ∧ (u.postItem (u.sess i) { op := 0x11, count := 1, addr := addr, data := data }).1 = 0) ∧
    (∃ (s : State) (x : RapTel) (i : Nat) (ofs : Word) (data : List Byte) (u : State), s.Inv ∧ s.alive = true ∧ s.portUp x.port = true ∧ x.rest = [] ∧ s.findSess x.port x.session.toNat = some i ∧ (s.sess i).lastTag ≠ some x.tag.toNat ∧ u = (({ s with rap := { s.rap with out := [], read := [] } } : State).modSess i (fun y => { y with lastAt := s.now })).modSess i (fun y => { y with lastTag := some x.tag.toNat, resp := [] }) ∧ (u.postItem (u.sess i) { op := 0x20, count := 4, addr := ofs, data := data }).1 = 0) ∧
    (∃ (s : State) (x : RapTel) (i : Nat), s.alive = true ∧ s.portUp x.port = true ∧ x.rest = [] ∧ s.findSess x.port x.session.toNat = some i ∧ (s.sess i).lastTag ≠ some x.tag.toNat ∧ (s.sess i).queue = []) ∧
    (∃ (s : State) (x : RapTel) (i : Nat), s.alive = true ∧ s.portUp x.port = true ∧ x.rest = [] ∧ s.findSess x.port x.session.toNat = some i ∧ (s.sess i).lastTag ≠ some x.tag.toNat ∧ (s.sess i).queue ≠ []) ∧
    (∃ (s : State) (x : RapTel) (i : Nat) (data : List Byte) (u : State), s.alive = true ∧ s.portUp x.port = true ∧ x.rest = [] ∧ s.findSess x.port x.session.toNat = some i ∧ (s.sess i).lastTag ≠ some x.tag.toNat ∧ u = (({ s with rap := { s.rap with out := [], read := [] } } : State).modSess i (fun y => { y with lastAt := s.now })).modSess i (fun y => { y with lastTag := some x.tag.toNat, resp := [] }) ∧ (s.sess i).queue = [] ∧ s.hasAuth = true ∧ (s.sess i).consist = false ∧ data.length = 72) ∧
    (∃ (s : State) (x : RapTel) (i : Nat), s.Inv ∧ s.alive = true ∧ s.portUp x.port = true ∧ s.findSess x.port x.session.toNat = some i ∧ (s.sess i).lastTag = some x.tag.toNat ∧ (s.sess i).flights = []) ∧
    (∃ (s : State) (p : Fin 2) (comId : Word) (b : List Byte), s.Inv ∧ s.alive = true ∧ s.portUp (if p.val = 0 then .ecn0 else .ecn1) = true ∧ (s.rd F.MD_COMID = 0 ∨ comId.toNat ≠ s.rd F.MD_COMID ∨ b.length < 16 ∨ crcTail b = false)) ∧
    (∃ (s : State) (p : Fin 2) (comId : Word) (b : List Byte) (i : Nat), s.alive = true ∧ s.portUp (if p.val = 0 then .ecn0 else .ecn1) = true ∧ s.rd F.MD_COMID ≠ 0 ∧ comId.toNat = s.rd F.MD_COMID ∧ b.length = 24 ∧ fieldAt b 0 1 = 0x70 ∧ fieldAt b 1 1 = 1 ∧ fieldAt b 2 2 = 0 ∧ fieldAt b 6 1 = 1 ∧ fieldAt b 12 1 = 1 ∧ fieldAt b 14 2 = 0 ∧ crcTail b = true ∧ s.freeSess = some i) :=
  ⟨⟨((((W.setF (F.NET_STATUS_SVC_LINK) true)).modSess 2 (fun y => { y with open_ := true, port := .service, lastTag := some 9 })) : State), { port := .service, ip := 5, session := 0, tag := 7, rest := [] }, 0, by decide +kernel⟩,
   ⟨((((W.setF (F.NET_STATUS_SVC_LINK) true)).modSess 2 (fun y => { y with open_ := true, port := .service, lastTag := some 9 })) : State), { port := .service, ip := 5, session := 3, tag := 7, rest := [] }, 2, by decide +kernel⟩,
   ⟨((((W.setF (F.NET_STATUS_SVC_LINK) true)).modSess 2 (fun y => { y with open_ := true, port := .service, lastTag := some 9 })) : State), { port := .service, ip := 5, session := 3, tag := 7, rest := [] }, 2, BitVec.ofNat 32 F.FLT_DRAM_ADDR.addr, (let x : RapTel := { port := .service, ip := 5, session := 3, tag := 7, rest := [] }; let i : Nat := 2; (({ ((((W.setF (F.NET_STATUS_SVC_LINK) true)).modSess 2 (fun y => { y with open_ := true, port := .service, lastTag := some 9 }))) with rap := { ((((W.setF (F.NET_STATUS_SVC_LINK) true)).modSess 2 (fun y => { y with open_ := true, port := .service, lastTag := some 9 }))).rap with out := [], read := [] } } : State).modSess i (fun y => { y with lastAt := ((((W.setF (F.NET_STATUS_SVC_LINK) true)).modSess 2 (fun y => { y with open_ := true, port := .service, lastTag := some 9 }))).now })).modSess i (fun y => { y with lastTag := some x.tag.toNat, resp := [] })), by decide +kernel⟩,
   ⟨((((W.setF (F.NET_STATUS_SVC_LINK) true)).modSess 2 (fun y => { y with open_ := true, port := .service, lastTag := some 9 })) : State), { port := .service, ip := 5, session := 3, tag := 7, rest := [] }, 2, BitVec.ofNat 32 (F.MOVE_TARGET 3 1).addr, [1,2,3,4], (let x : RapTel := { port := .service, ip := 5, session := 3, tag := 7, rest := [] }; let i : Nat := 2; (({ ((((W.setF (F.NET_STATUS_SVC_LINK) true)).modSess 2 (fun y => { y with open_ := true, port := .service, lastTag := some 9 }))) with rap := { ((((W.setF (F.NET_STATUS_SVC_LINK) true)).modSess 2 (fun y => { y with open_ := true, port := .service, lastTag := some 9 }))).rap with out := [], read := [] } } : State).modSess i (fun y => { y with lastAt := ((((W.setF (F.NET_STATUS_SVC_LINK) true)).modSess 2 (fun y => { y with open_ := true, port := .service, lastTag := some 9 }))).now })).modSess i (fun y => { y with lastTag := some x.tag.toNat, resp := [] })), inv_of (by decide +kernel), by decide +kernel⟩,
   ⟨((((W.setF (F.NET_STATUS_SVC_LINK) true)).modSess 2 (fun y => { y with open_ := true, port := .service, lastTag := some 9 })) : State), { port := .service, ip := 5, session := 3, tag := 7, rest := [] }, 2, 8, [1,2,3,4], (let x : RapTel := { port := .service, ip := 5, session := 3, tag := 7, rest := [] }; let i : Nat := 2; (({ ((((W.setF (F.NET_STATUS_SVC_LINK) true)).modSess 2 (fun y => { y with open_ := true, port := .service, lastTag := some 9 }))) with rap := { ((((W.setF (F.NET_STATUS_SVC_LINK) true)).modSess 2 (fun y => { y with open_ := true, port := .service, lastTag := some 9 }))).rap with out := [], read := [] } } : State).modSess i (fun y => { y with lastAt := ((((W.setF (F.NET_STATUS_SVC_LINK) true)).modSess 2 (fun y => { y with open_ := true, port := .service, lastTag := some 9 }))).now })).modSess i (fun y => { y with lastTag := some x.tag.toNat, resp := [] })), inv_of (by decide +kernel), by decide +kernel⟩,
   ⟨((((W.setF (F.NET_STATUS_SVC_LINK) true)).modSess 2 (fun y => { y with open_ := true, port := .service, lastTag := some 9 })) : State), { port := .service, ip := 5, session := 3, tag := 7, rest := [] }, 2, by decide +kernel⟩,
   ⟨((((W.setF (F.NET_STATUS_SVC_LINK) true)).modSess 2 (fun y => { y with open_ := true, port := .service, lastTag := some 9, queue := [{ addr := 8, load := some [1,2,3,4] }] })) : State), { port := .service, ip := 5, session := 3, tag := 7, rest := [] }, 2, by decide +kernel⟩,
   ⟨((((W.setF (F.NET_STATUS_SVC_LINK) true)).modSess 2 (fun y => { y with open_ := true, port := .service, lastTag := some 9 })) : State), { port := .service, ip := 5, session := 3, tag := 7, rest := [] }, 2, [1, 0, 0, 0, 5, 0, 0, 0] ++ List.replicate 64 7, (let x : RapTel := { port := .service, ip := 5, session := 3, tag := 7, rest := [] }; let i : Nat := 2; (({ ((((W.setF (F.NET_STATUS_SVC_LINK) true)).modSess 2 (fun y => { y with open_ := true, port := .service, lastTag := some 9 }))) with rap := { ((((W.setF (F.NET_STATUS_SVC_LINK) true)).modSess 2 (fun y => { y with open_ := true, port := .service, lastTag := some 9 }))).rap with out := [], read := [] } } : State).modSess i (fun y => { y with lastAt := ((((W.setF (F.NET_STATUS_SVC_LINK) true)).modSess 2 (fun y => { y with open_ := true, port := .service, lastTag := some 9 }))).now })).modSess i (fun y => { y with lastTag := some x.tag.toNat, resp := [] })), by decide +kernel⟩,
   ⟨((((W.setF (F.NET_STATUS_SVC_LINK) true)).modSess 2 (fun y => { y with open_ := true, port := .service, lastTag := some 9 })) : State), { port := .service, ip := 5, session := 3, tag := 9, rest := [] }, 2, inv_of (by decide +kernel), by decide +kernel⟩,
   ⟨((W.setF (F.NET_STATUS_ECN0_LINK) true) : State), 0, 7, [], inv_of (by decide +kernel), by decide +kernel⟩,
   ⟨(((W.setF (F.NET_STATUS_ECN0_LINK) true).wr (F.MD_COMID) (77)) : State), 0, 77, withCrc ([0x70, 1, 0, 0, 7, 0, 1, 0, 0, 0, 0, 0, 1, 0, 0, 0, 0, 0, 0, 0] : List Byte), 0, by decide +kernel⟩⟩

/-- States that meet the hypotheses of ProcessDataIsTaken. -/
theorem test_meets_ProcessDataIsTaken :
    (∃ (s : State) (p : Fin 2) (x : PdTel), s.Inv ∧ s.alive = true ∧ s.flag (linkFld p.val) = true ∧ x.isPd = true ∧ (List.range 64).find? (fun n => x.comId.toNat != 0 && s.rd (F.PD_COMID n) == x.comId.toNat) = none) ∧
    (∃ (s : State) (p : Fin 2) (x : PdTel) (r : Nat), s.Inv ∧ s.alive = true ∧ s.flag (linkFld p.val) = true ∧ x.isPd = true ∧ (List.range 64).find? (fun n => x.comId.toNat != 0 && s.rd (F.PD_COMID n) == x.comId.toNat) = some r ∧ (x.fcsOk && x.major == 1#8 && x.len.toNat == s.rd (F.NPD_CFG_LEN r) && x.data.length == s.rd (F.NPD_CFG_LEN r) && (s.pdIp r == 0 || s.pdIp r == x.src.toNat)) = false) ∧
    (∃ (s : State) (p : Fin 2) (x : PdTel) (r : Nat), s.Inv ∧ s.alive = true ∧ s.flag (linkFld p.val) = true ∧ x.isPd = true ∧ (List.range 64).find? (fun n => x.comId.toNat != 0 && s.rd (F.PD_COMID n) == x.comId.toNat) = some r ∧ (x.fcsOk && x.major == 1#8 && x.len.toNat == s.rd (F.NPD_CFG_LEN r) && x.data.length == s.rd (F.NPD_CFG_LEN r) && (s.pdIp r == 0 || s.pdIp r == x.src.toNat)) = true ∧ (s.pdRow r).valid = true ∧ serialLater x.seq.toNat (s.pdRow r).ctr = false) ∧
    (∃ (s : State) (p : Fin 2) (x : PdTel) (r : Nat), s.alive = true ∧ s.flag (linkFld p.val) = true ∧ x.isPd = true ∧ (List.range 64).find? (fun n => x.comId.toNat != 0 && s.rd (F.PD_COMID n) == x.comId.toNat) = some r ∧ (x.fcsOk && x.major == 1#8 && x.len.toNat == s.rd (F.NPD_CFG_LEN r) && x.data.length == s.rd (F.NPD_CFG_LEN r) && (s.pdIp r == 0 || s.pdIp r == x.src.toNat)) = true ∧ (s.pdRow r).valid = true ∧ serialLater x.seq.toNat (s.pdRow r).ctr = true) ∧
    (∃ (s : State) (p : Fin 2) (x : PdTel) (r : Nat), s.alive = true ∧ s.flag (linkFld p.val) = true ∧ x.isPd = true ∧ (List.range 64).find? (fun n => x.comId.toNat != 0 && s.rd (F.PD_COMID n) == x.comId.toNat) = some r ∧ (x.fcsOk && x.major == 1#8 && x.len.toNat == s.rd (F.NPD_CFG_LEN r) && x.data.length == s.rd (F.NPD_CFG_LEN r) && (s.pdIp r == 0 || s.pdIp r == x.src.toNat)) = true ∧ (s.pdRow r).valid = false) ∧
    (∃ (s : State) (r : Fin 64), s.alive = true ∧ (s.pdRow r.val).valid = true ∧ (s.pdRow r.val).at_ + msT (s.pdTime r.val) ≤ s.now) ∧
    (∃ (s : State) (n : Fin 16), s.alive = true ∧ (s.sdt n.val).valid = true ∧ (s.sdt n.val).at_ + msT (s.sdtTime n.val) ≤ s.now) ∧
    (∃ (s : State) (k : Fin 16), s.Inv ∧ s.alive = true ∧ s.rd (F.PD_COMID (64 + k.val)) ≠ 0 ∧ s.hasAuth = true ∧ (s.pdRow (64 + k.val)).seen = false) ∧
    (∃ (s : State) (k : Fin 16), s.Inv ∧ s.alive = true ∧ s.rd (F.PD_COMID (64 + k.val)) ≠ 0 ∧ s.hasAuth = true ∧ (s.pdRow (64 + k.val)).seen = true ∧ (s.pdRow (64 + k.val)).at_ + msT (s.pdTime (64 + k.val)) ≤ s.now) ∧
    (∃ (s : State), s.alive = true ∧ s.net.links.length = 3) :=
  ⟨⟨((List.range 64).foldl (fun (s : State) n => if n = 4 then s else s.wr (F.PD_COMID n) 0) ((((W.setF (F.NET_STATUS_ECN0_LINK) true).wr (F.PD_COMID 4) (77)).wr (F.NPD_CFG_LEN 4) (3)).wr (F.NPD_CFG_FUNC 4) (0)) : State), 0, { src := 5, fcsOk := true, major := 1, isPd := true, comId := 5, seq := 9, etb := 0, opTrn := 0, len := 3, data := [1,2,3] }, inv_of (by decide +kernel), by decide +kernel⟩,
   ⟨((List.range 64).foldl (fun (s : State) n => if n = 4 then s else s.wr (F.PD_COMID n) 0) ((((W.setF (F.NET_STATUS_ECN0_LINK) true).wr (F.PD_COMID 4) (77)).wr (F.NPD_CFG_LEN 4) (3)).wr (F.NPD_CFG_FUNC 4) (0)) : State), 0, { src := 5, fcsOk := false, major := 1, isPd := true, comId := 77, seq := 9, etb := 0, opTrn := 0, len := 3, data := [1,2,3] }, 4, inv_of (by decide +kernel), by decide +kernel⟩,
   ⟨((let s0 : State := ((List.range 64).foldl (fun (s : State) n => if n = 4 then s else s.wr (F.PD_COMID n) 0) ((((W.setF (F.NET_STATUS_ECN0_LINK) true).wr (F.PD_COMID 4) (77)).wr (F.NPD_CFG_LEN 4) (3)).wr (F.NPD_CFG_FUNC 4) (0))); ({ s0 with net := { s0.net with rows := List.replicate 80 { valid := true, ctr := 8, at_ := 0 } } } : State)) : State), 0, { src := 5, fcsOk := true, major := 1, isPd := true, comId := 77, seq := 8, etb := 0, opTrn := 0, len := 3, data := [1,2,3] }, 4, inv_of (by decide +kernel), by decide +kernel⟩,
   ⟨((let s0 : State := ((List.range 64).foldl (fun (s : State) n => if n = 4 then s else s.wr (F.PD_COMID n) 0) ((((W.setF (F.NET_STATUS_ECN0_LINK) true).wr (F.PD_COMID 4) (77)).wr (F.NPD_CFG_LEN 4) (3)).wr (F.NPD_CFG_FUNC 4) (0))); ({ s0 with net := { s0.net with rows := List.replicate 80 { valid := true, ctr := 8, at_ := 0 } } } : State)) : State), 0, { src := 5, fcsOk := true, major := 1, isPd := true, comId := 77, seq := 9, etb := 0, opTrn := 0, len := 3, data := [1,2,3] }, 4, by decide +kernel⟩,
   ⟨((let s0 : State := ((List.range 64).foldl (fun (s : State) n => if n = 4 then s else s.wr (F.PD_COMID n) 0) ((((W.setF (F.NET_STATUS_ECN0_LINK) true).wr (F.PD_COMID 4) (77)).wr (F.NPD_CFG_LEN 4) (3)).wr (F.NPD_CFG_FUNC 4) (0))); ({ s0 with net := { s0.net with rows := List.replicate 80 { valid := false, ctr := 8, at_ := 0 } } } : State)) : State), 0, { src := 5, fcsOk := true, major := 1, isPd := true, comId := 77, seq := 9, etb := 0, opTrn := 0, len := 3, data := [1,2,3] }, 4, by decide +kernel⟩,
   ⟨((let s0 : State := ((List.range 64).foldl (fun (s : State) n => if n = 4 then s else s.wr (F.PD_COMID n) 0) ((((W.setF (F.NET_STATUS_ECN0_LINK) true).wr (F.PD_COMID 4) (77)).wr (F.NPD_CFG_LEN 4) (3)).wr (F.NPD_CFG_FUNC 4) (0))); ({ s0 with net := { s0.net with rows := List.replicate 80 { valid := true, ctr := 8, at_ := 0 } } } : State)) : State), 4, by decide +kernel⟩,
   ⟨((let s0 : State := W; ({ s0 with net := { s0.net with sdt := List.replicate 16 { valid := true } } } : State)) : State), 4, by decide +kernel⟩,
   ⟨((W.wr (F.PD_COMID 67) (77)) : State), 3, inv_of (by decide +kernel), by decide +kernel⟩,
   ⟨(((let s0 : State := W; ({ s0 with net := { s0.net with rows := List.replicate 80 { seen := true, ctr := 8, at_ := 0 } } } : State)).wr (F.PD_COMID 67) (77)) : State), 3, inv_of (by decide +kernel), by decide +kernel⟩,
   ⟨((W.setF (F.CLK_STATUS_NET_LOCK) true) : State), by decide +kernel⟩⟩

/-- States that meet the hypotheses of CanFramesAreReceived. -/
theorem test_meets_CanFramesAreReceived :
    (∃ (s : State) (c : CIx) (f : CanFrame) (n : Nat) (k : Nat) (e : CanEnt), s.alive = true ∧ s.canRuns c = true ∧ (f.fdf && !s.flag (F.CAN_CFG_FD c)) = false ∧ (List.range (if s.panelProfile c then 14 else 16)).find? (fun k => s.filterMatch c k f) = some n ∧ s.rd (F.FLT_TGT c n) = k + 2 ∧ k < 8 ∧ nth (s.canH c).slots k none = some e) ∧
    (∃ (s : State) (c : CIx) (f : CanFrame), s.alive = true ∧ s.canRuns c = true ∧ (f.fdf && !s.flag (F.CAN_CFG_FD c)) = false ∧ s.panelProfile c = false ∧ (List.range 16).all (fun k => !s.filterMatch c k f) = true) ∧
    (∃ (s : State) (c : CIx), s.alive = true ∧ s.canRuns c = true) :=
  ⟨⟨(let n : Nat := 3; (((((((List.range 16).foldl (fun (s : State) n => s.wr (F.FLT_ID 0 n) 0) (((W.setF (F.CAN_CFG_EN 0) true).setF F.CLK_STATUS_CAN_LOCK true))).setF (F.FLT_ID_EN 0 3) true).wr (F.FLT_ID_ID 0 3) 5).wr (F.FLT_TGT 0 3) 4)).modCan 0 (fun h => { h with slots := List.replicate 8 (some { f := { id := 5, ide := false, rtr := false, fdf := false, brs := false, esi := false, dlc := 2, data := [1,2] }, filter := 1, tick := 0, new_ := true }) })) : State), 0, { id := 5, ide := false, rtr := false, fdf := false, brs := false, esi := false, dlc := 2, data := [1,2] }, 3, 2, { f := { id := 5, ide := false, rtr := false, fdf := false, brs := false, esi := false, dlc := 2, data := [1,2] }, filter := 1, tick := 0, new_ := true }, by decide +kernel⟩,
   ⟨((List.range 16).foldl (fun (s : State) n => s.wr (F.FLT_ID 0 n) 0) (((W.setF (F.CAN_CFG_EN 0) true).setF F.CLK_STATUS_CAN_LOCK true)) : State), 0, { id := 5, ide := false, rtr := false, fdf := false, brs := false, esi := false, dlc := 2, data := [1,2] }, by decide +kernel⟩,
   ⟨(((W.setF (F.CAN_CFG_EN 0) true).setF F.CLK_STATUS_CAN_LOCK true) : State), 0, by decide +kernel⟩⟩

/-- States that meet the hypotheses of CanFramesAreSent. -/
theorem test_meets_CanFramesAreSent :
    (∃ (s : State) (c : CIx) (b : Fin 3), s.Inv ∧ s.alive = true ∧ (¬ (b = 0 ∧ s.panelProfile c = true))) ∧
    (∃ (s : State) (c : CIx), s.Inv ∧ s.alive = true ∧ s.panelProfile c = true) ∧
    (∃ (s : State) (c : CIx) (b : Fin 3), s.Inv ∧ s.alive = true ∧ (¬ (b = 0 ∧ s.panelProfile c = true)) ∧ (s.canH c).bus ≠ some b.val) ∧
    (∃ (s : State) (c : CIx) (b : Fin 3), s.Inv ∧ s.alive = true ∧ (¬ (b = 0 ∧ s.panelProfile c = true)) ∧ (s.canH c).bus = some b.val) ∧
    (∃ (s : State) (c : CIx) (b : Nat), s.alive = true ∧ (s.canH c).bus = some b ∧ b < 3 ∧ b = 0 → (s.canH c).panelQ = []) ∧
    (∃ (s : State) (c : CIx) (f : CanFrame) (rest : List CanFrame), s.alive = true ∧ (s.canH c).bus = some 0 ∧ (s.canH c).panelQ = f :: rest) ∧
    (∃ (s : State) (c : CIx), s.alive = true ∧ s.canRuns c = true ∧ 256 ≤ (s.canH c).tec) ∧
    (∃ (s : State) (c : CIx), s.alive = true ∧ (s.canH c).off = true) ∧
    (∃ (s : State) (c : CIx), s.alive = true ∧ (s.canH c).recovering = true) ∧
    (∃ (s : State) (c : CIx), s.alive = true ∧ s.panelProfile c = true ∧ s.canRuns c = true ∧ ((s.canH c).panelAt.all (fun a => decide (a + msT 100 ≤ s.now)) = true ∨ s.panelContent ≠ (s.canH c).panelLast)) :=
  ⟨⟨((((W.setF (F.CAN_CFG_EN 0) true).setF F.CLK_STATUS_CAN_LOCK true).wr (F.TX_CTL_REQ 0) (0)) : State), 0, 2, inv_of (by decide +kernel), by decide +kernel⟩,
   ⟨((let s0 : State := W; ({ s0 with img := { s0.img with insts := [{ f := 1, ty := 0x10, dwy := 0, unit := 0 }] } } : State)) : State), 0, inv_of (by decide +kernel), by decide +kernel⟩,
   ⟨((((W.setF (F.CAN_CFG_EN 0) true).setF F.CLK_STATUS_CAN_LOCK true).wr (F.TX_CTL_REQ 0) (7)) : State), 0, 2, inv_of (by decide +kernel), by decide +kernel⟩,
   ⟨(((((W.setF (F.CAN_CFG_EN 0) true).setF F.CLK_STATUS_CAN_LOCK true)).modCan 0 (fun h => { h with bus := some 2 })) : State), 0, 2, inv_of (by decide +kernel), by decide +kernel⟩,
   ⟨(((((W.setF (F.CAN_CFG_EN 0) true).setF F.CLK_STATUS_CAN_LOCK true)).modCan 0 (fun h => { h with bus := some 2 })) : State), 0, 2, by decide +kernel⟩,
   ⟨(((((W.setF (F.CAN_CFG_EN 0) true).setF F.CLK_STATUS_CAN_LOCK true)).modCan 0 (fun h => { h with bus := some 0, panelQ := [{ id := 5, ide := false, rtr := false, fdf := false, brs := false, esi := false, dlc := 2, data := [1,2] }] })) : State), 0, { id := 5, ide := false, rtr := false, fdf := false, brs := false, esi := false, dlc := 2, data := [1,2] }, [], by decide +kernel⟩,
   ⟨(((((W.setF (F.CAN_CFG_EN 0) true).setF F.CLK_STATUS_CAN_LOCK true)).modCan 0 (fun h => { h with tec := 256 })) : State), 0, by decide +kernel⟩,
   ⟨(((((W.setF (F.CAN_CFG_EN 0) true).setF F.CLK_STATUS_CAN_LOCK true)).modCan 0 (fun h => { h with off := true })) : State), 0, by decide +kernel⟩,
   ⟨(((((W.setF (F.CAN_CFG_EN 0) true).setF F.CLK_STATUS_CAN_LOCK true)).modCan 0 (fun h => { h with recovering := true, tec := 9 })) : State), 0, by decide +kernel⟩,
   ⟨((let s0 : State := ((W.setF (F.CAN_CFG_EN 0) true).setF F.CLK_STATUS_CAN_LOCK true); ({ s0 with img := { s0.img with insts := [{ f := 1, ty := 0x10, dwy := 0, unit := 0 }] } } : State)) : State), 0, by decide +kernel⟩⟩

/-- States that meet the hypotheses of ModuleComesUpAndGoesDown. -/
theorem test_meets_ModuleComesUpAndGoesDown :
    (∃ (s : State), s.rail = false ∧ s.pwr.keep = true ∧ s.pwr.railCmd = true ∧ s.pwr.vkLost = false) ∧
    (∃ (s : State), s.rail = false ∧ s.pwr.keep = false) ∧
    (∃ (s : State), s.heldInReset = true ∧ s.pwr.keep = false) ∧
    (∃ (s : State), s.alive = true ∧ s.modState = 0) ∧
    (∃ (s : State), s.Inv ∧ s.alive = true ∧ s.modState ≠ 0) ∧
    (∃ (s : State), s.alive = true ∧ s.modState = 1 ∧ s.img.running.isSome = true ∧ s.flag F.CFG_STATUS_BOOT_FAIL = false ∧ s.pwr.stay = false ∧ s.outputsOff = false ∧ s.linksReady = true) ∧
    (∃ (s : State), s.alive = true ∧ s.modState = 2 ∧ s.outputsOff = false ∧ s.proveDone = true ∧ s.rd F.FLT_SAFE_PENDING = 0) ∧
    (∃ (s : State) (n : Nat), s.alive = true ∧ s.modState = 2 ∧ s.outputsOff = false ∧ s.proveDone = true ∧ (List.range 9).find? (fun n => bitOf (s.rd F.FLT_SAFE_PENDING) n) = some n) ∧
    (∃ (s : State) (vmain : BitVec 16), s.rail = true ∧ s.pwr.lossAt = none ∧ vmainRegion vmain.toNat = 2) ∧
    (∃ (s : State) (vmain : BitVec 16) (a : Nat), s.rail = true ∧ s.pwr.lossAt = some a ∧ s.pwr.down = none ∧ a + msT 10 ≤ s.now ∧ s.alive = true ∧ vmainRegion vmain.toNat ≠ 2) ∧
    (∃ (s : State) (vmain : BitVec 16) (a : Nat), s.rail = true ∧ s.pwr.lossAt = some a ∧ s.pwr.down = none ∧ a + msT 10 ≤ s.now ∧ s.alive = true ∧ vmainRegion vmain.toNat = 2) ∧
    (∃ (s : State) (vmain : BitVec 16) (ms : BitVec 16), s.alive = true ∧ vmainRegion vmain.toNat = 1 ∧ s.pwr.lossAt = none ∧ 100 < ms.toNat ∧ s.pwr.excSeen = false) ∧
    (∃ (s : State) (vmain : BitVec 16) (ms : BitVec 16), s.alive = true ∧ vmainRegion vmain.toNat = 1 ∧ s.pwr.lossAt = none ∧ ms.toNat ≤ 100) ∧
    (∃ (s : State) (vmain : BitVec 16) (ms : BitVec 16), s.alive = true ∧ vmainRegion vmain.toNat = 0 ∧ s.pwr.lossAt = none ∧ s.pwr.exc8 = true ∧ 1000 ≤ ms.toNat) ∧
    (∃ (s : State), s.alive = true ∧ ((s.pwr.holdAt = none ∧ (s.modState = 0 ∨ s.inRun = true)) ∨ (s.inRun = true ∧ s.pwr.holdAt.any (fun a => decide (a + msT 86400000 ≤ s.runTime)) = true))) ∧
    (∃ (s : State) (a : Nat), s.rail = true ∧ s.pwr.lossAt = some a ∧ (s.pwr.down.isSome = true ∨ s.qtHeld = true) ∧ a + msT 25 ≤ s.now) :=
  ⟨⟨({ (let s0 : State := W; ({ s0 with pwr := { s0.pwr with keep := true, railCmd := true, latch := 2, vkLost := false } } : State)) with rail := false } : State), by decide +kernel⟩,
   ⟨({ W with rail := false } : State), by decide +kernel⟩,
   ⟨((let s0 : State := W; ({ s0 with pwr := { s0.pwr with down := some 0 } } : State)) : State), by decide +kernel⟩,
   ⟨((W.wr (F.MOD_STATE_STATE) (0)) : State), by decide +kernel⟩,
   ⟨W, inv_of (by decide +kernel), by decide +kernel⟩,
   ⟨((let s0 : State := (((allD.foldl (fun (s : State) d => (s.wr (F.DRV_STATUS_LINK d) 3).wr (F.HEAD_STATUS_LINK d) 3) W).setF F.CFG_STATUS_BOOT_FAIL false).wr (F.MOD_STATE_STATE) (1)); ({ s0 with pwr := { s0.pwr with configAt := 0 } } : State)) : State), by decide +kernel⟩,
   ⟨((allD.foldl (fun (s : State) d => s.modDrv d (fun v => { v with denN := [2, 2] })) (let s0 : State := (let s0 : State := (W.wr (F.MOD_STATE_STATE) (2)); ({ s0 with pwr := { s0.pwr with proveAt := 0, scrubbed := List.range 26 } } : State)); ({ s0 with trn := { s0.trn with slotN := List.replicate 12 2 } } : State))) : State), by decide +kernel⟩,
   ⟨(((allD.foldl (fun (s : State) d => s.modDrv d (fun v => { v with denN := [2, 2] })) (let s0 : State := (let s0 : State := (W.wr (F.MOD_STATE_STATE) (2)); ({ s0 with pwr := { s0.pwr with proveAt := 0, scrubbed := List.range 26 } } : State)); ({ s0 with trn := { s0.trn with slotN := List.replicate 12 2 } } : State))).wr (F.FLT_SAFE_PENDING) (0x44)) : State), 2, by decide +kernel⟩,
   ⟨W, 0, by decide +kernel⟩,
   ⟨((let s0 : State := W; ({ s0 with pwr := { s0.pwr with lossAt := some 0 } } : State)) : State), 2400, 0, by decide +kernel⟩,
   ⟨((let s0 : State := W; ({ s0 with pwr := { s0.pwr with lossAt := some 0 } } : State)) : State), 0, 0, by decide +kernel⟩,
   ⟨W, 1500, 101, by decide +kernel⟩,
   ⟨W, 1500, 100, by decide +kernel⟩,
   ⟨(((let s0 : State := W; ({ s0 with pwr := { s0.pwr with exc8 := true } } : State)).wr (F.FLT_SAFE_PENDING) (128)) : State), 2400, 1000, by decide +kernel⟩,
   ⟨W, by decide +kernel⟩,
   ⟨((let s0 : State := W; ({ s0 with pwr := { s0.pwr with lossAt := some 0, down := some 0 } } : State)) : State), 0, by decide +kernel⟩⟩

/-- States that meet the hypotheses of KeepIsEnteredAndLeft. -/
theorem test_meets_KeepIsEnteredAndLeft :
    (∃ (s : State), s.alive = true ∧ (s.setF F.PWR_CTL_KEEP_REQ false).keepOk = true) ∧
    (∃ (s : State), s.Inv ∧ s.alive = true ∧ (s.setF F.PWR_CTL_KEEP_REQ false).keepOk = false) ∧
    (∃ (s : State), s.alive = true ∧ s.rd F.PWR_CFG_KEEP_DELAY ≠ 0 ∧ bitOf s.pwr.lines 0 = false ∧ s.pwr.wakeOff + msT (1000 * s.rd F.PWR_CFG_KEEP_DELAY) ≤ s.now ∧ s.keepOk = true) ∧
    (∃ (s : State), s.Inv ∧ s.alive = true ∧ (s.rd F.PWR_CFG_KEEP_DELAY = 0 ∨ s.keepOk = false)) ∧
    (∃ (s : State) (i : WakeIn), s.pwr.keep = true ∧ bitOf s.pwr.enables (wakeBit i) = true ∧ s.pwr.latch = 0) ∧
    (∃ (s : State) (i : WakeIn), s.pwr.keep = false ∧ s.flag F.PWR_STATUS_KEEP_ENTRY = true ∧ bitOf s.wakeEnables (wakeBit i) = true ∧ s.pwr.latch = 0) ∧
    (∃ (s : State), s.pwr.keep = false ∧ s.flag F.PWR_STATUS_KEEP_ENTRY = false) ∧
    (∃ (s : State) (i : WakeIn), bitOf s.pwr.lines (wakeBit i) = false) ∧
    (∃ (s : State), s.pwr.keep = true ∧ s.pwr.latch ≠ 0 ∧ s.pwr.offAt + msT 100 ≤ s.now) ∧
    (∃ (s : State), s.pwr.keep = true ∧ s.rail = false) ∧
    (∃ (s : State), s.Inv ∧ s.rail = true) ∧
    (∃ (s : State), s.Inv ∧ s.alive = true) ∧
    (∃ (s : State), s.rail = true ∧ s.pwr.lossAt = none ∧ s.flag F.PWR_STATUS_KEEP_ENTRY = true ∧ s.pwr.keepStep = 2 ∧ s.recDrained = true) ∧
    (∃ (s : State), s.Inv ∧ s.rail = true ∧ s.pwr.lossAt = none ∧ s.flag F.PWR_STATUS_KEEP_ENTRY = true ∧ (s.pwr.keepStep ≠ 2 ∨ s.recDrained = false)) ∧
    (∃ (s : State), s.alive = true ∧ s.flag F.PWR_STATUS_KEEP_ENTRY = true ∧ s.pwr.keepAt + msT 5000 ≤ s.now) :=
  ⟨⟨(((allD.foldl (fun (s : State) d => (s.wr (F.SEQ_STATE d) 1)) W).wr (F.MOD_STATE_STATE) (1)) : State), by decide +kernel⟩,
   ⟨((W.wr (F.MOD_STATE_STATE) (2)) : State), inv_of (by decide +kernel), by decide +kernel⟩,
   ⟨((let s0 : State := (((allD.foldl (fun (s : State) d => (s.wr (F.SEQ_STATE d) 1)) W).wr (F.MOD_STATE_STATE) (1)).wr (F.PWR_CFG_KEEP_DELAY) (2)); ({ s0 with pwr := { s0.pwr with wakeOff := 0 } } : State)) : State), by decide +kernel⟩,
   ⟨((W.wr (F.PWR_CFG_KEEP_DELAY) (0)) : State), inv_of (by decide +kernel), by decide +kernel⟩,
   ⟨((let s0 : State := { W with rail := false }; ({ s0 with pwr := { s0.pwr with keep := true, enables := 255 } } : State)) : State), .handle, by decide +kernel⟩,
   ⟨(((W.setF (F.PWR_STATUS_KEEP_ENTRY) true).setF (F.PWR_CFG_WAKE_EN) true) : State), .wake, by decide +kernel⟩,
   ⟨W, by decide +kernel⟩,
   ⟨W, .handle, by decide +kernel⟩,
   ⟨((let s0 : State := { W with rail := false }; ({ s0 with pwr := { s0.pwr with keep := true, latch := 2 } } : State)) : State), by decide +kernel⟩,
   ⟨((let s0 : State := { W with rail := false }; ({ s0 with pwr := { s0.pwr with keep := true } } : State)) : State), by decide +kernel⟩,
   ⟨W, inv_of (by decide +kernel), by decide +kernel⟩,
   ⟨W, inv_of (by decide +kernel), by decide +kernel⟩,
   ⟨(((let s0 : State := (let s0 : State := W; ({ s0 with recd := { s0.recd with queue := [] } } : State)); ({ s0 with pwr := { s0.pwr with keepStep := 2 } } : State)).setF (F.PWR_STATUS_KEEP_ENTRY) true) : State), by decide +kernel⟩,
   ⟨(((let s0 : State := W; ({ s0 with recd := { s0.recd with roll := some (2, false) } } : State)).setF (F.PWR_STATUS_KEEP_ENTRY) true) : State), inv_of (by decide +kernel), by decide +kernel⟩,
   ⟨((W.setF (F.PWR_STATUS_KEEP_ENTRY) true) : State), by decide +kernel⟩⟩

/-- States that meet the hypotheses of ClocksAndHeatAreWatched. -/
theorem test_meets_ClocksAndHeatAreWatched :
    (∃ (s : State) (d : ClkDom), s.alive = true ∧ s.flag (domLock d) = true) ∧
    (∃ (s : State) (d : ClkDom), s.Inv ∧ s.alive = true ∧ s.flag (domLock d) = false) ∧
    (∃ (s : State) (d : ClkDom) (a : Nat) (c : Nat), s.alive = true ∧ nth s.pwr.relock (domIx d) none = some (a, c)) ∧
    (∃ (s : State) (d : ClkDom) (a : Nat) (c : Nat), s.alive = true ∧ nth s.pwr.relock (domIx d) none = some (a, c) ∧ a + msT 2 ≤ s.now) ∧
    (∃ (s : State) (d : ClkDom) (a : Nat) (c : Nat), s.alive = true ∧ nth s.pwr.failAt (domIx d) none = some (a, c) ∧ a + msT 100 ≤ s.now) ∧
    (∃ (s : State) (x0 : BitVec 16) (x1 : BitVec 16) (x2 : BitVec 16) (x3 : BitVec 16) (x4 : BitVec 16) (x5 : BitVec 16) (x6 : BitVec 16) (x7 : BitVec 16) (n : Nat), s.alive = true ∧ ((List.range 8).filter (sensorOk [x0.toInt, x1.toInt, x2.toInt, x3.toInt, x4.toInt, x5.toInt, x6.toInt, x7.toInt])).length = n ∧ n < 4) ∧
    (∃ (s : State) (x0 : BitVec 16) (x1 : BitVec 16) (x2 : BitVec 16) (x3 : BitVec 16) (x4 : BitVec 16) (x5 : BitVec 16) (x6 : BitVec 16) (x7 : BitVec 16) (n : Nat), s.alive = true ∧ ((List.range 8).filter (sensorOk [x0.toInt, x1.toInt, x2.toInt, x3.toInt, x4.toInt, x5.toInt, x6.toInt, x7.toInt])).length = n ∧ 4 ≤ n ∧ n ≤ 8) ∧
    (∃ (s : State) (a : Nat), s.alive = true ∧ s.pwr.belowAt = some a ∧ 1 ≤ s.rd F.SHED_LEVEL ∧ a + msT 10000 ≤ s.now ∧ s.pwr.shedAt + msT 10000 ≤ s.now) ∧
    (∃ (s : State), s.alive = true ∧ s.flt.engLostAt.isSome = true ∧ s.flag F.FLT_CLK_ENG = false) :=
  ⟨⟨((W.setF (F.CLK_STATUS_NET_LOCK) true) : State), .net, by decide +kernel⟩,
   ⟨W, .net, inv_of (by decide +kernel), by decide +kernel⟩,
   ⟨((let s0 : State := W; ({ s0 with pwr := { s0.pwr with relock := [none, some (5, 2), none] } } : State)) : State), .net, 5, 2, by decide +kernel⟩,
   ⟨((let s0 : State := W; ({ s0 with pwr := { s0.pwr with relock := [none, some (5, 2), none] } } : State)) : State), .net, 5, 2, by decide +kernel⟩,
   ⟨((let s0 : State := W; ({ s0 with pwr := { s0.pwr with failAt := [none, none, some (5, 2)] } } : State)) : State), .can, 5, 2, by decide +kernel⟩,
   ⟨W, 9999, 9999, 9999, 9999, 9999, 9999, 9999, 9999, 0, by decide +kernel⟩,
   ⟨W, 400, 400, 400, 400, 400, 400, 400, 400, 8, by decide +kernel⟩,
   ⟨(((let s0 : State := W; ({ s0 with pwr := { s0.pwr with belowAt := some 0 } } : State)).wr (F.SHED_LEVEL) (3)) : State), 0, by decide +kernel⟩,
   ⟨((let s0 : State := W; ({ s0 with flt := { s0.flt with engLostAt := some 5 } } : State)) : State), by decide +kernel⟩⟩

/-- States that meet the hypotheses of UnalignedAccessHasNoEffect. -/
theorem test_meets_UnalignedAccessHasNoEffect :
    (∃ (s : State) (x : RapTel) (i : Nat) (addr : Word), s.Inv ∧ s.alive = true ∧ s.portUp x.port = true ∧ x.rest = [] ∧ s.findSess x.port x.session.toNat = some i ∧ (s.sess i).lastTag ≠ some x.tag.toNat ∧ (s.sess i).queue = [] ∧ s.readWaits addr.toNat 1 = false ∧ addr.toNat % 4 ≠ 0) ∧
    (∃ (s : State) (x : RapTel) (i : Nat) (addr : Word) (data : List Byte), s.Inv ∧ s.alive = true ∧ s.portUp x.port = true ∧ x.rest = [] ∧ s.findSess x.port x.session.toNat = some i ∧ (s.sess i).lastTag ≠ some x.tag.toNat ∧ (s.sess i).queue = [] ∧ data.length = 4 ∧ addr.toNat % 4 ≠ 0) :=
  ⟨⟨(((W.setF (F.NET_STATUS_SVC_LINK) true).modSess 2 (fun y => { y with open_ := true, port := .service, lastTag := some 9 })) : State), { port := .service, ip := 5, session := 3, tag := 7, rest := [] }, 2, 0x4002, inv_of (by decide +kernel), by decide +kernel⟩,
   ⟨(((W.setF (F.NET_STATUS_SVC_LINK) true).modSess 2 (fun y => { y with open_ := true, port := .service, lastTag := some 9 })) : State), { port := .service, ip := 5, session := 3, tag := 7, rest := [] }, 2, 0x4002, [1,2,3,4], inv_of (by decide +kernel), by decide +kernel⟩⟩

/-- States that meet the hypotheses of IllegalTransitionIsNotCounted. -/
theorem test_meets_IllegalTransitionIsNotCounted :
    (∃ (s : State) (d : DIx) (x : AIx) (va : Bool) (vb : Bool) (na : Nat) (nb : Nat), s.alive = true ∧ s.present d = true ∧ (s.enc d x).a ≠ va ∧ (s.enc d x).b ≠ vb ∧ s.filtN d x ≤ na ∧ s.filtN d x ≤ nb) :=
  ⟨((let s0 : State := W; ({ s0 with recd := { s0.recd with queue := [] } } : State)) : State), 3, 1, !(W.enc 3 1).a, !(W.enc 3 1).b, 90, 99, by decide +kernel⟩

/-- States that meet the hypotheses of DepotModeNeedsASecond. -/
theorem test_meets_DepotModeNeedsASecond :
    (∃ (s : State) (levels : BitVec 12), s.alive = true ∧ levels.getLsbD 6 = true ∧ s.trn.depotSince = none) ∧
    (∃ (s : State) (levels : BitVec 12) (a : Nat), s.alive = true ∧ levels.getLsbD 6 = true ∧ s.trn.depotSince = some a) ∧
    (∃ (s : State) (levels : BitVec 12), s.alive = true ∧ levels.getLsbD 6 = false) ∧
    (∃ (s : State) (a : Nat), s.Inv ∧ s.alive = true ∧ s.trn.depotSince = some a ∧ a + msT 1000 ≤ s.now) ∧
    (∃ (s : State), s.Inv ∧ s.alive = true ∧ (∀ a ∈ s.trn.depotSince, s.now < a + msT 1000)) :=
  ⟨⟨((let s0 : State := W; ({ s0 with trn := { s0.trn with depotSince := none } } : State)) : State), 0x41, by decide +kernel⟩,
   ⟨((let s0 : State := W; ({ s0 with trn := { s0.trn with depotSince := some 5 } } : State)) : State), 0x41, 5, by decide +kernel⟩,
   ⟨((W.setF (F.TRN_STATUS_DEPOT) true) : State), 0xFBF, by decide +kernel⟩,
   ⟨((let s0 : State := W; ({ s0 with trn := { s0.trn with depotSince := some 5 } } : State)) : State), 5, inv_of (by decide +kernel), by decide +kernel⟩,
   ⟨((let s0 : State := W; ({ s0 with trn := { s0.trn with depotSince := none } } : State)) : State), inv_of (by decide +kernel), by decide +kernel⟩⟩

/-- States that meet the hypotheses of ReceiveQueuesKeepOrder. -/
theorem test_meets_ReceiveQueuesKeepOrder :
    (∃ (s : State) (c : CIx) (f : CanFrame) (n : Nat), s.alive = true ∧ s.canRuns c = true ∧ (f.fdf && !s.flag (F.CAN_CFG_FD c)) = false ∧ (List.range (if s.panelProfile c then 14 else 16)).find? (fun k => s.filterMatch c k f) = some n ∧ s.rd (F.FLT_TGT c n) = 0 ∧ (s.canH c).q0.length < 16) ∧
    (∃ (s : State) (c : CIx) (f : CanFrame) (n : Nat), s.alive = true ∧ s.canRuns c = true ∧ (f.fdf && !s.flag (F.CAN_CFG_FD c)) = false ∧ (List.range (if s.panelProfile c then 14 else 16)).find? (fun k => s.filterMatch c k f) = some n ∧ s.rd (F.FLT_TGT c n) = 0 ∧ 16 ≤ (s.canH c).q0.length) ∧
    (∃ (s : State) (c : CIx) (f : CanFrame) (n : Nat), s.alive = true ∧ s.canRuns c = true ∧ (f.fdf && !s.flag (F.CAN_CFG_FD c)) = false ∧ (List.range (if s.panelProfile c then 14 else 16)).find? (fun k => s.filterMatch c k f) = some n ∧ s.rd (F.FLT_TGT c n) = 1 ∧ (s.canH c).q1.length < 16) ∧
    (∃ (s : State) (c : CIx) (f : CanFrame) (n : Nat), s.alive = true ∧ s.canRuns c = true ∧ (f.fdf && !s.flag (F.CAN_CFG_FD c)) = false ∧ (List.range (if s.panelProfile c then 14 else 16)).find? (fun k => s.filterMatch c k f) = some n ∧ s.rd (F.FLT_TGT c n) = 1 ∧ 16 ≤ (s.canH c).q1.length) ∧
    (∃ (s : State), s.alive = true) :=
  ⟨⟨(let n : Nat := 3; (((((List.range 16).foldl (fun (s : State) n => s.wr (F.FLT_ID 0 n) 0) (((W.setF (F.CAN_CFG_EN 0) true).setF F.CLK_STATUS_CAN_LOCK true))).setF (F.FLT_ID_EN 0 3) true).wr (F.FLT_ID_ID 0 3) 5).wr (F.FLT_TGT 0 3) 0) : State), 0, { id := 5, ide := false, rtr := false, fdf := false, brs := false, esi := false, dlc := 2, data := [1,2] }, 3, by decide +kernel⟩,
   ⟨(let n : Nat := 3; (((((((List.range 16).foldl (fun (s : State) n => s.wr (F.FLT_ID 0 n) 0) (((W.setF (F.CAN_CFG_EN 0) true).setF F.CLK_STATUS_CAN_LOCK true))).setF (F.FLT_ID_EN 0 3) true).wr (F.FLT_ID_ID 0 3) 5).wr (F.FLT_TGT 0 3) 0)).modCan 0 (fun h => { h with q0 := List.replicate 16 { f := { id := 5, ide := false, rtr := false, fdf := false, brs := false, esi := false, dlc := 2, data := [1,2] }, filter := 0, tick := 0 } })) : State), 0, { id := 5, ide := false, rtr := false, fdf := false, brs := false, esi := false, dlc := 2, data := [1,2] }, 3, by decide +kernel⟩,
   ⟨(let n : Nat := 3; (((((List.range 16).foldl (fun (s : State) n => s.wr (F.FLT_ID 0 n) 0) (((W.setF (F.CAN_CFG_EN 0) true).setF F.CLK_STATUS_CAN_LOCK true))).setF (F.FLT_ID_EN 0 3) true).wr (F.FLT_ID_ID 0 3) 5).wr (F.FLT_TGT 0 3) 1) : State), 0, { id := 5, ide := false, rtr := false, fdf := false, brs := false, esi := false, dlc := 2, data := [1,2] }, 3, by decide +kernel⟩,
   ⟨(let n : Nat := 3; (((((((List.range 16).foldl (fun (s : State) n => s.wr (F.FLT_ID 0 n) 0) (((W.setF (F.CAN_CFG_EN 0) true).setF F.CLK_STATUS_CAN_LOCK true))).setF (F.FLT_ID_EN 0 3) true).wr (F.FLT_ID_ID 0 3) 5).wr (F.FLT_TGT 0 3) 1)).modCan 0 (fun h => { h with q1 := List.replicate 16 { f := { id := 5, ide := false, rtr := false, fdf := false, brs := false, esi := false, dlc := 2, data := [1,2] }, filter := 0, tick := 0 } })) : State), 0, { id := 5, ide := false, rtr := false, fdf := false, brs := false, esi := false, dlc := 2, data := [1,2] }, 3, by decide +kernel⟩,
   ⟨(((((W.setF (F.CAN_CFG_EN 0) true).setF F.CLK_STATUS_CAN_LOCK true)).modCan 0 (fun h => { h with q1 := List.replicate 3 { f := { id := 5, ide := false, rtr := false, fdf := false, brs := false, esi := false, dlc := 2, data := [1,2] }, filter := 0, tick := 0 } })) : State), by decide +kernel⟩⟩

/-- States that meet the hypotheses of BothButtonsAreNoPress. -/
theorem test_meets_BothButtonsAreNoPress :
    (∃ (s : State), s.Inv ∧ s.alive = true) ∧
    (∃ (s : State), s.Inv ∧ s.alive = true ∧ s.pwr.bothC = true) ∧
    (∃ (s : State), s.Inv ∧ s.alive = true ∧ s.pwr.bothR = true) ∧
    (∃ (s : State), s.pwr.keep = true ∧ bitOf s.pwr.enables 2 = true ∧ s.pwr.latch = 0) :=
  ⟨⟨W, inv_of (by decide +kernel), by decide +kernel⟩,
   ⟨((let s0 : State := W; ({ s0 with pwr := { s0.pwr with bothC := true, bothR := true } } : State)) : State), inv_of (by decide +kernel), by decide +kernel⟩,
   ⟨((let s0 : State := W; ({ s0 with pwr := { s0.pwr with bothC := true, bothR := true } } : State)) : State), inv_of (by decide +kernel), by decide +kernel⟩,
   ⟨((let s0 : State := { W with rail := false }; ({ s0 with pwr := { s0.pwr with keep := true, enables := 255, bothC := true, bothR := true } } : State)) : State), by decide +kernel⟩⟩

end Sys2Proof.Tests
end

namespace Sys2Proof.Machine

/-! ## The register file and the state after reset -/

/-- Settles O57: the laws of the sparse store, of a register and of a field. -/
theorem registerFileIsCanonical : Obligations.RegisterFileIsCanonical := by
  refine ⟨rfl, fun s a v h => setReg_wf s a v h, fun s f v h => setReg_wf s f.addr _ h, reg_setReg, fun s f g v h => ⟨rd_wr_same s f v h, fun hg => ?_⟩⟩
  exact rd_wr_ne s f g v (hg.imp_right fun hd => ⟨h, hd⟩)

/-- After reset a register holds its reset value. -/
theorem reset_reg (a : Nat) : State.reset.reg a = resetWord a := rfl

theorem reset_flag {f : Fld} (h : resetWord f.addr = 0) : State.reset.flag f = false := by
  unfold State.flag State.rd
  rw [reset_reg, h]
  simp [fldGet]

/-- Settles O56: every field reads its reset value, and DEN_STATUS of each doorway resets to 0. -/
theorem resetLeavesTheModuleOff : Obligations.ResetLeavesTheModuleOff := by
  have den : ∀ d : DIx, resetWord (dw d 0x4A0) = 0 := by decide
  exact ⟨by decide, rfl, by decide, by decide, fun d => ⟨⟨reset_flag (den d), reset_flag (den d)⟩, rfl⟩, reset_reg⟩

end Sys2Proof.Machine

namespace Sys2Proof.Machine

theorem onM_of_alive {s : State} (h : s.alive = true) (f : State → State) : s.onM f = f s := if_pos h

/-! ## What stands behind the registers -/

/-- Writes of registers change nothing behind them. -/
theorem regs_hidden (s : State) (l r : List (Nat × Word)) : ({ ({ s with regs := l } : State) with regs := r } : State) = { s with regs := r } := rfl
theorem setReg_hidden (s : State) (a : Nat) (v : Word) (r : List (Nat × Word)) : ({ s.setReg a v with regs := r } : State) = { s with regs := r } :=
  regs_hidden s _ r
theorem wr_hidden (s : State) (f : Fld) (v : Nat) (r : List (Nat × Word)) : ({ s.wr f v with regs := r } : State) = { s with regs := r } := setReg_hidden s _ _ r
theorem setF_hidden (s : State) (f : Fld) (b : Bool) (r : List (Nat × Word)) : ({ s.setF f b with regs := r } : State) = { s with regs := r } := wr_hidden s f _ r
theorem setBit_hidden (s : State) (f : Fld) (i : Nat) (b : Bool) (r : List (Nat × Word)) : ({ s.setBit f i b with regs := r } : State) = { s with regs := r } :=
  wr_hidden s f _ r
theorem inc_hidden (s : State) (f : Fld) (r : List (Nat × Word)) : ({ s.inc f with regs := r } : State) = { s with regs := r } := wr_hidden s f _ r

/-- A counter that counts reads one more, up to its largest value. -/
theorem rd_inc_same (s : State) (f : Fld) (h : f.lo + f.w ≤ 32) : (s.inc f).rd f = min (s.rd f + 1) (2 ^ f.w - 1) := by
  have hp : 0 < 2 ^ f.w := Nat.two_pow_pos _
  exact (rd_wr_same s f _ h).trans (Nat.mod_eq_of_lt (by omega))

/-! ## What an operation on outputs and doorways cannot reach -/

/-- A function of the state that sees neither the registers, nor the recorder, nor what stands behind a doorway or a field ASIC. -/
structure Blind {β : Type} (P : State → β) : Prop where
  setReg : ∀ t a v, P (State.setReg t a v) = P t
  recd : ∀ (t : State) (r : RecH), P { t with recd := r } = P t
  modDwy : ∀ (t : State) (d : DIx) (f : Dwy → Dwy), P (t.modDwy d f) = P t
  modAsic : ∀ (t : State) (j : Nat) (f : AsicH → AsicH), P (t.modAsic j f) = P t
  imgPend : ∀ (t : State) (l : List (Nat × Word)), P { t with imgPend := l } = P t
  freeCtr : ∀ (t : State) (n : Nat), P { t with freeCtr := n } = P t

namespace Blind
variable {β : Type} {P : State → β} (h : Blind P)
include h

theorem wr (s : State) (f : Fld) (v : Nat) : P (s.wr f v) = P s := h.setReg _ _ _
theorem setF (s : State) (f : Fld) (b : Bool) : P (s.setF f b) = P s := h.setReg _ _ _
theorem wrS (s : State) (f : Fld) (v : Int) : P (s.wrS f v) = P s := h.setReg _ _ _
theorem wrSat (s : State) (f : Fld) (v : Nat) : P (s.wrSat f v) = P s := h.setReg _ _ _
theorem stage (s : State) (c d : Nat) (ws : List Nat) : P (s.stage c d ws) = P s := stage_keeps P h.setReg h.recd s c d ws
theorem evalOutputs (s : State) : P s.evalOutputs = P s := evalOutputs_keeps P h.setReg h.recd s
theorem setCh (s : State) (d : DIx) (k : KIx) (n : Nat) : P (s.setCh d k n) = P s :=
  setCh_keeps P h.setReg (fun t d _ _ => h.modDwy t d _) (fun t d _ => h.modDwy t d _) s d k n
theorem evalChans (s : State) (d : DIx) : P (s.evalChans d) = P s :=
  evalChans_keeps P h.setReg (fun t d _ _ => h.modDwy t d _) (fun t d _ => h.modDwy t d _) s d

theorem evalCh (s : State) (d : DIx) (k : KIx) : P (s.evalCh d k) = P s := by
  have w : ∀ (t : State) (c : Bool) (n : Nat), P (t.when c (fun u => u.setCh d k n)) = P t :=
    fun t c n => when_keeps P t c _ (h.setCh _ _ _ _)
  have e : P (s.setF (F.CH_STATUS_CMD d k) (s.chCommand d k)) = P s := h.setF _ _ _
  unfold State.evalCh
  extract_lets cmd t st armed
  have et : P t = P s := e
  refine ite_keeps P _ _ _ _ et ?_
  refine ite_keeps P _ _ _ _ ((w _ _ _).trans et) ?_
  refine ite_keeps P _ _ _ _ ((h.setCh _ _ _ _).trans et) ?_
  refine ite_keeps P _ _ _ _ et ?_
  refine ite_keeps P _ _ _ _ ((w _ _ _).trans et) ?_
  exact ite_keeps P _ _ _ _ ((w _ _ _).trans et) ((w _ _ _).trans et)

theorem haltAxis (s : State) (d : DIx) (x : AIx) : P (s.haltAxis d x) = P s := by
  unfold State.haltAxis
  extract_lets t1 t2
  exact (h.wr _ _ _).trans ((h.wrS _ _ _).trans ((h.setF _ _ _).trans ((h.setF _ _ _).trans (h.modDwy _ _ _))))

theorem denOff (s : State) (d : DIx) : P (s.denOff d) = P s := by
  unfold State.denOff
  refine ite_keeps P _ _ _ _ rfl ?_
  extract_lets t1 t2
  rw [foldl_keeps P]
  · exact (h.modDwy _ _ _).trans ((h.setF _ _ _).trans (h.setF _ _ _))
  · intro t x _
    exact (h.haltAxis _ _ _).trans ((h.setF _ _ _).trans (h.setF _ _ _))

theorem sto (s : State) (d : DIx) (p f : Nat) : P (s.sto d p f) = P s := by
  unfold State.sto
  extract_lets o v0 t1 t2 t3 t4 t5
  have e4 : P t4 = P s := (h.modDwy _ _ _).trans ((h.denOff _ _).trans ((h.wr _ _ _).trans ((h.wrSat _ _ _).trans ((h.wr _ _ _).trans (h.wrSat _ _ _)))))
  have e5 : P t5 = P s := by
    show P (match o.cause with | none => t4 | some c => _) = _
    split
    · exact e4
    · exact (h.stage _ _ _ _).trans e4
  exact (when_keeps P _ _ _ (h.stage _ _ _ _)).trans e5

theorem torqueOff (s : State) (d : DIx) : P (s.torqueOff d) = P s := ite_keeps P _ _ _ _ (h.sto _ _ _ _) (h.denOff _ _)

theorem lockDrop (s : State) (d : DIx) : P (s.lockDrop d) = P s := by
  unfold State.lockDrop
  refine ite_keeps P _ _ _ _ ?_ rfl
  extract_lets was t
  refine (h.evalChans _ _).trans ((when_keeps P _ _ _ ?_).trans ((h.setF _ _ _).trans (h.setF _ _ _)))
  exact (h.modDwy _ _ _).trans (h.modDwy _ _ _)

theorem applyRange (s : State) (lo hi : Nat) : P (s.applyRange lo hi) = P s := by
  unfold State.applyRange
  extract_lets inR take t
  refine ite_keeps P _ _ _ _ rfl ?_
  rw [foldl_keeps P]
  · exact h.imgPend _ _
  · exact fun u p _ => h.setReg _ _ _

theorem applyLimp (s : State) : P s.applyLimp = P s := by
  unfold State.applyLimp
  refine ite_keeps P _ _ _ _ rfl (foldl_keeps P _ _ (fun t i _ => ?_) s)
  extract_lets addr free
  split
  · exact ite_keeps P _ _ _ _ (h.applyRange _ _ _) rfl
  · rfl

theorem bindLimp (s : State) (j : Nat) (b : Bool) : P (s.bindLimp j b) = P s := by
  refine foldl_keeps P _ _ (fun t i _ => ?_) s
  dsimp only
  split
  · refine ite_keeps P _ _ _ _ ?_ rfl
    exact (h.evalCh _ _ _).trans ((when_keeps P _ _ _ (h.setF _ _ _)).trans ((h.setF _ _ _).trans (h.modDwy _ _ _)))
  · rfl

theorem limpUpdate (s : State) (j c : Nat) : P (s.limpUpdate j c) = P s := by
  unfold State.limpUpdate
  extract_lets a active t any u v
  refine ite_keeps P _ _ _ _ rfl ?_
  refine (when_keeps P _ _ _ (h.stage _ _ _ _)).trans ((h.applyLimp _).trans ((h.setF _ _ _).trans ((h.bindLimp _ _ _).trans (h.setF _ _ _))))

/-- What an ASIC does at the loss of its alive pulse is at its outputs and its doorways alone. -/
theorem asicOff (s : State) (j : JIx) : P (s.asicOff j) = P s := by
  unfold State.asicOff
  extract_lets t1 t2 t3
  rw [foldl_keeps P]
  · exact (h.evalOutputs _).trans ((h.limpUpdate _ _ _).trans ((h.setF _ _ _).trans ((h.setF _ _ _).trans (h.modAsic _ _ _))))
  · exact fun t p _ => (h.evalChans _ _).trans (h.torqueOff _ _)

theorem modDir (s : State) (f : Dir → Dir) : P (s.modDir f) = P s := by
  unfold State.modDir State.showArea
  exact (h.wrSat _ _ _).trans ((h.wr _ _ _).trans ((h.wr _ _ _).trans ((h.wr _ _ _).trans ((h.wrSat _ _ _).trans (h.recd _ _)))))

theorem endF (s : State) (b : Nat) : P (s.endF b) = P s := ite_keeps P _ _ _ _ rfl ((h.recd _ _).trans (h.modDir _ _))

theorem putPage (s : State) (b p : Nat) (l : List (List Byte)) : P (s.putPage b p l) = P s :=
  foldl_keeps P _ _ (fun _ _ _ => ite_keeps P _ _ _ _ rfl (h.recd _ _)) s

theorem commitPage (s : State) (p : PageProg) (l : List (List Byte)) (n : Nat) : P (s.commitPage p l n) = P s := by
  unfold State.commitPage
  extract_lets base t1 bad t2 used t3
  have e : P t3 = P s := (h.recd _ _).trans ((h.recd _ _).trans (h.putPage _ _ _ _))
  exact ite_keeps P _ _ _ _ ((when_keeps P _ _ _ (h.endF _ _)).trans ((h.modDir _ _).trans e)) e

/-- A restart takes from the recorder alone. -/
theorem clearRecorder (s : State) : P s.clearRecorder = P s := by
  refine (h.recd _ _).trans ?_
  unfold State.tearPage
  split
  · rfl
  · exact (h.freeCtr _ _).trans (h.commitPage _ _ _ _)

theorem setRole (s : State) (r : Nat) : P (s.setRole r) = P s := by
  unfold State.setRole
  extract_lets old t u
  exact ite_keeps P _ _ _ _ rfl ((h.stage _ _ _ _).trans ((h.setF _ _ _).trans (h.wr _ _ _)))

theorem readUnproven (s : State) (d : DIx) : P (s.readUnproven d) = P s := by
  unfold State.readUnproven State.followSeq
  refine (h.modDwy _ d _).trans ((h.lockDrop _ _).trans ?_)
  exact (h.setF _ _ _).trans ((h.setF _ _ _).trans ((h.setF _ _ _).trans ((h.setF _ _ _).trans ((h.setF _ _ _).trans
    ((h.wr _ _ _).trans ((h.wr _ _ _).trans (h.wr _ _ _)))))))

end Blind
end Sys2Proof.Machine

namespace Sys2Proof.Machine

/-! ## The pair -/

/-- A change of the pair role writes RP_STATUS and its record alone. -/
theorem setRole_reg (s : State) (r a : Nat) (h : a ≠ 0x4000) (hr : recReg a = false) : (s.setRole r).reg a = s.reg a := by
  have h1 : a ≠ F.RP_STATUS_ROLE.addr := h
  have h2 : a ≠ F.RP_STATUS_SWAP_OK.addr := h
  unfold State.setRole
  extract_lets old t u
  split
  · rfl
  · rw [stage_reg _ _ _ _ _ hr, reg_setF_other _ _ _ _ h2, reg_wr_other _ _ _ _ h1]

/-- The role reads what it was set to. -/
theorem setRole_role (s : State) (r : Nat) (hr : r < 4) : (s.setRole r).rd F.RP_STATUS_ROLE = r := by
  unfold State.setRole
  extract_lets old t u
  split
  · assumption
  · rw [stage_rd _ _ _ _ _ (by decide)]
    show (t.setF F.RP_STATUS_SWAP_OK _).rd _ = _
    unfold State.setF
    rw [rd_wr_apart _ _ _ _ (by decide) (by decide), rd_wr_same _ _ _ (by decide)]
    exact Nat.mod_eq_of_lt hr

/-- A doorway that is made to read UNPROVEN writes registers of its window alone. -/
theorem readUnproven_reg (s : State) (d : DIx) (a : Nat) (h : a < 0x10000) : (s.readUnproven d).reg a = s.reg a := by
  have hn : ∀ o : Nat, a ≠ dw d o := fun o => by unfold dw; omega
  have hc : chanReg d a = false := by
    simp only [chanReg, Bool.or_eq_false_iff, beq_eq_false_iff_ne, ne_eq, List.any_eq_false, beq_iff_eq]
    exact ⟨hn _, fun k _ => by show ¬ a = ch d k 8; unfold ch; omega⟩
  unfold State.readUnproven State.followSeq
  refine (modDwy_reg _ d _ _).trans ((lockDrop_reg _ _ _ hc).trans ?_)
  iterate 5 refine (reg_wr_other _ _ _ _ (hn _)).trans ?_
  iterate 3 refine (reg_wr_other _ _ _ _ (hn _)).trans ?_
  rfl

/-- Becoming SYNCING writes RP_STATUS, its record and the windows of the doorways alone. -/
theorem toSyncing_reg (s : State) (a : Nat) (h : a < 0x10000) (h0 : a ≠ 0x4000) (hr : recReg a = false) : s.toSyncing.reg a = s.reg a := by
  unfold State.toSyncing
  extract_lets t
  have e : t.reg a = s.reg a := setRole_reg s 1 a h0 hr
  split
  · exact e
  · rw [foldl_reg _ _ _ (fun u d _ => readUnproven_reg u d a h), e]

theorem toSyncing_role (s : State) : s.toSyncing.rd F.RP_STATUS_ROLE = 1 := by
  unfold State.toSyncing
  extract_lets t
  have e : t.rd F.RP_STATUS_ROLE = 1 := setRole_role s 1 (by decide)
  split
  · exact e
  · rw [rd_congr (foldl_reg _ _ _ (fun u d _ => readUnproven_reg u d _ (by decide)) t), e]

theorem blind_now : Blind State.now :=
  ⟨fun _ _ _ => rfl, fun _ _ => rfl, fun _ _ _ => rfl, fun _ _ _ => rfl, fun _ _ => rfl, fun _ _ => rfl⟩

theorem toSyncing_now (s : State) : s.toSyncing.now = s.now := by
  unfold State.toSyncing
  extract_lets t
  have e : t.now = s.now := blind_now.setRole s 1
  split
  · exact e
  · rw [foldl_keeps State.now _ _ (fun u d _ => blind_now.readUnproven u d), e]

theorem modPair_reg (s : State) (f : PairH → PairH) (a : Nat) : (s.modPair f).reg a = s.reg a := reg_with_pair s (f s.pair) a

/-- A state phase that starts shows itself in RP_STATUS and in the windows alone. -/
theorem startState_shows (s : State) (c a : Nat) (hw : winReg a = false) :
    (s.startState c).reg a = ((s.setF F.RP_STATUS_RESYNCING true).setF F.RP_STATUS_CONTENT false).reg a := by
  unfold State.startState State.send
  extract_lets t1 t2 t3
  rw [modPair_reg]
  show ((t2.closeWin 4 24).openWin 4 24).reg a = _
  rw [openWin_reg _ _ _ _ hw, closeWin_reg _ _ _ _ hw]
  exact modPair_reg t1 _ a

theorem startState_reg (s : State) (c a : Nat) (h : a ≠ 0x4000) (hw : winReg a = false) : (s.startState c).reg a = s.reg a := by
  have h1 : a ≠ F.RP_STATUS_RESYNCING.addr := h
  have h2 : a ≠ F.RP_STATUS_CONTENT.addr := h
  rw [startState_shows s c a hw, reg_setF_other _ _ _ _ h2, reg_setF_other _ _ _ _ h1]

/-- RP_STATUS at the start of a state phase. -/
theorem startState_status (s : State) (c : Nat) :
    (s.startState c).reg 0x4000 = ((s.setF F.RP_STATUS_RESYNCING true).setF F.RP_STATUS_CONTENT false).reg 0x4000 :=
  startState_shows s c _ (by decide)

theorem startState_resyncing (s : State) (c : Nat) : (s.startState c).flag F.RP_STATUS_RESYNCING = true := by
  rw [flag_congr (startState_status s c)]
  exact (flag_wr_ne _ _ _ _ (by decide)).trans (flag_setF_same _ _ _ (by decide) rfl)

theorem startState_role (s : State) (c : Nat) : (s.startState c).rd F.RP_STATUS_ROLE = s.rd F.RP_STATUS_ROLE := by
  rw [rd_congr (startState_status s c)]
  exact (rd_wr_ne _ _ _ _ (by decide)).trans (rd_wr_ne _ _ _ _ (by decide))

theorem winOpen_congr {s t : State} (h : t.flt = s.flt) (k d : Nat) : t.winOpen k d = s.winOpen k d := by
  unfold State.winOpen State.winOf; rw [h]

theorem send_flt (s : State) (l : List (List Byte)) : (s.send l).flt = s.flt := rfl

theorem startState_winOpen (s : State) (c : Nat) : (s.startState c).winOpen 4 24 = true := by
  unfold State.startState
  extract_lets t1 t2 t3
  rw [winOpen_congr (send_flt t3 _)]
  exact openWin_open _ 4 24

/-- Windows are no part of the pair state. -/
theorem startState_pair (s : State) (c : Nat) : (s.startState c).pair.phase = 2 ∧ (s.startState c).pair.resyncAt = s.now := by
  unfold State.startState
  extract_lets t1 t2 t3
  have e : t3.pair = t2.pair :=
    (openWin_keeps State.pair (fun _ _ _ => rfl) (fun _ _ => rfl) _ _ _).trans (closeWin_keeps State.pair (fun _ _ _ => rfl) (fun _ _ => rfl) _ _ _)
  have hs : ∀ l, (t3.send l).pair = { t3.pair with out := t3.pair.out ++ l } := fun _ => rfl
  rw [hs, e]
  exact ⟨rfl, rfl⟩

/-- A command that starts a state phase leaves it started. -/
theorem done_startState (s u : State) (c : Nat) (hu : u.now = s.now) :
    let t := s.done (u.startState c)
    t.pair.phase = 2 ∧ t.pair.resyncAt = s.now ∧ t.flag F.RP_STATUS_RESYNCING = true ∧ t.winOpen 4 24 = true := by
  obtain ⟨hp, ha⟩ := startState_pair u c
  refine ⟨by rw [done_pair, hp], by rw [done_pair, ha, hu], ?_, ?_⟩
  · rw [done_flag _ _ _ (by decide)]; exact startState_resyncing u c
  · rw [winOpen_congr (done_flt _ _)]; exact startState_winOpen u c

end Sys2Proof.Machine

namespace Sys2Proof.Machine

/-! ## Requests of CTL -/

/-- A refused request of CTL shows REFUSED, its own bit reads clear, and nothing else changes. -/
theorem done_refused (s u : State) (f : Fld) (ha : f.addr = 0x4004) (hw : f.w = 1) (hlo : f.lo < 16)
    (hu : u = (s.setF F.RP_CTL_REFUSED true).setF f false ∨ u = (s.setF f false).setF F.RP_CTL_REFUSED true) :
    (s.done u).flag F.RP_CTL_REFUSED = true ∧ (s.done u).flag f = false ∧ (s.Inv → s.sameBut (s.done u) [F.RP_CTL_REFUSED, f]) := by
  have hf : f.lo + f.w ≤ 32 := by omega
  have hg : gatedReg f.addr = false := by rw [ha]; decide
  have hi : ∀ g ∈ [F.RP_CTL_REFUSED, f], invReg g.addr = false := by simp [ha]; decide
  have wR : ∀ t, s.writes t [F.RP_CTL_REFUSED, f] → s.writes (t.setF F.RP_CTL_REFUSED true) [F.RP_CTL_REFUSED, f] :=
    fun t h => writes_setF h _ _ (by simp) (by decide)
  have wf : ∀ t, s.writes t [F.RP_CTL_REFUSED, f] → s.writes (t.setF f false) [F.RP_CTL_REFUSED, f] := fun t h => writes_setF h _ _ (by simp) hf
  have key : u.flag F.RP_CTL_REFUSED = true ∧ u.flag f = false ∧ ({ u with regs := s.regs } : State) = s ∧ s.writes u [F.RP_CTL_REFUSED, f] := by
    rcases hu with rfl | rfl
    · refine ⟨?_, flag_setF_same _ _ _ (by omega) hw, by rw [setF_hidden, setF_hidden], wf _ (wR _ (writes_refl _ _))⟩
      rw [State.setF, flag_wr_ne _ _ _ _ (Or.inr ⟨hf, Or.inr (by show f.lo + f.w ≤ 16; omega)⟩)]
      exact flag_setF_same _ _ _ (by decide) rfl
    · refine ⟨flag_setF_same _ _ _ (by decide) rfl, ?_, by rw [setF_hidden, setF_hidden], wR _ (wf _ (writes_refl _ _))⟩
      rw [State.setF, flag_wr_ne _ _ _ _ (Or.inr ⟨by decide, Or.inl (by show f.lo + f.w ≤ 16; omega)⟩)]
      exact flag_setF_same _ _ _ (by omega) hw
  obtain ⟨hR, hF, hh, hr⟩ := key
  exact ⟨by rw [done_flag _ _ _ (by decide), hR], by rw [done_flag _ _ _ hg, hF], fun h => done_sameBut _ _ _ h hh hr hi⟩

theorem resync_refused {s : State} (h : s.alive = true) (hr : s.hasAuth = true ∨ s.flag F.RP_STATUS_LINK_UP = false) :
    resync s = (s.setF F.RP_CTL_REFUSED true).setF F.RP_CTL_RESYNC false := by
  unfold resync
  rw [onM_of_alive h]
  exact if_pos (by rcases hr with hr | hr <;> simp [hr])

theorem resync_starts {s : State} (h : s.alive = true) (ha : s.hasAuth = false) (hl : s.flag F.RP_STATUS_LINK_UP = true) :
    resync s = ((s.setF F.RP_CTL_RESYNC true).when (s.rd F.RP_STATUS_ROLE == 2) State.toSyncing).startState 4 := by
  unfold resync
  rw [onM_of_alive h, if_neg (by simp [ha, hl])]

/-- What RESYNC leaves before its state phase starts: its bit is set, and a STANDBY module reads SYNCING. -/
theorem resync_prepared (s : State) :
    let u := (s.setF F.RP_CTL_RESYNC true).when (s.rd F.RP_STATUS_ROLE == 2) State.toSyncing
    u.now = s.now ∧ u.flag F.RP_CTL_RESYNC = true ∧ (s.rd F.RP_STATUS_ROLE = 2 → u.rd F.RP_STATUS_ROLE = 1) := by
  have hf : (s.setF F.RP_CTL_RESYNC true).flag F.RP_CTL_RESYNC = true := flag_setF_same _ _ _ (by decide) rfl
  unfold State.when
  by_cases h : s.rd F.RP_STATUS_ROLE = 2
  · rw [if_pos (by simp [h])]
    refine ⟨toSyncing_now _, ?_, fun _ => toSyncing_role _⟩
    rw [flag_congr (toSyncing_reg _ _ (by decide) (by decide) (by decide))]
    exact hf
  · rw [if_neg (by simp [h])]
    exact ⟨rfl, hf, fun e => absurd e h⟩

theorem resync_runs (s : State) (h : s.alive = true) (ha : s.hasAuth = false) (hl : s.flag F.RP_STATUS_LINK_UP = true) :
    Runs .resync s fun t => t.pair.phase = 2 ∧ t.pair.resyncAt = s.now ∧ t.flag F.RP_STATUS_RESYNCING = true ∧ t.winOpen 4 24 = true ∧
      t.flag F.RP_CTL_RESYNC = true ∧ (s.rd F.RP_STATUS_ROLE = 2 → t.rd F.RP_STATUS_ROLE = 1) := by
  refine ⟨s.done (resync s), rfl, ?_⟩
  rw [resync_starts h ha hl]
  obtain ⟨hn, hf, hr⟩ := resync_prepared s
  obtain ⟨h1, h2, h3, h4⟩ := done_startState s _ 4 hn
  refine ⟨h1, h2, h3, h4, ?_, fun e => ?_⟩
  · rw [done_flag _ _ _ (by decide), flag_congr (startState_reg _ _ _ (by decide) (by decide)), hf]
  · rw [done_rd _ _ _ (by decide), startState_role, hr e]

theorem resyncWindowExpired_runs (s : State) (h : s.alive = true) (hp : s.pair.phase = 2 ∨ s.pair.phase = 3) (ht : s.pair.resyncAt + msT 300 ≤ s.now) :
    Runs .resyncWindowExpired s fun t => t.pair.phase = 2 ∧ t.pair.resyncAt = s.now ∧ t.flag F.RP_STATUS_RESYNCING = true ∧ t.winOpen 4 24 = true := by
  refine ⟨s.done (resyncWindowExpired s), rfl, ?_⟩
  unfold resyncWindowExpired
  rw [onM_of_alive h, if_pos ⟨hp, decide_eq_true ht⟩]
  exact done_startState s _ _ (stage_now _ _ _ _)

/-! ### Restart of the partner -/

/-- A pulse on RESTART_OUT is counted. -/
theorem done_pulseRestart (s u : State) (k : Nat) (hn : u.now = s.now) (hc : u.rd F.RP_COUNTS_RESTARTS = s.rd F.RP_COUNTS_RESTARTS) :
    (s.done (u.pulseRestart k)).pair = { u.pair with restartPulse := some s.now } ∧
    (s.done (u.pulseRestart k)).rd F.RP_COUNTS_RESTARTS = min (s.rd F.RP_COUNTS_RESTARTS + 1) (2 ^ F.RP_COUNTS_RESTARTS.w - 1) ∧
    ∀ a, a ≠ 0x4018 → recReg a = false → gatedReg a = false → (s.done (u.pulseRestart k)).reg a = u.reg a := by
  unfold State.pulseRestart
  extract_lets t
  refine ⟨?_, ?_, fun a ha hr hg => ?_⟩
  · rw [done_pair, stage_pair]
    show { u.pair with restartPulse := some u.now } = _
    rw [hn]
  · rw [done_rd _ _ _ (by decide), stage_rd _ _ _ _ _ (by decide)]
    have e : t.rd F.RP_COUNTS_RESTARTS = min (u.rd F.RP_COUNTS_RESTARTS + 1) (2 ^ F.RP_COUNTS_RESTARTS.w - 1) := rd_inc_same _ _ (by decide)
    rw [e, hc]
  · have h1 : a ≠ F.RP_COUNTS_RESTARTS.addr := ha
    rw [done_reg _ _ _ hg, stage_reg _ _ _ _ _ hr]
    exact (reg_inc_other _ _ _ h1).trans (modPair_reg _ _ _)

theorem resync_refuses (s : State) (h : s.alive = true) (hr : s.hasAuth = true ∨ s.flag F.RP_STATUS_LINK_UP = false) :
    Runs .resync s fun t => t.flag F.RP_CTL_REFUSED = true ∧ t.flag F.RP_CTL_RESYNC = false ∧ (s.Inv → s.sameBut t [F.RP_CTL_REFUSED, F.RP_CTL_RESYNC]) :=
  ⟨s.done (resync s), rfl, done_refused s _ _ rfl rfl (by decide) (Or.inl (resync_refused h hr))⟩

theorem hasAuth_congr {s t : State} (h : t.reg 0x4000 = s.reg 0x4000) : t.hasAuth = s.hasAuth := by
  unfold State.hasAuth; rw [rd_congr (f := F.RP_STATUS_ROLE) h]

/-- A request to restart the partner clears its bit, and pulses RESTART_OUT where the holder of authority has a partner. -/
theorem partnerRestart_eq {s : State} (h : s.alive = true) :
    partnerRestart s = if (s.hasAuth && s.flag F.RP_STATUS_PARTNER_PRESENT) = true then (s.setF F.RP_CTL_PARTNER_RESTART false).pulseRestart 1
      else (s.setF F.RP_CTL_PARTNER_RESTART false).setF F.RP_CTL_REFUSED true := by
  have e : (s.setF F.RP_CTL_PARTNER_RESTART false).reg 0x4000 = s.reg 0x4000 := reg_setF_other _ _ _ _ (by decide)
  unfold partnerRestart
  rw [onM_of_alive h]
  extract_lets t
  rw [hasAuth_congr e, flag_congr (f := F.RP_STATUS_PARTNER_PRESENT) e]

theorem partnerRestart_pulses (s : State) (h : s.alive = true) (ha : s.hasAuth = true) (hp : s.flag F.RP_STATUS_PARTNER_PRESENT = true) :
    Runs .partnerRestart s fun t => t.pair.restartPulse = some s.now ∧
      t.rd F.RP_COUNTS_RESTARTS = min (s.rd F.RP_COUNTS_RESTARTS + 1) (2 ^ F.RP_COUNTS_RESTARTS.w - 1) ∧ t.flag F.RP_CTL_PARTNER_RESTART = false := by
  refine ⟨s.done (partnerRestart s), rfl, ?_⟩
  rw [partnerRestart_eq h, if_pos (by simp [ha, hp])]
  obtain ⟨h1, h2, h3⟩ := done_pulseRestart s (s.setF F.RP_CTL_PARTNER_RESTART false) 1 rfl (rd_wr_addr _ _ _ _ (by decide))
  refine ⟨by rw [h1], h2, ?_⟩
  rw [flag_congr (h3 _ (by decide) (by decide) (by decide))]
  exact flag_setF_same _ _ _ (by decide) rfl

theorem partnerRestart_refuses (s : State) (h : s.alive = true) (hr : s.hasAuth = false ∨ s.flag F.RP_STATUS_PARTNER_PRESENT = false) :
    Runs .partnerRestart s fun t => t.flag F.RP_CTL_REFUSED = true ∧ t.flag F.RP_CTL_PARTNER_RESTART = false ∧
      (s.Inv → s.sameBut t [F.RP_CTL_REFUSED, F.RP_CTL_PARTNER_RESTART]) := by
  refine ⟨s.done (partnerRestart s), rfl, done_refused s _ _ rfl rfl (by decide) (Or.inr ?_)⟩
  rw [partnerRestart_eq h, if_neg (by rcases hr with hr | hr <;> simp [hr])]

theorem autoPartnerRestart_pulses (s : State) (t0 : Nat) (h : s.alive = true) (ha : s.hasAuth = true) (hc : s.flag F.RP_CFG_AUTO_RESTART = true)
    (hp : s.flag F.RP_STATUS_PARTNER_PRESENT = true) (hf : s.pair.fittedAt = some t0) (ht : t0 + msT (1000 * s.rd F.RP_CFG_RESTART_WAIT) ≤ s.now)
    (hb : s.pair.hbAt = none) (hn : s.pair.autoAt = none) :
    Runs .autoPartnerRestart s fun t => t.pair.restartPulse = some s.now ∧
      t.rd F.RP_COUNTS_RESTARTS = min (s.rd F.RP_COUNTS_RESTARTS + 1) (2 ^ F.RP_COUNTS_RESTARTS.w - 1) ∧ t.pair.autoAt = some s.now := by
  refine ⟨s.done (autoPartnerRestart s), rfl, ?_⟩
  have e : autoPartnerRestart s = (s.modPair (fun p => { p with autoAt := some s.now })).pulseRestart 2 := by
    unfold autoPartnerRestart State.noHeartbeat State.past
    rw [onM_of_alive h]
    simp [ha, hc, hp, hf, hb, hn, ht]
  rw [e]
  obtain ⟨h1, h2, -⟩ := done_pulseRestart s (s.modPair (fun p => { p with autoAt := some s.now })) 2 rfl (rd_congr (modPair_reg _ _ _))
  exact ⟨by rw [h1], h2, by rw [h1]; rfl⟩

end Sys2Proof.Machine

namespace Sys2Proof.Machine

/-! ### Causes and marks that clear -/

theorem bitOf_putBit_false (n i : Nat) : bitOf (putBit n i false) i = false := by
  unfold putBit
  by_cases h : bitOf n i = false
  · rw [if_pos h]; exact h
  · rw [if_neg h]
    have hp : 0 < 2 ^ i := Nat.two_pow_pos i
    simp only [bitOf, beq_eq_false_iff_ne, ne_eq, Decidable.not_not, Bool.false_eq_true, if_false] at h ⊢
    have hle : 2 ^ i ≤ n := Nat.le_of_not_lt fun hlt => by
      rw [Nat.div_eq_of_lt hlt] at h
      cases h
    obtain ⟨m, rfl⟩ := Nat.exists_eq_add_of_le hle
    rw [Nat.add_div_left _ hp] at h
    rw [Nat.add_sub_cancel_left]
    omega

theorem putBit_false_le (n i : Nat) : putBit n i false ≤ n := by
  unfold putBit
  split
  · exact Nat.le_refl _
  · exact Nat.sub_le _ _

theorem rd_setBit_clear (s : State) (f : Fld) (i : Nat) (h : f.lo + f.w ≤ 32) : bitOf ((s.setBit f i false).rd f) i = false := by
  have e : (s.setBit f i false).rd f = putBit (s.rd f) i false :=
    (rd_wr_same s f _ h).trans (Nat.mod_eq_of_lt (Nat.lt_of_le_of_lt (putBit_false_le _ _) (rd_lt s f)))
  rw [e, bitOf_putBit_false]

/-- A cause of SAFE that clears reads 0, and only it and what FLT_STATUS shows of SAFE change. -/
theorem done_clearCause (s : State) (c : Nat) :
    bitOf ((s.done (s.clearCause c)).rd F.FLT_SAFE_PENDING) (c - 1) = false ∧
    (s.Inv → s.sameBut (s.done (s.clearCause c)) [F.FLT_SAFE_PENDING, F.FLT_STATUS_SAFE, F.FLT_STATUS_CLEAR_OK]) := by
  unfold State.clearCause State.showSafe
  extract_lets t
  refine ⟨?_, fun hi => done_sameBut _ _ _ hi ?_ ?_ (by decide)⟩
  · rw [done_rd _ _ _ (by decide), State.setF, rd_wr_addr _ _ _ _ (by decide)]
    exact (congrArg (bitOf · _) (rd_wr_addr _ _ _ _ (by decide))).trans (rd_setBit_clear s _ _ (by decide))
  · rw [setF_hidden, setF_hidden, setBit_hidden]
  · exact writes_setF (writes_setF (writes_wr (writes_refl _ _) _ _ (by simp) (by decide)) _ _ (by simp) (by decide)) _ _ (by simp) (by decide)

theorem safeCausePairClear_runs (s : State) (t0 : Nat) (h : s.alive = true) (ha : s.pair.agreeSince = some t0) (ht : t0 + msT 10000 ≤ s.now) :
    Runs .safeCausePairClear s fun t => bitOf (t.rd F.FLT_SAFE_PENDING) 8 = false ∧
      (s.Inv → s.sameBut t [F.FLT_SAFE_PENDING, F.FLT_STATUS_SAFE, F.FLT_STATUS_CLEAR_OK]) := by
  refine ⟨s.done (safeCausePairClear s), rfl, ?_⟩
  have e : safeCausePairClear s = s.clearCause 9 := by
    unfold safeCausePairClear State.past
    rw [onM_of_alive h]
    simp [ha, ht]
  rw [e]
  exact done_clearCause s 9

/-- Where a command's rules change fields alone and leave the invariant standing, the gates change nothing more. -/
theorem done_sameBut_of_inv (s t : State) (l : List Fld) (ht : t.Inv) (hh : ({ t with regs := s.regs } : State) = s) (hr : s.fieldsBut t l) :
    s.sameBut (s.done t) l := by
  have h1 : t.chip = s.chip := by have e := congrArg State.chip hh; exact e
  have h2 : t.pending = s.pending := by have e := congrArg State.pending hh; exact e
  have h3 : t.now = s.now := by have e := congrArg State.now hh; exact e
  exact ⟨(done_hidden s t h1 h2 h3 s.regs).trans hh, fun g hg => (rd_congr (done_reg_inv s t ht h1 h2 h3 _)).trans (hr g hg)⟩

/-- The invariant reads no field of RP_STATUS but AUTH. -/
theorem inv_setF_status (s : State) (f : Fld) (b : Bool) (ha : f.addr = 0x4000) (hw : f.lo + f.w ≤ 32) (h4 : 4 ≤ f.lo) (h : s.Inv) : (s.setF f b).Inv := by
  have hr : ∀ a, a ≠ 0x4000 → (s.setF f b).reg a = s.reg a := fun a h => reg_setF_other _ _ _ _ (by rw [ha]; exact h)
  have hf : ∀ g : Fld, g.addr ≠ 0x4000 → (s.setF f b).flag g = s.flag g := fun g h => flag_congr (hr _ h)
  have hd : ∀ g : Fld, g.addr ≠ 0x4000 → (s.setF f b).rd g = s.rd g := fun g h => rd_congr (hr _ h)
  have hauth : (s.setF f b).flag F.RP_STATUS_AUTH = s.flag F.RP_STATUS_AUTH := flag_wr_ne _ _ _ _ (Or.inr ⟨hw, Or.inl h4⟩)
  have hden : ∀ d : DIx, dw d 0x4A0 ≠ 0x4000 := fun d => by unfold dw; omega
  have hseq : ∀ d : DIx, dw d 4 ≠ 0x4000 := fun d => by unfold dw; omega
  obtain ⟨hg, hl1, hl2⟩ := h
  have hg' : (s.setF f b).Gated := by
    intro ho
    have ho' : s.gateOpen = false := by
      rw [← ho]; unfold State.gateOpen; rw [hauth]; rfl
    obtain ⟨h1, h2, h3, h4⟩ := hg ho'
    refine ⟨(hf _ (by decide)).trans h1, by rw [hd _ (by decide)]; exact h2, (hd _ (by decide)).trans h3, fun d => ?_⟩
    exact ⟨(hf _ (hden d)).trans (h4 d).1, (hf _ (hden d)).trans (h4 d).2⟩
  refine ⟨hg', fun hc d hm => ?_, fun hc d hm => ?_⟩
  · rw [hf _ (hseq d)]
    rw [hf _ (by decide)] at hc; rw [hd _ (by decide)] at hm
    exact hl1 hc d hm
  · rw [hf _ (hseq d)]
    rw [hd _ (by decide)] at hc; rw [hd _ (by decide)] at hm
    exact hl2 hc d hm

theorem variantMismatchClear_runs (s : State) (t0 : Nat) (h : s.alive = true) (he : s.pair.epochAt = some t0) (ht : t0 + msT 1000 ≤ s.now) :
    Runs .variantMismatchClear s fun t => t.flag F.RP_STATUS_VARIANT_MISMATCH = false ∧ (s.Inv → s.sameBut t [F.RP_STATUS_VARIANT_MISMATCH]) := by
  refine ⟨s.done (variantMismatchClear s), rfl, ?_⟩
  have e : variantMismatchClear s = s.setF F.RP_STATUS_VARIANT_MISMATCH false := by
    unfold variantMismatchClear State.past
    rw [onM_of_alive h]
    simp [he, ht]
  rw [e]
  refine ⟨?_, fun hi => done_sameBut_of_inv s _ _ (inv_setF_status s F.RP_STATUS_VARIANT_MISMATCH false rfl (by decide) (by decide) hi) (setF_hidden _ _ _ _) ?_⟩
  · rw [done_flag _ _ _ (by decide)]
    exact flag_setF_same _ _ _ (by decide) rfl
  · exact (writes_setF (writes_refl s _) _ _ (List.mem_singleton_self _) (by decide)).2

/-! ### Restart -/

/-- What a kept register of a sparse store reads. -/
theorem Al.get_filter {α : Type} (dflt : Nat → α) (p : Nat → Bool) (l : List (Nat × α)) (k : Nat) :
    Al.get dflt (l.filter (fun e => p e.1)) k = if p k then Al.get dflt l k else dflt k := by
  induction l with
  | nil => simp [Al.get]
  | cons e l ih =>
    obtain ⟨k', v⟩ := e
    by_cases hp : p k' = true
    · rw [List.filter_cons_of_pos (by simpa using hp)]
      by_cases hk : k = k'
      · subst hk; simp [Al.get, hp]
      · simp only [Al.get, if_neg hk, ih]
    · rw [List.filter_cons_of_neg (by simpa using hp), ih]
      by_cases hk : k = k'
      · subst hk; simp [hp]
      · simp only [Al.get, if_neg hk]

end Sys2Proof.Machine

namespace Sys2Proof.Machine

namespace Blind
variable {β : Type} {P : State → β} (h : Blind P)
include h

theorem stageKeepLost (s : State) : P s.stageKeepLost = P s := by
  unfold State.stageKeepLost
  exact ite_keeps P _ _ _ _ rfl ((stageRec_keeps P h.setReg h.recd _ _).trans (h.recd _ _))

theorem bootRecords (s : State) (how : Nat) : P (s.bootRecords how) = P s := by
  unfold State.bootRecords
  extract_lets t1 t2 t3 t4
  have w : ∀ (t : State) (b : Bool) (c d : Nat) (l : State → List Nat), P (t.when b (fun u => u.stage c d (l u))) = P t :=
    fun t b c d l => when_keeps P t b _ (h.stage _ _ _ _)
  exact (h.stageKeepLost _).trans ((w _ _ _ _ _).trans ((w _ _ _ _ _).trans ((w _ _ _ _ _).trans (h.stage _ _ _ _))))

theorem bootShow (s : State) (how : Nat) : P (s.bootShow how) = P s := by
  simp only [State.bootShow, State.setF, State.wr, State.wrSat, h.setReg]

end Blind

theorem bootRecords_reg (s : State) (how a : Nat) (h : recReg a = false) : (s.bootRecords how).reg a = s.reg a := by
  have w : ∀ (t : State) (b : Bool) (c d : Nat) (l : State → List Nat), (t.when b (fun u => u.stage c d (l u))).reg a = t.reg a :=
    fun t b c d l => when_keeps (fun u => u.reg a) t b _ (stage_reg _ _ _ _ _ h)
  have k : ∀ t : State, t.stageKeepLost.reg a = t.reg a := by
    intro t
    unfold State.stageKeepLost
    exact ite_keeps (fun u => u.reg a) _ _ _ _ rfl ((stageRec_reg _ _ _ h).trans (reg_with_recd _ _ _))
  unfold State.bootRecords
  extract_lets t1 t2 t3 t4
  rw [k, w, w, w]
  exact stage_reg _ _ _ _ _ h

/-- The registers that BOOT shows at once. -/
def bootReg (a : Nat) : Bool := [0x4000, 0x3024, 0xA01C, 0xA000, 0x3010, 0x300C, 0xA024].contains a

theorem bootShow_reg (s : State) (how a : Nat) (h : bootReg a = false) : (s.bootShow how).reg a = s.reg a := by
  have hn : ∀ f : Fld, bootReg f.addr = true → a ≠ f.addr := fun f hf e => by rw [e, hf] at h; cases h
  have w : ∀ (t : State) (f : Fld) (v : Nat), bootReg f.addr = true → (t.wr f v).reg a = t.reg a := fun t f v hf => reg_wr_other t f v a (hn f hf)
  have r : ∀ (t : State) (b : Nat) (v : Word), bootReg b = true → (t.setReg b v).reg a = t.reg a :=
    fun t b v hb => by rw [reg_setReg, if_neg (hn ⟨b, 0, 32⟩ hb)]
  simp (disch := decide) only [State.bootShow, State.setF, State.wrSat, w, r]

theorem clearVolatile_reg (s : State) (a : Nat) (h : s.keptReg a = false) : s.clearVolatile.reg a = resetWord a := by
  have e : s.clearVolatile.regs = s.regs.filter (fun e => s.keptReg e.1) := rfl
  unfold State.reg
  rw [e, Al.get_filter resetWord s.keptReg, if_neg (by simp [h])]

/-- Only the field ASICs keep registers through a restart. -/
theorem keptReg_low (s : State) (a : Nat) (h : a < 0x6080) : s.keptReg a = false := by
  simp only [State.keptReg, Bool.or_eq_false_iff, Bool.and_eq_false_iff, decide_eq_false_iff_not, List.any_eq_false]
  refine ⟨Or.inl (by omega), fun d _ => ?_⟩
  simp only [List.any_eq_true, not_exists, not_and, Bool.and_eq_true, beq_iff_eq]
  intro k _ _
  unfold ch; omega

/-- A restart leaves MOD.STATE in BOOT. -/
theorem bootEntry_boots (s : State) (how : Nat) : (s.bootEntry how).modState = 0 := by
  unfold State.bootEntry
  extract_lets t how' old u v
  have e : v.reg 4 = resetWord 4 := by
    show (State.bootRecords _ how').reg 4 = _
    rw [bootRecords_reg _ _ _ (by decide), bootShow_reg _ _ _ (by decide), clearVolatile_reg _ _ (keptReg_low _ _ (by decide))]
  have z : fldGet (resetWord 4) 0 3 = 0 := by decide
  clear_value v
  exact (congrArg (fun w => fldGet w 0 3) e).trans z

/-- How often the module has restarted, and whether its keep-alive domain has lost VKEEP. -/
def restartMarks (s : State) : Nat × Bool := (s.flt.restarts, s.pwr.vkLost)

theorem blind_restartMarks : Blind restartMarks :=
  ⟨fun _ _ _ => rfl, fun _ _ => rfl, fun _ _ _ => rfl, fun _ _ _ => rfl, fun _ _ => rfl, fun _ _ => rfl⟩

theorem clearVolatile_marks (s : State) : restartMarks s.clearVolatile = restartMarks s := rfl

/-- A restart with VKEEP there is counted. -/
theorem bootEntry_counts (s : State) (how : Nat) (hh : how ≠ 1) (hv : s.pwr.vkLost = false) :
    (s.bootEntry how).flt.restarts = min 65535 (s.flt.restarts + 1) := by
  have hf : restartMarks (allJ.foldl (fun t j => t.asicOff j) s) = restartMarks s := foldl_keeps restartMarks _ _ (fun t j _ => blind_restartMarks.asicOff t j) s
  generalize ht : allJ.foldl (fun t j => t.asicOff j) s = t at hf
  obtain ⟨hr, hk⟩ := Prod.mk.inj hf
  have hd : t.dropKeepAlive = t := by
    unfold State.dropKeepAlive
    rw [if_neg (by rw [hk, hv]; decide)]
  unfold State.bootEntry
  rw [ht, hd]
  extract_lets t' how' old u v
  have h' : how' = how := if_neg (by show ¬ t.pwr.vkLost = true; rw [hk, hv]; decide)
  have eu : restartMarks u = (min 65535 (s.flt.restarts + 1), s.pwr.vkLost) := by
    show restartMarks (if how' = 1 then t else _) = _
    rw [h', if_neg hh, ← hr, ← hk]
    rfl
  have ev : restartMarks v = restartMarks u := by
    show restartMarks (State.bootRecords _ how') = _
    rw [blind_restartMarks.bootRecords, blind_restartMarks.bootShow, clearVolatile_marks, blind_restartMarks.clearRecorder]
  exact (congrArg Prod.fst ev).trans (congrArg Prod.fst eu)

theorem partnerRestartIn_boots (s : State) (ms : Nat) (hr : s.rail = true) (h1 : 10 ≤ ms) (h2 : ms ≤ 100) (ho : s.outputsOff = false) :
    Runs (.partnerRestartIn ms) s fun t => t.modState = 0 ∧ (t.flt.restarts = min 65535 (s.flt.restarts + 1) ∨ s.pwr.vkLost = true) := by
  refine ⟨s.done (partnerRestartIn ms s), rfl, ?_⟩
  have e : partnerRestartIn ms s = s.bootEntry 3 := if_neg (by simp [hr, ho, h1, h2])
  rw [e]
  refine ⟨(done_rd _ _ _ (by decide)).trans (bootEntry_boots s 3), ?_⟩
  cases hv : s.pwr.vkLost with
  | true => exact Or.inr rfl
  | false => exact Or.inl (by rw [done_flt, bootEntry_counts s 3 (by decide) hv])

theorem partnerRestartIn_ignored (s : State) (ms : Nat) (h : ms < 10 ∨ 100 < ms) :
    Runs (.partnerRestartIn ms) s fun t => s.Inv → s.sameBut t [] := by
  refine ⟨s.done (partnerRestartIn ms s), rfl, fun hi => ?_⟩
  have e : partnerRestartIn ms s = s := if_pos (by rcases h with h | h <;> simp [h])
  rw [e]
  exact done_same s hi

/-- Settles O35, clause by clause. -/
theorem pairRecovers : Obligations.PairRecovers :=
  ⟨resync_refuses, resync_runs, resyncWindowExpired_runs, partnerRestart_pulses, partnerRestart_refuses, autoPartnerRestart_pulses,
    safeCausePairClear_runs, variantMismatchClear_runs, partnerRestartIn_boots, partnerRestartIn_ignored⟩

end Sys2Proof.Machine

namespace Sys2Proof.Machine

/-! ## A setting of an encoder that waits for its axis to rest -/

/-- A module in CONFIG that a service session holds open, whose axes are not at rest. -/
def movingInConfig : State :=
  ((({ State.reset with rail := true, img := { State.reset.img with running := some false, decl := 1 } } : State).wr F.MOD_STATE_STATE 1).wr F.RP_STATUS_ROLE 3).modSess 0
    (fun y => { y with open_ := true, port := .service })

/-- ENC_CFG of axis 0 of doorway 0. -/
def encCfgAddr : Word := BitVec.ofNat 32 (en 0 0 0x30)

/-- What the register map says of ENC_CFG. -/
def encCfgDef : RegDef := (regDef encCfgAddr.toNat).getD { off := 0, stride := 0, cnt := 0, words := 0, reset := 0 }

theorem regDef_encCfg : regDef encCfgAddr.toNat = some encCfgDef := by decide +kernel

/-- The checks of R502 and R504 let the setting be written in CONFIG. -/
theorem movingInConfig_writeStatus : movingInConfig.writeStatus (movingInConfig.sess 0) encCfgAddr.toNat [(1 : Word).toNat] = 0 := by decide +kernel

/-- Bit 0 of ENC_CFG is locked to CONFIG, so a write there sets it. -/
theorem encCfg_takes_bit0 : bitOf (if movingInConfig.modState = 1 then Nat.lor encCfgDef.rw encCfgDef.rwl else encCfgDef.rw) 0 = true := by decide +kernel

/-- Of a value written to ENC_CFG bit 0 stays as written: the field is no image of process data. -/
theorem encCfg_value_bit0 : bitOf (pdWindow movingInConfig.hasPd encCfgAddr.toNat (1 : Word).toNat) 0 = true := by decide +kernel

/-- The setting waits for the axis to rest (R225), and the register stays as it was. -/
theorem encCfg_waits : bitOf ((movingInConfig.done (registerWrite 0 encCfgAddr 1 movingInConfig)).reg encCfgAddr.toNat).toNat 0 = false := by decide +kernel

/-- Refutes O39: a write of ENC_CFG in CONFIG passes every check, but the axis is not at rest, so the setting waits (R225) and the RWL bit does not read as written. -/
theorem not_writesAreChecked : ¬ Obligations.WritesAreChecked := by
  intro h
  obtain ⟨_, _, _, doorway, _⟩ := h
  obtain ⟨t, ht, hset, _⟩ := doorway movingInConfig 0 encCfgAddr 1 encCfgDef 0 (by decide +kernel) (by decide +kernel) (by decide +kernel)
    movingInConfig_writeStatus (by decide +kernel) regDef_encCfg (by decide +kernel) (by decide +kernel) (by decide +kernel) (by decide +kernel) (by decide +kernel)
  have run : t = movingInConfig.done (registerWrite 0 encCfgAddr 1 movingInConfig) := (Host.Outcome.next.inj ht).symm
  have bit := hset 0 encCfg_takes_bit0
  rw [run] at bit
  exact Bool.false_ne_true (encCfg_waits.symm.trans (bit.trans encCfg_value_bit0))

end Sys2Proof.Machine

namespace Sys2Proof.Machine

/-! ## Sessions of host access -/

@[simp] theorem sess_modSess_same (s : State) (i : Nat) (f : Sess → Sess) (h : i < 8) : (s.modSess i f).sess i = f (s.sess i) := by
  simp [State.sess, State.modSess, h]

@[simp] theorem modSess_reg (s : State) (i : Nat) (f : Sess → Sess) (a : Nat) : (s.modSess i f).reg a = s.reg a := rfl

@[simp] theorem inc_sess (s : State) (f : Fld) (i : Nat) : (s.inc f).sess i = s.sess i := by
  unfold State.sess
  rw [inc_rap]

@[simp] theorem done_sess (s t : State) (i : Nat) : (s.done t).sess i = t.sess i := by unfold State.sess; rw [done_rap]

theorem findSess_lt {s : State} {p : Port} {n i : Nat} (h : s.findSess p n = some i) : i < 8 := by
  unfold State.findSess at h
  split at h
  · rename_i hn
    dsimp only at h
    split at h
    · injection h with h; omega
    · cases h
  · cases h

/-- What stands outside the registers, host access and the CAN queues that it reads has not changed. -/
def State.accessOnly (s t : State) : Prop := ({ t with regs := s.regs, rap := s.rap, can := s.can } : State) = s

theorem accessOnly_refl (s : State) : s.accessOnly s := rfl

theorem accessOnly_trans {s t u : State} (h : s.accessOnly t) (k : t.accessOnly u) : s.accessOnly u :=
  (congrArg (fun x : State => ({ x with regs := s.regs, rap := s.rap, can := s.can } : State)) k).trans h

theorem accessOnly_modSess (s : State) (i : Nat) (f : Sess → Sess) : s.accessOnly (s.modSess i f) := rfl

theorem accessOnly_rap (s : State) (r : RapH) : s.accessOnly { s with rap := r } := rfl

theorem accessOnly_can (s : State) (v : Vector CanH 2) : s.accessOnly { s with can := v } := rfl

theorem accessOnly_sendRap (s : State) (p : Port) (ip : Nat) (b : List Byte) : s.accessOnly (s.sendRap p ip b) := rfl

theorem accessOnly_inc (s : State) (f : Fld) : s.accessOnly (s.inc f) :=
  (congrArg (fun x : State => ({ x with rap := s.rap, can := s.can } : State)) (inc_hidden s f s.regs)).trans rfl

/-- The frame of a command of host access that writes fields outside the invariant's registers. -/
theorem done_fieldsBut_of_accessOnly (s t : State) (l : List Fld) (hi : s.Inv) (h : s.accessOnly t) (hr : s.writes t l)
    (hw : ∀ f ∈ l, invReg f.addr = false) : s.fieldsBut (s.done t) l :=
  (done_frame s t { s with rap := t.rap, can := t.can } l hi (congrArg (fun x : State => ({ x with rap := t.rap, can := t.can } : State)) h)
    ⟨rfl, rfl, rfl, rfl, fun _ => rfl⟩ hr hw).2

/-! ## A telegram of one item -/

/-- The state in which the first item of a telegram with a new TAG runs: nothing has been sent, and session `i` has taken the TAG. -/
def State.tookTag (s : State) (i tag : Nat) : State :=
  (({ s with rap := { s.rap with out := [], read := [] } } : State).modSess i (fun y => { y with lastAt := s.now })).modSess i
    (fun y => { y with lastTag := some tag, resp := [] })

/-- A telegram with a new TAG runs its items in the session it names. -/
theorem telegram_newTag (s : State) (p : Port) (ip n tag i : Nat) (l : List RapItem) (hf : s.findSess p n = some i) (ht : (s.sess i).lastTag ≠ some tag) :
    s.telegram p ip n tag l =
      (runItems false l ({ port := p, ip := ip, tag := tag, sess := some i, left := l }, s.tookTag i tag)).2.settleRun n
        (runItems false l ({ port := p, ip := ip, tag := tag, sess := some i, left := l }, s.tookTag i tag)).1 (some i) := by
  have hf' : ({ s with rap := { s.rap with out := [], read := [] } } : State).findSess p n = some i := hf
  unfold State.telegram
  dsimp only
  rw [hf']
  exact if_neg ht

/-- The answer to the telegram of a session: one response that starts with the session's number and its TAG. -/
theorem answer_out (s : State) (i n : Nat) (r : Run) :
    ∃ d, (s.answer (some i) n r false).rap.out = s.rap.out ++ [(rapPorts r.port, r.ip, response (i + 1) r.tag r.n d r.res)] := ⟨_, rfl⟩

theorem answer_reg (s : State) (i n : Nat) (r : Run) (a : Nat) : (s.answer (some i) n r false).reg a = s.reg a := rfl

theorem answer_accessOnly (s : State) (i n : Nat) (r : Run) : s.accessOnly (s.answer (some i) n r false) :=
  accessOnly_trans (accessOnly_modSess s i _) (accessOnly_sendRap _ _ _ _)

theorem answer_queue (s : State) (i n : Nat) (r : Run) (h : i < 8) : ((s.answer (some i) n r false).sess i).queue = (s.sess i).queue := by
  have e : ∃ b, (s.answer (some i) n r false).sess i = (s.modSess i (fun y => { y with dropped := 0, dropAddr := 0, resp := if y.lastTag = some r.tag then b else y.resp })).sess i := ⟨_, rfl⟩
  obtain ⟨b, e⟩ := e
  rw [e, sess_modSess_same _ _ _ h]

/-- What an item leaves that is done with a STATUS other than 0 and did nothing: one failed item more, and its result in the response. -/
def State.failItem (s : State) (i n : Nat) (r : Run) (it : RapItem) (status : Nat) : State :=
  (s.inc F.RAP_ERR_ITEMS).answer (some i) n
    { r with left := [], res := r.res ++ itemResult it.op.toNat status it.count.toNat [] [], n := r.n + 1 } false

/-- A telegram of one item that fails in a session. -/
theorem telegram_failed (s : State) (p : Port) (ip n tag i st : Nat) (it : RapItem) (hf : s.findSess p n = some i)
    (ht : (s.sess i).lastTag ≠ some tag) (hw : (s.tookTag i tag).itemWaits i it = false) (hst : st ≠ 0)
    (hi : ∀ r : Run, r.item (s.tookTag i tag) i it [] = r.done (s.tookTag i tag) it st [] [] []) :
    s.telegram p ip n tag [it] = (s.tookTag i tag).failItem i n { port := p, ip := ip, tag := tag, sess := some i, left := [it] } it st := by
  rw [telegram_newTag s p ip n tag i _ hf ht]
  have hb : (st != 0) = true := bne_iff_ne.mpr hst
  simp only [runItems, hw, Bool.false_eq_true, if_false, hi, Run.done, State.when, hb, if_true]
  rfl

/-- The byte of STATUS in the response to a telegram of one item. -/
theorem response_status (k tag d op status count : Nat) :
    fieldAt (response k tag 1 d (itemResult op status count [] [])) 13 1 = status % 256 := by
  simp [response, withCrc, itemResult, leBytes, fieldAt, leNat]

section
variable (s : State) (i n : Nat) (p : Port) (ip tag : Nat) (it : RapItem) (st : Nat)

theorem tookTag_accessOnly : s.accessOnly (s.tookTag i tag) :=
  accessOnly_trans (accessOnly_rap s _) (accessOnly_trans (accessOnly_modSess _ i _) (accessOnly_modSess _ i _))

theorem tookTag_reg (a : Nat) : (s.tookTag i tag).reg a = s.reg a := rfl

theorem tookTag_out : (s.tookTag i tag).rap.out = [] := rfl

theorem tookTag_sess (h : i < 8) : (s.tookTag i tag).sess i = { s.sess i with lastAt := s.now, lastTag := some tag, resp := [] } := by
  unfold State.tookTag
  rw [sess_modSess_same _ _ _ h, sess_modSess_same _ _ _ h]
  rfl

/-- The response to a telegram whose item failed holds the STATUS. -/
theorem failItem_out (u : State) (r : Run) (hr : r.res = []) (hn : r.n = 0) (ho : u.rap.out = []) (h8 : st < 256) :
    (u.failItem i n r it st).rap.out.length = 1 ∧ fieldAt (((u.failItem i n r it st).rap.out.map (fun q => q.2.2)).headD []) 13 1 = st := by
  unfold State.failItem
  obtain ⟨d, e⟩ := answer_out (u.inc F.RAP_ERR_ITEMS) i n
    { r with left := [], res := r.res ++ itemResult it.op.toNat st it.count.toNat [] [], n := r.n + 1 }
  rw [e, inc_rap, ho]
  dsimp only
  rw [hr, hn]
  exact ⟨rfl, (response_status _ _ _ _ _ _).trans (Nat.mod_eq_of_lt h8)⟩

theorem failItem_accessOnly (u : State) (r : Run) : u.accessOnly (u.failItem i n r it st) :=
  accessOnly_trans (accessOnly_inc u _) (answer_accessOnly _ _ _ _)

theorem failItem_reg (u : State) (r : Run) (a : Nat) : (u.failItem i n r it st).reg a = (u.inc F.RAP_ERR_ITEMS).reg a := answer_reg _ _ _ _ _

theorem failItem_queue (u : State) (r : Run) (h : i < 8) : ((u.failItem i n r it st).sess i).queue = (u.sess i).queue :=
  (answer_queue _ _ _ _ h).trans (by rw [inc_sess])
end

/-- A command whose telegram holds one item that fails in its session: the response carries the STATUS, one failed item more is counted, nothing is
queued, and every field but the count reads as before. -/
theorem request_failed (s : State) (x : RapTel) (i st : Nat) (it : RapItem) (ha : s.alive = true) (hp : s.portUp x.port = true) (hx : x.rest = [])
    (hf : s.findSess x.port x.session.toNat = some i) (ht : (s.sess i).lastTag ≠ some x.tag.toNat) (hw : (s.tookTag i x.tag.toNat).itemWaits i it = false)
    (hst : st ≠ 0) (h8 : st < 256)
    (hi : ∀ r : Run, r.item (s.tookTag i x.tag.toNat) i it [] = r.done (s.tookTag i x.tag.toNat) it st [] [] []) :
    (s.done (s.request x it)).rap.out.length = 1 ∧
    fieldAt (((s.done (s.request x it)).rap.out.map (fun q => q.2.2)).headD []) 13 1 = st ∧
    (s.done (s.request x it)).rd F.RAP_ERR_ITEMS = min (s.rd F.RAP_ERR_ITEMS + 1) (2 ^ F.RAP_ERR_ITEMS.w - 1) ∧
    ((s.done (s.request x it)).sess i).queue = (s.sess i).queue ∧
    (s.Inv → s.fieldsBut (s.done (s.request x it)) [F.RAP_ERR_ITEMS]) := by
  have h8i := findSess_lt hf
  have e : s.request x it = (s.tookTag i x.tag.toNat).failItem i x.session.toNat
      { port := x.port, ip := x.ip.toNat, tag := x.tag.toNat, sess := some i, left := [it] } it st := by
    have e1 : s.request x it = s.telegram x.port x.ip.toNat x.session.toNat x.tag.toNat (it :: x.rest) := if_pos (by rw [ha, hp]; rfl)
    rw [e1, hx, telegram_failed s _ _ _ _ i st it hf ht hw hst hi]
  have took : s.writes (s.tookTag i x.tag.toNat) [F.RAP_ERR_ITEMS] := writes_congr (writes_refl s _) (tookTag_reg s i _)
  have hcount : (s.request x it).rd F.RAP_ERR_ITEMS = min (s.rd F.RAP_ERR_ITEMS + 1) (2 ^ F.RAP_ERR_ITEMS.w - 1) := by
    rw [e, rd_congr (failItem_reg _ _ _ _ _ _ _), rd_inc_same _ _ (by decide), rd_congr (tookTag_reg s i _ _)]
  have hwr : s.writes (s.request x it) [F.RAP_ERR_ITEMS] := by
    rw [e]
    exact writes_congr (writes_wr took _ _ (List.mem_singleton_self _) (by decide)) (failItem_reg _ _ _ _ _ _)
  have hrap : s.accessOnly (s.request x it) := by
    rw [e]
    exact accessOnly_trans (tookTag_accessOnly s i _) (failItem_accessOnly _ _ _ _ _ _)
  refine ⟨?_, ?_, (done_rd _ _ _ (by decide)).trans hcount, ?_, fun hi => done_fieldsBut_of_accessOnly s _ _ hi hrap hwr (by decide)⟩
  · rw [done_rap, e]
    exact (failItem_out _ _ _ _ _ _ rfl rfl (tookTag_out s i _) h8).1
  · rw [done_rap, e]
    exact (failItem_out _ _ _ _ _ _ rfl rfl (tookTag_out s i _) h8).2
  · rw [done_sess, e, failItem_queue _ _ _ _ _ _ h8i, tookTag_sess _ _ _ h8i]

end Sys2Proof.Machine

namespace Sys2Proof.Machine

/-! ## Where registers lie -/

/-- A row found at an offset stands in the table, and the offset lies in its registers. -/
theorem rowAt_some {tab : List RegDef} {o : Nat} {r : RegDef} (h : rowAt tab o = some r) :
    r ∈ tab ∧ r.off ≤ o ∧ (o - r.off) / r.stride < r.cnt ∧ (o - r.off) % r.stride < 4 * r.words := by
  have hp := List.find?_some h
  simp only [Bool.and_eq_true, decide_eq_true_eq] at hp
  exact ⟨List.mem_of_find?_eq_some h, hp.1.1, hp.1.2, hp.2⟩

theorem globalTab_bound : ∀ r ∈ globalTab, 0 < r.stride ∧ r.off + r.stride * r.cnt ≤ 0x10000 := by decide +kernel

/-- The global registers lie below the windows of the doorways. -/
theorem rowAt_globalTab_lt {a : Nat} {r : RegDef} (h : rowAt globalTab a = some r) : a < 0x10000 := by
  obtain ⟨hm, hoff, hcnt, _⟩ := rowAt_some h
  obtain ⟨hs, hb⟩ := globalTab_bound r hm
  rw [Nat.div_lt_iff_lt_mul hs, Nat.mul_comm] at hcnt
  omega

theorem regDef_aligned {a : Nat} {r : RegDef} (h : regDef a = some r) : a % 4 = 0 := Decidable.byContradiction fun ha => by
  unfold regDef at h
  rw [if_pos ha] at h
  cases h

/-- No register lies above the microstep table. -/
theorem regDef_lt {a : Nat} {r : RegDef} (h : regDef a = some r) : a < 0x31000 := by
  unfold regDef at h
  dsimp only at h
  split at h
  · cases h
  split at h
  · omega
  split at h
  · omega
  split at h
  · omega
  split at h
  · omega
  split at h
  · omega
  · have := rowAt_globalTab_lt h
    omega

/-! ## Items of a non-aligned address -/

/-- A change of a session that leaves its queue makes no READ wait. -/
theorem readWaits_modSess (s : State) (i : Nat) (f : Sess → Sess) (hf : ∀ y, (f y).queue = y.queue) (a n : Nat) :
    (s.modSess i f).readWaits a n = s.readWaits a n := by
  have e : ∀ (t : State), t.readWaits a n = (t.rap.sess.toList.map (fun x : Sess => x.queue)).any (fun q =>
      q.any (fun e => e.load.isNone && decide (a < e.addr + 4 * e.words.length) && decide (e.addr < a + 4 * n))) := fun t => by
    rw [List.any_map]; rfl
  rw [e, e]
  congr 1
  rw [show (s.modSess i f).rap.sess.toList = s.rap.sess.toList.set i (f (s.sess i)) from Vector.toList_setIfInBounds, List.map_set, hf]
  refine List.ext_getElem? fun k => ?_
  rw [List.getElem?_set, List.getElem?_map, List.length_map, Vector.length_toList]
  by_cases hk : i = k
  · subst hk
    rw [if_pos rfl]
    by_cases h8 : i < 8
    · simp [h8, State.sess]
    · simp [h8]
  · rw [if_neg hk]

theorem readWaits_tookTag (s : State) (i tag a n : Nat) : (s.tookTag i tag).readWaits a n = s.readWaits a n := by
  unfold State.tookTag
  refine (readWaits_modSess _ i _ ?_ a n).trans ((readWaits_modSess _ i _ ?_ a n).trans rfl)
  · exact fun _ => rfl
  · exact fun _ => rfl

/-- A READ of one word at a non-aligned address fails with ALIGN, and does nothing. -/
theorem item_read_unaligned (r : Run) (s : State) (i : Nat) (addr : Word) (h : addr.toNat % 4 ≠ 0) :
    r.item s i { op := 0x10, count := 1, addr := addr, data := [] } [] = r.done s { op := 0x10, count := 1, addr := addr, data := [] } 2 [] [] [] := by
  have e : ∀ size, s.readItem i addr.toNat (1 : BitVec 16).toNat size = (2, [], s) := fun size => by
    unfold State.readItem
    rw [if_neg (by decide), if_pos h]
  show r.done (s.readItem i addr.toNat (1 : BitVec 16).toNat _).2.2 _ (s.readItem i addr.toNat (1 : BitVec 16).toNat _).1 []
    ((s.readItem i addr.toNat (1 : BitVec 16).toNat _).2.1.flatMap (leBytes 4)) [] = _
  rw [e]
  rfl

/-- ALIGN is the first code that applies to a non-aligned write. -/
theorem writeStatus_unaligned (s : State) (x : Sess) (addr : Nat) (ws : List Nat) (h : addr % 4 ≠ 0) : s.writeStatus x addr ws = 2 := by
  have hb : (addr % 4 != 0) = true := bne_iff_ne.mpr h
  simp [State.writeStatus, hb]

/-- A WRITE of one word at a non-aligned address fails with ALIGN, and queues nothing. -/
theorem item_write_unaligned (r : Run) (s : State) (i : Nat) (addr : Word) (data : List Byte) (h : addr.toNat % 4 ≠ 0) (hd : data.length = 4) :
    r.item s i { op := 0x11, count := 1, addr := addr, data := data } [] = r.done s { op := 0x11, count := 1, addr := addr, data := data } 2 [] [] [] := by
  have e : (s.postItem (s.sess i) { op := 0x11, count := 1, addr := addr, data := data }).1 = 2 := by
    unfold State.postItem
    rw [if_pos rfl]
    simp [writeStatus_unaligned _ _ _ _ h, hd]
  show r.done (if (s.postItem (s.sess i) _).1 = 0 then _ else s) _ (s.postItem (s.sess i) _).1 [] [] [] = _
  rw [e]
  rfl

/-- Settles O47: a non-aligned READ or WRITE is an item that fails with ALIGN, which changes the count of failed items alone. -/
theorem unalignedAccessHasNoEffect : Obligations.UnalignedAccessHasNoEffect := by
  refine ⟨fun a r h => ⟨regDef_aligned h, Nat.lt_trans (regDef_lt h) (by decide)⟩, ?_, ?_⟩
  · intro s x i addr ha hp hx hf ht hq hw hu
    have wait : (s.tookTag i x.tag.toNat).itemWaits i { op := 0x10, count := 1, addr := addr, data := [] } = false :=
      (readWaits_tookTag s i _ _ _).trans hw
    obtain ⟨h1, h2, h3, h4, h5⟩ := request_failed s x i 2 _ ha hp hx hf ht wait (by decide) (by decide) (fun r => item_read_unaligned r _ i addr hu)
    exact ⟨_, rfl, h1, h2, h3, h4.trans hq, h5⟩
  · intro s x i addr data ha hp hx hf ht hq hd hu
    obtain ⟨h1, h2, h3, h4, h5⟩ := request_failed s x i 2 { op := 0x11, count := 1, addr := addr, data := data } ha hp hx hf ht rfl (by decide) (by decide)
      (fun r => item_write_unaligned r _ i addr data hu hd)
    exact ⟨_, rfl, h1, h2, h3, h4.trans hq, h5⟩

end Sys2Proof.Machine

namespace Sys2Proof.Machine

/-! ## Commands of one session -/

theorem onSess_of_open {s : State} {i : Fin 8} (ha : s.alive = true) (ho : (s.sess i.val).open_ = true) (f : State → State) : s.onSess i f = f s :=
  if_pos (by rw [ha, ho]; rfl)

theorem returns_of_alive {s : State} (ha : s.alive = true) (p : List Nat × State) : s.returns p = { p.2 with rap := { p.2.rap with read := p.1 } } := if_pos ha

/-- A command that changes one session leaves everything else. -/
theorem done_modSess (s : State) (i : Nat) (f : Sess → Sess) (hi : s.Inv) :
    (s.modSess i f).hiddenAs (s.done (s.modSess i f)) ∧ s.fieldsBut (s.done (s.modSess i f)) [] :=
  done_frame s _ _ [] hi rfl ⟨rfl, rfl, rfl, rfl, fun _ => rfl⟩ (writes_congr (writes_refl s []) (modSess_reg s i f)) (by decide)

/-! ### Snapshots -/

theorem resolve_runs (s : State) (i : Fin 8) (ha : s.alive = true) (ho : (s.sess i.val).open_ = true) :
    Runs (.resolve i) s fun t => (t.sess i.val).resolving = true ∧ (t.sess i.val).snapDone = false ∧
      (s.Inv → (s.modSess i.val (fun y => { y with resolving := true, snapDone := false })).hiddenAs t ∧ s.fieldsBut t []) := by
  refine ⟨s.done (resolve i s), rfl, ?_⟩
  have e : resolve i s = s.modSess i.val (fun y => { y with resolving := true, snapDone := false }) := onSess_of_open ha ho _
  rw [e]
  refine ⟨?_, ?_, fun hi => done_modSess s _ _ hi⟩
  · rw [done_sess, sess_modSess_same _ _ _ i.isLt]
  · rw [done_sess, sess_modSess_same _ _ _ i.isLt]

theorem snapshotResolved_runs (s : State) (i : Fin 8) (ha : s.alive = true) (hr : (s.sess i.val).resolving = true) (hready : s.flag F.REC_STATUS_READY = true) :
    Runs (.snapshotResolved i) s fun t => (t.sess i.val).snapDone = true ∧ (t.sess i.val).resolving = false ∧
      (t.sess i.val).snapFirst = (s.sess i.val).snapLo + (s.sess i.val).snapHi * 2 ^ 32 ∧
      (t.sess i.val).list = s.resolveList ((s.sess i.val).snapLo + (s.sess i.val).snapHi * 2 ^ 32) (min 8192 (s.sess i.val).snapCount) ∧
      (s.Inv → s.fieldsBut t []) := by
  refine ⟨s.done (snapshotResolved i s), rfl, ?_⟩
  have e : ∃ f : Sess → Sess, snapshotResolved i s = s.modSess i.val f ∧ ∀ y, f y = { y with
      resolving := false, snapDone := true, snapFirst := (s.sess i.val).snapLo + (s.sess i.val).snapHi * 2 ^ 32,
      list := s.resolveList ((s.sess i.val).snapLo + (s.sess i.val).snapHi * 2 ^ 32) (min 8192 (s.sess i.val).snapCount), held := [] } := by
    unfold snapshotResolved
    rw [onM_of_alive ha]
    exact ⟨_, if_pos (by rw [hr, hready]; rfl), fun _ => rfl⟩
  obtain ⟨f, e, hf⟩ := e
  rw [e]
  have hs : (s.done (s.modSess i.val f)).sess i.val = f (s.sess i.val) := by rw [done_sess, sess_modSess_same _ _ _ i.isLt]
  refine ⟨?_, ?_, ?_, ?_, fun hi => (done_modSess s _ _ hi).2⟩
  · rw [hs, hf]
  · rw [hs, hf]
  · rw [hs, hf]
  · rw [hs, hf]

theorem export_runs (s : State) (i : Fin 8) (on : Bool) (ha : s.alive = true) (ho : (s.sess i.val).open_ = true) (hl : (on && s.img.level == 0) = false) :
    Runs (.export_ i on) s fun t => (t.sess i.val).export_ = on ∧
      (s.Inv → (s.modSess i.val (fun y => { y with export_ := on })).hiddenAs t ∧ s.fieldsBut t []) := by
  refine ⟨s.done (export_ i on s), rfl, ?_⟩
  have e : export_ i on s = s.modSess i.val (fun y => { y with export_ := on }) :=
    (onSess_of_open ha ho _).trans (if_neg (by rw [hl]; decide))
  rw [e]
  refine ⟨?_, fun hi => done_modSess s _ _ hi⟩
  rw [done_sess, sess_modSess_same _ _ _ i.isLt]

theorem export_refused (s : State) (i : Fin 8) (ha : s.alive = true) (ho : (s.sess i.val).open_ = true) (hl : s.img.level = 0) :
    Runs (.export_ i true) s fun t => (t.sess i.val).snapRefused = true ∧ (t.sess i.val).export_ = (s.sess i.val).export_ ∧
      (s.Inv → (s.modSess i.val (fun y => { y with snapRefused := true })).hiddenAs t ∧ s.fieldsBut t []) := by
  refine ⟨s.done (export_ i true s), rfl, ?_⟩
  have e : export_ i true s = s.modSess i.val (fun y => { y with snapRefused := true }) :=
    (onSess_of_open ha ho _).trans (if_pos (by rw [hl]; decide))
  rw [e]
  refine ⟨?_, ?_, fun hi => done_modSess s _ _ hi⟩
  · rw [done_sess, sess_modSess_same _ _ _ i.isLt]
  · rw [done_sess, sess_modSess_same _ _ _ i.isLt]

/-! ## The read of one word -/

/-- The state in which a read starts: the session holds no CAN slot. -/
def State.freshSlots (s : State) (i : Nat) : State := s.modSess i (fun y => { y with slots := [] })

theorem freshSlots_sess (s : State) (i : Nat) (h : i < 8) : (s.freshSlots i).sess i = { s.sess i with slots := [] } := sess_modSess_same s i _ h

/-- The read of one register that is there: what fixes it, its word, and what follows. -/
theorem readRange_one (s : State) (i a : Nat) (differ : Bool) (h : s.addrClass a = 0) :
    s.readRange i a 1 differ =
      ([((s.freshSlots i).preRead i a differ).readWord i a], ((s.freshSlots i).preRead i a differ).postRead i a) := by
  have hc : (s.addrClass a == 0) = true := beq_iff_eq.mpr h
  unfold State.readRange
  simp only [List.range_one, List.map_cons, List.map_nil, Nat.mul_zero, Nat.add_zero, List.all_cons, List.all_nil, Bool.and_true, hc, if_true,
    List.foldl_cons, List.foldl_nil, List.nil_append]
  rfl

section
variable (s : State) (ha : s.alive = true) (p : List Nat × State)
include ha

theorem done_returns_read : (s.done (s.returns p)).rap.read = p.1 := by rw [returns_of_alive ha, done_rap]

theorem done_returns_sess (i : Nat) : (s.done (s.returns p)).sess i = p.2.sess i := by
  rw [returns_of_alive ha]
  exact done_sess _ _ i

theorem done_returns_can : (s.done (s.returns p)).can = p.2.can := by rw [returns_of_alive ha, done_can]

theorem done_returns_reg (a : Nat) (h : gatedReg a = false) : (s.done (s.returns p)).reg a = p.2.reg a := by
  rw [returns_of_alive ha]
  exact done_reg _ _ a h

/-- A read that clears no register leaves every field as it was. -/
theorem done_returns_fieldsBut (hi : s.Inv) (hacc : s.accessOnly p.2) (hr : ∀ a, p.2.reg a = s.reg a) : s.fieldsBut (s.done (s.returns p)) [] := by
  rw [returns_of_alive ha]
  exact done_fieldsBut_of_accessOnly s _ _ hi (accessOnly_trans hacc (accessOnly_rap _ _)) (writes_congr (writes_refl s []) hr) (by decide)
end

theorem putKey_find {α : Type} (l : List (Nat × α)) (k : Nat) (v : α) : (putKey l k v).find? (fun p => p.1 == k) = some (k, v) := by
  simp [putKey]

/-- An address that is the low word of no counter keeps none. -/
theorem postRead_of_no_rc (s : State) (i a : Nat) (hl : lowWord a = false) (ha : a < 0x10000 ∨ 0x28000 ≤ a) (hs : a ≠ F.SUPPLY_EVT.addr)
    (hr : ∀ r, regDef a = some r → r.rc = 0) : s.postRead i a = s := by
  unfold State.postRead
  rw [hl]
  have hd : ¬ (0x10000 ≤ a ∧ a < 0x28000) := by omega
  simp only [Bool.false_eq_true, if_false, if_neg hd, Bool.not_true, if_neg hs]
  cases e : regDef a with
  | none => rfl
  | some r => exact if_pos (hr r e)

/-- The word after an address that is no low word is no high word. -/
theorem readWord_of_not_high (s : State) (i a : Nat) (h : lowWord (a - 4) = false) : s.readWord i a = s.wordNow i a :=
  if_neg (by rw [h]; simp)

/-! ### Windows of snapshots and of forensic reads -/

theorem lowWord_window {a : Nat} (h : 0x28000 ≤ a) : lowWord a = false := by
  simp only [lowWord, Bool.or_eq_false_iff, Bool.and_eq_false_iff, decide_eq_false_iff_not, beq_eq_false_iff_ne]
  omega

theorem regDef_window {a : Nat} (h : 0x100000 ≤ a) : regDef a = none := by
  cases e : regDef a with
  | none => rfl
  | some r => have := regDef_lt e; omega

theorem addrClass_window (s : State) {a : Nat} (h : 0x100000 ≤ a) (h2 : a < 0x200000) : s.addrClass a = 0 := by
  unfold State.addrClass
  rw [if_neg (by omega), if_pos h, if_pos h2]

theorem postRead_window (s : State) (i : Nat) {a : Nat} (h : 0x100000 ≤ a) : s.postRead i a = s :=
  postRead_of_no_rc s i a (lowWord_window (by omega)) (by omega) (by show a ≠ 0xA028; omega)
    (fun r e => by rw [regDef_window h] at e; cases e)

/-- A word of a window of snapshots or forensic reads. -/
theorem readRange_window (s : State) (i : Nat) {a : Nat} (differ : Bool) (h : 0x100000 ≤ a) (h2 : a < 0x200000) :
    s.readRange i a 1 differ = ([((s.freshSlots i).preRead i a differ).wordNow i a], (s.freshSlots i).preRead i a differ) := by
  rw [readRange_one s i a differ (addrClass_window s h h2), readWord_of_not_high _ _ _ (lowWord_window (by omega)), postRead_window _ _ h]

end Sys2Proof.Machine

namespace Sys2Proof.Machine

/-! ### Entries of the snapshot window -/

theorem entrySize_pos (x : Sess) : 0 < x.entrySize ∧ x.entrySize ≤ 64 := by
  unfold Sess.entrySize
  split <;> decide

/-- Where word 0 of an entry lies. -/
theorem snapAddr_lt (x : Sess) (j : Fin 8192) : 0x100000 + x.entrySize * j.val < 0x180000 := by
  have h : x.entrySize * j.val ≤ 64 * j.val := Nat.mul_le_mul_right _ (entrySize_pos x).2
  omega

/-- The session holds the bytes of an entry. -/
def Sess.hold (y : Sess) (j : Nat) (b : List Byte) : Sess := { y with held := putKey y.held j b }

/-- The bytes of entry j of the session's list as they stand now. -/
def State.entryNow (s : State) (i j : Nat) : List Byte := s.snapEntry (s.sess i).snapFirst (s.sess i).list j

section
variable (x : Sess) (j : Fin 8192)

theorem snapAddr_sub : 0x100000 + x.entrySize * j.val - 0x100000 = x.entrySize * j.val := Nat.add_sub_cancel_left _ _

theorem snapAddr_div : (0x100000 + x.entrySize * j.val - 0x100000) / x.entrySize = j.val := by
  rw [snapAddr_sub, Nat.mul_div_cancel_left _ (entrySize_pos x).1]

theorem snapAddr_mod : (0x100000 + x.entrySize * j.val - 0x100000) % x.entrySize = 0 := by
  rw [snapAddr_sub, Nat.mul_mod_right]

/-- A read of word 0 of an entry of the list fixes the entry. -/
theorem preRead_snap (s : State) (i : Nat) (differ : Bool) (hx : s.sess i = x) (hj : j.val < x.list.length) :
    s.preRead i (0x100000 + x.entrySize * j.val) differ =
      s.modSess i (fun y => y.hold j.val (s.snapEntry x.snapFirst x.list j.val)) := by
  have hlt := snapAddr_lt x j
  unfold State.preRead
  dsimp only
  rw [hx, if_neg (by omega), if_pos ⟨by omega, hlt⟩, snapAddr_div, if_pos ⟨hj, Or.inl (snapAddr_mod x j)⟩]
  rfl

/-- Beyond the list a read fixes nothing. -/
theorem preRead_snap_beyond (s : State) (i : Nat) (differ : Bool) (hx : s.sess i = x) (hj : x.list.length ≤ j.val) :
    s.preRead i (0x100000 + x.entrySize * j.val) differ = s := by
  have hlt := snapAddr_lt x j
  unfold State.preRead
  dsimp only
  rw [hx, if_neg (by omega), if_pos ⟨by omega, hlt⟩, snapAddr_div, if_neg (fun h => absurd h.1 (by omega))]

/-- Word 0 of an entry. -/
theorem wordNow_snap (s : State) (i : Nat) (y : Sess) (hy : s.sess i = y) (he : y.entrySize = x.entrySize) :
    s.wordNow i (0x100000 + x.entrySize * j.val) =
      if y.list.length ≤ j.val then 0
      else fieldAt (if y.export_ then exportEntry (s.snapBytes y j.val) else s.snapBytes y j.val) 0 4 := by
  have hlt := snapAddr_lt x j
  unfold State.wordNow
  dsimp only
  rw [if_neg (by rw [addrClass_window s (by omega) (by omega)]; decide), if_neg (by omega), if_neg (by omega), if_pos (by omega), hy]
  unfold State.snapWord
  rw [he, snapAddr_div, snapAddr_mod]
end

/-- What a session holds for an entry is what a read of it returns. -/
theorem snapBytes_held (s : State) (y : Sess) (j : Nat) (b : List Byte) (h : y.held.find? (fun h => h.1 == j) = some (j, b)) : s.snapBytes y j = b := by
  unfold State.snapBytes
  rw [h]

/-- The words of a window's entry are no registers, so a session alone keeps what a read of one fixes. -/
theorem done_returns_modSess (s : State) (ha : s.alive = true) (i : Nat) (f : Sess → Sess) (w : List Nat) (hi : s.Inv) :
    s.fieldsBut (s.done (s.returns (w, (s.freshSlots i).modSess i f))) [] :=
  done_returns_fieldsBut s ha _ hi (accessOnly_trans (accessOnly_modSess s i _) (accessOnly_modSess _ i f)) (fun _ => rfl)

theorem snapshotEntryRead_eq (s : State) (i : Fin 8) (j : Fin 8192) (ha : s.alive = true) (ho : (s.sess i.val).open_ = true)
    (hj : j.val < (s.sess i.val).list.length) :
    snapshotEntryRead i j s = s.returns
      ([fieldAt (if (s.sess i.val).export_ then exportEntry (s.entryNow i.val j.val) else s.entryNow i.val j.val) 0 4],
       (s.freshSlots i.val).modSess i.val (fun y => y.hold j.val (s.entryNow i.val j.val))) := by
  have hlt := snapAddr_lt (s.sess i.val) j
  have hu := freshSlots_sess s i.val i.isLt
  have hpre := preRead_snap { s.sess i.val with slots := [] } j (s.freshSlots i.val) i.val false hu hj
  have hword := wordNow_snap (s.sess i.val) j _ i.val _
    (sess_modSess_same (s.freshSlots i.val) i.val (fun y => y.hold j.val (s.entryNow i.val j.val)) i.isLt) (by rw [hu]; rfl)
  rw [snapBytes_held _ _ _ _ (putKey_find _ _ _), hu] at hword
  have e : snapshotEntryRead i j s = s.returns (s.readRange i.val (0x100000 + (s.sess i.val).entrySize * j.val) 1 false) := onSess_of_open ha ho _
  rw [e, readRange_window s i.val false (by omega) (by omega)]
  exact congrArg s.returns (Prod.ext (congrArg (fun w => [w]) ((congrArg (fun t => State.wordNow t i.val _) hpre).trans (hword.trans (if_neg (Nat.not_le.mpr hj))))) hpre)

theorem snapshotEntryRead_runs (s : State) (i : Fin 8) (j : Fin 8192) (ha : s.alive = true) (ho : (s.sess i.val).open_ = true)
    (hj : j.val < (s.sess i.val).list.length) :
    Runs (.snapshotEntryRead i j) s fun t =>
      (t.sess i.val).held.find? (fun h => h.1 == j.val) = some (j.val, s.entryNow i.val j.val) ∧
      ((s.sess i.val).export_ = false → t.rap.read = [fieldAt (s.entryNow i.val j.val) 0 4]) ∧
      ((s.sess i.val).export_ = true → t.rap.read = [fieldAt (exportEntry (s.entryNow i.val j.val)) 0 4]) ∧
      (s.Inv → s.fieldsBut t []) := by
  refine ⟨s.done (snapshotEntryRead i j s), rfl, ?_⟩
  rw [snapshotEntryRead_eq s i j ha ho hj]
  refine ⟨?_, fun hex => ?_, fun hex => ?_, fun hi => done_returns_modSess s ha _ _ _ hi⟩
  · rw [done_returns_sess s ha, sess_modSess_same _ _ _ i.isLt]
    exact putKey_find _ _ _
  · rw [done_returns_read s ha, hex]; rfl
  · rw [done_returns_read s ha, hex]; rfl

/-- Beyond the list of a session every word reads 0. -/
theorem snapshotEntryRead_beyond (s : State) (i : Fin 8) (j : Fin 8192) (ha : s.alive = true) (ho : (s.sess i.val).open_ = true)
    (hj : (s.sess i.val).list.length ≤ j.val) :
    Runs (.snapshotEntryRead i j) s fun t => t.rap.read = [0] ∧ (s.Inv → s.fieldsBut t []) := by
  refine ⟨s.done (snapshotEntryRead i j s), rfl, ?_⟩
  have hlt := snapAddr_lt (s.sess i.val) j
  have hu := freshSlots_sess s i.val i.isLt
  have hpre := preRead_snap_beyond { s.sess i.val with slots := [] } j (s.freshSlots i.val) i.val false hu hj
  have hword := wordNow_snap (s.sess i.val) j (s.freshSlots i.val) i.val _ hu rfl
  rw [if_pos hj] at hword
  have e : snapshotEntryRead i j s = s.returns ([0], s.freshSlots i.val) := by
    have e : snapshotEntryRead i j s = s.returns (s.readRange i.val (0x100000 + (s.sess i.val).entrySize * j.val) 1 false) := onSess_of_open ha ho _
    rw [e, readRange_window s i.val false (by omega) (by omega)]
    exact congrArg s.returns (Prod.ext (congrArg (fun w => [w]) ((congrArg (fun t => State.wordNow t i.val _) hpre).trans hword)) hpre)
  rw [e]
  exact ⟨done_returns_read s ha _, fun hi => done_returns_fieldsBut s ha _ hi (accessOnly_modSess s _ _) (fun _ => rfl)⟩

end Sys2Proof.Machine

namespace Sys2Proof.Machine

/-! ### Entries of the forensic window -/

/-- The session holds the bytes of a raw slot and its FOR_STATUS. -/
def Sess.holdRaw (y : Sess) (j : Nat) (b : List Byte) (st : Nat) : Sess := { y with forHeld := putKey y.forHeld j b, forStatus := st }

theorem forAddr_div (j : Nat) : (0x180000 + 64 * j - 0x180000) / 64 = j := by omega

theorem forAddr_mod (j : Nat) : (0x180000 + 64 * j) % 64 = 0 := by omega

/-- A read of word 0 of an entry holds the raw slot as it stands. -/
theorem preRead_for (s : State) (i : Nat) (j : Fin 8192) (differ : Bool) :
    s.preRead i (0x180000 + 64 * j.val) differ =
      s.modSess i (fun y => y.holdRaw j.val (s.forEntry ((s.sess i).forBase + j.val)) (s.forStatus ((s.sess i).forBase + j.val) differ)) := by
  unfold State.preRead
  dsimp only
  rw [if_pos ⟨by omega, by omega⟩, forAddr_div, if_pos (Or.inl (forAddr_mod j.val))]
  rfl

/-- Word 0 of an entry that the session holds. -/
theorem wordNow_for (s : State) (i : Nat) (j : Fin 8192) (b : List Byte) (h : (s.sess i).forHeld.find? (fun h => h.1 == j.val) = some (j.val, b)) :
    s.wordNow i (0x180000 + 64 * j.val) = fieldAt b 0 4 := by
  unfold State.wordNow
  dsimp only
  rw [if_neg (by rw [addrClass_window s (by omega) (by omega)]; decide), if_neg (by omega), if_pos (by omega), forAddr_div, forAddr_mod]
  unfold State.forBytes
  rw [h]

theorem forensicEntryRead_eq (s : State) (i : Fin 8) (j : Fin 8192) (differ : Bool) (ha : s.alive = true) (ho : (s.sess i.val).open_ = true) :
    forensicEntryRead i j differ s = s.returns
      ([fieldAt (s.forEntry ((s.sess i.val).forBase + j.val)) 0 4],
       (s.freshSlots i.val).modSess i.val (fun y => y.holdRaw j.val (s.forEntry ((s.sess i.val).forBase + j.val))
         (s.forStatus ((s.sess i.val).forBase + j.val) differ))) := by
  have e : forensicEntryRead i j differ s = s.returns (s.readRange i.val (0x180000 + 64 * j.val) 1 differ) := onSess_of_open ha ho _
  have hpre := preRead_for (s.freshSlots i.val) i.val j differ
  rw [freshSlots_sess s i.val i.isLt] at hpre
  have hword := wordNow_for ((s.freshSlots i.val).modSess i.val (fun y => y.holdRaw j.val (s.forEntry ((s.sess i.val).forBase + j.val))
    (s.forStatus ((s.sess i.val).forBase + j.val) differ))) i.val j _ (by rw [sess_modSess_same _ _ _ i.isLt]; exact putKey_find _ _ _)
  rw [e, readRange_window s i.val differ (by omega) (by omega)]
  exact congrArg s.returns (Prod.ext (congrArg (fun w => [w]) ((congrArg (fun t => State.wordNow t i.val _) hpre).trans hword)) hpre)

theorem forensicEntryRead_runs (s : State) (i : Fin 8) (j : Fin 8192) (differ : Bool) (ha : s.alive = true) (ho : (s.sess i.val).open_ = true) :
    Runs (.forensicEntryRead i j differ) s fun t => t.rap.read = [fieldAt (s.forEntry ((s.sess i.val).forBase + j.val)) 0 4] ∧
      (t.sess i.val).forHeld.find? (fun h => h.1 == j.val) = some (j.val, s.forEntry ((s.sess i.val).forBase + j.val)) ∧
      (t.sess i.val).forStatus = s.forStatus ((s.sess i.val).forBase + j.val) differ ∧ (s.Inv → s.fieldsBut t []) := by
  refine ⟨s.done (forensicEntryRead i j differ s), rfl, ?_⟩
  rw [forensicEntryRead_eq s i j differ ha ho]
  refine ⟨done_returns_read s ha _, ?_, ?_, fun hi => done_returns_modSess s ha _ _ _ hi⟩
  · rw [done_returns_sess s ha, sess_modSess_same _ _ _ i.isLt]
    exact putKey_find _ _ _
  · rw [done_returns_sess s ha, sess_modSess_same _ _ _ i.isLt]
    rfl

/-! ### Slots of a CAN controller -/

/-- FHDR of a slot. -/
def slotAddr (c : CIx) (n : Fin 8) : Nat := 0x8300 + 0x800 * c.val + 0x50 * n.val

theorem lowWord_slotAddr : ∀ (c : CIx) (n : Fin 8), lowWord (slotAddr c n) = false ∧ lowWord (slotAddr c n - 4) = false := by decide +kernel

/-- A slot's FHDR is a register that no read clears. -/
theorem regDef_slotAddr : ∀ (c : CIx) (n : Fin 8), (regDef (slotAddr c n)).map (fun r => r.rc) = some 0 := by decide +kernel

theorem slotAddr_fields (c : CIx) (n : Fin 8) : (slotAddr c n - 0x8000) / 0x800 = c.val ∧ (slotAddr c n - 0x8000) % 0x800 = 0x300 + 0x50 * n.val := by
  unfold slotAddr
  omega

theorem slotAddr_range (c : CIx) (n : Fin 8) : 0x8000 ≤ slotAddr c n ∧ slotAddr c n < 0x9000 := by
  unfold slotAddr
  omega

theorem addrClass_slotAddr (s : State) (c : CIx) (n : Fin 8) : s.addrClass (slotAddr c n) = 0 := by
  have hr := slotAddr_range c n
  have hd : (regDef (slotAddr c n)).isNone = false := by
    have h := regDef_slotAddr c n
    cases e : regDef (slotAddr c n) with
    | none => rw [e] at h; cases h
    | some r => rfl
  have habs : s.absentReg (slotAddr c n) = false := by
    unfold State.absentReg
    rw [if_neg (by omega), if_neg (by omega), if_neg (by omega), if_neg (by omega)]
  unfold State.addrClass
  rw [if_neg (by omega), if_neg (by omega), hd, habs]
  rfl

/-- The words of a slot: those of its entry, 0 where it is empty. -/
def slotWords (e : Option CanEnt) : List Nat := match e with | some e => e.words | none => List.replicate 19 0

/-- What a read of the FHDR of slot n leaves of a controller: the entry is no longer new. -/
def CanH.seenSlot (h : CanH) (n : Nat) : CanH := { h with slots := setNth h.slots n ((nth h.slots n none).map (fun e => { e with new_ := false })) }

/-- The session latches the words of a slot. -/
def Sess.latch (y : Sess) (k : Nat) (ws : List Nat) : Sess := { y with slots := putKey y.slots k ws }

/-- Where FHDR lies in the slots. -/
theorem fhdrOfs_arith (n : Fin 8) : 0x300 ≤ 0x300 + 0x50 * n.val ∧ 0x300 + 0x50 * n.val < 0x580 ∧ (0x300 + 0x50 * n.val - 0x300) % 0x50 = 0 ∧
    (0x300 + 0x50 * n.val - 0x300) / 0x50 = n.val := by omega

theorem preRead_slot (s : State) (i : Nat) (c : CIx) (n : Fin 8) (differ : Bool) :
    s.preRead i (slotAddr c n) differ =
      (s.modCan c (fun h => h.seenSlot n.val)).modSess i (fun y => y.latch (8 * c.val + n.val) (slotWords (nth (s.canH c).slots n.val none))) := by
  obtain ⟨hc, ho⟩ := slotAddr_fields c n
  have hr := slotAddr_range c n
  obtain ⟨h1, h2, h3, hn⟩ := fhdrOfs_arith n
  have hcan : s.can[c.val]?.getD {} = s.canH c := by
    rw [Vector.getElem?_eq_getElem c.isLt]
    rfl
  have hset : s.can.setIfInBounds c.val ((s.canH c).seenSlot n.val) = s.can.set c.val ((s.canH c).seenSlot n.val) := by
    ext1 k hk
    rw [Vector.getElem_setIfInBounds, Vector.getElem_set]
  unfold State.preRead
  dsimp only
  rw [hc, ho, if_neg (fun h => absurd h.1 (by omega)), if_neg (fun h => absurd h.1 (by omega)), if_pos ⟨hr.1, hr.2, h1, h2, h3⟩, hn, hcan]
  show State.modSess { s with can := s.can.setIfInBounds c.val ((s.canH c).seenSlot n.val) } i _ = _
  rw [hset]
  rfl

/-- What a read of the FHDR of a slot leaves. -/
def State.readSlot (s : State) (i : Nat) (c : CIx) (n : Fin 8) : State :=
  ((s.freshSlots i).modCan c (fun h => h.seenSlot n.val)).modSess i (fun y => y.latch (8 * c.val + n.val) (slotWords (nth (s.canH c).slots n.val none)))

theorem readSlot_sess (s : State) (i : Nat) (c : CIx) (n : Fin 8) (h : i < 8) :
    (s.readSlot i c n).sess i = { s.sess i with slots := [(8 * c.val + n.val, slotWords (nth (s.canH c).slots n.val none))] } :=
  (sess_modSess_same ((s.freshSlots i).modCan c _) i _ h).trans (congrArg (Sess.latch · _ _) (freshSlots_sess s i h))

theorem readSlot_canH (s : State) (i : Nat) (c : CIx) (n : Fin 8) : (s.readSlot i c n).canH c = (s.canH c).seenSlot n.val := by
  show (s.can.set c.val ((s.canH c).seenSlot n.val))[c.val] = _
  rw [Vector.getElem_set_self]

theorem readSlot_accessOnly (s : State) (i : Nat) (c : CIx) (n : Fin 8) : s.accessOnly (s.readSlot i c n) :=
  accessOnly_trans (accessOnly_modSess s i _) (accessOnly_trans (accessOnly_can _ _) (accessOnly_modSess _ i _))

theorem readSlot_reg (s : State) (i : Nat) (c : CIx) (n : Fin 8) (a : Nat) : (s.readSlot i c n).reg a = s.reg a := reg_of_regs rfl a

/-- The registers of the controllers. -/
theorem globalWord_can (s : State) (x : Sess) {a : Nat} (h : 0x8000 ≤ a ∧ a < 0x9000) :
    s.globalWord x a = s.canWord x ((a - 0x8000) / 0x800) ((a - 0x8000) % 0x800) a := by
  unfold State.globalWord
  dsimp only
  repeat rw [if_neg (by omega)]
  rw [if_pos h]

/-- FHDR of a slot that the session has latched. -/
theorem wordNow_slot (s : State) (i : Nat) (c : CIx) (n : Fin 8) (ws : List Nat)
    (h : (s.sess i).slots.find? (fun p => p.1 == 8 * c.val + n.val) = some (8 * c.val + n.val, ws)) : s.wordNow i (slotAddr c n) = nth ws 0 0 := by
  obtain ⟨hc, ho⟩ := slotAddr_fields c n
  have hr := slotAddr_range c n
  obtain ⟨h1, h2, h3, hn⟩ := fhdrOfs_arith n
  unfold State.wordNow
  dsimp only
  rw [if_neg (by rw [addrClass_slotAddr]; decide), if_neg (by omega), if_neg (by omega), if_neg (by omega), if_neg (fun h => absurd h.1 (by omega)),
    globalWord_can s _ hr, hc, ho]
  unfold State.canWord
  dsimp only
  rw [if_neg (fun h => absurd h.2 (by omega)), if_neg (fun h => absurd h.2 (by omega)), if_pos ⟨h1, h2⟩, hn, h3, h]

theorem slotFhdrRead_eq (s : State) (i : Fin 8) (c : CIx) (n : Fin 8) (ha : s.alive = true) (ho : (s.sess i.val).open_ = true) :
    slotFhdrRead i c n s = s.returns ([nth (slotWords (nth (s.canH c).slots n.val none)) 0 0], s.readSlot i.val c n) := by
  have e : slotFhdrRead i c n s = s.returns (s.readRange i.val (slotAddr c n) 1 false) := onSess_of_open ha ho _
  have hpre : (s.freshSlots i.val).preRead i.val (slotAddr c n) false = s.readSlot i.val c n := preRead_slot _ i.val c n false
  have hword : (s.readSlot i.val c n).wordNow i.val (slotAddr c n) = nth (slotWords (nth (s.canH c).slots n.val none)) 0 0 :=
    wordNow_slot _ i.val c n _ (by rw [readSlot_sess _ _ _ _ i.isLt]; simp)
  have hpost : (s.readSlot i.val c n).postRead i.val (slotAddr c n) = s.readSlot i.val c n :=
    postRead_of_no_rc _ _ _ (lowWord_slotAddr c n).1 (Or.inl (Nat.lt_trans (slotAddr_range c n).2 (by decide)))
      (Nat.ne_of_lt (Nat.lt_trans (slotAddr_range c n).2 (by decide))) (fun r hr => by simpa [hr] using regDef_slotAddr c n)
  rw [e, readRange_one s i.val (slotAddr c n) false (addrClass_slotAddr s c n), hpre, readWord_of_not_high _ _ _ (lowWord_slotAddr c n).2, hword, hpost]

theorem nth_setNth_same {α : Type} (l : List α) (i : Nat) (v d : α) (h : i < l.length) : nth (setNth l i v) i d = v := by
  induction l generalizing i with
  | nil => cases h
  | cons x l ih =>
    cases i with
    | zero => rfl
    | succ i => exact ih i (Nat.lt_of_succ_lt_succ h)

/-- A slot that holds an entry stands in the list. -/
theorem lt_length_of_nth {α : Type} {l : List (Option α)} {i : Nat} {e : α} (h : nth l i none = some e) : i < l.length := Nat.lt_of_not_le fun hi => by
  rw [nth, List.getElem?_eq_none hi] at h
  cases h

theorem slotFhdrRead_runs (s : State) (i : Fin 8) (c : CIx) (n : Fin 8) (e : CanEnt) (ha : s.alive = true) (ho : (s.sess i.val).open_ = true)
    (he : nth (s.canH c).slots n.val none = some e) :
    Runs (.slotFhdrRead i c n) s fun t => t.rap.read = [nth e.words 0 0] ∧ nth (t.canH c).slots n.val none = some { e with new_ := false } ∧
      (t.sess i.val).slots.find? (fun p => p.1 == 8 * c.val + n.val) = some (8 * c.val + n.val, e.words) ∧ (s.Inv → s.fieldsBut t []) := by
  refine ⟨s.done (slotFhdrRead i c n s), rfl, ?_⟩
  rw [slotFhdrRead_eq s i c n ha ho]
  refine ⟨?_, ?_, ?_, fun hi => done_returns_fieldsBut s ha _ hi (readSlot_accessOnly s _ c n) (readSlot_reg s _ c n)⟩
  · rw [done_returns_read s ha, he]; rfl
  · have hcan : ∀ p, (s.done (s.returns p)).canH c = p.2.canH c := fun p => by unfold State.canH; rw [done_returns_can s ha]
    rw [hcan, readSlot_canH, CanH.seenSlot, nth_setNth_same _ _ _ _ (lt_length_of_nth he), he]
    rfl
  · rw [done_returns_sess s ha, readSlot_sess _ _ _ _ i.isLt, he]
    simp [slotWords]

theorem slotFhdrRead_empty (s : State) (i : Fin 8) (c : CIx) (n : Fin 8) (ha : s.alive = true) (ho : (s.sess i.val).open_ = true)
    (he : nth (s.canH c).slots n.val none = none) :
    Runs (.slotFhdrRead i c n) s fun t => t.rap.read = [0] ∧ (s.Inv → s.fieldsBut t []) := by
  refine ⟨s.done (slotFhdrRead i c n s), rfl, ?_⟩
  rw [slotFhdrRead_eq s i c n ha ho]
  refine ⟨?_, fun hi => done_returns_fieldsBut s ha _ hi (readSlot_accessOnly s _ c n) (readSlot_reg s _ c n)⟩
  rw [done_returns_read s ha, he]; rfl

end Sys2Proof.Machine

namespace Sys2Proof.Machine

/-! ### Registers that a read clears -/

theorem freshSlots_reg (s : State) (i a : Nat) : (s.freshSlots i).reg a = s.reg a := rfl

/-- What fixes a word before its read changes the session alone, or it and the CAN slots. -/
theorem preRead_cases (s : State) (i a : Nat) (differ : Bool) :
    s.preRead i a differ = s ∨ ∃ v f, s.preRead i a differ = ({ s with can := v } : State).modSess i f := by
  unfold State.preRead
  dsimp only
  by_cases hfor : 0x180000 ≤ a ∧ a < 0x200000
  · rw [if_pos hfor]
    exact (Classical.em _).elim (fun h => Or.inr ⟨s.can, _, if_pos h⟩) (fun h => Or.inl (if_neg h))
  rw [if_neg hfor]
  by_cases hsnap : 0x100000 ≤ a ∧ a < 0x180000
  · rw [if_pos hsnap]
    exact (Classical.em _).elim (fun h => Or.inr ⟨s.can, _, if_pos h⟩) (fun h => Or.inl (if_neg h))
  rw [if_neg hsnap]
  exact (Classical.em _).elim (fun h => Or.inr ⟨_, _, if_pos h⟩) (fun h => Or.inl (if_neg h))

theorem preRead_reg (s : State) (i a : Nat) (differ : Bool) (b : Nat) : (s.preRead i a differ).reg b = s.reg b := by
  obtain e | ⟨v, f, e⟩ := preRead_cases s i a differ
  · rw [e]
  · rw [e, modSess_reg, reg_with_can]

theorem preRead_declared (s : State) (i a : Nat) (differ : Bool) (d : DIx) : (s.preRead i a differ).declared d = s.declared d := by
  obtain e | ⟨v, f, e⟩ := preRead_cases s i a differ
  · rw [e]
  · rw [e]; rfl

/-- The session latches the high word of a counter whose low word it reads (R19). -/
def State.latchHigh (s : State) (i a : Nat) : State :=
  if lowWord a then s.modSess i (fun y => { y with hi := putKey y.hi (a + 4) (s.wordNow i (a + 4)) }) else s

/-- A register that lies in no window of an undeclared doorway. -/
def State.liveReg (s : State) (a : Nat) : Bool :=
  if 0x10000 ≤ a ∧ a < 0x28000 then (if h : (a - 0x10000) / 0x1000 < 24 then s.declared ⟨(a - 0x10000) / 0x1000, h⟩ else false) else true

theorem liveReg_low (s : State) {a : Nat} (h : a < 0x10000) : s.liveReg a = true := if_neg (by omega)

theorem liveReg_door (s : State) {a : Nat} (h : 0x10000 ≤ a ∧ a < 0x28000) (d : DIx) (hd : d.val = (a - 0x10000) / 0x1000) : s.liveReg a = s.declared d := by
  have h24 : (a - 0x10000) / 0x1000 < 24 := by omega
  unfold State.liveReg
  rw [if_pos h, dif_pos h24]
  exact congrArg s.declared (Fin.ext hd.symm)

theorem latchHigh_reg (s : State) (i a b : Nat) : (s.latchHigh i a).reg b = s.reg b := by
  unfold State.latchHigh
  rw [reg_ite, modSess_reg, ite_self]

theorem latchHigh_liveReg (s : State) (i a b : Nat) : (s.latchHigh i a).liveReg b = s.liveReg b :=
  ite_keeps (fun t : State => t.liveReg b) _ _ _ _ rfl rfl

theorem preRead_liveReg (s : State) (i a : Nat) (differ : Bool) (b : Nat) : (s.preRead i a differ).liveReg b = s.liveReg b := by
  unfold State.liveReg
  simp only [preRead_declared]

/-- A live register that clears keeps the bits that do not. -/
theorem postRead_rc (s : State) (i a : Nat) (r : RegDef) (hl : s.liveReg a = true) (hs : a ≠ F.SUPPLY_EVT.addr) (hr : regDef a = some r) (hrc : r.rc ≠ 0) :
    s.postRead i a = (s.latchHigh i a).setReg a (BitVec.ofNat 32 (Nat.land ((s.latchHigh i a).reg a).toNat (Nat.xor 0xFFFFFFFF r.rc))) := by
  show (if (!(s.latchHigh i a).liveReg a) = true then s.latchHigh i a else if a = F.SUPPLY_EVT.addr then _ else _) = _
  rw [latchHigh_liveReg, hl, if_neg (by decide), if_neg hs, hr]
  exact if_neg hrc

/-- SUPPLY_EVT returns to its reset value (R528). -/
theorem postRead_supply (s : State) (i a : Nat) (h : a = F.SUPPLY_EVT.addr) : s.postRead i a = (s.latchHigh i a).setReg a (resetWord a) := by
  have hl : s.liveReg a = true := liveReg_low s (by rw [h]; decide)
  show (if (!(s.latchHigh i a).liveReg a) = true then s.latchHigh i a else if a = F.SUPPLY_EVT.addr then _ else _) = _
  rw [latchHigh_liveReg, hl, if_neg (by decide), if_pos h]
  rfl

/-- What follows the read of a word writes no session but for the high word. -/
theorem postRead_sess (s : State) (i a k : Nat) : (s.postRead i a).sess k = (s.latchHigh i a).sess k := by
  show State.sess (if (!(s.latchHigh i a).liveReg a) = true then s.latchHigh i a else if a = F.SUPPLY_EVT.addr then _ else _) k = _
  refine ite_keeps (fun t : State => t.sess k) _ _ _ _ rfl (ite_keeps (fun t : State => t.sess k) _ _ _ _ rfl ?_)
  cases regDef a with
  | none => rfl
  | some r => exact ite_keeps (fun t : State => t.sess k) _ _ _ _ rfl rfl

/-- No gated register clears by a read. -/
theorem gatedReg_of_rc {a : Nat} {r : RegDef} (hr : regDef a = some r) (hrc : r.rc ≠ 0) : gatedReg a = false := by
  have keeps : ∀ b : Nat, (regDef b).map (fun r => r.rc) = some 0 → a ≠ b := fun b hb e => by
    rw [← e, hr] at hb
    exact hrc (Option.some.inj hb)
  have den : ∀ d : DIx, (regDef (dw d 0x4A0)).map (fun r => r.rc) = some 0 := by decide +kernel
  simp only [gatedReg, Bool.or_eq_false_iff, beq_eq_false_iff_ne, ne_eq, List.any_eq_false, beq_iff_eq]
  exact ⟨⟨⟨keeps _ (by decide +kernel), keeps _ (by decide +kernel)⟩, keeps _ (by decide +kernel)⟩, fun d _ => keeps _ (den d)⟩

/-- A READ of a register that clears returns its word, and leaves its clearing bits 0. -/
theorem rcRegisterRead_runs (s : State) (i : Fin 8) (addr : Word) (r : RegDef) (ha : s.alive = true) (ho : (s.sess i.val).open_ = true)
    (h4 : addr.toNat % 4 = 0) (hc : s.addrClass addr.toNat = 0) (hr : regDef addr.toNat = some r) (hrc : r.rc ≠ 0) (hs : addr.toNat ≠ F.SUPPLY_EVT.addr)
    (hl : s.liveReg addr.toNat = true) :
    Runs (.rcRegisterRead i addr) s fun t => t.rap.read = (s.readRange i.val addr.toNat 1 false).1 ∧
      (t.reg addr.toNat).toNat = Nat.land (s.reg addr.toNat).toNat (Nat.xor 0xFFFFFFFF r.rc) := by
  refine ⟨s.done (rcRegisterRead i addr s), rfl, ?_⟩
  have e : rcRegisterRead i addr s = s.returns (s.readRange i.val addr.toNat 1 false) := (onSess_of_open ha ho _).trans (if_pos h4)
  rw [e]
  refine ⟨done_returns_read s ha _, ?_⟩
  have hlive : ((s.freshSlots i.val).preRead i.val addr.toNat false).liveReg addr.toNat = true := by rw [preRead_liveReg]; exact hl
  rw [done_returns_reg s ha _ _ (gatedReg_of_rc hr hrc), readRange_one s _ _ _ hc, postRead_rc _ _ _ r hlive hs hr hrc, reg_setReg, if_pos rfl, latchHigh_reg,
    preRead_reg, freshSlots_reg, BitVec.toNat_ofNat, Nat.mod_eq_of_lt]
  exact Nat.lt_of_le_of_lt Nat.and_le_left (s.reg addr.toNat).isLt

/-- A READ of SUPPLY_EVT returns its word, and leaves its reset value. -/
theorem supplyEvtRead_runs (s : State) (i : Fin 8) (ha : s.alive = true) (ho : (s.sess i.val).open_ = true) :
    Runs (.rcRegisterRead i (BitVec.ofNat 32 F.SUPPLY_EVT.addr)) s fun t => t.rap.read = (s.readRange i.val F.SUPPLY_EVT.addr 1 false).1 ∧
      t.rd F.SUPPLY_EVT_LOWEST = 0xFFFF ∧ t.rd F.SUPPLY_EVT_DIPS = 0 ∧ t.rd F.SUPPLY_EVT_EXCURSIONS = 0 := by
  refine ⟨s.done (rcRegisterRead i (BitVec.ofNat 32 F.SUPPLY_EVT.addr) s), rfl, ?_⟩
  have e : rcRegisterRead i (BitVec.ofNat 32 F.SUPPLY_EVT.addr) s = s.returns (s.readRange i.val F.SUPPLY_EVT.addr 1 false) :=
    (onSess_of_open ha ho _).trans (if_pos (by decide))
  have hc : s.addrClass F.SUPPLY_EVT.addr = 0 := by
    have hd : (regDef F.SUPPLY_EVT.addr).isNone = false := by decide +kernel
    unfold State.addrClass
    rw [if_neg (by decide), if_neg (by decide), hd]
    rfl
  rw [e]
  have hreg : (s.done (s.returns (s.readRange i.val F.SUPPLY_EVT.addr 1 false))).reg 0xA028 = 0xFFFF0000 := by
    rw [done_returns_reg s ha _ _ (by decide), readRange_one s _ _ _ hc, postRead_supply _ _ _ rfl, reg_setReg, if_pos rfl]
    decide +kernel
  have hrd : ∀ lo w, (s.done (s.returns (s.readRange i.val F.SUPPLY_EVT.addr 1 false))).rd ⟨0xA028, lo, w⟩ = fldGet 0xFFFF0000 lo w := fun lo w => by
    unfold State.rd
    rw [hreg]
  exact ⟨done_returns_read s ha _, hrd _ _, hrd _ _, hrd _ _⟩

end Sys2Proof.Machine

namespace Sys2Proof.Machine

/-! ### Low words -/

/-- Low words lie in no window of a controller, of snapshots or of forensic reads. -/
theorem lowWord_range {a : Nat} (h : lowWord a = true) : a + 4 < 0x8000 ∨ (0x9000 ≤ a ∧ a + 4 < 0x29000) := by
  simp only [lowWord, Bool.or_eq_true, Bool.and_eq_true, decide_eq_true_eq, beq_iff_eq] at h
  omega

/-- A read of a word outside the windows and the slots fixes nothing. -/
theorem preRead_register (s : State) (i a : Nat) (differ : Bool) (h : a < 0x8000 ∨ 0x9000 ≤ a) (h2 : a < 0x100000) : s.preRead i a differ = s := by
  unfold State.preRead
  dsimp only
  rw [if_neg (by omega), if_neg (by omega), if_neg (by omega)]

/-- Outside the CAN controllers no register reads the slots of a session. -/
theorem globalWord_freshSlots (s : State) (i a : Nat) (hi : i < 8) (h : ¬ (0x8000 ≤ a ∧ a < 0x9000)) :
    (s.freshSlots i).globalWord ((s.freshSlots i).sess i) a = s.globalWord (s.sess i) a := by
  rw [freshSlots_sess s i hi]
  unfold State.globalWord
  simp only [if_neg h]
  rfl

theorem doorWord_freshSlots (s : State) (i : Nat) (d : DIx) (o a : Nat) (hi : i < 8) :
    (s.freshSlots i).doorWord ((s.freshSlots i).sess i) d o a = s.doorWord (s.sess i) d o a := by
  rw [freshSlots_sess s i hi]
  rfl

theorem addrClass_freshSlots (s : State) (i a : Nat) : (s.freshSlots i).addrClass a = s.addrClass a := rfl

theorem declared_freshSlots (s : State) (i : Nat) (d : DIx) : (s.freshSlots i).declared d = s.declared d := rfl

/-- No word below the windows, but for the CAN slots, depends on the slots that a session holds. -/
theorem wordNow_freshSlots (s : State) (i a : Nat) (hi : i < 8) (h : a < 0x8000 ∨ 0x9000 ≤ a) (h2 : a < 0x100000) :
    (s.freshSlots i).wordNow i a = s.wordNow i a := by
  have e200 : ¬ 0x200000 ≤ a := by omega
  have e180 : ¬ 0x180000 ≤ a := by omega
  have e100 : ¬ 0x100000 ≤ a := by omega
  unfold State.wordNow
  simp only [if_neg e200, if_neg e180, if_neg e100, addrClass_freshSlots, declared_freshSlots, doorWord_freshSlots s i _ _ _ hi,
    globalWord_freshSlots s i a hi (by omega)]

theorem lowWordRead_runs (s : State) (i : Fin 8) (addr : Word) (ha : s.alive = true) (ho : (s.sess i.val).open_ = true) (hl : lowWord addr.toNat = true)
    (hc : s.addrClass addr.toNat = 0) :
    Runs (.lowWordRead i addr) s fun t => t.rap.read = (s.readRange i.val addr.toNat 1 false).1 ∧
      (t.sess i.val).hi.find? (fun p => p.1 == addr.toNat + 4) = some (addr.toNat + 4, s.wordNow i.val (addr.toNat + 4)) := by
  refine ⟨s.done (lowWordRead i addr s), rfl, ?_⟩
  have hr := lowWord_range hl
  have e : lowWordRead i addr s = s.returns (s.readRange i.val addr.toNat 1 false) := (onSess_of_open ha ho _).trans (if_pos hl)
  rw [e]
  refine ⟨done_returns_read s ha _, ?_⟩
  rw [done_returns_sess s ha, readRange_one s _ _ _ hc, postRead_sess, preRead_register _ _ _ _ (by omega) (by omega), State.latchHigh, if_pos hl,
    sess_modSess_same _ _ _ i.isLt, wordNow_freshSlots s i.val _ i.isLt (by omega) (by omega)]
  exact putKey_find _ _ _

/-- Settles O38, by what each command does to the session: a read of one word is what fixes it, the word, and what it clears. -/
theorem sessionsRead : Obligations.SessionsRead :=
  ⟨resolve_runs, snapshotResolved_runs, export_runs, export_refused, snapshotEntryRead_runs, snapshotEntryRead_beyond, forensicEntryRead_runs,
    slotFhdrRead_runs, slotFhdrRead_empty,
    fun s i addr r ha ho h4 hc hr hrc hs hlt => rcRegisterRead_runs s i addr r ha ho h4 hc hr hrc hs (liveReg_low s hlt),
    fun s i addr r d ha ho h4 hc hr hrc hs hge hlt hd hdecl =>
      rcRegisterRead_runs s i addr r ha ho h4 hc hr hrc hs ((liveReg_door s ⟨hge, hlt⟩ d hd).trans hdecl),
    supplyEvtRead_runs, lowWordRead_runs⟩

end Sys2Proof.Machine

namespace Sys2Proof.Machine

/-! ## One step of the machine -/

theorem step_of_cons {s : State} {c : Instr} {rest : List Instr} (h : s.pending = c :: rest) : step s = exec c { s with pending := rest } := by
  unfold step; rw [h]

theorem step_of_nil {s : State} (h : s.pending = []) : step s = .next s.idle.gate := by
  unfold step; rw [h]

/-- Settles O1: the queue's two forms are the two branches of `step`, and an idle step lasts 4,000 ticks. -/
theorem stepRunsFrontCommand : Obligations.StepRunsFrontCommand :=
  ⟨fun _ _ _ h => step_of_cons h, fun _ h => step_of_nil h⟩

end Sys2Proof.Machine

namespace Sys2Proof.Machine

/-! ## What a command of one doorway cannot reach -/

/-- An address that the operations of doorway d do not write: the windows of the other doorways, and RP_STATUS, whose AUTH bit gates the outputs. -/
def far (d : DIx) (a : Nat) : Bool := (decide (0x10000 ≤ a) && (decide (a < dw d 0) || decide (dw d 0x1000 ≤ a))) || a == 0x4000

/-- An address that they may write. -/
def reach (d : DIx) (b : Nat) : Prop := (b < 0x10000 ∧ b ≠ 0x4000) ∨ (dw d 0 ≤ b ∧ b < dw d 0x1000)

theorem far_ne {d : DIx} {a b : Nat} (h : far d a = true) (hb : reach d b) : a ≠ b := by
  simp only [far, Bool.and_eq_true, Bool.or_eq_true, decide_eq_true_eq, beq_iff_eq] at h
  unfold reach at hb
  unfold dw at h hb
  omega

@[simp] theorem reach_low (d : DIx) {b : Nat} (h : b < 0x10000) (h0 : b ≠ 0x4000) : reach d b := Or.inl ⟨h, h0⟩
@[simp] theorem reach_dw (d : DIx) {o : Nat} (h : o < 0x1000) : reach d (dw d o) := by unfold reach dw; omega
@[simp] theorem reach_dw_axis (d : DIx) (x : AIx) {o : Nat} (h : o + 12 ≤ 0x1000) : reach d (dw d o + x.val * 4) := by
  have := x.isLt; unfold reach dw; omega
@[simp] theorem reach_ax (d : DIx) (x : AIx) {o : Nat} (h : o < 0x80) : reach d (ax d x o) := by have := x.isLt; unfold reach dw ax; omega
@[simp] theorem reach_en (d : DIx) (x : AIx) {o : Nat} (h : o < 0x40) : reach d (en d x o) := by have := x.isLt; unfold reach dw en; omega
@[simp] theorem reach_ch (d : DIx) (k : KIx) {o : Nat} (h : o < 0x10) : reach d (ch d k o) := by have := k.isLt; unfold reach dw ch; omega
@[simp] theorem reach_ax_zero (d : DIx) (x : AIx) : reach d (0x10000 + d.val * 0x1000 + 0x300 + x.val * 0x80)   := reach_ax d x (o := 0) (by decide)
@[simp] theorem reach_en_zero (d : DIx) (x : AIx) : reach d (0x10000 + d.val * 0x1000 + 0x500 + x.val * 0x40) := reach_en d x (o := 0) (by decide)
@[simp] theorem reach_fltDwy (d e : DIx) : reach d (0x3100 + e.val * 4) := by have := e.isLt; unfold reach; omega
theorem reach_ite (d : DIx) (c : Prop) [Decidable c] (f g : Fld) (hf : reach d f.addr) (hg : reach d g.addr) :
    reach d (if c then f else g).addr := by split <;> assumption

theorem far_recReg {d : DIx} {a : Nat} (h : far d a = true) : recReg a = false := by
  simp only [recReg, Bool.or_eq_false_iff, beq_eq_false_iff_ne, ne_eq]
  exact ⟨far_ne h (by simp), far_ne h (by simp)⟩

theorem far_outReg {d : DIx} {a : Nat} (h : far d a = true) : outReg a = false := by
  simp only [outReg, Bool.or_eq_false_iff, beq_eq_false_iff_ne, ne_eq]
  exact ⟨⟨far_ne h (by simp), far_ne h (by simp)⟩, far_recReg h⟩

theorem far_winReg {d : DIx} {a : Nat} (h : far d a = true) : winReg a = false := by
  simp only [winReg, Bool.or_eq_false_iff, beq_eq_false_iff_ne, ne_eq, List.any_eq_false, beq_iff_eq]
  exact ⟨⟨far_ne h (by simp), far_ne h (by simp)⟩, fun e _ => far_ne h (by simp)⟩

/-- Behind the registers: the hidden state of the other doorways, the time, and whether the logic runs. -/
def beyond (d : DIx) (s : State) : ({e : DIx // e ≠ d} → Dwy) × Nat × Bool := (fun e => s.dwy e.val, s.now, s.alive)

/-- All that a command of doorway d leaves alone: the registers far from it and what is beyond. -/
def outside (d : DIx) (s : State) : ({a : Nat // far d a = true} → Word) × ({e : DIx // e ≠ d} → Dwy) × Nat × Bool :=
  (fun a => s.reg a.val, beyond d s)

theorem outside_eq {d : DIx} {s t : State} (hr : ∀ a, far d a = true → t.reg a = s.reg a) (hb : beyond d t = beyond d s) : outside d t = outside d s :=
  Prod.ext (funext fun a => hr a.val a.property) hb

section
variable (d : DIx) (s : State)

/-! ### Writes, choices and records -/

theorem beyond_setReg (a : Nat) (v : Word) : beyond d (s.setReg a v) = beyond d s := Eq.trans rfl rfl
theorem beyond_recd (r : RecH) : beyond d { s with recd := r } = beyond d s := Eq.trans rfl rfl
theorem beyond_flt (f : FltH) : beyond d { s with flt := f } = beyond d s := Eq.trans rfl rfl

@[simp] theorem outside_wr (f : Fld) (v : Nat) (h : reach d f.addr) : outside d (s.wr f v) = outside d s :=
  outside_eq (fun _ ha => reg_wr_other _ _ _ _ (far_ne ha h)) (beyond_setReg d s _ _)
@[simp] theorem outside_setF (f : Fld) (b : Bool) (h : reach d f.addr) : outside d (s.setF f b) = outside d s := outside_wr d s f _ h
@[simp] theorem outside_wrS (f : Fld) (v : Int) (h : reach d f.addr) : outside d (s.wrS f v) = outside d s := outside_wr d s f _ h
@[simp] theorem outside_wrSat (f : Fld) (v : Nat) (h : reach d f.addr) : outside d (s.wrSat f v) = outside d s := outside_wr d s f _ h
@[simp] theorem outside_inc (f : Fld) (h : reach d f.addr) : outside d (s.inc f) = outside d s := outside_wr d s f _ h
@[simp] theorem outside_setBit (f : Fld) (i : Nat) (b : Bool) (h : reach d f.addr) : outside d (s.setBit f i b) = outside d s := outside_wr d s f _ h

@[simp] theorem outside_modDwy (f : Dwy → Dwy) : outside d (s.modDwy d f) = outside d s :=
  outside_eq (fun _ _ => modDwy_reg _ _ _ _) (Prod.ext (funext fun e => modDwy_dwy_other s d e.val f e.property) rfl)
@[simp] theorem outside_modSeq (f : SeqH → SeqH) : outside d (s.modSeq d f) = outside d s := outside_modDwy d s _
@[simp] theorem outside_modCyc (f : CycH → CycH) : outside d (s.modCyc d f) = outside d s := outside_modDwy d s _
@[simp] theorem outside_modTopi (f : TopiH → TopiH) : outside d (s.modTopi d f) = outside d s := outside_modDwy d s _
@[simp] theorem outside_modDrv (f : DrvH → DrvH) : outside d (s.modDrv d f) = outside d s := outside_modDwy d s _
@[simp] theorem outside_modObst (f : ObstH → ObstH) : outside d (s.modObst d f) = outside d s := outside_modDwy d s _
@[simp] theorem outside_modLock (f : LockH → LockH) : outside d (s.modLock d f) = outside d s := outside_modDwy d s _
@[simp] theorem outside_modProt (f : ProtH → ProtH) : outside d (s.modProt d f) = outside d s := outside_modDwy d s _
@[simp] theorem outside_modAx (x : AIx) (f : AxH → AxH) : outside d (s.modAx d x f) = outside d s := outside_modDwy d s _
@[simp] theorem outside_modEnc (x : AIx) (f : EncH → EncH) : outside d (s.modEnc d x f) = outside d s := outside_modDwy d s _
@[simp] theorem outside_modCh (k : KIx) (f : ChH → ChH) : outside d (s.modCh d k f) = outside d s := outside_modDwy d s _
@[simp] theorem outside_img (i : ImgH) : outside d { s with img := i } = outside d s := outside_eq (reg_with_img s i · |> fun h _ => h) rfl

/-- A choice leaves outside what both ways leave. -/
@[simp] theorem outside_ite (c : Prop) [Decidable c] (x y : State) : outside d (if c then x else y) = if c then outside d x else outside d y :=
  apply_ite _ _ _ _
@[simp] theorem outside_when (c : Bool) (f : State → State) : outside d (s.when c f) = if c then outside d (f s) else outside d s :=
  outside_ite d _ _ _

theorem outside_foldl {α : Type} (f : State → α → State) (l : List α) (h : ∀ t x, outside d (f t x) = outside d t) : outside d (l.foldl f s) = outside d s :=
  foldl_keeps (outside d) f l (fun t x _ => h t x) s

@[simp] theorem outside_stage (c e : Nat) (ws : List Nat) : outside d (s.stage c e ws) = outside d s :=
  outside_eq (fun _ ha => stage_reg _ _ _ _ _ (far_recReg ha)) (stage_keeps (beyond d) (beyond_setReg d) (beyond_recd d) _ _ _ _)
@[simp] theorem outside_evalOutputs : outside d s.evalOutputs = outside d s :=
  outside_eq (fun _ ha => evalOutputs_reg _ _ (far_outReg ha)) (evalOutputs_keeps (beyond d) (beyond_setReg d) (beyond_recd d) _)
@[simp] theorem outside_openWin (k n : Nat) : outside d (s.openWin k n) = outside d s :=
  outside_eq (fun _ ha => openWin_reg _ _ _ _ (far_winReg ha)) (openWin_keeps (beyond d) (beyond_setReg d) (beyond_flt d) _ _ _)
@[simp] theorem outside_closeWin (k n : Nat) : outside d (s.closeWin k n) = outside d s :=
  outside_eq (fun _ ha => closeWin_reg _ _ _ _ (far_winReg ha)) (closeWin_keeps (beyond d) (beyond_setReg d) (beyond_flt d) _ _ _)

/-! ### Load channels, torque and fences -/

@[simp] theorem outside_setCh (k : KIx) (n : Nat) : outside d (s.setCh d k n) = outside d s := by
  unfold State.setCh; simp

@[simp] theorem outside_evalCh (k : KIx) : outside d (s.evalCh d k) = outside d s := by
  unfold State.evalCh; simp

@[simp] theorem outside_evalChans : outside d (s.evalChans d) = outside d s := outside_foldl d s _ _ fun t k => outside_evalCh d t k

@[simp] theorem outside_haltAxis (x : AIx) : outside d (s.haltAxis d x) = outside d s := by
  unfold State.haltAxis; simp

@[simp] theorem outside_denOff : outside d (s.denOff d) = outside d s := by
  have step : ∀ t x, outside d (((t.setF (F.AX_STATUS_ENABLED d x) false).setF (F.AX_STATUS_AT_REST d x) false).haltAxis d x) = outside d t := by simp
  unfold State.denOff
  simp [outside_foldl d _ _ _ step]

@[simp] theorem outside_sto (p f : Nat) : outside d (s.sto d p f) = outside d s := by
  unfold State.sto
  dsimp only
  split <;> simp

@[simp] theorem outside_torqueOff : outside d (s.torqueOff d) = outside d s := by
  unfold State.torqueOff; simp

@[simp] theorem outside_lockDrop : outside d (s.lockDrop d) = outside d s := by
  unfold State.lockDrop; simp

@[simp] theorem outside_fence (n : Nat) : outside d (s.fence d n) = outside d s := by
  unfold State.fence
  split
  · rfl
  · extract_lets t1 t2 t3 t4
    have e2 : outside d t2 = outside d s := by
      show outside d (if (t1.dwy d).fencedOnce then t1 else _) = _
      split <;> simp [t1]
    have e3 : outside d t3 = outside d t2 := when_keeps (outside d) _ _ _ (outside_modDwy d _ _)
    simp [t4, e3, e2]

@[simp] theorem outside_fault (c : Nat) : outside d (s.fault d c) = outside d s := by
  unfold State.fault State.secondFault
  split <;> simp

@[simp] theorem outside_fenceClear (n : Nat) : outside d (s.fenceClear d n) = outside d s := by
  unfold State.fenceClear
  exact (when_keeps (outside d) _ _ _ (by simp)).trans (by simp)

@[simp] theorem outside_showStanding : outside d (s.showStanding d) = outside d s := by
  unfold State.showStanding; simp

/-! ### Stops, moves and the drive link -/

@[simp] theorem outside_stopAxis (x : AIx) (g : Gen) : outside d (s.stopAxis d x g) = outside d s := by
  unfold State.stopAxis; simp

@[simp] theorem outside_rejectTarget (x : AIx) : outside d (s.rejectTarget d x) = outside d s := by
  unfold State.rejectTarget; simp

@[simp] theorem outside_atRest (x : AIx) : outside d (s.atRest d x) = outside d s := by
  unfold State.atRest; simp

@[simp] theorem outside_ss1Start (cause : Option Nat) (th : Bool) (n : Nat) : outside d (s.ss1Start d cause th n) = outside d s := by
  unfold State.ss1Start
  simp [outside_foldl]

@[simp] theorem outside_obstSeen : outside d (s.obstSeen d) = outside d s := by
  unfold State.obstSeen; simp

@[simp] theorem outside_setX (x : AIx) (p : Int) : outside d (s.setX d x p) = outside d s := by
  unfold State.setX; simp

@[simp] theorem outside_showX (x : AIx) : outside d (s.showX d x) = outside d s := by
  unfold State.showX; simp

@[simp] theorem outside_endMove (x : AIx) (b : Bool) : outside d (s.endMove d x b) = outside d s := by
  unfold State.endMove; simp

@[simp] theorem outside_stall (x : AIx) : outside d (s.stall d x) = outside d s := by
  unfold State.stall
  dsimp only
  split <;> simp

@[simp] theorem outside_stallAll (l : List AIx) : outside d (s.stallAll d l) = outside d s := outside_foldl d s _ _ (by simp)

@[simp] theorem outside_driveTrain : outside d (s.driveTrain d) = outside d s := by
  unfold State.driveTrain; simp

@[simp] theorem outside_driveRetrain (c : Nat) : outside d (s.driveRetrain d c) = outside d s := by
  unfold State.driveRetrain; simp

@[simp] theorem outside_denFault (o k : Nat) : outside d (s.denFault d o k) = outside d s := by
  unfold State.denFault; simp

/-! ### Encoders -/

@[simp] theorem outside_cntErr (x : AIx) : outside d (s.cntErr d x) = outside d s := by
  unfold State.cntErr; simp

@[simp] theorem outside_indexLatch (x : AIx) : outside d (s.indexLatch d x) = outside d s := by
  unfold State.indexLatch; simp

@[simp] theorem outside_indexStep (x : AIx) (e : EncH) : outside d (s.indexStep d x e) = outside d s := by
  unfold State.indexStep; simp

@[simp] theorem outside_dirChange (x : AIx) (b : Bool) : outside d (s.dirChange d x b) = outside d s := by
  unfold State.dirChange; simp

@[simp] theorem outside_countOne (x : AIx) (b : Bool) : outside d (s.countOne d x b) = outside d s := by
  unfold State.countOne
  extract_lets dx t1 down ext t2 e hyst t3
  have e3 : outside d t3 = outside d s :=
    (outside_setF d _ _ _ (by simp)).trans ((outside_modEnc d _ _ _).trans (outside_wr d _ _ _ (by simp)))
  clear_value t3
  split
  · simp [e3]
  · split <;> simp [e3]

@[simp] theorem outside_encoderLoss (x : AIx) (c : Nat) : outside d (s.encoderLoss d x c) = outside d s := by
  unfold State.encoderLoss; simp

@[simp] theorem outside_illegalTransition (x : AIx) : outside d (s.illegalTransition d x) = outside d s := by
  unfold State.illegalTransition
  extract_lets t1 t2 t3 t4 t5
  have e : outside d t5 = outside d s := (outside_stage d _ _ _ _).trans ((outside_fault d _ _).trans ((outside_modEnc d _ _ _).trans
    ((outside_inc d _ _ (by simp)).trans ((outside_cntErr d _ _).trans (outside_setF d _ _ _ (by simp))))))
  split
  · exact (outside_encoderLoss d _ _ _).trans e
  · exact e

@[simp] theorem outside_quadSample (x : AIx) (a b : Bool) : outside d (s.quadSample d x a b) = outside d s := by
  unfold State.quadSample; simp

@[simp] theorem outside_extend (x : AIx) : outside d (s.extend d x) = outside d s := by
  unfold State.extend; simp

@[simp] theorem outside_posUpdate (x : AIx) : outside d (s.posUpdate d x) = outside d s := by
  unfold State.posUpdate; simp

@[simp] theorem outside_setOrigin (x : AIx) (e p : Int) : outside d (s.setOrigin d x e p) = outside d s := by
  unfold State.setOrigin; simp

/-! ### Protective devices, learning and models -/

@[simp] theorem outside_handleOperate : outside d (s.handleOperate d) = outside d s := by
  unfold State.handleOperate; simp

@[simp] theorem outside_thLost : outside d (s.thLost d) = outside d s := by
  unfold State.thLost
  split
  · rfl
  · dsimp only
    split <;> simp

@[simp] theorem outside_lcUpdate : outside d (s.lcUpdate d) = outside d s := by
  unfold State.lcUpdate; simp

@[simp] theorem outside_lcTestEnd (b : Bool) : outside d (s.lcTestEnd d b) = outside d s := by
  unfold State.lcTestEnd; simp

@[simp] theorem outside_lcFaultClear : outside d (s.lcFaultClear d) = outside d s := by
  unfold State.lcFaultClear; simp

@[simp] theorem outside_lcFaultSet (k : Nat) : outside d (s.lcFaultSet d k) = outside d s := by
  unfold State.lcFaultSet; simp

@[simp] theorem outside_lcTestStart : outside d (s.lcTestStart d) = outside d s := by
  unfold State.lcTestStart; simp

@[simp] theorem outside_learnFail (c : Nat) : outside d (s.learnFail d c) = outside d s := by
  unfold State.learnFail; simp

@[simp] theorem outside_disarmModel : outside d (s.disarmModel d) = outside d s := by
  unfold State.disarmModel
  split <;> simp

@[simp] theorem outside_dropModel (n k : Nat) : outside d (s.dropModel n k) = outside d s := outside_img d s _

@[simp] theorem outside_dropPending (c : Nat) : outside d (s.dropPending d c) = outside d s := by
  unfold State.dropPending; simp

/-- A change of the power state that starts no shutdown. -/
theorem outside_modPwr (f : PwrH → PwrH) (h : (f s.pwr).down = s.pwr.down) : outside d (s.modPwr f) = outside d s :=
  outside_eq (fun a _ => reg_with_pwr s _ a) (Prod.ext rfl (Prod.ext rfl (alive_congr rfl rfl h rfl)))

end
end Sys2Proof.Machine

namespace Sys2Proof.Machine

/-! ## The gates and the other doorways -/

theorem outside_reg {d : DIx} {s t : State} (h : outside d t = outside d s) {a : Nat} (ha : far d a = true) : t.reg a = s.reg a :=
  congrFun (congrArg Prod.fst h) ⟨a, ha⟩

theorem outside_dwy {d : DIx} {s t : State} (h : outside d t = outside d s) {e : DIx} (he : e ≠ d) : t.dwy e = s.dwy e :=
  congrFun (congrArg (fun p => p.2.1) h) ⟨e, he⟩

theorem outside_now {d : DIx} {s t : State} (h : outside d t = outside d s) : t.now = s.now := congrArg (fun p => p.2.2.1) h
theorem outside_alive {d : DIx} {s t : State} (h : outside d t = outside d s) : t.alive = s.alive := congrArg (fun p => p.2.2.2) h

theorem outside_gateOpen {d : DIx} {s t : State} (h : outside d t = outside d s) : t.gateOpen = s.gateOpen := by
  have ha : t.flag F.RP_STATUS_AUTH = s.flag F.RP_STATUS_AUTH := flag_congr (outside_reg h (by simp [far]))
  unfold State.gateOpen
  rw [ha, outside_alive h]

theorem far_of_otherDoor {d : DIx} {a : Nat} (h : otherDoor d a = true) : far d a = true := by
  simp only [otherDoor, Bool.and_eq_true, decide_eq_true_eq] at h
  obtain ⟨⟨h1, -⟩, h2⟩ := h
  simp only [far, h1, h2, decide_true, Bool.and_true, Bool.true_or]

/-- In the window of another doorway the gates reach DEN_STATUS alone. -/
theorem den_of_gatedReg {d : DIx} {a : Nat} (h : otherDoor d a = true) (hg : gatedReg a = true) : ∃ e : DIx, a = dw e 0x4A0 := by
  simp only [otherDoor, Bool.and_eq_true, decide_eq_true_eq] at h
  obtain ⟨⟨h1, -⟩, -⟩ := h
  simp only [gatedReg, Bool.or_eq_true, List.any_eq_true, beq_iff_eq] at hg
  obtain ((hl | hl) | hs) | ⟨e, -, he⟩ := hg
  · omega
  · omega
  · omega
  · exact ⟨e, he⟩

theorem word_eq_of_fields {x y : Word} (h0 : fldGet x 0 1 = fldGet y 0 1) (h1 : fldGet x 1 1 = fldGet y 1 1) (h2 : fldGet x 2 30 = fldGet y 2 30) : x = y := by
  have hx := x.isLt
  have hy := y.isLt
  simp only [fldGet] at h0 h1 h2
  exact BitVec.eq_of_toNat_eq (by omega)

theorem rd_of_flag_false {s : State} {f : Fld} (h : s.flag f = false) : s.rd f = 0 := by simpa [State.flag] using h

theorem gate_of_open {s : State} (h : s.gateOpen = true) : s.gate = s := if_pos h

theorem loopGate_reg_other (s : State) (a : Nat) (h : a ≠ 0x601C) : s.loopGate.reg a = s.reg a := by
  have h1 : ∀ t : State, (if t.loopBlock (t.rd F.LOOP1_MEMBERS % 2 ^ 24) = 0x1F then t else t.setF F.LOOP_STATUS_L1_CLOSED false).reg a = t.reg a :=
    fun t => ite_keeps (fun u => u.reg a) _ _ _ _ rfl (reg_setF_other _ _ _ _ h)
  exact ite_keeps (fun u => u.reg a) _ _ _ _ (h1 s) ((reg_setBit_other _ _ _ _ _ h).trans (h1 s))

theorem loopGate_gateOpen (s : State) : s.loopGate.gateOpen = s.gateOpen := by
  have ha : s.loopGate.flag F.RP_STATUS_AUTH = s.flag F.RP_STATUS_AUTH := flag_congr (loopGate_reg_other s _ (by decide))
  unfold State.gateOpen
  rw [ha, loopGate_keeps State.alive (fun _ _ _ => rfl)]

theorem done_gateOpen (s t : State) (h : t.now = s.now) : (s.done t).gateOpen = t.gateOpen := by
  have hl : (s.done t).alive = t.alive := alive_congr (done_rail s t) (done_qtHeld s t) (by rw [done_pwr]) ((done_now s t).trans h.symm)
  unfold State.gateOpen
  rw [hl, done_flag _ _ _ (by decide)]

/-- While the gate is open it changes no register but LOOP_STATUS. -/
theorem done_reg_open (s t : State) (hn : t.now = s.now) (h : t.gateOpen = true) (a : Nat) (ha : a ≠ 0x601C) : (s.done t).reg a = t.reg a := by
  have ho : ({ t with chip := s.chip, pending := s.pending, now := s.now } : State).loopGate.gateOpen = true := by
    rw [loopGate_gateOpen, ← h, ← hn]; rfl
  unfold State.done
  rw [gate_of_open ho, loopGate_reg_other _ _ ha]
  rfl

/-- DEN_STATUS of another doorway: where the gate is closed, its two enables were low before. -/
theorem done_den_far (s t : State) (d e : DIx) (hi : s.Inv) (h : outside d t = outside d s) (he : far d (dw e 0x4A0) = true) :
    (s.done t).reg (dw e 0x4A0) = s.reg (dw e 0x4A0) := by
  have hk := outside_reg h he
  cases hg : t.gateOpen with
  | true => exact (done_reg_open s t (outside_now h) hg _ (by unfold dw; omega)).trans hk
  | false =>
    obtain ⟨-, -, -, hs⟩ := hi.1 ((outside_gateOpen h).symm.trans hg)
    obtain ⟨-, -, -, ht⟩ := (done_inv s t).1 ((done_gateOpen s t (outside_now h)).trans hg)
    refine word_eq_of_fields ?_ ?_ ((done_rd_den s t e 2 30 (by decide)).trans (rd_congr (f := ⟨dw e 0x4A0, 2, 30⟩) hk))
    · exact (rd_of_flag_false (ht e).1).trans (rd_of_flag_false (hs e).1).symm
    · exact (rd_of_flag_false (ht e).2).trans (rd_of_flag_false (hs e).2).symm

theorem done_reg_far (s t : State) (d : DIx) (hi : s.Inv) (h : outside d t = outside d s) (a : Nat) (ha : otherDoor d a = true) :
    (s.done t).reg a = s.reg a := by
  cases hg : gatedReg a with
  | false => exact (done_reg s t a hg).trans (outside_reg h (far_of_otherDoor ha))
  | true =>
    obtain ⟨e, rfl⟩ := den_of_gatedReg ha hg
    exact done_den_far s t d e hi h (far_of_otherDoor ha)

theorem othersKept_done (s t : State) (d : DIx) (hi : s.Inv) (h : outside d t = outside d s) : s.othersKept (s.done t) d :=
  ⟨done_reg_far s t d hi h, fun e he => (done_dwy s t e).trans (outside_dwy h he)⟩

/-- A command of doorway d keeps the others where its rules leave what is outside d. -/
theorem runs_othersKept {c : Instr} {s t : State} {d : DIx} (hc : exec c s = .next (s.done t)) (h : outside d t = outside d s) :
    Runs c s fun u => (s.Inv → s.othersKept u d) := ⟨s.done t, hc, fun hi => othersKept_done s t d hi h⟩

theorem outside_onD (d : DIx) (s : State) (f : State → State) (h : outside d (f s) = outside d s) : outside d (s.onD d f) = outside d s :=
  ite_keeps (outside d) _ _ _ _ h rfl

section
variable (d : DIx) (s : State)

theorem outside_openReq : outside d (openReq d s) = outside d s := outside_onD d s _ (by simp)
theorem outside_closeReq : outside d (closeReq d s) = outside d s := outside_onD d s _ (by simp)
theorem outside_proofReq (b : Bool) : outside d (proofReq d b s) = outside d s := outside_onD d s _ (by simp)
theorem outside_passengerOpenInput : outside d (passengerOpenInput d s) = outside d s := outside_onD d s _ (by simp)
theorem outside_move (x : AIx) : outside d (move d x s) = outside d s := outside_onD d s _ (by simp)
theorem outside_stop (x : AIx) : outside d (stop d x s) = outside d s := outside_onD d s _ (by simp)
theorem outside_atRestReached (x : AIx) : outside d (atRestReached d x s) = outside d s := outside_onD d s _ (when_keeps (outside d) _ _ _ (by simp))
theorem outside_learnAbort : outside d (learnAbort d s) = outside d s := outside_onD d s _ (by simp)
theorem outside_discardPending : outside d (discardPending d s) = outside d s := outside_onD d s _ (by simp)
theorem outside_snap (x : AIx) : outside d (snap d x s) = outside d s := outside_onD d s _ (by simp)

theorem outside_lossClear (x : AIx) : outside d (lossClear d x s) = outside d s := by
  refine outside_onD d s _ ?_
  split
  · split
    · dsimp only
      split <;> simp
    · rfl
  · rfl

theorem outside_referenceMakeEdge (x : AIx) : outside d (referenceMakeEdge d x s) = outside d s := by
  refine outside_onD d s _ ?_
  split
  · rfl
  · dsimp only
    split
    · simp
    · split
      · simp
      · split <;> simp

theorem outside_indexEvent (x : AIx) (z : Bool) (n : Nat) : outside d (indexEvent d x z n s) = outside d s :=
  ite_keeps (outside d) _ _ _ _ (by simp) rfl
theorem outside_encoderCount (x : AIx) (va vb : Bool) (na nb : Nat) : outside d (encoderCount d x va vb na nb s) = outside d s :=
  ite_keeps (outside d) _ _ _ _ (by simp) rfl

theorem outside_lineFaultSample (x : AIx) (fa fb fz : Bool) : outside d (lineFaultSample d x fa fb fz s) = outside d s := by
  refine outside_onD d s _ ?_
  dsimp only
  split <;> simp

theorem outside_edgeFault (n : Fin 2) : outside d (edgeFault d n s) = outside d s := by
  refine outside_onD d s _ (ite_keeps (outside d) _ _ _ _ ?_ rfl)
  rw [outside_stage, outside_showStanding, outside_setF _ _ _ _ (reach_ite d _ _ _ (by simp) (by simp)), outside_fault]

theorem outside_edgeFaultClear (n : Fin 2) : outside d (edgeFaultClear d n s) = outside d s := by
  refine outside_onD d s _ (ite_keeps (outside d) _ _ _ _ ?_ rfl)
  rw [outside_showStanding, outside_setF _ _ _ _ (reach_ite d _ _ _ (by simp) (by simp))]

theorem outside_lockCurrent : outside d (lockCurrent d s) = outside d s := by
  refine outside_onD d s _ ?_
  dsimp only
  split
  · simp
  · split <;> simp

theorem outside_lockStuckOn : outside d (lockStuckOn d s) = outside d s := by
  refine outside_onD d s _ ?_
  split <;> simp

theorem outside_isolationDiscrepancy : outside d (isolationDiscrepancy d s) = outside d s := by
  refine outside_onD d s _ ?_
  split <;> simp

theorem outside_handleOperated : outside d (handleOperated d s) = outside d s := outside_onD d s _ (by simp)

theorem outside_handleDiscrepancy : outside d (handleDiscrepancy d s) = outside d s := by
  refine outside_onD d s _ ?_
  split
  · split <;> simp
  · rfl

theorem outside_guardOpen : outside d (guardOpen d s) = outside d s := by
  refine outside_onD d s _ ?_
  split
  · dsimp only
    split
    · simp
    · split <;> simp
  · rfl

theorem outside_guardClosed : outside d (guardClosed d s) = outside d s := outside_onD d s _ (by simp)

theorem outside_guardFault : outside d (guardFault d s) = outside d s := by
  refine outside_onD d s _ ?_
  split
  · split <;> simp
  · rfl

theorem outside_twoHandChange : outside d (twoHandChange d s) = outside d s := by
  refine outside_onD d s _ ?_
  split
  · rfl
  · dsimp only
    split
    · simp
    · split
      · simp
      · split <;> simp

theorem outside_twoHandFault (n : Fin 2) : outside d (twoHandFault d n s) = outside d s := by
  refine outside_onD d s _ ?_
  dsimp only
  split <;> simp

theorem outside_ossdChange : outside d (ossdChange d s) = outside d s := by
  refine outside_onD d s _ ?_
  split
  · rfl
  · dsimp only
    split
    · split
      · split <;> simp
      · split <;> simp
      · simp
    · split
      · split <;> simp
      · simp

theorem outside_lcDiscrepancy : outside d (lcDiscrepancy d s) = outside d s := by
  refine outside_onD d s _ ?_
  split
  · split <;> simp
  · rfl

theorem outside_lcTest : outside d (lcTest d s) = outside d s := outside_onD d s _ (by simp)

theorem outside_denTestPulse (n : Fin 2) (b : Bool) : outside d (denTestPulse d n b s) = outside d s := by
  refine outside_onD d s _ ?_
  extract_lets v k m t1 slot t2 cmd t3
  have e2 : outside d t2 = outside d s := (when_keeps (outside d) _ _ _ (outside_modDrv d _ _)).trans (outside_modDrv d s _)
  have e3 : outside d t3 = outside d s := (outside_setF d _ _ _ (reach_ite d _ _ _ (by simp) (by simp))).trans e2
  exact ite_keeps (outside d) _ _ _ _ ((outside_denFault d _ _ _).trans e3) e3

theorem outside_denReadbackTimeout (n : Fin 2) (b : Bool) : outside d (denReadbackTimeout d n b s) = outside d s := by
  refine outside_onD d s _ ?_
  extract_lets cmd t
  have e : outside d t = outside d s := outside_setF d _ _ _ (reach_ite d _ _ _ (by simp) (by simp))
  clear_value t
  split
  · simp [e]
  · split <;> simp [e]

theorem outside_driveFeedbackTimeout : outside d (driveFeedbackTimeout d s) = outside d s := outside_onD d s _ (by simp)

theorem outside_drivePhyLinkLoss : outside d (drivePhyLinkLoss d s) = outside d s := by
  refine outside_onD d s _ ?_
  dsimp only
  split <;> simp

theorem outside_drivePhyLinkUp : outside d (drivePhyLinkUp d s) = outside d s := by
  refine outside_onD d s _ ?_
  dsimp only
  split <;> simp

theorem outside_sequencerMismatch : outside d (sequencerMismatch d s) = outside d s := by
  refine outside_onD d s _ ?_
  dsimp only
  rw [outside_fence, outside_fault, outside_modPwr]
  · simp
  · rfl

theorem outside_cycleDue : outside d (cycleDue d s) = outside d s := by
  refine outside_onD d s _ ?_
  dsimp only
  split <;> simp

end

/-- Settles O60: the rules of each command leave what is outside its doorway, and the gates change nothing of it under the invariant. -/
theorem doorwayCommandsKeepTheOthers : Obligations.DoorwayCommandsKeepTheOthers :=
  ⟨fun s d => runs_othersKept rfl (outside_openReq d s),
    fun s d => runs_othersKept rfl (outside_closeReq d s),
    fun s d b => runs_othersKept rfl (outside_proofReq d s b),
    fun s d => runs_othersKept rfl (outside_passengerOpenInput d s),
    fun s d x => runs_othersKept rfl (outside_move d s x),
    fun s d x => runs_othersKept rfl (outside_stop d s x),
    fun s d x => runs_othersKept rfl (outside_atRestReached d s x),
    fun s d => runs_othersKept rfl (outside_learnAbort d s),
    fun s d => runs_othersKept rfl (outside_discardPending d s),
    fun s d x => runs_othersKept rfl (outside_snap d s x),
    fun s d x => runs_othersKept rfl (outside_lossClear d s x),
    fun s d x => runs_othersKept rfl (outside_referenceMakeEdge d s x),
    fun s d x z n => runs_othersKept rfl (outside_indexEvent d s x z n),
    fun s d x va vb na nb => runs_othersKept rfl (outside_encoderCount d s x va vb na nb),
    fun s d x fa fb fz => runs_othersKept rfl (outside_lineFaultSample d s x fa fb fz),
    fun s d n => runs_othersKept rfl (outside_edgeFault d s n),
    fun s d n => runs_othersKept rfl (outside_edgeFaultClear d s n),
    fun s d => runs_othersKept rfl (outside_lockCurrent d s),
    fun s d => runs_othersKept rfl (outside_lockStuckOn d s),
    fun s d => runs_othersKept rfl (outside_isolationDiscrepancy d s),
    fun s d => runs_othersKept rfl (outside_handleOperated d s),
    fun s d => runs_othersKept rfl (outside_handleDiscrepancy d s),
    fun s d => runs_othersKept rfl (outside_guardOpen d s),
    fun s d => runs_othersKept rfl (outside_guardClosed d s),
    fun s d => runs_othersKept rfl (outside_guardFault d s),
    fun s d => runs_othersKept rfl (outside_twoHandChange d s),
    fun s d n => runs_othersKept rfl (outside_twoHandFault d s n),
    fun s d => runs_othersKept rfl (outside_ossdChange d s),
    fun s d => runs_othersKept rfl (outside_lcDiscrepancy d s),
    fun s d => runs_othersKept rfl (outside_lcTest d s),
    fun s d n b => runs_othersKept rfl (outside_denTestPulse d s n b),
    fun s d n b => runs_othersKept rfl (outside_denReadbackTimeout d s n b),
    fun s d => runs_othersKept rfl (outside_driveFeedbackTimeout d s),
    fun s d => runs_othersKept rfl (outside_drivePhyLinkLoss d s),
    fun s d => runs_othersKept rfl (outside_drivePhyLinkUp d s),
    fun s d => runs_othersKept rfl (outside_sequencerMismatch d s),
    fun s d => runs_othersKept rfl (outside_cycleDue d s)⟩

end Sys2Proof.Machine

/-!
PROOFS. What an entry to a state leaves of PROVEN and of PROOF_LAST, and how a closing sequence ends (O52).
-/
namespace Sys2Proof.Machine

/-! ## PROVEN and PROOF_LAST over an entry to a state (R31, R45) -/

/-- The fields followed over an entry: PROVEN, and those of PROOF_LAST. -/
def followed (d : DIx) (g : Fld) : Prop := g = F.SEQ_STATUS_PROVEN d ∨ g.addr = dw d 0x720

/-- A field beside those followed: not in PROOF_LAST, and above PROVEN where it is in SEQ_STATUS. -/
def beside (d : DIx) (f : Fld) : Prop := f.addr ≠ dw d 0x720 ∧ (f.addr = dw d 4 → 1 ≤ f.lo ∧ f.lo + f.w ≤ 32)

/-- The states, with their causes, whose entry takes PROVEN away (R31). -/
def unproves (st : SeqState) (cause : Nat) : Bool :=
  (st == .unproven || st == .isolated || st == .emergency || st == .fenced) || (st == .held && cause == 0x0F)

section
variable {d : DIx} {g : Fld} (hg : followed d g)
include hg

theorem wr_followed (s : State) (f : Fld) (v : Nat) (hf : beside d f) : (s.wr f v).rd g = s.rd g := by
  refine rd_wr_ne s f g v ?_
  obtain ⟨h1, h2⟩ := hf
  rcases hg with rfl | ha
  · by_cases he : f.addr = dw d 4
    · obtain ⟨hl, hw⟩ := h2 he
      exact Or.inr ⟨hw, Or.inl hl⟩
    · exact Or.inl (Ne.symm he)
  · exact Or.inl (ha ▸ Ne.symm h1)

theorem setF_followed (s : State) (f : Fld) (b : Bool) (hf : beside d f) : (s.setF f b).rd g = s.rd g := wr_followed hg s f _ hf

theorem followed_addr : g.addr = dw d 4 ∨ g.addr = dw d 0x720 := hg.imp_left (congrArg Fld.addr)

theorem evalChans_followed (s : State) : (s.evalChans d).rd g = s.rd g := by
  refine rd_congr (evalChans_reg s d g.addr ?_)
  have := followed_addr hg
  simp only [chanReg, Bool.or_eq_false_iff, beq_eq_false_iff_ne, ne_eq, List.any_eq_false, beq_iff_eq]
  refine ⟨by simp only [dw] at *; omega, fun k _ => by simp only [dw, ch] at *; omega⟩

theorem stageRec_followed (s : State) (r : Rec) : (s.stageRec r).rd g = s.rd g := by
  refine rd_congr (stageRec_reg s r g.addr ?_)
  have := followed_addr hg
  simp only [recReg, Bool.or_eq_false_iff, beq_eq_false_iff_ne, ne_eq]
  simp only [dw] at this
  omega

theorem stage_followed (s : State) (c e : Nat) (ws : List Nat) : (s.stage c e ws).rd g = s.rd g := stageRec_followed hg s _

theorem applyRange_followed (s : State) (lo hi : Nat) (h : dw d 8 ≤ lo ∧ (hi ≤ dw d 0x720 ∨ dw d 0x724 ≤ lo)) :
    (s.applyRange lo hi).rd g = s.rd g := by
  refine rd_congr (applyRange_reg s lo hi g.addr ?_)
  have := followed_addr hg
  simp only [dw] at *
  omega

/-! ### The operations of an entry -/

theorem dropPermit_followed (s : State) : (s.dropPermit d).rd g = s.rd g := by
  unfold State.dropPermit
  rw [evalChans_followed hg, setF_followed hg _ _ _ (by simp only [beside, dw]; omega)]

theorem setLock_followed (s : State) (on : Bool) : (s.setLock d on).rd g = s.rd g := by
  unfold State.setLock
  split
  · exact evalChans_followed hg s
  · rw [evalChans_followed hg, modCyc_rd, modSeq_rd, setF_followed hg _ _ _ (by simp only [beside, dw]; omega)]

theorem lcTestStart_followed (s : State) : (s.lcTestStart d).rd g = s.rd g := by
  unfold State.lcTestStart State.lcUpdate
  split
  · rw [evalChans_followed hg, setF_followed hg _ _ _ (by simp only [beside, dw]; omega), modProt_rd,
      setF_followed hg _ _ _ (by simp only [beside, dw]; omega)]
  · rfl

theorem showFenced_followed (s : State) : s.showFenced.rd g = s.rd g := wr_followed hg s _ _ (by simp only [beside, dw]; omega)

theorem refuseReq_followed (s : State) (f : Fld) (hf : beside d f) : (s.refuseReq d f).rd g = s.rd g := by
  unfold State.refuseReq
  rw [setF_followed hg _ _ _ (by simp only [beside, dw]; omega), setF_followed hg _ _ _ hf]

theorem applyDoor_followed (s : State) : (s.applyDoor d).rd g = s.rd g := by
  unfold State.applyDoor
  split
  · rfl
  · rw [applyRange_followed hg _ _ _ (by simp only [dw]; omega), applyRange_followed hg _ _ _ (by simp only [dw]; omega),
      applyRange_followed hg _ _ _ (by simp only [dw]; omega), applyRange_followed hg _ _ _ (by simp only [dw]; omega)]
    exact when_keeps (State.rd · g) _ _ _ rfl

theorem startProof_followed (s : State) (b : Bool) : (s.startProof d b).rd g = s.rd g := by
  unfold State.startProof
  rw [modTopi_rd, wr_followed hg _ _ _ (by simp only [beside, dw]; omega), setF_followed hg _ _ _ (by simp only [beside, dw]; omega),
    setF_followed hg _ _ _ (by simp only [beside, dw]; omega), wr_followed hg _ _ _ (by simp only [beside, dw]; omega)]

theorem enterStepDeploy_followed (s : State) : (s.enterStepDeploy d).rd g = s.rd g := by
  unfold State.enterStepDeploy
  extract_lets take s1 t s2 s3
  have e1 : s1.rd g = s.rd g := by
    simp only [s1]
    refine ite_keeps (State.rd · g) _ _ _ _ ?_ ?_
    · rw [setF_followed hg _ _ _ (by simp only [beside, dw]; omega), wr_followed hg _ _ _ (by simp only [beside, dw]; omega)]
    · rw [setF_followed hg _ _ _ (by simp only [beside, dw]; omega)]
  have e2 : s2.rd g = s1.rd g := by
    simp only [s2]
    rw [wr_followed hg _ _ _ (by simp only [beside, dw]; omega), wr_followed hg _ _ _ (by simp only [beside, dw]; omega)]
  have e3 : s3.rd g = s2.rd g := when_keeps (State.rd · g) _ _ _ (stage_followed hg _ _ _ _)
  rw [modCyc_rd, e3, e2, e1]

/-- PROVEN is taken away, and PROOF_LAST is not, where the condition holds. -/
theorem unprove_followed (s : State) (c : Bool) :
    (s.when c (fun t => (t.setF (F.SEQ_STATUS_PROVEN d) false).modSeq d (fun q => { q with seenOpen := false }))).rd g =
      if c && g.addr == dw d 4 then 0 else s.rd g := by
  cases c with
  | false => rfl
  | true =>
    refine (modSeq_rd (s.setF (F.SEQ_STATUS_PROVEN d) false) d (fun q => { q with seenOpen := false }) g).trans ?_
    rcases hg with rfl | ha
    · simpa [State.setF, b2n] using rd_wr_same s (F.SEQ_STATUS_PROVEN d) 0 (by simp)
    · simpa [State.setF, b2n, ha, dw] using rd_wr_addr s (F.SEQ_STATUS_PROVEN d) g 0 (by simp [ha, dw])

/-- What an entry leaves of PROVEN and of PROOF_LAST: an entry that unproves the doorway clears PROVEN, and no entry writes PROOF_LAST. -/
theorem enterRest_followed (s : State) (old st : SeqState) (cause : Nat) :
    (s.enterRest d old st cause).rd g = if unproves st cause && g.addr == dw d 4 then 0 else s.rd g := by
  unfold State.enterRest
  extract_lets s1 s2 unp s3 s4 s5 s6 s7 s8 s9 s10 s11 s12 s13 s14 s15 s16 s17 s18 s19
  have e2 : s2.rd g = s.rd g := by
    simp only [s2, s1, modSeq_rd]; exact wr_followed hg _ _ _ (by simp only [beside, dw]; omega)
  have e3 : s3.rd g = if unproves st cause && g.addr == dw d 4 then 0 else s2.rd g := unprove_followed hg s2 _
  have e4 : s4.rd g = s3.rd g := when_keeps (State.rd · g) _ _ _ (setF_followed hg _ _ _ (by simp only [beside, dw]; omega))
  have e5 : s5.rd g = s4.rd g := when_keeps (State.rd · g) _ _ _ (setF_followed hg _ _ _ (by simp only [beside, dw]; omega))
  have e6 : s6.rd g = s5.rd g := when_keeps (State.rd · g) _ _ _ (wr_followed hg _ _ _ (by simp only [beside, dw]; omega))
  have e7 : s7.rd g = s6.rd g := when_keeps (State.rd · g) _ _ _ (setF_followed hg _ _ _ (by simp only [beside, dw]; omega))
  have e8 : s8.rd g = s7.rd g := when_keeps (State.rd · g) _ _ _ (dropPermit_followed hg _)
  have e9 : s9.rd g = s8.rd g := by
    simp only [s9]; split
    · exact setLock_followed hg _ _
    · rfl
  have e10 : s10.rd g = s9.rd g := when_keeps (State.rd · g) _ _ _ (setF_followed hg _ _ _ (by simp only [beside, dw]; omega))
  have e11 : s11.rd g = s10.rd g := when_keeps (State.rd · g) _ _ _
    (when_keeps (State.rd · g) _ _ _ (refuseReq_followed hg _ _ (by simp only [beside, dw]; omega)))
  have e12 : s12.rd g = s11.rd g := when_keeps (State.rd · g) _ _ _ (setF_followed hg _ _ _ (by simp only [beside, dw]; omega))
  have e13 : s13.rd g = s12.rd g := when_keeps (State.rd · g) _ _ _ (lcTestStart_followed hg _)
  have e14 : s14.rd g = s13.rd g := when_keeps (State.rd · g) _ _ _
    ((setF_followed hg _ _ _ (by simp only [beside, dw]; omega)).trans (modDwy_rd _ _ _ _))
  have e15 : s15.rd g = s14.rd g := ite_keeps (State.rd · g) _ _ _ _ (modCyc_rd _ _ _ _) rfl
  have e16 : s16.rd g = s15.rd g := (wr_followed hg _ _ _ (by simp only [beside, dw]; omega)).trans (wr_followed hg _ _ _ (by simp only [beside, dw]; omega))
  have e18 : s18.rd g = s15.rd g := by
    simp only [s18]
    split
    case h_2 => exact enterStepDeploy_followed hg _
    case h_4 => exact when_keeps (State.rd · g) _ _ _ (modCyc_rd _ _ _ _)
    case h_5 => rw [modTopi_rd, modCyc_rd, e16]
    case h_6 => rw [startProof_followed hg, modCyc_rd]
    case h_9 => rfl
    all_goals exact modCyc_rd _ _ _ _
  have e19 : s19.rd g = s18.rd g := ite_keeps (State.rd · g) _ _ _ _ (modDwy_rd _ _ _ _) rfl
  rw [showFenced_followed hg, applyDoor_followed hg, e19, e18, e15, e14, e13, e12, e11, e10, e9, e8, e7, e6, e5, e4, e3, e2]

theorem leaveWarning_followed (s : State) : (s.leaveWarning d).rd g = s.rd g := by
  unfold State.leaveWarning
  extract_lets o s1
  refine ite_keeps (State.rd · g) _ _ _ _ (modObst_rd _ _ _ _) ?_
  rw [stageRec_followed hg]; exact modObst_rd _ _ _ _

/-- The first part of an entry leaves PROVEN and PROOF_LAST, unless the entry ends a stroke of its own. -/
theorem enterSeq_followed (s : State) (st : SeqState) (cause : Nat) (hst : (st == .fenced || st == .emergency || st == .isolated) = false) :
    (s.enterSeq d st cause).rd g = s.rd g := by
  unfold State.enterSeq
  extract_lets old s1 s2 s3
  have e1 : s1.rd g = s.rd g := ite_keeps (State.rd · g) _ _ _ _ (leaveWarning_followed hg s) rfl
  have e2 : s2 = s1 := if_neg (by rw [hst]; simp)
  have e3 : s3.rd g = s2.rd g := ite_keeps (State.rd · g) _ _ _ _ (stage_followed hg _ _ _ _) rfl
  rw [wr_followed hg _ _ _ (by simp only [beside, dw]; omega), wr_followed hg _ _ _ (by simp only [beside, dw]; omega),
    wr_followed hg _ _ _ (by simp only [beside, dw]; omega), e3, e2, e1]

/-- What an entry leaves of PROVEN and of PROOF_LAST. -/
theorem enter_followed (s : State) (st : SeqState) (cause : Nat) (hst : (st == .fenced || st == .emergency || st == .isolated) = false) :
    (s.enter d st cause).rd g = if unproves st cause && g.addr == dw d 4 then 0 else s.rd g := by
  unfold State.enter
  rw [enterRest_followed hg, enterSeq_followed hg s st cause hst]

theorem hoursReset_followed (s : State) : (s.hoursReset d).rd g = s.rd g := by
  unfold State.hoursReset
  rw [modSeq_rd, setF_followed hg _ _ _ (by simp only [beside, dw]; omega), wr_followed hg _ _ _ (by simp only [beside, dw]; omega)]

end

/-! ## The end of a closing sequence -/

theorem enter_closedLocked_proven (s : State) (d : DIx) (c : Nat) :
    (s.enter d .closedLocked c).flag (F.SEQ_STATUS_PROVEN d) = s.flag (F.SEQ_STATUS_PROVEN d) := by
  unfold State.flag
  rw [enter_followed (Or.inl rfl) s .closedLocked c rfl, if_neg (by simp [unproves])]

theorem enter_unproven_proven (s : State) (d : DIx) (c : Nat) : (s.enter d .unproven c).flag (F.SEQ_STATUS_PROVEN d) = false := by
  unfold State.flag
  rw [enter_followed (Or.inl rfl) s .unproven c rfl, if_pos (by simp [unproves])]; rfl

/-- The state that judges the end of STEP_STOW: PROVEN is set where the way of a closing sequence and the proving switches give it. -/
def stowJudged (s : State) (d : DIx) : State :=
  let ok := s.flag (F.PROVE_STATUS_ALL_MADE d) && !s.flag (F.PROVE_STATUS_PLAUS_ERR d)
  let q := s.seq d
  let s := s.modCyc d (fun c => { c with stowMs := some ((s.now - c.stowFrom) / 160000) })
  let s := s.when (ok && q.sealPath && q.seenOpen) (fun t => t.setF (F.SEQ_STATUS_PROVEN d) true)
  s.when ok (fun t => t.setF (F.PROVE_STATUS_SW_LOST d) false)

theorem stowJudged_proven (s : State) (d : DIx) : (stowJudged s d).flag (F.SEQ_STATUS_PROVEN d) =
    (s.flag (F.SEQ_STATUS_PROVEN d) ||
      (s.flag (F.PROVE_STATUS_ALL_MADE d) && !s.flag (F.PROVE_STATUS_PLAUS_ERR d) && (s.seq d).sealPath && (s.seq d).seenOpen)) := by
  unfold stowJudged
  extract_lets ok q s1 s2
  have e2 : s2.flag (F.SEQ_STATUS_PROVEN d) = (s.flag (F.SEQ_STATUS_PROVEN d) || (ok && q.sealPath && q.seenOpen)) := by
    simp only [s2, State.when]
    split
    case isTrue h => rw [h, Bool.or_true]; exact flag_setF_same _ _ _ (by simp) rfl
    case isFalse h => rw [Bool.eq_false_iff.mpr h, Bool.or_false]; exact modCyc_flag _ _ _ _
  rw [when_keeps (State.flag · (F.SEQ_STATUS_PROVEN d)) _ _ _ ?_, e2]
  unfold State.flag
  rw [setF_followed (Or.inl rfl) _ _ _ (by simp only [beside, dw]; omega)]

/-- What follows the entry to CLOSED_LOCKED: the count of cycles, HOURS, the record and the start of the adaptation. -/
def stowCounted (s : State) (d : DIx) (ws : List Nat) : State :=
  let n := s.rd (F.SEQ_CYCLES_LO d) + 1
  let s := (s.wr (F.SEQ_CYCLES_LO d) n).when (n == 2 ^ 32) (fun t => t.wr (F.SEQ_CYCLES_HI d) (t.rd (F.SEQ_CYCLES_HI d) + 1))
  let s := (s.hoursReset d).stage 0x1001 d.val ws
  s.modTopi d (fun t => { t with adaptFrom := some s.now, adapted := false })

theorem stowCounted_seq (s : State) (d : DIx) (ws : List Nat) : (stowCounted s d ws).reg (dw d 0) = s.reg (dw d 0) := by
  unfold stowCounted
  extract_lets n s1 s2
  have e1 : s1.reg (dw d 0) = s.reg (dw d 0) :=
    (when_keeps (State.reg · (dw d 0)) _ _ _ (wr_still (still_seq d) _ _ _ (touched_dw d (by decide) (by decide)))).trans
      (wr_still (still_seq d) _ _ _ (touched_dw d (by decide) (by decide)))
  have e2 : s2.reg (dw d 0) = s1.reg (dw d 0) := (stage_still (still_seq d) _ _ _ _).trans (hoursReset_still (still_seq d) _)
  rw [modTopi_reg, e2, e1]

theorem stowCounted_followed {d : DIx} {g : Fld} (hg : followed d g) (s : State) (ws : List Nat) : (stowCounted s d ws).rd g = s.rd g := by
  unfold stowCounted
  extract_lets n s1 s2
  have e1 : s1.rd g = s.rd g :=
    (when_keeps (State.rd · g) _ _ _ (wr_followed hg _ _ _ (by simp only [beside, dw]; omega))).trans
      (wr_followed hg _ _ _ (by simp only [beside, dw]; omega))
  have e2 : s2.rd g = s1.rd g := (stage_followed hg _ _ _ _).trans (hoursReset_followed hg _)
  rw [modTopi_rd, e2, e1]

theorem endStow_eq (s : State) (d : DIx) : s.endStow d =
    if (stowJudged s d).flag (F.SEQ_STATUS_PROVEN d) then stowCounted ((stowJudged s d).enter d .closedLocked 0x05) d ((stowJudged s d).cycleWords d)
    else (stowJudged s d).enter d .unproven 0x05 := rfl

/-- With PROVEN at the end of STEP_STOW, the doorway is CLOSED_LOCKED and still proven. -/
theorem endStow_of_proven (s : State) (d : DIx) (h : (stowJudged s d).flag (F.SEQ_STATUS_PROVEN d) = true) :
    (s.endStow d).st d = .closedLocked ∧ (s.endStow d).flag (F.SEQ_STATUS_PROVEN d) = true := by
  rw [endStow_eq, if_pos h]
  refine ⟨(st_congr (stowCounted_seq _ _ _)).trans (enter_st _ _ _ _), ?_⟩
  unfold State.flag
  rw [stowCounted_followed (Or.inl rfl)]
  exact (enter_closedLocked_proven _ _ _).trans h

/-- Without it, the doorway is UNPROVEN. -/
theorem endStow_of_unproven (s : State) (d : DIx) (h : (stowJudged s d).flag (F.SEQ_STATUS_PROVEN d) = false) :
    (s.endStow d).st d = .unproven ∧ (s.endStow d).flag (F.SEQ_STATUS_PROVEN d) = false := by
  rw [endStow_eq, if_neg (Bool.eq_false_iff.mp h)]
  exact ⟨enter_st _ _ _ _, enter_unproven_proven _ _ _⟩

/-- Settles O52: PROVEN as the end of STEP_STOW judges it decides between CLOSED_LOCKED and UNPROVEN, and the entry leaves it as judged. -/
theorem stowEndsProvenOrUnproven : Obligations.StowEndsProvenOrUnproven := by
  unfold Obligations.StowEndsProvenOrUnproven
  refine ⟨fun s d => ?_, fun s d h => endStow_of_proven s d (by rw [stowJudged_proven, h, Bool.true_or]), fun s d hp hm => ?_⟩
  · cases h : (stowJudged s d).flag (F.SEQ_STATUS_PROVEN d) with
    | true =>
      obtain ⟨hst, hf⟩ := endStow_of_proven s d h
      rw [hst, hf]; rfl
    | false =>
      obtain ⟨hst, hf⟩ := endStow_of_unproven s d h
      rw [hst, hf]; rfl
  · refine (endStow_of_unproven s d ?_).1
    rw [stowJudged_proven, hp, hm]; rfl

end Sys2Proof.Machine

/-!
PROOFS. The timer of WARNING and a restart that stands (O7).
-/
namespace Sys2Proof.Machine

/-! ## A WARNING whose restart has not ended -/

/-- A module in RUN with doorway 0 in WARNING for 200 ms of a WARN_TIME of 100 ms, since the last evaluation found an obstacle there: the
restart of R240 stands until an evaluation without one. -/
def warningRestarted : State :=
  let s : State := { State.reset with rail := true, now := msT 200, img := { State.reset.img with running := some false, decl := 1 } }
  let s := ((s.wr F.MOD_STATE_STATE 3).wr F.RP_STATUS_ROLE 3).setF F.RP_STATUS_AUTH true
  ((s.wr (F.SEQ_STATE 0) SeqState.warning.code).wr (F.SEQ_TIMING_WARN_TIME 0) 1).modObst 0 (fun o => { o with warnN := 1, warnOn := true })

/-- The tick is free to act on the timer, which has run out. -/
theorem warningRestarted_due : warningRestarted.tickDue 0 (fun p =>
    p.st 0 == SeqState.warning && p.past (p.seq 0).warnFrom (msT (100 * p.rd (F.SEQ_TIMING_WARN_TIME 0)))) = true := by decide +kernel

/-- But the doorway stays in WARNING, for the restart stands. -/
theorem warningRestarted_stays : (warningRestarted.done (warnTimeElapsed 0 warningRestarted)).st 0 = .warning := by decide +kernel

/-- Refutes O7: WARN_TIME that has run out does not end WARNING while the restart of an obstacle stands (R240), and the clause on
WARNING_TIME_ELAPSED does not ask that none does. -/
theorem not_ticksEndStates : ¬ Obligations.TicksEndStates := by
  unfold Obligations.TicksEndStates
  rintro ⟨-, -, -, -, -, hwarn, -, -⟩
  obtain ⟨t, ht, hst, -⟩ := hwarn warningRestarted 0 warningRestarted_due
  have e : exec (.warnTimeElapsed 0) warningRestarted = .next (warningRestarted.done (warnTimeElapsed 0 warningRestarted)) := rfl
  rw [e, Host.Outcome.next.injEq] at ht
  rw [← ht, warningRestarted_stays] at hst
  cases hst

end Sys2Proof.Machine

/-!
PROOFS. Requests of a doorway (O6).
-/
namespace Sys2Proof.Machine

/-! ## Requests stand in SEQ_CMD (R46, R281, R346) -/

theorem onD_of_on {s : State} {d : DIx} (h : s.on d = true) (f : State → State) : s.onD d f = f s := if_pos h

theorem done_seq (s t : State) (d : DIx) : (s.done t).seq d = t.seq d := by
  unfold State.seq; rw [done_dwy]

/-- A request that sets a bit of SEQ_CMD: the bit stands after it, and nothing else has changed. -/
theorem request_sets (s : State) (d : DIx) (lo : Nat) (hlo : lo + 1 ≤ 32) :
    (s.done (s.setF ⟨dw d 8, lo, 1⟩ true)).flag ⟨dw d 8, lo, 1⟩ = true ∧
      (s.Inv → s.sameBut (s.done (s.setF ⟨dw d 8, lo, 1⟩ true)) [⟨dw d 8, lo, 1⟩]) := by
  refine ⟨?_, fun hi => ?_⟩
  · rw [done_flag_dw _ _ _ _ _ _ (by decide) (by decide)]
    exact flag_setF_same _ _ _ hlo rfl
  · refine done_sameBut s _ _ hi (setF_hidden s _ true s.regs) (writes_setF (writes_refl s _) _ _ List.mem_cons_self hlo) ?_
    intro f hf
    rw [List.mem_singleton.mp hf]
    exact invReg_dw d 8 (by decide) (by decide) (by decide)

theorem openReq_runs (s : State) (d : DIx) (h : s.on d = true) :
    Runs (.openReq d) s fun t => t.flag (F.SEQ_CMD_OPEN_REQ d) = true ∧ (s.Inv → s.sameBut t [F.SEQ_CMD_OPEN_REQ d]) := by
  refine ⟨s.done (openReq d s), rfl, ?_⟩
  unfold openReq
  rw [onD_of_on h]
  exact request_sets s d 0 (by decide)

theorem closeReq_runs (s : State) (d : DIx) (h : s.on d = true) :
    Runs (.closeReq d) s fun t => t.flag (F.SEQ_CMD_CLOSE_REQ d) = true ∧ (s.Inv → s.sameBut t [F.SEQ_CMD_CLOSE_REQ d]) := by
  refine ⟨s.done (closeReq d s), rfl, ?_⟩
  unfold closeReq
  rw [onD_of_on h]
  exact request_sets s d 1 (by decide)

theorem proofReq_of_on (s : State) (d : DIx) (net : Bool) (h : s.on d = true) :
    proofReq d net s = (s.setF (F.SEQ_CMD_PROOF_REQ d) true).modSeq d (fun q => { q with proofNet := net }) := onD_of_on h _

theorem proofReq_runs (s : State) (d : DIx) (net : Bool) (h : s.on d = true) :
    Runs (.proofReq d net) s fun t => t.flag (F.SEQ_CMD_PROOF_REQ d) = true ∧
      (s.Inv → (s.modSeq d (fun q => { q with proofNet := net })).hiddenAs t ∧ s.fieldsBut t [F.SEQ_CMD_PROOF_REQ d]) := by
  refine ⟨s.done (proofReq d net s), rfl, ?_⟩
  rw [proofReq_of_on s d net h]
  refine ⟨?_, fun hi => ?_⟩
  · rw [done_flag_dw _ _ _ _ _ _ (by decide) (by decide), modSeq_flag]
    exact flag_setF_same _ _ _ (by simp) rfl
  · refine done_frame s _ _ _ hi rfl ⟨rfl, rfl, rfl, rfl, fun _ => rfl⟩
      (writes_congr (writes_setF (writes_refl s _) (F.SEQ_CMD_PROOF_REQ d) true List.mem_cons_self (by simp)) fun a => modSeq_reg _ _ _ a) ?_
    intro f hf
    rw [List.mem_singleton.mp hf]
    exact invReg_dw d 8 (by decide) (by decide) (by decide)

theorem passengerOpenInput_runs (s : State) (d : DIx) (h : s.on d = true) (he : (s.seq d).openEdge = true) :
    Runs (.passengerOpenInput d) s fun t => (t.seq d).openIn = true ∧
      (s.Inv → (s.modSeq d (fun q => { q with openEdge := false, openIn := true })).hiddenAs t ∧ s.fieldsBut t []) := by
  refine ⟨s.done (passengerOpenInput d s), rfl, ?_⟩
  have e : passengerOpenInput d s = s.modSeq d (fun q => { q with openEdge := false, openIn := true }) := by
    unfold passengerOpenInput; rw [onD_of_on h, if_pos he]
  rw [e]
  refine ⟨?_, fun hi => ?_⟩
  · rw [done_seq, modSeq_same]
  · exact done_frame s _ _ _ hi rfl ⟨rfl, rfl, rfl, rfl, fun _ => rfl⟩
      (writes_congr (writes_refl s _) fun a => modSeq_reg _ _ _ a) (fun _ h => absurd h List.not_mem_nil)

/-! ### The request of every doorway in UNPROVEN (R281) -/

/-- A proof request of any doorway leaves a standing one. -/
theorem proofReq_keeps (s : State) (d e : DIx) (net : Bool) (h : s.flag (F.SEQ_CMD_PROOF_REQ d) = true) :
    (proofReq e net s).flag (F.SEQ_CMD_PROOF_REQ d) = true := by
  unfold proofReq State.onD
  split
  · rw [modSeq_flag]
    by_cases he : d = e
    · subst he; exact flag_setF_same _ _ _ (by simp) rfl
    · rw [← h]
      refine flag_wr_ne _ _ _ _ (Or.inl ?_)
      exact fun ha => he (Fin.ext (by simp only [dw] at ha; omega))
  · exact h

theorem proofReq_seq (s : State) (d e : DIx) (net : Bool) : (proofReq e net s).reg (dw d 0) = s.reg (dw d 0) := by
  unfold proofReq State.onD
  split
  · rw [modSeq_reg]
    exact reg_setF_other _ _ _ _ (by simp only [dw]; omega)
  · rfl

theorem proofReq_on (s : State) (d e : DIx) (net : Bool) : (proofReq e net s).on d = s.on d := by
  unfold proofReq State.onD; split <;> rfl

/-- One doorway's turn of the request of every doorway. -/
def proofTurnOf (net : Bool) (t : State) (e : DIx) : State := if t.st e == .unproven then proofReq e net t else t

/-- A turn leaves whether a doorway participates, and its state. -/
theorem proofTurnOf_judged (net : Bool) (t : State) (d e : DIx) : ((proofTurnOf net t e).on d, (proofTurnOf net t e).st d) = (t.on d, t.st d) := by
  unfold proofTurnOf
  split
  · rw [proofReq_on, st_congr (proofReq_seq t d e net)]
  · rfl

/-- The turns of a list leave the request of each doorway of it that participates and is UNPROVEN. -/
theorem proofTurns_reach (net : Bool) (l : List DIx) (d : DIx) (hd : d ∈ l) (s : State) (hs : (s.on d, s.st d) = (true, SeqState.unproven)) :
    (l.foldl (proofTurnOf net) s).flag (F.SEQ_CMD_PROOF_REQ d) = true := by
  have judged : ((l.foldl (proofTurnOf net) s).on d, (l.foldl (proofTurnOf net) s).st d) = (true, SeqState.unproven) :=
    (foldl_keeps (fun t => (t.on d, t.st d)) _ _ (fun t e _ => proofTurnOf_judged net t d e) s).trans hs
  refine foldl_reaches (fun t => (t.on d, t.st d) = (true, SeqState.unproven) → t.flag (F.SEQ_CMD_PROOF_REQ d) = true)
    _ _ d hd (fun t ht => ?_) (fun t e keep ht => ?_) s judged
  · rw [proofTurnOf_judged, Prod.mk.injEq] at ht
    unfold proofTurnOf
    rw [ht.2, if_pos (beq_self_eq_true _), proofReq_of_on t d net ht.1, modSeq_flag]
    exact flag_setF_same _ _ _ (by simp) rfl
  · have stands := keep ((proofTurnOf_judged net t d e).symm.trans ht)
    unfold proofTurnOf
    split
    · exact proofReq_keeps t d e net stands
    · exact stands

theorem proofAll_runs (s : State) (d : DIx) (net : Bool) (h : s.on d = true) (hst : s.st d = .unproven) :
    Runs (.proofAll net) s fun t => t.flag (F.SEQ_CMD_PROOF_REQ d) = true := by
  refine ⟨s.done (proofAll net s), rfl, ?_⟩
  obtain ⟨ha, hd⟩ : s.alive = true ∧ s.declared d = true := by
    simpa only [State.on, Bool.and_eq_true] using h
  unfold proofAll
  rw [onM_of_alive ha, done_flag_dw _ _ _ _ _ _ (by decide) (by decide)]
  exact proofTurns_reach net s.declaredList d (List.mem_filter.mpr ⟨mem_allD d, hd⟩) s (by rw [h, hst])

end Sys2Proof.Machine

/-!
PROOFS. The timers of OPEN and HELD (O6).
-/
namespace Sys2Proof.Machine

/-! ## A timer that a tick takes as a demand (R33, R42) -/

/-- A timer that is due, where no rule before the requests acts: the tick enters what the rule of the requests gives. -/
theorem tick_requests (s : State) (d : DIx) (due : State → Bool) (x : SeqState) (c : Nat) (h : s.tickDue d due = true)
    (hs : ∀ p : State, due p = true → (p.st d == SeqState.proofStroke) = false)
    (h67 : ∀ p : State, due p = true → p.prio6 d = none ∧ p.prio7 d = none)
    (hh : ∀ p : State, due p = true → p.flag (F.SEQ_STATUS_TAKEOVER_HOLD d) = false)
    (hx : ∀ p : State, due p = true → ∃ u : State, p.prio8 d = some u ∧ u.st d = x ∧ u.rd (F.SEQ_CAUSE d) = c) (s' : State) :
    (s'.done (s.dueTick d due)).st d = x ∧ (s'.done (s.dueTick d due)).rd (F.SEQ_CAUSE d) = c := by
  obtain ⟨e1, hd, h123, h4, h5⟩ := tickDue_runs s d due h
  obtain ⟨h6, h7⟩ := h67 _ hd
  obtain ⟨u, h8, hst, hc⟩ := hx _ hd
  have hr : (s'.done (s.dueTick d due)).reg (dw d 0) = u.reg (dw d 0) := by
    rw [done_reg _ _ _ (gatedReg_dw d 0 (by decide) (by decide)), e1, decide_prio8 _ _ _ h123 (hs _ hd) h4 h5 h6 (hh _ hd) h7 h8,
      keepTick_still (still_seq d), tickServe_still (still_seq d), refuseRest_still (still_seq d)]
  exact ⟨(st_congr hr).trans hst, (rd_congr (f := F.SEQ_CAUSE d) hr).trans hc⟩

/-- In OPEN and in HELD no timeout of a state and no transition of the main road acts. -/
theorem prio67_of_waiting {p : State} {d : DIx} (h : p.st d = .opened ∨ p.st d = .held) : p.prio6 d = none ∧ p.prio7 d = none := by
  unfold State.prio6 State.prio7
  rcases h with h | h <;> rw [h] <;> exact ⟨rfl, rfl⟩

theorem autoCloseDue_opened {p : State} {d : DIx} (h : p.autoCloseDue d = true) : p.st d = .opened := by
  simp only [State.autoCloseDue, Bool.and_eq_true, beq_iff_eq] at h
  exact h.1.1

theorem prio8_of_autoCloseDue {p : State} {d : DIx} (h : p.autoCloseDue d = true) : p.prio8 d = some (p.enter d .warning 0x03) := by
  unfold State.prio8
  rw [autoCloseDue_opened h, h, Bool.or_true, if_pos rfl]

theorem retryDue_held {p : State} {d : DIx} (h : p.retryDue d = true) : p.st d = .held := by
  simp only [State.retryDue, Bool.and_eq_true, beq_iff_eq] at h
  exact h.1.1.1.1

theorem prio8_of_retryDue {p : State} {d : DIx} (h : p.retryDue d = true)
    (ho : (p.openReq d && p.flag (F.SEQ_STATUS_RELEASE_OK d)) = false) : p.prio8 d = some ((p.inc (F.SEQ_STATUS_RETRY d)).enter d .warning 0x15) := by
  unfold State.prio8
  rw [retryDue_held h]
  exact (if_neg (Bool.eq_false_iff.mp ho)).trans (if_pos h)

/-- A timer whose condition is weaker than what `tickDue` asks runs the same tick. -/
theorem dueTick_of_tickDue {s : State} {d : DIx} {due due' : State → Bool} (h : s.tickDue d due = true) (hw : ∀ p : State, due p = true → due' p = true) :
    s.dueTick d due' = s.dueTick d due := by
  have hs : due s = true := by
    unfold State.tickDue at h
    simp only [Bool.and_eq_true] at h
    obtain ⟨⟨⟨⟨⟨_, hs⟩, _⟩, _⟩, _⟩, _⟩ := h
    exact hs
  unfold State.dueTick State.onD
  simp only [hs, hw s hs]

theorem autoCloseElapsed_runs (s : State) (d : DIx)
    (h : s.tickDue d (fun p => p.autoCloseDue d && !p.flag (F.SEQ_STATUS_TAKEOVER_HOLD d)) = true) :
    Runs (.autoCloseElapsed d) s fun t => t.st d = .warning ∧ t.rd (F.SEQ_CAUSE d) = 0x03 := by
  refine ⟨s.done (autoCloseElapsed d s), rfl, ?_⟩
  unfold autoCloseElapsed
  rw [dueTick_of_tickDue h fun p hp => (Bool.and_eq_true_iff.mp hp).1]
  refine tick_requests s d _ _ _ h (fun p hp => ?_) (fun p hp => ?_) (fun p hp => ?_) (fun p hp => ?_) s
  all_goals obtain ⟨hdue, hhold⟩ := Bool.and_eq_true_iff.mp hp
  · rw [autoCloseDue_opened hdue]; rfl
  · exact prio67_of_waiting (Or.inl (autoCloseDue_opened hdue))
  · exact (Bool.not_eq_true' _).mp hhold
  · exact ⟨_, prio8_of_autoCloseDue hdue, enter_st _ _ _ _, enter_cause _ _ _ _⟩

theorem retryDelayElapsed_runs (s : State) (d : DIx) (h : s.tickDue d (fun p =>
      p.retryDue d && !(p.openReq d && p.flag (F.SEQ_STATUS_RELEASE_OK d)) && !p.flag (F.SEQ_STATUS_TAKEOVER_HOLD d)) = true) :
    Runs (.retryDelayElapsed d) s fun t => t.st d = .warning ∧ t.rd (F.SEQ_CAUSE d) = 0x15 := by
  refine ⟨s.done (retryDelayElapsed d s), rfl, ?_⟩
  unfold retryDelayElapsed
  rw [dueTick_of_tickDue h fun p hp => (Bool.and_eq_true_iff.mp (Bool.and_eq_true_iff.mp hp).1).1]
  refine tick_requests s d _ _ _ h (fun p hp => ?_) (fun p hp => ?_) (fun p hp => ?_) (fun p hp => ?_) s
  all_goals
    obtain ⟨hdo, hhold⟩ := Bool.and_eq_true_iff.mp hp
    obtain ⟨hdue, hopen⟩ := Bool.and_eq_true_iff.mp hdo
  · rw [retryDue_held hdue]; rfl
  · exact prio67_of_waiting (Or.inr (retryDue_held hdue))
  · exact (Bool.not_eq_true' _).mp hhold
  · exact ⟨_, prio8_of_retryDue hdue ((Bool.not_eq_true' _).mp hopen), enter_st _ _ _ _, enter_cause _ _ _ _⟩

end Sys2Proof.Machine

/-!
PROOFS. The limit of a phase of a proof stroke (O6, R282).
-/
namespace Sys2Proof.Machine

/-! ## The check that a phase out of its time fails (R282) -/

/-! ### What the check of a stroke reads is outside PROOF_LAST -/

section
variable (p : State) {d : DIx} {f : Fld} (v : Nat) (hf : f.addr = dw d 0x720)
include hf

theorem rd_wrLast {g : Fld} (h : g.addr ≠ dw d 0x720) : (p.wr f v).rd g = p.rd g := rd_wr_addr p f g v (hf ▸ h)

theorem flag_wrLast {g : Fld} (h : g.addr ≠ dw d 0x720) : (p.wr f v).flag g = p.flag g := by
  unfold State.flag; rw [rd_wrLast p v hf h]

theorem sw_wrLast (n : Nat) : (p.wr f v).sw d n = p.sw d n := by
  unfold State.sw; rw [rd_wrLast p v hf (by simp only [dw]; omega)]

theorem atRestAt_wrLast (x : AIx) (y : Int) : (p.wr f v).atRestAt d x y = p.atRestAt d x y := by
  unfold State.atRestAt State.pos State.rdS
  rw [flag_wrLast p v hf (by simp only [dw, ax]; omega), rd_wrLast p v hf (g := F.POS d x) (by simp only [dw, en]; omega),
    rd_wrLast p v hf (by simp only [dw, ax]; omega)]

theorem phaseLimit_wrLast (n : Nat) : (p.wr f v).phaseLimit d n = p.phaseLimit d n := by
  unfold State.phaseLimit State.sealLimit
  rw [rd_wrLast p v hf (by simp only [dw]; omega), rd_wrLast p v hf (by simp only [dw]; omega), rd_wrLast p v hf (by simp only [dw]; omega)]

theorem phasePasses_wrLast (n : Nat) : (p.wr f v).phasePasses d n = p.phasePasses d n := by
  unfold State.phasePasses State.lockedOpen State.lockedMade State.proofOk State.leavesClosed
  simp only [sw_wrLast p v hf, atRestAt_wrLast p v hf]
  rw [rd_wrLast p v hf (by simp only [dw]; omega), rd_wrLast p v hf (by simp only [dw]; omega), flag_wrLast p v hf (by simp only [dw]; omega)]

theorem strokeCheck_wrLast : (p.wr f v).strokeCheck d = p.strokeCheck d := by
  unfold State.strokeCheck State.zeroSpeed
  simp only [sw_wrLast p v hf, phaseLimit_wrLast p v hf, phasePasses_wrLast p v hf]
  rw [flag_wrLast p v hf (by simp only [dw]; omega), flag_wrLast p v hf (by simp only [dw]; omega), rd_wrLast p v hf (by simp only [dw]; omega)]
  rfl

end

/-- The failure of a phase whose limit has passed, where no other check fails. -/
theorem strokeCheck_of_timeout {p : State} {d : DIx} (hz : p.zeroSpeed = true) (ho : ((p.obst d).cause.isSome && p.rd (F.OBST_STATUS_SS1 d) != 0) = false)
    (hp : p.flag (F.PROVE_STATUS_PLAUS_ERR d) = false) (hs : p.sw d 4 = true) (hpass : p.phasePasses d (p.seq d).phase = false)
    {n : Nat} (hn : p.phaseLimit d (p.seq d).phase = some n) (ht : p.past (p.seq d).phaseFrom (msT n) = true) :
    p.strokeCheck d = some (p.seq d).phase := by
  unfold State.strokeCheck
  simp only [hz, ho, hp, hs, hpass, hn, ht, Bool.not_true, Bool.not_false, Bool.and_true, Bool.false_eq_true, if_false, if_true]

/-- What the failure of a stroke leaves: every field but STOPPING of the leaves and the registers of the lock channel. -/
theorem strokeFail_rd (p : State) (d : DIx) (c : Nat) (g : Fld) (hc : chanReg d g.addr = false)
    (hs : ∀ x : AIx, g.addr ≠ ax d x 0x0 ∨ g.lo + g.w ≤ 3) : (p.strokeFail d c).rd g = p.rd g := by
  have stop : ∀ (t : State) (x : AIx) (k : Gen), (t.stopAxis d x k).rd g = t.rd g := by
    intro t x k
    unfold State.stopAxis
    refine ite_keeps (State.rd · g) _ _ _ _ ?_ rfl
    exact (rd_wr_ne _ _ _ _ ((hs x).imp_right fun h => ⟨by simp, Or.inl h⟩)).trans (modAx_rd _ _ _ _ _)
  have lock : ∀ t : State, (t.setLock d false).rd g = t.rd g := by
    intro t
    unfold State.setLock
    refine ite_keeps (State.rd · g) _ _ _ _ (rd_congr (evalChans_reg _ _ _ hc)) ?_
    exact ((rd_congr (evalChans_reg _ _ _ hc)).trans (modCyc_rd _ _ _ _)).trans
      ((modSeq_rd _ _ _ _).trans (rd_wr_addr _ _ _ _ (chanReg_ne hc).1))
  unfold State.strokeFail State.stopLeaves
  refine ite_keeps (State.rd · g) _ _ _ _ rfl ?_
  rw [lock, stop, stop, modSeq_rd]

/-- The registers of the channels are not those of the axes, nor OBST_STATUS. -/
theorem chanReg_ax (d : DIx) (x : AIx) : chanReg d (ax d x 0x0) = false := by
  have := x.isLt
  simp only [chanReg, Bool.or_eq_false_iff, beq_eq_false_iff_ne, ne_eq, List.any_eq_false, beq_iff_eq]
  exact ⟨by simp only [dw, ax]; omega, fun k _ => by simp only [ch, ax]; omega⟩

theorem chanReg_dw (d : DIx) (o : Nat) (h : o < 0x700) : chanReg d (dw d o) = false := by
  simp only [chanReg, Bool.or_eq_false_iff, beq_eq_false_iff_ne, ne_eq, List.any_eq_false, beq_iff_eq]
  exact ⟨by simp only [dw]; omega, fun k _ => by simp only [dw, ch]; omega⟩

/-- The failure of a stroke leaves whether its leaves move and what SS1 does. -/
theorem strokeFail_leafMoving (p : State) (d : DIx) (c : Nat) : (p.strokeFail d c).leafMoving d = p.leafMoving d := by
  have moving : ∀ x : AIx, (p.strokeFail d c).rd (F.AX_STATUS_MOVING d x) = p.rd (F.AX_STATUS_MOVING d x) :=
    fun x => strokeFail_rd p d c _ (chanReg_ax d x) (fun _ => Or.inr (by simp))
  unfold State.leafMoving State.flag; rw [moving, moving]

theorem strokeFail_ss1 (p : State) (d : DIx) (c : Nat) : (p.strokeFail d c).rd (F.OBST_STATUS_SS1 d) = p.rd (F.OBST_STATUS_SS1 d) :=
  strokeFail_rd p d c _ (chanReg_dw d 0x600 (by decide)) (fun x => Or.inl (by have := x.isLt; simp only [dw, ax]; omega))

/-! ## What the tick leaves of a stroke that has ended -/

/-- A field of PROOF_LAST below PHASE. -/
def belowPhase (d : DIx) (g : Fld) : Prop := g.addr = dw d 0x720 ∧ g.lo + g.w ≤ 12

/-- In UNPROVEN the drive enables go low, unless SS1 runs. -/
theorem denService_unproven {s : State} {d : DIx} (h : s.st d = .unproven) :
    s.denService d = if s.rd (F.OBST_STATUS_SS1 d) = 1 then s else s.denOff d := by
  unfold State.denService; rw [h]; rfl

section
variable {d : DIx} {g : Fld} (hg : belowPhase d g)
include hg

/-- The refusal of the requests that are left writes no field of PROOF_LAST but PHASE. -/
theorem refuseReqs_belowPhase (s : State) (x y : Bool) : (s.refuseReqs d x y).rd g = s.rd g := by
  have hf : followed d g := Or.inr hg.1
  have phase : ∀ (t : State) (v : Nat), (t.wr (F.PROOF_LAST_PHASE d) v).rd g = t.rd g := fun t v => rd_wr_ne _ _ _ _ (Or.inr ⟨by simp, Or.inl hg.2⟩)
  unfold State.refuseReqs
  extract_lets s1 s2 s3
  have e1 : s1.rd g = s.rd g := when_keeps (State.rd · g) _ _ _ (refuseReq_followed hf _ _ (by simp only [beside, dw]; omega))
  have e2 : s2.rd g = s1.rd g := when_keeps (State.rd · g) _ _ _ (modSeq_rd _ _ _ _)
  have e3 : s3.rd g = s2.rd g := when_keeps (State.rd · g) _ _ _ (refuseReq_followed hf _ _ (by simp only [beside, dw]; omega))
  have e : s3.rd g = s.rd g := by rw [e3, e2, e1]
  clear_value s3
  split
  · split
    · rw [phase, e]
    · refine (when_keeps (State.rd · g) _ _ _ ?_).trans ?_
      · exact phase _ _
      · rw [refuseReq_followed hf _ _ (by simp only [beside, dw]; omega), e]
  · exact e

/-- What a tick serves in UNPROVEN writes nothing of PROOF_LAST. -/
theorem tickServe_belowPhase (s : State) (hst : s.st d = .unproven) : (s.tickServe d).rd g = s.rd g := by
  have off : ∀ t : State, (t.denOff d).rd g = t.rd g := by
    intro t
    refine rd_congr (denOff_reg t d g.addr ?_)
    rw [hg.1]
    simp only [torqueReg, recReg, Bool.or_eq_false_iff, beq_eq_false_iff_ne, ne_eq, List.any_eq_false, beq_iff_eq, Bool.or_eq_true, not_or]
    refine ⟨⟨⟨⟨?_, ?_⟩, ?_⟩, fun x _ => ⟨⟨?_, ?_⟩, ?_⟩⟩, ?_, ?_⟩ <;> simp only [dw, ax] <;> omega
  unfold State.tickServe
  extract_lets s1 s2
  have hst2 : s2.st d = .unproven := (st_congr ((denService_still (still_seq d) _).trans (modSeq_reg _ _ _ _))).trans hst
  have e2 : s2.rd g = s.rd g := by
    have hst1 : s1.st d = .unproven := (st_congr (modSeq_reg _ _ _ _)).trans hst
    have e1 : s1.rd g = s.rd g := modSeq_rd _ _ _ _
    rw [← e1]
    clear_value s1
    simp only [s2, denService_unproven hst1]
    exact ite_keeps (State.rd · g) _ _ _ _ rfl (off _)
  clear_value s2
  rw [when_keeps (State.rd · g), e2]
  unfold State.presentTargets
  rw [hst2]

end

/-- The end of a stroke shows in PROOF_LAST whether it passed, and why not. -/
theorem endStroke_pass (s : State) (d : DIx) (pass : Bool) (c : Nat) : (s.endStroke d pass c).flag (F.PROOF_LAST_PASS d) = pass := by
  unfold State.endStroke
  extract_lets ms s1 s2
  have e2 : s2.flag (F.PROOF_LAST_PASS d) = s1.flag (F.PROOF_LAST_PASS d) := by
    simp only [s2]
    rw [flag_wr_ne _ _ _ _ (Or.inr ⟨by simp, Or.inl (by simp)⟩), flag_wr_ne _ _ _ _ (Or.inr ⟨by simp, Or.inl (by simp)⟩),
      flag_wr_ne _ _ _ _ (Or.inr ⟨by simp, Or.inl (by simp)⟩)]
  rw [stage_flag _ _ _ _ _ (by simp only [recReg, dw, Bool.or_eq_false_iff, beq_eq_false_iff_ne]; omega), modSeq_flag, e2]
  exact (flag_wr_ne _ _ _ _ (Or.inr ⟨by simp, Or.inl (by simp)⟩)).trans (flag_setF_same _ _ _ (by simp) rfl)

theorem endStroke_cause (s : State) (d : DIx) (pass : Bool) (c : Nat) : (s.endStroke d pass c).rd (F.PROOF_LAST_CAUSE d) = c % 16 := by
  unfold State.endStroke
  extract_lets ms s1 s2
  have e2 : s2.rd (F.PROOF_LAST_CAUSE d) = c % 16 := by
    simp only [s2]
    rw [rd_wr_ne _ _ _ _ (Or.inr ⟨by simp, Or.inl (by simp)⟩), rd_wr_ne _ _ _ _ (Or.inr ⟨by simp, Or.inl (by simp)⟩)]
    exact rd_wr_same _ _ _ (by simp)
  rw [stage_rd _ _ _ _ _ (by simp only [recReg, dw, Bool.or_eq_false_iff, beq_eq_false_iff_ne]; omega), modSeq_rd, e2]

/-! ## The tick that finds the limit passed -/

/-- The state in which a check has failed, with the time of the stroke so far. -/
def strokeFailed (p : State) (d : DIx) (c : Nat) : State :=
  (p.wr (F.PROOF_LAST_DURATION d) (p.msSince (p.seq d).strokeFrom 65535)).strokeFail d c

theorem fail_eq_failOf (t : State) (d : DIx) : (t.seq d).fail = failOf d t := rfl

theorem failOf_strokeFailed {p : State} {d : DIx} {c : Nat} (h : (p.seq d).fail = none) : failOf d (strokeFailed p d c) = some c := by
  rw [fail_eq_failOf] at h
  unfold strokeFailed
  exact failOf_strokeFail d _ c ((failOf_wr d p _ _).trans h)

/-- The tick of a stroke whose check fails: the stroke ends at once where the leaves are at rest and no SS1 runs. -/
theorem strokeTick_of_check {p : State} {d : DIx} {c : Nat} (hf : (p.seq d).fail = none) (hc : p.strokeCheck d = some c) :
    p.strokeTick d = if p.leafMoving d || p.rd (F.OBST_STATUS_SS1 d) == 1 then strokeFailed p d c
      else (((strokeFailed p d c).endStroke d false c).enter d .unproven 0x13).endHold d := by
  have last : (F.PROOF_LAST_DURATION d).addr = dw d 0x720 := rfl
  have hl : (strokeFailed p d c).leafMoving d = p.leafMoving d := by
    unfold strokeFailed
    rw [strokeFail_leafMoving]
    unfold State.leafMoving
    rw [flag_wrLast p _ last (by simp only [dw, ax]; omega), flag_wrLast p _ last (by simp only [dw, ax]; omega)]
  have hs : (strokeFailed p d c).rd (F.OBST_STATUS_SS1 d) = p.rd (F.OBST_STATUS_SS1 d) := by
    unfold strokeFailed
    rw [strokeFail_ss1, rd_wrLast p _ last (g := F.OBST_STATUS_SS1 d) (by simp only [dw]; omega)]
  unfold State.strokeTick State.strokeRun
  have hf' : ((p.wr (F.PROOF_LAST_DURATION d) (p.msSince (p.seq d).strokeFrom 65535)).seq d).fail = none := (failOf_wr d p _ _).trans hf
  rw [hf']
  rw [strokeCheck_wrLast p _ last, hc]
  show (strokeFailed p d c).strokeEnds d c = _
  unfold State.strokeEnds
  rw [hl, hs]

/-- A stroke that has ended in UNPROVEN reads so after the tick, with its end in PROOF_LAST. -/
theorem stroke_ended (s' u : State) (d : DIx) (c : Nat) (t : State)
    (ht : t = s'.done ((((((u.endStroke d false c).enter d .unproven 0x13).endHold d).refuseRest d).tickServe d).keepTick d)) :
    t.st d = .unproven ∧ t.rd (F.SEQ_CAUSE d) = 0x13 ∧ t.flag (F.PROOF_LAST_PASS d) = false ∧ t.rd (F.PROOF_LAST_CAUSE d) = c % 16 := by
  have hseq : t.reg (dw d 0) = ((u.endStroke d false c).enter d .unproven 0x13).reg (dw d 0) := by
    rw [ht, done_reg _ _ _ (gatedReg_dw d 0 (by decide) (by decide)), keepTick_still (still_seq d), tickServe_still (still_seq d),
      refuseRest_still (still_seq d), endHold_still (still_seq d)]
  have hrest : ((((u.endStroke d false c).enter d .unproven 0x13).endHold d).refuseRest d).st d = .unproven :=
    (st_congr ((refuseRest_still (still_seq d) _).trans (endHold_still (still_seq d) _))).trans (enter_st _ _ _ _)
  have hlast : ∀ g : Fld, belowPhase d g → t.rd g = (u.endStroke d false c).rd g := by
    intro g hg
    have hf : followed d g := Or.inr hg.1
    rw [ht, done_rd _ _ _ (hg.1 ▸ gatedReg_dw d 0x720 (by decide) (by decide))]
    unfold State.keepTick
    rw [modTopi_rd, tickServe_belowPhase hg _ hrest]
    unfold State.refuseRest State.endHold
    rw [refuseReqs_belowPhase hg, setF_followed hf _ _ _ (by simp only [beside, dw]; omega), enter_followed hf _ _ _ rfl,
      if_neg (by simp [hg.1, dw])]
  refine ⟨(st_congr hseq).trans (enter_st _ _ _ _), (rd_congr (f := F.SEQ_CAUSE d) hseq).trans (enter_cause _ _ _ _), ?_, ?_⟩
  · unfold State.flag
    rw [hlast _ ⟨rfl, by simp⟩]
    exact endStroke_pass u d false c
  · rw [hlast _ ⟨rfl, by simp⟩, endStroke_cause]

theorem proofPhaseTimeout_runs (s : State) (d : DIx) (h : s.tickDue d (fun p => p.st d == SeqState.proofStroke && (p.seq d).fail == none && p.zeroSpeed &&
      !((p.obst d).cause.isSome && p.rd (F.OBST_STATUS_SS1 d) != 0) && !p.flag (F.PROVE_STATUS_PLAUS_ERR d) && p.sw d 4 && !p.phasePasses d (p.seq d).phase &&
      (match p.phaseLimit d (p.seq d).phase with | some n => p.past (p.seq d).phaseFrom (msT n) | none => false)) = true) :
    Runs (.proofPhaseTimeout d) s fun t =>
      (if (s.tickSees d).leafMoving d = true ∨ (s.tickSees d).rd (F.OBST_STATUS_SS1 d) = 1 then (t.seq d).fail = some ((s.tickSees d).seq d).phase
       else t.st d = SeqState.unproven ∧ t.rd (F.SEQ_CAUSE d) = 0x13 ∧ t.flag (F.PROOF_LAST_PASS d) = false ∧
        t.rd (F.PROOF_LAST_CAUSE d) = ((s.tickSees d).seq d).phase % 16) := by
  refine ⟨s.done (proofPhaseTimeout d s), rfl, ?_⟩
  unfold proofPhaseTimeout
  rw [dueTick_of_tickDue h fun p hp => by
    simp only [Bool.and_eq_true] at hp ⊢
    obtain ⟨⟨⟨⟨⟨⟨⟨hst, _⟩, _⟩, _⟩, _⟩, _⟩, _⟩, hlate⟩ := hp
    exact ⟨hst, hlate⟩]
  obtain ⟨e1, hd, h123, -, -⟩ := tickDue_runs s d _ h
  generalize s.tickSees d = p at *
  simp only [Bool.and_eq_true, beq_iff_eq, Bool.not_eq_true'] at hd
  obtain ⟨⟨⟨⟨⟨⟨⟨hst, hfail⟩, hz⟩, ho⟩, hp⟩, hs⟩, hpass⟩, hlate⟩ := hd
  obtain ⟨n, hn, hpast⟩ : ∃ n, p.phaseLimit d (p.seq d).phase = some n ∧ p.past (p.seq d).phaseFrom (msT n) = true := by
    cases hn : p.phaseLimit d (p.seq d).phase with
    | none => rw [hn] at hlate; cases hlate
    | some n => rw [hn] at hlate; exact ⟨n, rfl, hlate⟩
  have hcheck := strokeCheck_of_timeout hz ho hp hs hpass hn hpast
  rw [e1, decide_stroke p d h123 (beq_iff_eq.mpr hst), strokeTick_of_check hfail hcheck]
  by_cases hrest : p.leafMoving d = true ∨ p.rd (F.OBST_STATUS_SS1 d) = 1
  · rw [if_pos hrest, if_pos (by simpa using hrest), done_seq]
    rw [fail_eq_failOf, failOf_keepTick, failOf_tickServe, failOf_refuseRest]
    exact failOf_strokeFailed hfail
  · rw [if_neg hrest, if_neg (by simpa using hrest)]
    exact stroke_ended s _ d _ _ rfl

/-- Settles O6: a request sets its bit or its mark and nothing else, and a timer that is due runs the tick, which takes the rule of the state. -/
theorem requestsWaitAndTimersEnd : Obligations.RequestsWaitAndTimersEnd :=
  ⟨openReq_runs, closeReq_runs, proofReq_runs, proofAll_runs, passengerOpenInput_runs, autoCloseElapsed_runs, retryDelayElapsed_runs,
    proofPhaseTimeout_runs⟩

end Sys2Proof.Machine

/-!
PROOFS. The tasks of split pairs, adaptation, rest and the learning run (O14).
-/
namespace Sys2Proof.Machine

/-! ## What a record, a write and the gates leave of Topiary (R94, R125) -/

theorem wr_topi (s : State) (f : Fld) (v : Nat) (d : DIx) : (s.wr f v).topi d = s.topi d := by
  unfold State.topi; rw [wr_dwy]

theorem stage_topi (s : State) (c e : Nat) (ws : List Nat) (d : DIx) : (s.stage c e ws).topi d = s.topi d := by
  unfold State.topi; rw [stage_dwy]

theorem done_topi (s t : State) (d : DIx) : (s.done t).topi d = t.topi d := by
  unfold State.topi; rw [done_dwy]

/-- A record is written below the windows of the doorways. -/
theorem recReg_window {a : Nat} (h : 0x10000 ≤ a) : recReg a = false := by
  simp only [recReg, Bool.or_eq_false_iff, beq_eq_false_iff_ne]; omega

theorem wrSat_rd (s : State) (a lo w v : Nat) (h : lo + w ≤ 32) : (s.wrSat ⟨a, lo, w⟩ v).rd ⟨a, lo, w⟩ = min v (2 ^ w - 1) :=
  (wr_rd _ _ _ _ _ h).trans (Nat.mod_eq_of_lt (Nat.lt_of_le_of_lt (Nat.min_le_right _ _) (Nat.sub_lt (Nat.two_pow_pos w) Nat.one_pos)))

end Sys2Proof.Machine

namespace Sys2Proof.Machine

/-! ## Tasks of split pairs (R155–R158) -/

/-- A task shows itself in the window of its engine alone. -/
theorem runTask_reg (s : State) (k a : Nat) (h : 0xC000 ≤ a) : (s.runTask k).reg a = s.reg a := by
  unfold State.runTask
  extract_lets pool
  split
  · rfl
  next e _ =>
    have hp := e.1.isLt
    have hn : a ≠ eng e.1 0x24 := by unfold eng; omega
    refine (reg_inc_other _ _ _ hn).trans ((reg_wr_other _ _ _ _ ?_).trans (reg_with_cop _ _ _))
    split <;> exact hn

/-- A task moves the turn of the pool, and leaves when the tasks last ran. -/
theorem runTask_dates (s : State) (k : Nat) : (s.runTask k).cop.seamAt = s.cop.seamAt ∧ (s.runTask k).cop.occAt = s.cop.occAt := by
  unfold State.runTask
  extract_lets pool
  split
  · exact ⟨rfl, rfl⟩
  · rw [inc_cop, wr_cop]
    exact ⟨rfl, rfl⟩

/-- With an engine in the pool, a task that overflows is an accumulator overflow of its doorway. -/
theorem taskOverflow_eq (s : State) (d : DIx) (k : Nat) (h : s.taskPool ≠ []) :
    ∃ (v : State) (ctr who : Nat), s.taskOverflow d k = v.accOverflow d 0 ctr who ∧ (∀ a, 0xC000 ≤ a → v.reg a = s.reg a) ∧
      v.cop.seamAt = s.cop.seamAt ∧ v.cop.occAt = s.cop.occAt := by
  have hl : s.cop.turn % s.taskPool.length < s.taskPool.length := Nat.mod_lt _ (List.length_pos_iff.mpr h)
  unfold State.taskOverflow
  extract_lets pool
  split
  next e => exact absurd (List.getElem?_eq_none_iff.mp e) (Nat.not_le.mpr hl)
  next e _ =>
    have hp := e.1.isLt
    refine ⟨_, _, _, rfl, fun a ha => ?_, ?_, ?_⟩
    · have h1 : a ≠ eng e.1 0x24 := by unfold eng; omega
      have h0 : a ≠ eng e.1 0 := by unfold eng; omega
      refine (reg_setF_other _ _ _ _ ?_).trans ((reg_wr_other _ _ _ _ ?_).trans (reg_with_cop _ _ _))
      · split <;> exact h0
      · split <;> exact h1
    · rw [setF_cop, wr_cop]
    · rw [setF_cop, wr_cop]

/-- Overflows are counted, marked, and break the proof run. -/
theorem accOverflow_reg (v : State) (d : DIx) (n ctr who a : Nat) (h : 0x10000 ≤ a) :
    (v.accOverflow d n ctr who).reg a = (((v.inc (F.ACC_OVF_CNT d)).setF (F.TOPI_STATUS_ACC_OVF d) true).wr (F.PROOF_CONSEC d) 0).reg a :=
  stage_reg _ _ _ _ _ (recReg_window h)

theorem accOverflow_cop (v : State) (d : DIx) (n ctr who : Nat) : (v.accOverflow d n ctr who).cop = v.cop :=
  (stage_cop _ _ _ _).trans ((wr_cop _ _ _).trans ((setF_cop _ _ _).trans (inc_cop _ _)))

theorem accOverflow_counts (v : State) (d : DIx) (n ctr who : Nat) :
    (v.accOverflow d n ctr who).rd (F.ACC_OVF_CNT d) = min (v.rd (F.ACC_OVF_CNT d) + 1) (2 ^ (F.ACC_OVF_CNT d).w - 1) := by
  rw [rd_congr (accOverflow_reg v d n ctr who _ (by simp only [dw]; omega)), wr_rd_dw _ _ _ _ _ _ _ _ _ (by decide), State.setF,
    wr_rd_dw _ _ _ _ _ _ _ _ _ (by decide)]
  exact rd_inc_same v (F.ACC_OVF_CNT d) (by simp)

theorem accOverflow_marks (v : State) (d : DIx) (n ctr who : Nat) :
    (v.accOverflow d n ctr who).flag (F.TOPI_STATUS_ACC_OVF d) = true := by
  rw [flag_congr (accOverflow_reg v d n ctr who _ (by simp only [dw]; omega)), wr_flag_dw _ _ _ _ _ _ _ _ _ (by decide), setF_flag _ _ _ _ (by decide)]

/-- The results of the tasks stay. -/
theorem accOverflow_results (v : State) (d : DIx) (n ctr who a : Nat) (h : dw d 0x244 ≤ a) : (v.accOverflow d n ctr who).reg a = v.reg a := by
  have hn : ∀ o, o < 0x244 → a ≠ dw d o := fun o ho => by simp only [dw] at h ⊢; omega
  rw [accOverflow_reg v d n ctr who a (by simp only [dw] at h; omega), reg_wr_other _ _ _ _ (hn _ (by decide)),
    reg_setF_other _ _ _ _ (hn _ (by decide)), reg_inc_other _ _ _ (hn _ (by decide))]

/-! ### The seal-seam task (R155) -/

/-- The list of when the tasks of each doorway last ran, with doorway d's entry at `now`. -/
def tookTurn (now : Nat) (d : DIx) (l : List (Nat × Nat)) : List (Nat × Nat) := (d.val, now) :: l.filter (fun x => x.1 != d.val)

theorem tookTurn_find (now : Nat) (d : DIx) (l : List (Nat × Nat)) : (tookTurn now d l).find? (fun x => x.1 == d.val) = some (d.val, now) :=
  List.find?_cons_of_pos (beq_self_eq_true _)

/-- The seam task of the doorway has its turn now. -/
def State.seamTurn (s : State) (d : DIx) : State := { s with cop := { s.cop with seamAt := tookTurn s.now d s.cop.seamAt } }

/-- The occupancy task of the doorway has its turn now. -/
def State.occTurn (s : State) (d : DIx) : State := { s with cop := { s.cop with occAt := tookTurn s.now d s.cop.occAt } }

/-- SEAM_SUM with the largest opening and its band. -/
def State.showSeam (s : State) (d : DIx) (best : Nat × Nat) (warn : Bool) : State :=
  (((s.wrSat (F.SEAM_SUM_MAX_OPEN d) best.1).wr (F.SEAM_SUM_MAX_BAND d) best.2).wr (F.SEAM_SUM_AGE d) 0).setF (F.SEAM_SUM_WARN d) warn

theorem showSeam_reads (s : State) (d : DIx) (best : Nat × Nat) (warn : Bool) :
    (s.showSeam d best warn).rd (F.SEAM_SUM_MAX_OPEN d) = min best.1 65535 ∧ (s.showSeam d best warn).flag (F.SEAM_SUM_WARN d) = warn ∧
      (s.showSeam d best warn).rd (F.SEAM_SUM_AGE d) = 0 := by
  refine ⟨?_, setF_flag _ _ _ _ (by decide), ?_⟩
  · unfold State.showSeam State.setF
    rw [wr_rd_bits _ _ _ _ _ _ _ (by decide) (by decide), wr_rd_bits _ _ _ _ _ _ _ (by decide) (by decide),
      wr_rd_bits _ _ _ _ _ _ _ (by decide) (by decide)]
    exact wrSat_rd _ _ _ _ _ (by decide)
  · unfold State.showSeam State.setF
    rw [wr_rd_bits _ _ _ _ _ _ _ (by decide) (by decide)]
    exact wr_rd _ _ _ _ _ (by decide)

/-- The warning of an opening is recorded once. -/
def State.warnSeam (s : State) (d : DIx) (best : Nat × Nat) (warn : Bool) : State :=
  if warn && !s.cop.warned.contains d.val then
    ({ s with cop := { s.cop with warned := d.val :: s.cop.warned } } : State).stage 0x0303 d.val [s.rd (F.SEAM_SUM_MAX_OPEN d), best.2]
  else s

theorem warnSeam_reg (s : State) (d : DIx) (best : Nat × Nat) (warn : Bool) (a : Nat) (h : 0x10000 ≤ a) : (s.warnSeam d best warn).reg a = s.reg a :=
  ite_keeps (fun t => t.reg a) _ _ _ _ ((stage_reg _ _ _ _ _ (recReg_window h)).trans (reg_with_cop _ _ _)) rfl

theorem warnSeam_seamAt (s : State) (d : DIx) (best : Nat × Nat) (warn : Bool) : (s.warnSeam d best warn).cop.seamAt = s.cop.seamAt :=
  ite_keeps (fun t => t.cop.seamAt) _ _ _ _ ((congrArg CopH.seamAt (stage_cop _ _ _ _)).trans rfl) rfl

/-- What a seam task with a result leaves. -/
def State.seamDone (s : State) (d : DIx) (best : Nat × Nat) (warn : Bool) : State := (((s.seamTurn d).showSeam d best warn).runTask 1).warnSeam d best warn

theorem seamDone_reg (s : State) (d : DIx) (best : Nat × Nat) (warn : Bool) (a : Nat) (h : 0x10000 ≤ a) :
    (s.seamDone d best warn).reg a = ((s.seamTurn d).showSeam d best warn).reg a :=
  (warnSeam_reg _ _ _ _ _ h).trans (runTask_reg _ _ _ (by omega))

theorem seamDone_seamAt (s : State) (d : DIx) (best : Nat × Nat) (warn : Bool) : (s.seamDone d best warn).cop.seamAt = tookTurn s.now d s.cop.seamAt := by
  have h : ((s.seamTurn d).showSeam d best warn).cop = (s.seamTurn d).cop := by
    unfold State.showSeam; rw [setF_cop, wr_cop, wr_cop, wrSat_cop]
  exact (warnSeam_seamAt _ _ _ _).trans ((runTask_dates _ _).1.trans (congrArg CopH.seamAt h))

/-- The seam task of a doorway in which the logic runs: nothing where it is not due or no frame is there, else its result or its overflow. -/
theorem sealSeamTask_eq {s : State} {d : DIx} (ovf : Bool) (h : s.on d = true) : sealSeamTask d ovf s =
    match (s.head d).raws with
    | [] => s
    | r :: _ => if !s.taskDue d s.cop.seamAt F.COPPICE_CFG_SEAM_EN then s
      else if ovf then (s.seamTurn d).taskOverflow d 1
      else s.seamDone d (largestBand (s.seamOpenings d r)) (decide (2 * s.rd F.COPPICE_CFG_SEAM_WARN < 5 * (largestBand (s.seamOpenings d r)).1)) :=
  onD_of_on h _

/-- A seam task that is not due, or has no frame, changes nothing. -/
theorem sealSeamTask_idle {s : State} {d : DIx} (ovf : Bool) (hon : s.on d = true)
    (h : s.taskDue d s.cop.seamAt F.COPPICE_CFG_SEAM_EN = false ∨ (s.head d).raws = []) : sealSeamTask d ovf s = s := by
  rw [sealSeamTask_eq ovf hon]
  rcases hraw : (s.head d).raws with _ | ⟨r, l⟩
  · rfl
  · have hdue := h.resolve_right (by rw [hraw]; exact List.cons_ne_nil _ _)
    exact if_pos (by rw [hdue]; rfl)

/-- A seam task that is due takes the newest frame. -/
theorem sealSeamTask_due {s : State} {d : DIx} {r : RawFrame} {l : List RawFrame} (ovf : Bool) (hon : s.on d = true)
    (hdue : s.taskDue d s.cop.seamAt F.COPPICE_CFG_SEAM_EN = true) (hraw : (s.head d).raws = r :: l) : sealSeamTask d ovf s =
      if ovf then (s.seamTurn d).taskOverflow d 1
      else s.seamDone d (largestBand (s.seamOpenings d r)) (decide (2 * s.rd F.COPPICE_CFG_SEAM_WARN < 5 * (largestBand (s.seamOpenings d r)).1)) := by
  rw [sealSeamTask_eq ovf hon, hraw]
  exact if_neg (by rw [hdue]; decide)

/-- One band's step of the search for the largest opening. -/
def widerBand (b : Nat × Nat) (x : Option Nat × Nat) : Nat × Nat := match x.1 with | some v => if b.1 < v then (v, x.2) else b | none => b

theorem le_widerBand (b : Nat × Nat) (x : Option Nat × Nat) : b.1 ≤ (widerBand b x).1 ∧ ∀ v, x.1 = some v → v ≤ (widerBand b x).1 := by
  unfold widerBand
  split
  next w hw => split <;> simp [hw] <;> omega
  next hn => simp [hn]

theorem le_foldl_widerBand (l : List (Option Nat × Nat)) (b : Nat × Nat) :
    b.1 ≤ (l.foldl widerBand b).1 ∧ ∀ x ∈ l, ∀ v, x.1 = some v → v ≤ (l.foldl widerBand b).1 := by
  induction l generalizing b with
  | nil => exact ⟨Nat.le_refl _, fun x hx => absurd hx List.not_mem_nil⟩
  | cons y l ih =>
    obtain ⟨hb, hv⟩ := le_widerBand b y
    obtain ⟨hstart, hrest⟩ := ih (widerBand b y)
    refine ⟨Nat.le_trans hb hstart, fun x hx v hxv => ?_⟩
    rcases List.mem_cons.mp hx with rfl | hx
    · exact Nat.le_trans (hv v hxv) hstart
    · exact hrest x hx v hxv

/-- No band is wider than the largest. -/
theorem le_largestBand (l : List (Option Nat)) (v : Nat) (h : some v ∈ l) : v ≤ (largestBand l).1 := by
  rw [← List.map_fst_zip (l₂ := List.range l.length) (Nat.le_of_eq List.length_range.symm)] at h
  obtain ⟨x, hx, hxv⟩ := List.mem_map.mp h
  exact (le_foldl_widerBand _ (0, 0)).2 x hx v hxv

theorem sealSeamTask_runs (s : State) (d : DIx) (r : RawFrame) (l : List RawFrame) (hon : s.on d = true)
    (hdue : s.taskDue d s.cop.seamAt F.COPPICE_CFG_SEAM_EN = true) (hraw : (s.head d).raws = r :: l) :
    Runs (.sealSeamTask d false) s fun t =>
      ((s.seamOpenings d r).all (fun b => match b with | some v => decide (min v 65535 ≤ t.rd (F.SEAM_SUM_MAX_OPEN d)) | none => true)) = true ∧
      t.rd (F.SEAM_SUM_MAX_OPEN d) = min (largestBand (s.seamOpenings d r)).1 65535 ∧
      t.flag (F.SEAM_SUM_WARN d) = decide (2 * s.rd F.COPPICE_CFG_SEAM_WARN < 5 * (largestBand (s.seamOpenings d r)).1) ∧
      t.rd (F.SEAM_SUM_AGE d) = 0 ∧
      (t.cop.seamAt.find? (fun x => x.1 == d.val)) = some (d.val, s.now) := by
  refine ⟨_, rfl, ?_⟩
  rw [sealSeamTask_due false hon hdue hraw, if_neg Bool.false_ne_true]
  generalize hl : s.seamOpenings d r = bands
  obtain ⟨hmax, hwarn, hage⟩ := showSeam_reads (s.seamTurn d) d (largestBand bands) (decide (2 * s.rd F.COPPICE_CFG_SEAM_WARN < 5 * (largestBand bands).1))
  generalize decide (2 * s.rd F.COPPICE_CFG_SEAM_WARN < 5 * (largestBand bands).1) = warn at *
  have hreg : (s.done (s.seamDone d (largestBand bands) warn)).reg (dw d 0x250) = ((s.seamTurn d).showSeam d (largestBand bands) warn).reg (dw d 0x250) :=
    (done_reg _ _ _ (gatedReg_dw d _ (by decide) (by decide))).trans (seamDone_reg _ _ _ _ _ (by simp only [dw]; omega))
  have hopen := (rd_congr (f := F.SEAM_SUM_MAX_OPEN d) hreg).trans hmax
  refine ⟨?_, hopen, (flag_congr hreg).trans hwarn, (rd_congr hreg).trans hage, ?_⟩
  · rw [hopen, List.all_eq_true]
    intro b hb
    cases b with
    | none => rfl
    | some v =>
      have := le_largestBand bands v hb
      exact decide_eq_true (by omega)
  · rw [done_cop, seamDone_seamAt, tookTurn_find]

theorem sealSeamTask_idle_runs (s : State) (d : DIx) (ovf : Bool) (hon : s.on d = true)
    (h : s.taskDue d s.cop.seamAt F.COPPICE_CFG_SEAM_EN = false ∨ (s.head d).raws = []) :
    Runs (.sealSeamTask d ovf) s fun t => (s.Inv → s.sameBut t []) := by
  refine ⟨_, rfl, fun hi => ?_⟩
  rw [sealSeamTask_idle ovf hon h]
  exact done_same s hi

/-- What a task that overflows leaves, where `u` has the registers of `s`. -/
theorem done_taskOverflow (s u : State) (d : DIx) (k : Nat) (hp : u.taskPool ≠ []) (hu : ∀ a, u.reg a = s.reg a) :
    (s.done (u.taskOverflow d k)).rd (F.ACC_OVF_CNT d) = min (s.rd (F.ACC_OVF_CNT d) + 1) (2 ^ (F.ACC_OVF_CNT d).w - 1) ∧
    (s.done (u.taskOverflow d k)).flag (F.TOPI_STATUS_ACC_OVF d) = true ∧
    (∀ o, 0x244 ≤ o → o < 0x4A0 → (s.done (u.taskOverflow d k)).reg (dw d o) = s.reg (dw d o)) ∧
    (s.done (u.taskOverflow d k)).cop.seamAt = u.cop.seamAt ∧ (s.done (u.taskOverflow d k)).cop.occAt = u.cop.occAt := by
  obtain ⟨v, ctr, who, e, hv, hseam, hocc⟩ := taskOverflow_eq u d k hp
  have hw : ∀ o, v.reg (dw d o) = s.reg (dw d o) := fun o => (hv _ (by simp only [dw]; omega)).trans (hu _)
  rw [e, done_cop, accOverflow_cop]
  refine ⟨?_, ?_, fun o h1 h2 => ?_, hseam, hocc⟩
  · rw [done_rd_dw _ _ _ _ _ _ (by decide) (by decide), accOverflow_counts, rd_congr (hw _)]
  · rw [done_flag_dw _ _ _ _ _ _ (by decide) (by decide), accOverflow_marks]
  · rw [done_reg _ _ _ (gatedReg_dw d o (by omega) (by omega)), accOverflow_results _ _ _ _ _ _ (by simp only [dw]; omega), hw]

theorem sealSeamTask_overflow_runs (s : State) (d : DIx) (hon : s.on d = true) (hp : s.taskPool ≠ [])
    (hdue : s.taskDue d s.cop.seamAt F.COPPICE_CFG_SEAM_EN = true) (hraw : (s.head d).raws ≠ []) :
    Runs (.sealSeamTask d true) s fun t => t.rd (F.ACC_OVF_CNT d) = min (s.rd (F.ACC_OVF_CNT d) + 1) (2 ^ (F.ACC_OVF_CNT d).w - 1) ∧
      t.flag (F.TOPI_STATUS_ACC_OVF d) = true ∧
      t.rd (F.SEAM_SUM_MAX_OPEN d) = s.rd (F.SEAM_SUM_MAX_OPEN d) ∧
      t.rd (F.SEAM_SUM_MAX_BAND d) = s.rd (F.SEAM_SUM_MAX_BAND d) ∧
      t.rd (F.SEAM_SUM_WARN d) = s.rd (F.SEAM_SUM_WARN d) ∧
      t.rd (F.SEAM_SUM_AGE d) = s.rd (F.SEAM_SUM_AGE d) ∧
      (t.cop.seamAt.find? (fun x => x.1 == d.val)) = some (d.val, s.now) := by
  obtain ⟨r, l, hr⟩ := List.exists_cons_of_ne_nil hraw
  refine ⟨_, rfl, ?_⟩
  rw [sealSeamTask_due true hon hdue hr, if_pos rfl]
  obtain ⟨hcnt, hmark, hres, hseam, -⟩ := done_taskOverflow s (s.seamTurn d) d 1 hp (fun _ => rfl)
  have h := hres 0x250 (by decide) (by decide)
  exact ⟨hcnt, hmark, rd_congr h, rd_congr h, rd_congr h, rd_congr h, by rw [hseam]; exact tookTurn_find _ _ _⟩

/-! ### The occupancy task (R156) -/

/-- AREA, COUNT, QUALITY and the age of an occupancy result. -/
def State.showOcc (s : State) (d : DIx) (area per quality : Nat) : State :=
  let s := s.wrSat (F.OCC_AREA d) area
  let s := s.wrSat (F.OCC_COUNT d) (roundDiv (s.rd (F.OCC_AREA d)) per).toNat
  (s.wr (F.OCC_QUALITY d) quality).wr (F.OCC_AGE_AGE d) 0

theorem showOcc_reads (s : State) (d : DIx) (area per quality : Nat) (hq : quality < 256) :
    (s.showOcc d area per quality).rd (F.OCC_AREA d) = min area 65535 ∧
    (s.showOcc d area per quality).rd (F.OCC_COUNT d) = min (roundDiv (min area 65535 : Nat) per).toNat 255 ∧
    (s.showOcc d area per quality).rd (F.OCC_QUALITY d) = quality ∧ (s.showOcc d area per quality).rd (F.OCC_AGE_AGE d) = 0 := by
  have ha : (s.wrSat (F.OCC_AREA d) area).rd (F.OCC_AREA d) = min area 65535 := wrSat_rd _ _ _ _ _ (by decide)
  unfold State.showOcc
  dsimp only
  rw [ha]
  refine ⟨?_, ?_, ?_, wr_rd _ _ _ _ _ (by decide)⟩
  · rw [wr_rd_dw _ _ _ _ _ _ _ _ _ (by decide), wr_rd_bits _ _ _ _ _ _ _ (by decide) (by decide)]
    exact (wr_rd_bits _ _ _ _ _ _ _ (by decide) (by decide)).trans ha
  · rw [wr_rd_dw _ _ _ _ _ _ _ _ _ (by decide), wr_rd_bits _ _ _ _ _ _ _ (by decide) (by decide)]
    exact wrSat_rd _ _ _ _ _ (by decide)
  · rw [wr_rd_dw _ _ _ _ _ _ _ _ _ (by decide), wr_rd _ _ _ _ _ (by decide)]
    exact Nat.mod_eq_of_lt hq

/-- The share of valid floor pixels that a frame shows, % (log 194). -/
def State.floorShare (s : State) (d : DIx) (r : RawFrame) : Nat :=
  if (s.taskScene d).floorPixels.isEmpty then 0 else 100 * (s.floorSeen d r).length / (s.taskScene d).floorPixels.length

theorem floorShare_le (s : State) (d : DIx) (r : RawFrame) : s.floorShare d r ≤ 100 := by
  unfold State.floorShare
  split
  · exact Nat.zero_le _
  · have h : (s.floorSeen d r).length ≤ (s.taskScene d).floorPixels.length := List.length_filter_le _ _
    exact Nat.div_le_of_le_mul (by rw [Nat.mul_comm]; exact Nat.mul_le_mul_right _ h)

/-- What an occupancy task with a result leaves. -/
def State.occDone (s : State) (d : DIx) (r : RawFrame) : State :=
  ((s.occTurn d).showOcc d (s.occupiedArea d r) (s.rd F.COPPICE_CFG_PERSON_AREA) (s.floorShare d r)).runTask 2

theorem occDone_reg (s : State) (d : DIx) (r : RawFrame) (a : Nat) (h : 0xC000 ≤ a) : (s.occDone d r).reg a =
    ((s.occTurn d).showOcc d (s.occupiedArea d r) (s.rd F.COPPICE_CFG_PERSON_AREA) (s.floorShare d r)).reg a := runTask_reg _ _ _ h

theorem occDone_occAt (s : State) (d : DIx) (r : RawFrame) : (s.occDone d r).cop.occAt = tookTurn s.now d s.cop.occAt := by
  unfold State.occDone
  rw [(runTask_dates _ _).2]
  unfold State.showOcc
  rw [wr_cop, wr_cop, wrSat_cop, wrSat_cop]
  rfl

/-- The occupancy task of a doorway in which the logic runs: nothing where it is not due, where the seam task is due first, or no frame is there. -/
theorem occupancyTask_eq {s : State} {d : DIx} (ovf : Bool) (h : s.on d = true) : occupancyTask d ovf s =
    match (s.head d).raws with
    | [] => s
    | r :: _ => if !s.taskDue d s.cop.occAt F.COPPICE_CFG_OCC_EN || s.taskDue d s.cop.seamAt F.COPPICE_CFG_SEAM_EN then s
      else if ovf then (s.occTurn d).taskOverflow d 2 else s.occDone d r :=
  onD_of_on h _

theorem occupancyTask_idle {s : State} {d : DIx} (ovf : Bool) (hon : s.on d = true)
    (h : s.taskDue d s.cop.occAt F.COPPICE_CFG_OCC_EN = false ∨ s.taskDue d s.cop.seamAt F.COPPICE_CFG_SEAM_EN = true ∨ (s.head d).raws = []) :
    occupancyTask d ovf s = s := by
  rw [occupancyTask_eq ovf hon]
  rcases hraw : (s.head d).raws with _ | ⟨r, l⟩
  · rfl
  · refine if_pos ?_
    rcases h with h | h | h
    · rw [h]; rfl
    · rw [h, Bool.or_true]
    · rw [hraw] at h; cases h

/-- An occupancy task whose turn it is takes the newest frame. -/
theorem occupancyTask_due {s : State} {d : DIx} {r : RawFrame} {l : List RawFrame} (ovf : Bool) (hon : s.on d = true)
    (hdue : s.taskDue d s.cop.occAt F.COPPICE_CFG_OCC_EN = true) (hseam : s.taskDue d s.cop.seamAt F.COPPICE_CFG_SEAM_EN = false)
    (hraw : (s.head d).raws = r :: l) : occupancyTask d ovf s = if ovf then (s.occTurn d).taskOverflow d 2 else s.occDone d r := by
  rw [occupancyTask_eq ovf hon, hraw]
  exact if_neg (by rw [hdue, hseam]; decide)

theorem occupancyTask_runs (s : State) (d : DIx) (r : RawFrame) (l : List RawFrame) (hon : s.on d = true)
    (hdue : s.taskDue d s.cop.occAt F.COPPICE_CFG_OCC_EN = true) (hseam : s.taskDue d s.cop.seamAt F.COPPICE_CFG_SEAM_EN = false)
    (hraw : (s.head d).raws = r :: l) :
    Runs (.occupancyTask d false) s fun t => t.rd (F.OCC_AREA d) = min (s.occupiedArea d r) 65535 ∧
      t.rd (F.OCC_COUNT d) = min (roundDiv (t.rd (F.OCC_AREA d)) (s.rd F.COPPICE_CFG_PERSON_AREA)).toNat 255 ∧
      t.rd (F.OCC_QUALITY d) = (if (s.taskScene d).floorPixels.isEmpty then 0 else 100 * (s.floorSeen d r).length / (s.taskScene d).floorPixels.length) ∧
      t.rd (F.OCC_AGE_AGE d) = 0 ∧
      (t.cop.occAt.find? (fun x => x.1 == d.val)) = some (d.val, s.now) := by
  refine ⟨_, rfl, ?_⟩
  rw [occupancyTask_due false hon hdue hseam hraw, if_neg Bool.false_ne_true]
  obtain ⟨harea, hcount, hshare, hage⟩ := showOcc_reads (s.occTurn d) d (s.occupiedArea d r) (s.rd F.COPPICE_CFG_PERSON_AREA) (s.floorShare d r)
    (Nat.lt_of_le_of_lt (floorShare_le s d r) (by decide))
  have hreg : ∀ o, o < 0x4A0 → (s.done (s.occDone d r)).reg (dw d o) = _ := fun o ho =>
    (done_reg _ _ _ (gatedReg_dw d o (by omega) (by omega))).trans (occDone_reg s d r _ (by simp only [dw]; omega))
  have hres := hreg 0x254 (by decide)
  have har := (rd_congr (f := F.OCC_AREA d) hres).trans harea
  refine ⟨har, ?_, (rd_congr hres).trans hshare, (rd_congr (hreg 0x258 (by decide))).trans hage, ?_⟩
  · rw [har]; exact (rd_congr hres).trans hcount
  · rw [done_cop, occDone_occAt, tookTurn_find]

theorem occupancyTask_idle_runs (s : State) (d : DIx) (ovf : Bool) (hon : s.on d = true)
    (h : s.taskDue d s.cop.occAt F.COPPICE_CFG_OCC_EN = false ∨ s.taskDue d s.cop.seamAt F.COPPICE_CFG_SEAM_EN = true ∨ (s.head d).raws = []) :
    Runs (.occupancyTask d ovf) s fun t => (s.Inv → s.sameBut t []) := by
  refine ⟨_, rfl, fun hi => ?_⟩
  rw [occupancyTask_idle ovf hon h]
  exact done_same s hi

theorem occupancyTask_overflow_runs (s : State) (d : DIx) (hon : s.on d = true) (hp : s.taskPool ≠ [])
    (hdue : s.taskDue d s.cop.occAt F.COPPICE_CFG_OCC_EN = true) (hseam : s.taskDue d s.cop.seamAt F.COPPICE_CFG_SEAM_EN = false)
    (hraw : (s.head d).raws ≠ []) :
    Runs (.occupancyTask d true) s fun t => t.rd (F.ACC_OVF_CNT d) = min (s.rd (F.ACC_OVF_CNT d) + 1) (2 ^ (F.ACC_OVF_CNT d).w - 1) ∧
      t.flag (F.TOPI_STATUS_ACC_OVF d) = true ∧
      t.rd (F.OCC_AREA d) = s.rd (F.OCC_AREA d) ∧
      t.rd (F.OCC_COUNT d) = s.rd (F.OCC_COUNT d) ∧
      t.rd (F.OCC_QUALITY d) = s.rd (F.OCC_QUALITY d) ∧
      t.rd (F.OCC_AGE_AGE d) = s.rd (F.OCC_AGE_AGE d) ∧
      (t.cop.occAt.find? (fun x => x.1 == d.val)) = some (d.val, s.now) := by
  obtain ⟨r, l, hr⟩ := List.exists_cons_of_ne_nil hraw
  refine ⟨_, rfl, ?_⟩
  rw [occupancyTask_due true hon hdue hseam hr, if_pos rfl]
  obtain ⟨hcnt, hmark, hres, -, hocc⟩ := done_taskOverflow s (s.occTurn d) d 2 hp (fun _ => rfl)
  have h := hres 0x254 (by decide) (by decide)
  exact ⟨hcnt, hmark, rd_congr h, rd_congr h, rd_congr h, rd_congr (hres 0x258 (by decide) (by decide)), by rw [hocc]; exact tookTurn_find _ _ _⟩

end Sys2Proof.Machine

namespace Sys2Proof.Machine

/-! ## Adaptation (R125, R126) -/

/-- The offsets that a pass gives: each moves by at most one step towards its median residual. -/
def TopiH.newOffs (t : TopiH) : List Int :=
  (List.range t.offs.length).map (fun k => adaptStep (nth t.offs k 0) (nth ((List.range t.offs.length).map (residMedian t.resids)) k none))

/-- How often in a row each pixel has been held at its limit (R126). -/
def TopiH.heldN (t : TopiH) : List Nat :=
  (List.range t.offs.length).map (fun k => if atLimit (nth t.offs k 0) (nth ((List.range t.offs.length).map (residMedian t.resids)) k none)
    then Al.get (fun _ => 0) t.limitN k + 1 else 0)

/-- What a pass leaves behind the registers before the frame boundary. -/
def TopiH.adaptedNow (t : TopiH) : TopiH :=
  { t with offsNext := some t.newOffs, limitN := ((List.range t.offs.length).map (fun k => (k, nth t.heldN k 0))).filter (fun x => x.2 != 0),
           resids := [], adaptFrom := none, adapted := true }

/-- A pixel that has been at its limit for 16 passes shows DRIFT and is recorded (R126). -/
def State.driftCheck (s : State) (d : DIx) (t : TopiH) : State :=
  s.when (t.heldN.any (fun n => decide (16 ≤ n))) (fun u =>
    (u.setF (F.TOPI_STATUS_DRIFT d) true).stage 0x4201 d.val [t.newOffs.countP (fun o => o.natAbs == 12), maxOff t.newOffs])

theorem driftCheck_topi (s : State) (d : DIx) (t : TopiH) : (s.driftCheck d t).topi d = s.topi d :=
  when_keeps (fun u => u.topi d) _ _ _ ((stage_topi _ _ _ _ d).trans (wr_topi _ _ _ d))

theorem pairBound_of {s : State} {d : DIx} (h : s.resOf d poolEng < 32) (h2 : s.rd (F.PAIR_STATUS_STATE (Fin.ofNat 32 (s.resOf d poolEng))) = 2) :
    s.pairBound d = true := by
  unfold State.pairBound
  dsimp only
  rw [decide_eq_true h, h2]
  rfl

/-- A pass whose conditions hold: the new offsets wait for the frame boundary, or come into use at once (log 155). -/
theorem adaptationPass_eq {s : State} {d : DIx} {t0 : Nat} (hon : s.on d = true) (hfrom : (s.topi d).adaptFrom = some t0) (hlate : t0 + msT 500 ≤ s.now)
    (honce : (s.topi d).adapted = false) (hst : s.st d = .closedLocked) (hmodel : s.modelOk d = true) (hdrift : s.flag (F.TOPI_STATUS_DRIFT d) = false)
    (hpair : s.pairBound d = true) : adaptationPass d s =
    (if s.framed d then s.modTopi d (fun _ => (s.topi d).adaptedNow) else (s.modTopi d (fun _ => (s.topi d).adaptedNow)).frameBoundary d).driftCheck d (s.topi d) := by
  unfold adaptationPass
  have hpast : s.past t0 (msT 500) = true := decide_eq_true hlate
  rw [onD_of_on hon]
  dsimp only
  rw [hfrom]
  dsimp only
  rw [if_neg (by simp [honce, hpast, hst, hmodel, hdrift, hpair])]
  rfl

theorem frameBoundary_topi {s : State} {d : DIx} {l : List Int} (ho : (s.topi d).offsNext = some l) (hc : (s.topi d).confirmKey = none) :
    (s.frameBoundary d).topi d = { s.topi d with offs := l, offsNext := none } := by
  have ht : (s.takeOffs d l).topi d = { s.topi d with offs := l, offsNext := none } := (wr_topi _ _ _ d).trans (modTopi_same s d _)
  have hk : ((s.takeOffs d l).topi d).confirmKey = none := by rw [ht]; exact hc
  unfold State.frameBoundary
  rw [ho]
  dsimp only
  rw [hk]
  exact ht

section
variable (s : State) (d : DIx) (t0 : Nat) (hon : s.on d = true) (hfrom : (s.topi d).adaptFrom = some t0) (hlate : t0 + msT 500 ≤ s.now)
  (honce : (s.topi d).adapted = false) (hst : s.st d = .closedLocked) (hmodel : s.modelOk d = true) (hdrift : s.flag (F.TOPI_STATUS_DRIFT d) = false)
  (hres : s.resOf d poolEng < 32) (hpst : s.rd (F.PAIR_STATUS_STATE (Fin.ofNat 32 (s.resOf d poolEng))) = 2)
include hon hfrom hlate honce hst hmodel hdrift hres hpst

/-- What stands behind the registers after a pass: with frames the offsets wait, without them they are in use. -/
theorem adaptationPass_topi (hkey : s.framed d = false → (s.topi d).confirmKey = none) : (s.done (adaptationPass d s)).topi d =
    if s.framed d then (s.topi d).adaptedNow else { (s.topi d).adaptedNow with offs := (s.topi d).newOffs, offsNext := none } := by
  rw [done_topi, adaptationPass_eq hon hfrom hlate honce hst hmodel hdrift (pairBound_of hres hpst), driftCheck_topi]
  have hm : (s.modTopi d (fun _ => (s.topi d).adaptedNow)).topi d = (s.topi d).adaptedNow := modTopi_same s d _
  cases hf : s.framed d with
  | true => exact hm
  | false =>
    refine (frameBoundary_topi (l := (s.topi d).newOffs) ?_ ?_).trans ?_
    · rw [hm]; rfl
    · rw [hm]; exact hkey hf
    · rw [hm]; rfl

theorem adaptationPass_framed_runs (hf : s.framed d = true) :
    Runs (.adaptationPass d) s fun t => (t.topi d).adapted = true ∧ (t.topi d).adaptFrom = none ∧ (t.topi d).resids = [] ∧
      (t.topi d).offsNext = some (s.topi d).newOffs ∧ (t.topi d).offs = (s.topi d).offs := by
  refine ⟨s.done (adaptationPass d s), rfl, ?_⟩
  dsimp only
  rw [adaptationPass_topi s d t0 hon hfrom hlate honce hst hmodel hdrift hres hpst (fun h => by rw [hf] at h; cases h), if_pos hf]
  exact ⟨rfl, rfl, rfl, rfl, rfl⟩

theorem adaptationPass_unframed_runs (hf : s.framed d = false) (hkey : (s.topi d).confirmKey = none) :
    Runs (.adaptationPass d) s fun t => (t.topi d).adapted = true ∧ (t.topi d).adaptFrom = none ∧ (t.topi d).resids = [] ∧
      (t.topi d).offsNext = none ∧ (t.topi d).offs = (s.topi d).newOffs := by
  refine ⟨s.done (adaptationPass d s), rfl, ?_⟩
  dsimp only
  rw [adaptationPass_topi s d t0 hon hfrom hlate honce hst hmodel hdrift hres hpst (fun _ => hkey), if_neg (by rw [hf]; decide)]
  exact ⟨rfl, rfl, rfl, rfl, rfl⟩

end
end Sys2Proof.Machine

namespace Sys2Proof.Machine

/-! ## Rest (R173) -/

/-- A register of an axis is not read by the invariant. -/
theorem invReg_ax (d : DIx) (x : AIx) (o : Nat) (h : o < 0x80) : invReg (ax d x o) = false := by
  have := x.isLt
  have e : ax d x o = dw d (0x300 + x.val * 0x80 + o) := by unfold ax dw; omega
  rw [e]; exact invReg_dw d _ (by omega) (by omega) (by omega)

theorem atRestReached_of_rest {s : State} {d : DIx} {a : AIx} (hon : s.on d = true) (hm : s.flag (F.AX_STATUS_MOVING d a) = false)
    (hdev : (s.rdS (F.DEVIATION d a)).natAbs ≤ s.rd (F.REST_REST_WIN d a)) (ht : 40 * s.rd (F.REST_REST_TIME d a) ≤ (s.axis d a).restN) :
    atRestReached d a s = s.atRest d a :=
  (onD_of_on hon _).trans (if_pos (by rw [hm, decide_eq_true hdev, decide_eq_true ht]; rfl))

theorem atRestReached_runs (s : State) (d : DIx) (a : AIx) (hon : s.on d = true) (hm : s.flag (F.AX_STATUS_MOVING d a) = false)
    (hdev : (s.rdS (F.DEVIATION d a)).natAbs ≤ s.rd (F.REST_REST_WIN d a)) (ht : 40 * s.rd (F.REST_REST_TIME d a) ≤ (s.axis d a).restN) :
    Runs (.atRestReached d a) s fun t => t.flag (F.AX_STATUS_AT_REST d a) = true ∧ t.flag (F.AX_CMD_STOP d a) = false ∧
      (s.Inv → s.sameBut t [F.AX_STATUS_AT_REST d a, F.AX_CMD_STOP d a]) := by
  refine ⟨_, rfl, ?_⟩
  rw [atRestReached_of_rest hon hm hdev ht]
  unfold State.atRest
  refine ⟨?_, ?_, fun hi => done_sameBut _ _ _ hi ?_ ?_ ?_⟩
  · rw [done_flag_ax _ _ _ _ _ _ _ (by decide), State.setF, flag_wr_ne _ _ _ _ (Or.inl (by simp only [ax]; omega))]
    exact flag_setF_same _ _ _ (by simp) rfl
  · rw [done_flag_ax _ _ _ _ _ _ _ (by decide)]
    exact flag_setF_same _ _ _ (by simp) rfl
  · rw [setF_hidden, setF_hidden]
  · exact writes_setF (writes_setF (writes_refl s _) _ _ (by simp) (by simp)) _ _ (by simp) (by simp)
  · intro f hf
    rcases List.mem_cons.mp hf with rfl | hf
    · exact invReg_ax d a _ (by decide)
    · rw [List.mem_singleton.mp hf]
      exact invReg_ax d a _ (by decide)

end Sys2Proof.Machine

namespace Sys2Proof.Machine

/-! ## Learning (R120–R124) -/

theorem disarmModel_reg (s : State) (d : DIx) (a : Nat) (h : a ≠ F.ARM.addr) : (s.disarmModel d).reg a = s.reg a := by
  unfold State.disarmModel
  split
  · split
    · exact (reg_wr_other _ _ _ _ h).trans (reg_with_img _ _ _)
    · rfl
  · rfl

theorem disarmModel_topi (s : State) (d e : DIx) : (s.disarmModel d).topi e = s.topi e := by
  unfold State.disarmModel
  split
  · split
    · exact wr_topi _ _ _ _
    · rfl
  · rfl

theorem dropModel_topi (s : State) (n k : Nat) (d : DIx) : (s.dropModel n k).topi d = s.topi d := rfl

/-- The pending model is forgotten, as far as the registers of the doorway show it. -/
theorem dropPending_reg {s : State} {d : DIx} (c a : Nat) (h : s.flag (F.TOPI_STATUS_PENDING d) = true) (ha : 0x10000 ≤ a) :
    (s.dropPending d c).reg a = ((s.setF (F.TOPI_STATUS_PENDING d) false).wr (F.PENDING_DIGEST d) 0).reg a := by
  unfold State.dropPending
  rw [if_pos h]
  exact (stage_reg _ _ _ _ _ (recReg_window ha)).trans ((reg_with_img _ _ _).trans ((modTopi_reg _ _ _ _).trans (disarmModel_reg _ _ _ (by simp only []; omega))))

theorem dropPending_topi {s : State} {d : DIx} (c : Nat) (h : s.flag (F.TOPI_STATUS_PENDING d) = true) :
    ((s.dropPending d c).topi d).pending = [] := by
  unfold State.dropPending
  rw [if_pos h]
  dsimp only
  rw [stage_topi, dropModel_topi, modTopi_same]

theorem dropPending_forgets (s : State) (d : DIx) (c : Nat) : (s.dropPending d c).flag (F.TOPI_STATUS_PENDING d) = false := by
  cases h : s.flag (F.TOPI_STATUS_PENDING d) with
  | false => unfold State.dropPending; rw [if_neg (by rw [h]; decide), h]
  | true =>
    rw [flag_congr (dropPending_reg c _ h (by simp only [dw]; omega)), wr_flag_dw _ _ _ _ _ _ _ _ _ (by decide)]
    exact setF_flag _ _ _ _ (by decide)

/-- Forgetting a pending model leaves TOPI_CTL alone. -/
theorem dropPending_ctl (s : State) (d : DIx) (c : Nat) : (s.dropPending d c).reg (dw d 0x214) = s.reg (dw d 0x214) := by
  cases h : s.flag (F.TOPI_STATUS_PENDING d) with
  | false => unfold State.dropPending; rw [if_neg (by rw [h]; decide)]
  | true =>
    rw [dropPending_reg c _ h (by simp only [dw]; omega), reg_wr_other _ _ _ _ (by simp only [dw]; omega), reg_setF_other _ _ _ _ (by simp only [dw]; omega)]

theorem discardPending_runs (s : State) (d : DIx) (hon : s.on d = true) (hp : s.flag (F.TOPI_STATUS_PENDING d) = true) :
    Runs (.discardPending d) s fun t => t.flag (F.TOPI_STATUS_PENDING d) = false ∧ t.rd (F.PENDING_DIGEST d) = 0 ∧
      t.flag (F.TOPI_CTL_DISCARD_PENDING d) = false ∧ (t.topi d).pending = [] := by
  refine ⟨_, rfl, ?_⟩
  have e : discardPending d s = (s.setF (F.TOPI_CTL_DISCARD_PENDING d) false).dropPending d 1 := onD_of_on hon _
  have hp' : (s.setF (F.TOPI_CTL_DISCARD_PENDING d) false).flag (F.TOPI_STATUS_PENDING d) = true :=
    (wr_flag_dw _ _ _ _ _ _ _ _ _ (by decide)).trans hp
  rw [e]
  dsimp only
  rw [done_topi]
  refine ⟨?_, ?_, ?_, dropPending_topi 1 hp'⟩
  · rw [done_flag_dw _ _ _ _ _ _ (by decide) (by decide), dropPending_forgets]
  · rw [done_rd_dw _ _ _ _ _ _ (by decide) (by decide), rd_congr (dropPending_reg 1 _ hp' (by simp only [dw]; omega))]
    exact wr_rd _ _ _ _ _ (by decide)
  · rw [done_flag_dw _ _ _ _ _ _ (by decide) (by decide), flag_congr (dropPending_ctl _ d 1)]
    exact setF_flag _ _ _ _ (by decide)

/-- LEARN_START is accepted in this state (R120, R360). -/
def State.learnOk (s : State) (d : DIx) : Bool :=
  (s.st d == .unproven || s.st d == .released || s.st d == .opened) && decide (79 ≤ s.freeSectors d.val) && s.zeroSpeed && s.flag F.TRN_STATUS_DEPOT

/-- A learning run that starts, with nothing accepted yet. -/
def State.learnShow (s : State) (d : DIx) : State :=
  ((s.setF (F.TOPI_STATUS_LEARNING d) true).wr (F.TOPI_STATUS_LEARN_OK d) 0).wr (F.TOPI_STATUS_LEARN_TRY d) 0

theorem learnShow_reads (s : State) (d : DIx) :
    (s.learnShow d).flag (F.TOPI_STATUS_LEARNING d) = true ∧ (s.learnShow d).rd (F.TOPI_STATUS_LEARN_OK d) = 0 ∧
    (s.learnShow d).rd (F.TOPI_STATUS_LEARN_TRY d) = 0 ∧ (s.learnShow d).flag (F.TOPI_STATUS_PENDING d) = s.flag (F.TOPI_STATUS_PENDING d) ∧
    (s.learnShow d).flag (F.TOPI_CTL_LEARN_START d) = s.flag (F.TOPI_CTL_LEARN_START d) := by
  unfold State.learnShow
  refine ⟨?_, ?_, wr_rd _ _ _ _ _ (by decide), ?_, ?_⟩
  · rw [wr_flag_bits _ _ _ _ _ _ _ (by decide) (by decide), wr_flag_bits _ _ _ _ _ _ _ (by decide) (by decide)]
    exact setF_flag _ _ _ _ (by decide)
  · rw [wr_rd_bits _ _ _ _ _ _ _ (by decide) (by decide)]
    exact wr_rd _ _ _ _ _ (by decide)
  · rw [State.setF, wr_flag_bits _ _ _ _ _ _ _ (by decide) (by decide), wr_flag_bits _ _ _ _ _ _ _ (by decide) (by decide),
      wr_flag_bits _ _ _ _ _ _ _ (by decide) (by decide)]
  · rw [State.setF, wr_flag_dw _ _ _ _ _ _ _ _ _ (by decide), wr_flag_dw _ _ _ _ _ _ _ _ _ (by decide), wr_flag_dw _ _ _ _ _ _ _ _ _ (by decide)]

/-- The request bit reads clear; the run starts, or the request is refused. -/
theorem learnStart_eq {s : State} {d : DIx} (hon : s.on d = true) : learnStart d s =
    if s.learnOk d then
      ((((s.setF (F.TOPI_CTL_LEARN_START d) false).dropPending d 2).learnShow d).modTopi d (fun t => { t with learn := {} })).stage 0x5205 d.val
        [(((s.setF (F.TOPI_CTL_LEARN_START d) false).dropPending d 2).learnShow d).rd (F.MODEL_DIGEST d)]
    else (s.setF (F.TOPI_CTL_LEARN_START d) false).setF (F.SEQ_CMD_REFUSED d) true := by
  have hz : (s.setF (F.TOPI_CTL_LEARN_START d) false).zeroSpeed = s.zeroSpeed := flag_wr_ne _ _ _ _ (Or.inl (by simp only [dw]; omega))
  have hd : (s.setF (F.TOPI_CTL_LEARN_START d) false).flag F.TRN_STATUS_DEPOT = s.flag F.TRN_STATUS_DEPOT :=
    flag_wr_ne _ _ _ _ (Or.inl (by simp only [dw]; omega))
  have hf : (s.setF (F.TOPI_CTL_LEARN_START d) false).freeSectors d.val = s.freeSectors d.val := by
    unfold State.freeSectors; rw [setF_img]
  unfold learnStart State.learnOk State.learnShow
  rw [onD_of_on hon]
  dsimp only
  rw [hz, hd, hf]

theorem learnStart_runs (s : State) (d : DIx) (hon : s.on d = true) (hok : s.learnOk d = true) :
    Runs (.learnStart d) s fun t => t.flag (F.TOPI_STATUS_LEARNING d) = true ∧ t.rd (F.TOPI_STATUS_LEARN_OK d) = 0 ∧
      t.rd (F.TOPI_STATUS_LEARN_TRY d) = 0 ∧ t.flag (F.TOPI_CTL_LEARN_START d) = false ∧ t.flag (F.TOPI_STATUS_PENDING d) = false := by
  refine ⟨_, rfl, ?_⟩
  rw [learnStart_eq hon, if_pos hok]
  generalize hu : (s.setF (F.TOPI_CTL_LEARN_START d) false).dropPending d 2 = u
  have hreg : ∀ o, o < 0x4A0 → ∀ ws, (s.done (((u.learnShow d).modTopi d (fun t => { t with learn := {} })).stage 0x5205 d.val ws)).reg (dw d o) =
      (u.learnShow d).reg (dw d o) := fun o ho ws =>
    (done_reg _ _ _ (gatedReg_dw d o (by omega) (by omega))).trans ((stage_reg _ _ _ _ _ (recReg_window (by simp only [dw]; omega))).trans (modTopi_reg _ _ _ _))
  have hstat := hreg 0x210 (by decide)
  have hctl : u.flag (F.TOPI_CTL_LEARN_START d) = false := by
    rw [← hu, flag_congr (dropPending_ctl _ d 2)]
    exact setF_flag _ _ _ _ (by decide)
  obtain ⟨hlearning, hok0, htry, hpend, hstart⟩ := learnShow_reads u d
  exact ⟨(flag_congr (hstat _)).trans hlearning, (rd_congr (hstat _)).trans hok0, (rd_congr (hstat _)).trans htry,
    (flag_congr (hreg 0x214 (by decide) _)).trans (hstart.trans hctl),
    (flag_congr (hstat _)).trans (hpend.trans (hu ▸ dropPending_forgets _ d 2))⟩

theorem learnStart_refuses (s : State) (d : DIx) (hon : s.on d = true) (hok : s.learnOk d = false) :
    Runs (.learnStart d) s fun t => t.flag (F.SEQ_CMD_REFUSED d) = true ∧ t.flag (F.TOPI_CTL_LEARN_START d) = false ∧
      (s.Inv → s.sameBut t [F.TOPI_CTL_LEARN_START d, F.SEQ_CMD_REFUSED d]) := by
  refine ⟨_, rfl, ?_⟩
  rw [learnStart_eq hon, if_neg (by rw [hok]; decide)]
  refine ⟨?_, ?_, fun hi => done_sameBut _ _ _ hi ?_ ?_ ?_⟩
  · rw [done_flag_dw _ _ _ _ _ _ (by decide) (by decide)]
    exact setF_flag _ _ _ _ (by decide)
  · rw [done_flag_dw _ _ _ _ _ _ (by decide) (by decide), State.setF, wr_flag_dw _ _ _ _ _ _ _ _ _ (by decide)]
    exact setF_flag _ _ _ _ (by decide)
  · rw [setF_hidden, setF_hidden]
  · exact writes_setF (writes_setF (writes_refl s _) _ _ (by simp) (by simp)) _ _ (by simp) (by simp)
  · intro f hf
    rcases List.mem_cons.mp hf with rfl | hf
    · exact invReg_dw d _ (by decide) (by decide) (by decide)
    · rw [List.mem_singleton.mp hf]
      exact invReg_dw d _ (by decide) (by decide) (by decide)

/-- A run that fails reads no longer LEARNING; of the doorway's registers it changes nothing else. -/
theorem learnFail_reg (s : State) (d : DIx) (c a : Nat) (h : 0x10000 ≤ a) : (s.learnFail d c).reg a = (s.setF (F.TOPI_STATUS_LEARNING d) false).reg a :=
  (stage_reg _ _ _ _ _ (recReg_window h)).trans (modTopi_reg _ _ _ _)

theorem learnAbort_runs (s : State) (d : DIx) (hon : s.on d = true) :
    Runs (.learnAbort d) s fun t => t.flag (F.TOPI_STATUS_LEARNING d) = false ∧ t.flag (F.TOPI_CTL_LEARN_ABORT d) = false := by
  refine ⟨_, rfl, ?_⟩
  have e : learnAbort d s = (s.setF (F.TOPI_CTL_LEARN_ABORT d) false).when ((s.setF (F.TOPI_CTL_LEARN_ABORT d) false).flag (F.TOPI_STATUS_LEARNING d))
      (fun t => t.learnFail d 2) := onD_of_on hon _
  have hctl : (s.setF (F.TOPI_CTL_LEARN_ABORT d) false).flag (F.TOPI_CTL_LEARN_ABORT d) = false := setF_flag _ _ _ _ (by decide)
  rw [e]
  generalize s.setF (F.TOPI_CTL_LEARN_ABORT d) false = u at *
  dsimp only
  rw [done_flag_dw _ _ _ _ _ _ (by decide) (by decide), done_flag_dw _ _ _ _ _ _ (by decide) (by decide)]
  unfold State.when
  cases hl : u.flag (F.TOPI_STATUS_LEARNING d) with
  | false => exact ⟨hl, hctl⟩
  | true =>
    rw [if_pos rfl]
    refine ⟨?_, ?_⟩
    · rw [flag_congr (learnFail_reg u d 2 _ (by simp only [dw]; omega))]
      exact setF_flag _ _ _ _ (by decide)
    · rw [flag_congr (learnFail_reg u d 2 _ (by simp only [dw]; omega)), State.setF, wr_flag_dw _ _ _ _ _ _ _ _ _ (by decide), hctl]

theorem putModel_reg (s : State) (n k : Nat) (m : List Byte) (a : Nat) : (s.putModel n k m).reg a = s.reg a := reg_with_img _ _ _

theorem putModel_topi (s : State) (n k : Nat) (m : List Byte) (d : DIx) : (s.putModel n k m).topi d = s.topi d := rfl

/-- The model that a finished run leaves pending: behind the registers, and shown with its digest. -/
def State.takeLearned (s : State) (d : DIx) (m : List Byte) : State :=
  ((((s.modTopi d (fun t => { t with pending := m, learn := {} })).setF (F.TOPI_STATUS_LEARNING d) false).disarmModel d).putModel d.val kindPending m
    |>.setF (F.TOPI_STATUS_PENDING d) true).wr (F.PENDING_DIGEST d) (modelDigest m)

theorem takeLearned_learning (s : State) (d : DIx) (m : List Byte) : (s.takeLearned d m).flag (F.TOPI_STATUS_LEARNING d) = false := by
  unfold State.takeLearned State.setF
  rw [wr_flag_dw _ _ _ _ _ _ _ _ _ (by decide), wr_flag_bits _ _ _ _ _ _ _ (by decide) (by decide), flag_congr (putModel_reg _ _ _ _ _),
    flag_congr (disarmModel_reg _ _ _ (by simp only [dw]; omega))]
  exact setF_flag _ _ _ _ (by decide)

theorem takeLearned_pending (s : State) (d : DIx) (m : List Byte) : (s.takeLearned d m).flag (F.TOPI_STATUS_PENDING d) = true := by
  unfold State.takeLearned
  rw [wr_flag_dw _ _ _ _ _ _ _ _ _ (by decide)]
  exact setF_flag _ _ _ _ (by decide)

theorem takeLearned_topi (s : State) (d : DIx) (m : List Byte) : ((s.takeLearned d m).topi d).pending = m := by
  unfold State.takeLearned State.setF
  rw [wr_topi, wr_topi, putModel_topi, disarmModel_topi, wr_topi, modTopi_same]

theorem modelLearned_eq {s : State} {d : DIx} (hon : s.on d = true) (hl : s.flag (F.TOPI_STATUS_LEARNING d) = true) (h8 : s.rd (F.TOPI_STATUS_LEARN_OK d) = 8) :
    modelLearned d s = (s.takeLearned d (s.packModel d (s.topi d).learn)).stage 0x5201 d.val
      [modelDigest (s.packModel d (s.topi d).learn), (s.takeLearned d (s.packModel d (s.topi d).learn)).rd (F.TOPI_STATUS_LEARN_TRY d)] :=
  (onD_of_on hon _).trans (if_pos (by rw [hl, h8]; rfl))

theorem modelLearned_runs (s : State) (d : DIx) (hon : s.on d = true) (hl : s.flag (F.TOPI_STATUS_LEARNING d) = true) (h8 : s.rd (F.TOPI_STATUS_LEARN_OK d) = 8) :
    Runs (.modelLearned d) s fun t => t.flag (F.TOPI_STATUS_LEARNING d) = false ∧ t.flag (F.TOPI_STATUS_PENDING d) = true ∧
      t.rd (F.PENDING_DIGEST d) = modelDigest (s.packModel d (s.topi d).learn) % 2 ^ 32 ∧
      (t.topi d).pending = s.packModel d (s.topi d).learn := by
  refine ⟨_, rfl, ?_⟩
  rw [modelLearned_eq hon hl h8]
  generalize s.packModel d (s.topi d).learn = m
  have hreg : ∀ o, o < 0x4A0 → ∀ ws, (s.done ((s.takeLearned d m).stage 0x5201 d.val ws)).reg (dw d o) = (s.takeLearned d m).reg (dw d o) := fun o ho ws =>
    (done_reg _ _ _ (gatedReg_dw d o (by omega) (by omega))).trans (stage_reg _ _ _ _ _ (recReg_window (by simp only [dw]; omega)))
  refine ⟨(flag_congr (hreg 0x210 (by decide) _)).trans (takeLearned_learning s d m), (flag_congr (hreg 0x210 (by decide) _)).trans (takeLearned_pending s d m),
    (rd_congr (hreg 0x21C (by decide) _)).trans (wr_rd _ _ _ _ _ (by decide)), ?_⟩
  rw [done_topi, stage_topi, takeLearned_topi]

/-- Settles O14, clause by clause. -/
theorem learningAndTasksRun : Obligations.LearningAndTasksRun :=
  ⟨sealSeamTask_runs, sealSeamTask_idle_runs, occupancyTask_runs, occupancyTask_idle_runs, sealSeamTask_overflow_runs, occupancyTask_overflow_runs,
    adaptationPass_framed_runs, adaptationPass_unframed_runs, atRestReached_runs, learnStart_runs, learnStart_refuses, learnAbort_runs,
    discardPending_runs, modelLearned_runs⟩

end Sys2Proof.Machine

/-!
PROOFS. The window of a migration whose image is verified (O12).
-/
namespace Sys2Proof.Machine

/-! ## What the frame of the clause keeps: the faults and their windows -/

theorem modEng_flt (s : State) (p : PIx) (f : EngH → EngH) : (s.modEng p f).flt = s.flt := rfl

theorem hiddenAs_flt {u t : State} (h : u.hiddenAs t) : t.flt = u.flt := by
  have e := congrArg State.flt (show ({ t with regs := u.regs } : State) = u from h)
  exact e

/-! ## A migration whose window is open -/

/-- A module in RUN whose doorway 0, with a raw frame in DRAM, migrates to pair 0: the window of the migration is open and the pair loads its image. -/
def migrationLoading : State :=
  let s : State := { State.reset with rail := true, img := { State.reset.img with running := some false, decl := 1 } }
  let s := ((s.wr F.MOD_STATE_STATE 3).wr F.RP_STATUS_ROLE 3).setF F.RP_STATUS_AUTH true
  let s := (s.setPair 0 pMigrating 0).modEng 0 (fun e => { e with job := .loading })
  State.reset.done ((s.modHead 0 (fun h => { h with raws := [{ ctr := 1, tref := 100, trefTb := 100, lines := [] }] })).openWin 0 0)

theorem migrationLoading_inv : migrationLoading.Inv := done_inv _ _

/-- Before the command the window of the migration is not marked. -/
theorem migrationLoading_windows : migrationLoading.flt.windows = [{ kind := 0, dwy := 0, opened := 0, loaded := false }] := by decide +kernel

/-- The verified image marks the window: from then on a MODULE fault lets the migration complete (R398, R400). -/
theorem residentImageLoaded_marks :
    (migrationLoading.done (residentImageLoaded 0 true migrationLoading)).flt.windows = [{ kind := 0, dwy := 0, opened := 0, loaded := true }] := by decide +kernel

/-- Refutes O12: a verified image also marks the open window of its migration as loaded (R400), so behind the registers more has changed than the
pair's job, and the clause on a doorway with raw frames in DRAM does not hold while the window is open, as it is from the start of a migration on (R397). -/
theorem not_migrationsAndTestsEnd : ¬ Obligations.MigrationsAndTestsEnd := by
  unfold Obligations.MigrationsAndTestsEnd
  rintro ⟨-, hraws, -⟩
  obtain ⟨t, ht, hframe⟩ := hraws migrationLoading 0 0 (by decide +kernel) (by decide +kernel) (by decide +kernel) (by decide +kernel)
    (by decide +kernel) (by decide +kernel) (by decide +kernel)
  have run : exec (.residentImageLoaded 0 true) migrationLoading = .next (migrationLoading.done (residentImageLoaded 0 true migrationLoading)) := rfl
  rw [run, Host.Outcome.next.injEq] at ht
  obtain ⟨hidden, -⟩ := hframe migrationLoading_inv
  have kept : t.flt = migrationLoading.flt := (hiddenAs_flt hidden).trans (modEng_flt _ _ _)
  have marked := residentImageLoaded_marks
  rw [ht, kept, migrationLoading_windows] at marked
  exact absurd marked (by decide)

end Sys2Proof.Machine

/-!
PROOFS. ECC errors, splitting and rejoining of engine pairs (O13).
-/
namespace Sys2Proof.Machine

/-! ## Engine pairs: where a command acts, and what its registers read -/

theorem onP_of_here {s : State} {p : PIx} (ha : s.alive = true) (hp : s.pairHere p = true) (f : State → State) : s.onP p f = f s :=
  if_pos (by rw [ha, hp]; rfl)

@[simp] theorem eng_modEng_same (s : State) (p : PIx) (f : EngH → EngH) : (s.modEng p f).eng p = f (s.eng p) := by
  simp [State.eng, State.modEng]

theorem wr_eng (s : State) (f : Fld) (v : Nat) (p : PIx) : (s.wr f v).eng p = s.eng p := rfl

theorem done_eng (s t : State) (p : PIx) : (s.done t).eng p = t.eng p := by
  unfold State.eng; rw [done_engs]

/-- A register of an engine window is not gated. -/
theorem gatedReg_eng (p : PIx) (o : Nat) (h : o < 0x80) : gatedReg (eng p o) = false := by
  have := p.isLt
  exact gatedReg_low _ (by simp only [eng]; omega) (by simp only [eng]; omega) (by simp only [eng]; omega)

theorem done_pst (s t : State) (p : PIx) : (s.done t).pst p = t.pst p := done_rd _ _ _ (gatedReg_eng p 0 (by decide))

theorem pst_congr {s t : State} {p : PIx} (h : t.reg (eng p 0) = s.reg (eng p 0)) : t.pst p = s.pst p := rd_congr h

theorem wr_state_pst (s : State) (p : PIx) (st : Nat) : (s.wr (F.PAIR_STATUS_STATE p) st).pst p = st % 8 := wr_rd _ _ _ _ _ (by decide)

theorem setPair_pst (s : State) (p : PIx) (st n : Nat) : (s.setPair p st n).pst p = st % 8 := by
  unfold State.setPair State.pst
  exact (wr_rd_bits _ _ _ _ _ _ _ (by decide) (by decide)).trans (wr_rd _ _ _ _ _ (by decide))

/-- Bringing the pair counts up to date writes COPPICE_STATUS alone. -/
theorem showCoppice_reg (s : State) (a : Nat) (h : a ≠ 0x1804) : s.showCoppice.reg a = s.reg a := by
  unfold State.showCoppice
  rw [reg_setF_other _ _ _ _ h, reg_wr_other _ _ _ _ h]

theorem verdictOut_reg_low (s : State) (d : DIx) (c a : Nat) (h : a < 0x10000) : (s.verdictOut d c).reg a = s.reg a := by
  have hv : a ≠ dw d 0x200 := by simp only [dw]; omega
  unfold State.verdictOut
  rw [modTopi_reg, reg_wr_other _ _ _ _ hv, reg_wr_other _ _ _ _ hv, reg_wr_other _ _ _ _ hv]

theorem verdictStale_reg_low (s : State) (d : DIx) (a : Nat) (h : a < 0x10000) : (s.verdictStale d).reg a = s.reg a := by
  unfold State.verdictStale
  rw [modTopi_reg, reg_wr_other _ _ _ _ (by simp only [dw]; omega), verdictOut_reg_low _ _ _ _ h]

/-- Clearing the platform results of a doorway writes its window alone. -/
theorem platClear_reg_low (s : State) (d : DIx) (a : Nat) (h : a < 0x10000) : (s.platClear d).reg a = s.reg a := by
  have hn : ∀ o, a ≠ dw d o := fun o => by simp only [dw]; omega
  unfold State.platClear State.showPlat State.showStill
  rw [reg_setF_other _ _ _ _ (hn _), when_reg, reg_wrS_other _ _ _ _ (hn _), reg_wrS_other _ _ _ _ (hn _), ite_self, reg_setF_other _ _ _ _ (hn _),
    reg_wr_other _ _ _ _ (hn _), reg_setF_other _ _ _ _ (hn _), reg_setF_other _ _ _ _ (hn _), modTopi_reg]

/-! ## What showing the placement and the fault map writes (R368, R382, R383) -/

/-- The registers of placement, 0x1000 to 0x10FF, and those of a record. -/
def plcReg (a : Nat) : Bool := (decide (0x1000 ≤ a) && decide (a < 0x1100)) || recReg a

theorem plcReg_ne {a b : Nat} (h : plcReg a = false) (hb : 0x1000 ≤ b ∧ b < 0x1100) : a ≠ b := by
  simp only [plcReg, Bool.or_eq_false_iff, Bool.and_eq_false_iff, decide_eq_false_iff_not] at h
  omega

theorem plcReg_recReg {a : Nat} (h : plcReg a = false) : recReg a = false := (Bool.or_eq_false_iff.mp h).2

theorem plcReg_eng (p : PIx) (o : Nat) : plcReg (eng p o) = false := by
  simp only [plcReg, recReg, Bool.or_eq_false_iff, Bool.and_eq_false_iff, decide_eq_false_iff_not, beq_eq_false_iff_ne, eng]
  omega

section
variable {a : Nat} (h : plcReg a = false)
include h

theorem showPool_reg (s : State) (p : Nat) (hp : p < 8) : (s.showPool p).reg a = s.reg a := by
  have hn : a ≠ 0x1020 + (p - 2) * 4 := plcReg_ne h (by omega)
  unfold State.showPool
  rw [reg_wr_other _ _ _ _ hn, reg_wr_other _ _ _ _ hn, reg_wr_other _ _ _ _ hn, reg_wr_other _ _ _ _ hn]

theorem setFm_reg (s : State) (p r st : Nat) (hp : p < 8) : (s.setFm p r st).reg a = s.reg a := by
  have hn : ∀ b, 0x10A0 ≤ b ∧ b < 0x10BC → a ≠ b := fun b hb => plcReg_ne h (by omega)
  unfold State.setFm
  rw [showPool_reg h _ _ hp]
  split <;> (try split) <;> simp (disch := exact hn _ (by decide)) only [reg_setBit_other, reg_with_plc]

theorem showPlc_reg (s : State) : s.showPlc.reg a = s.reg a := by
  have hd : ∀ (d : DIx) (p : Nat), a ≠ (plcDwy d.val p).addr := fun d p => plcReg_ne h (by
    have := d.isLt
    unfold plcDwy; split <;> simp only [] <;> omega)
  unfold State.showPlc
  extract_lets bs insts s1 s2 s3 placed s4
  have e1 : s1.reg a = s.reg a := by
    simp only [s1]
    rw [foldl_reg]
    intro t d _
    rw [foldl_reg]
    exact fun u p _ => reg_wr_other _ _ _ _ (hd d p)
  have e2 : s2.reg a = s1.reg a := by
    simp only [s2]
    rw [foldl_reg]
    exact fun t d _ => reg_setF_other _ _ _ _ (hd d poolSes)
  have hs : a ≠ 0x1000 := plcReg_ne h (by decide)
  have e4 : s4.reg a = s2.reg a := by
    simp only [s4, s3]
    rw [reg_setF_other _ _ _ _ hs, reg_wr_other _ _ _ _ hs, reg_setF_other _ _ _ _ hs]
  rw [foldl_reg]
  · rw [e4, e2, e1]
  · intro t p hp
    refine showPool_reg h _ _ ?_
    simp only [List.mem_cons, List.not_mem_nil, or_false] at hp
    omega

theorem placementChanged_reg (s : State) (c p d o n : Nat) : (s.placementChanged c p d o n).reg a = s.reg a := by
  have hn : ∀ b, 0x1004 ≤ b ∧ b < 0x1010 → a ≠ b := fun b hb => plcReg_ne h (by omega)
  unfold State.placementChanged
  simp (disch := exact hn _ (by decide)) only [stage_reg _ _ _ _ _ (plcReg_recReg h), reg_wr_other, reg_inc_other, showPlc_reg h]

end

end Sys2Proof.Machine

namespace Sys2Proof.Machine

/-! ## An uncorrectable error in a pair's local memory (R145, R149) -/

/-- No fence request writes a register of an engine window. -/
theorem fenceReg_eng (d : DIx) (p : PIx) (o : Nat) (h : o < 0x80) : fenceReg d (eng p o) = false := by
  have hp := p.isLt
  have hn : ∀ b, (b < 0xB000 ∨ 0x10000 ≤ b) → eng p o ≠ b := fun b hb => by simp only [eng]; omega
  have hw : ∀ n, eng p o ≠ dw d n := fun n => hn _ (by simp only [dw]; omega)
  have hax : ∀ (x : AIx) n, eng p o ≠ ax d x n := fun x n => hn _ (by simp only [ax]; omega)
  have hch : ∀ (k : KIx) n, eng p o ≠ ch d k n := fun k n => hn _ (by simp only [ch]; omega)
  have hdwy : eng p o ≠ 0x3100 + d.val * 4 := hn _ (by omega)
  have hlow : ∀ b, b < 0xB000 → eng p o ≠ b := fun b hb => hn b (Or.inl hb)
  simp only [fenceReg, chanReg, torqueReg, outReg, recReg, Bool.or_eq_false_iff, beq_eq_false_iff_ne, ne_eq, List.any_eq_false, beq_iff_eq,
    Bool.or_eq_true, not_or]
  exact ⟨⟨⟨⟨hdwy, hw _⟩, hw _, fun k _ => hch k _⟩, ⟨⟨⟨hw _, hw _⟩, hw _⟩, fun x _ => ⟨⟨hax x _, hax x _⟩, hax x _⟩⟩, hlow _ (by decide), hlow _ (by decide)⟩,
    ⟨hlow _ (by decide), hlow _ (by decide)⟩, hlow _ (by decide), hlow _ (by decide)⟩

theorem pairFaulty_pst (s : State) (p : PIx) (cause : Nat) : (s.pairFaulty p cause).pst p = pFaulty := by
  have hp : plcReg (eng p 0) = false := plcReg_eng p 0
  unfold State.pairFaulty
  extract_lets t u v
  have ht : t.pst p = pFaulty := setPair_pst _ p pFaulty _
  have hu : u.pst p = t.pst p := by
    simp only [u]
    rw [pst_congr (reg_setF_other _ _ _ _ (by simp only [eng]; omega))]
    exact wr_rd_bits _ _ _ _ _ _ _ (by decide) (by decide)
  have hv : v.pst p = u.pst p := pst_congr ((modEng_reg _ _ _ _).trans (setFm_reg hp _ _ _ _ (by decide)))
  rw [pst_congr (stage_reg _ _ _ _ _ (plcReg_recReg hp)), hv, hu, ht]

/-- The error as a fault: of the pair's doorway, or of none. -/
def State.eccFault (s : State) (p : PIx) : State := match s.pairDwy p with | some d => s.fault d 0x4303 | none => s.faultM

/-- What becomes of the pair: a split one waits as SUSPECT for its rejoin, any other leaves service. -/
def State.eccActs (s : State) (p : PIx) : State :=
  if s.pst p = pSplit then ((s.wr (F.PAIR_STATUS_STATE p) pSuspect).modEng p (fun e => { e with upEcc := true })).showCoppice
  else match s.pairDwy p with
    | none => s.pairFaulty p 3
    | some d => ((s.verdictOut d 4).quit d p).pairFaulty p 3

theorem localMemoryEccError_eq {s : State} {p : PIx} (ha : s.alive = true) (hp : s.pairHere p = true) :
    localMemoryEccError p s = if (s.setF (F.PAIR_STATUS_ECC_ERR p) true).pst p = pFaulty then s.setF (F.PAIR_STATUS_ECC_ERR p) true
      else ((s.setF (F.PAIR_STATUS_ECC_ERR p) true).eccFault p).eccActs p := onP_of_here ha hp _

theorem eccFault_pst (s : State) (p : PIx) : (s.eccFault p).pst p = s.pst p := by
  unfold State.eccFault
  split
  · exact pst_congr (fault_reg _ _ _ _ (by simp only [eng]; omega) (fenceReg_eng _ p 0 (by decide)))
  · exact pst_congr (faultM_reg _ _ (by simp only [eng]; omega))

theorem eccActs_pst (s : State) (p : PIx) : (s.eccActs p).pst p = if s.pst p = pSplit then pSuspect else pFaulty := by
  unfold State.eccActs
  split
  · rw [pst_congr (showCoppice_reg _ _ (by simp only [eng]; omega)), pst_congr (modEng_reg _ _ _ _), wr_state_pst]
    rfl
  · split <;> rw [pairFaulty_pst]

theorem localMemoryEccError_pst {s : State} {p : PIx} (ha : s.alive = true) (hp : s.pairHere p = true) :
    (localMemoryEccError p s).pst p = if s.pst p = pSplit then pSuspect else pFaulty := by
  have he : (s.setF (F.PAIR_STATUS_ECC_ERR p) true).pst p = s.pst p := wr_rd_bits _ _ _ _ _ _ _ (by decide) (by decide)
  rw [localMemoryEccError_eq ha hp, he]
  split
  next hf => rw [he, hf]; rfl
  next => rw [eccActs_pst, eccFault_pst, he]

theorem localMemoryEccError_runs (s : State) (p : PIx) (ha : s.alive = true) (hp : s.pairHere p = true) :
    Runs (.localMemoryEccError p) s fun t => t.pst p = (if s.pst p = pSplit then pSuspect else pFaulty) :=
  ⟨_, rfl, (done_pst _ _ _).trans (localMemoryEccError_pst ha hp)⟩

end Sys2Proof.Machine

namespace Sys2Proof.Machine

/-! ## A pair splits (R148) -/

/-- A pair that splits, shown in its window, at its doorway and in the pair counts. -/
def State.splitShown (s : State) (p : PIx) : State :=
  let t := ((((s.dropFrame p).wr (F.PAIR_STATUS_STATE p) pSplit).wr (F.TASKS_TASK_U p) 0).wr (F.TASKS_TASK_R p) 0).wr (F.TASKS_DONE p) 0
  let u := match s.pairDwy p with | some d => (t.verdictOut d 8).platClear d | none => t
  (u.setF F.MOD_STATE_COPPICE true).showCoppice

/-- The record of the splits that the last pair has completed, of a decision at `t0`. -/
def State.splitsDone (s : State) (t0 : Nat) : State :=
  let u : State := { s with cop := { s.cop with decided := none } }
  ((u.inc F.SPLITS).stage 0x0301 sysRec [u.rd F.COPPICE_STATUS_ENGINES, (u.now - t0) / 160000]).placementChanged 3 0 0x1F noRes noRes

theorem pairSplit_of_spare {s : State} {p : PIx} {t0 : Nat} (ha : s.alive = true) (hp : s.pairHere p = true) (hdec : s.cop.decided = some t0)
    (hst : s.pst p = pSpare) (htest : s.flag (F.PAIR_STATUS_TESTING p) = false) :
    pairSplit p s = if (s.splitShown p).pairsIn pSpare = 0 ∧ (s.splitShown p).pairsIn pBound = 0 then (s.splitShown p).splitsDone t0 else s.splitShown p := by
  unfold pairSplit
  rw [onP_of_here ha hp, hdec]
  extract_lets d t1 t2 t3 u c v
  have shown : u = s.splitShown p := rfl
  dsimp only
  rw [if_neg (by simp [hst, htest]), ← shown]
  rfl

theorem splitsDone_reg (s : State) (t0 a : Nat) (h : plcReg a = false) (hs : a ≠ 0x1810) : (s.splitsDone t0).reg a = s.reg a := by
  unfold State.splitsDone
  rw [placementChanged_reg h, stage_reg _ _ _ _ _ (plcReg_recReg h), reg_inc_other _ _ _ hs, reg_with_cop]

/-- Whether or not it was the last, a pair that splits is shown so. -/
theorem pairSplit_reg {s : State} {p : PIx} {t0 : Nat} (ha : s.alive = true) (hp : s.pairHere p = true) (hdec : s.cop.decided = some t0)
    (hst : s.pst p = pSpare) (htest : s.flag (F.PAIR_STATUS_TESTING p) = false) (a : Nat) (h : plcReg a = false) (hs : a ≠ 0x1810) :
    (pairSplit p s).reg a = (s.splitShown p).reg a := by
  rw [pairSplit_of_spare ha hp hdec hst htest]
  split
  · rw [splitsDone_reg _ _ _ h hs]
  · rfl

theorem splitShown_reads (s : State) (p : PIx) :
    (s.splitShown p).pst p = pSplit ∧ (s.splitShown p).flag F.MOD_STATE_COPPICE = true ∧ (s.splitShown p).rd (F.TASKS_DONE p) = 0 := by
  have hp := p.isLt
  unfold State.splitShown
  extract_lets t u
  have hu : ∀ a, a < 0x10000 → u.reg a = t.reg a := by
    intro a ha
    simp only [u]
    split
    · exact (platClear_reg_low _ _ _ ha).trans (verdictOut_reg_low _ _ _ _ ha)
    · rfl
  have hw : ∀ o, o < 0x80 → (u.setF F.MOD_STATE_COPPICE true).showCoppice.reg (eng p o) = t.reg (eng p o) := by
    intro o ho
    rw [showCoppice_reg _ _ (by simp only [eng]; omega), reg_setF_other _ _ _ _ (by simp only [eng]; omega), hu _ (by simp only [eng]; omega)]
  refine ⟨?_, ?_, ?_⟩
  · have hn : eng p 0 ≠ eng p 0x24 := by simp only [eng]; omega
    have ht : t.reg (eng p 0) = ((s.dropFrame p).wr (F.PAIR_STATUS_STATE p) pSplit).reg (eng p 0) := by
      simp only [t]
      rw [reg_wr_other _ _ _ _ hn, reg_wr_other _ _ _ _ hn, reg_wr_other _ _ _ _ hn]
    rw [pst_congr (hw 0 (by decide)), pst_congr ht]
    exact wr_state_pst _ p pSplit
  · rw [flag_congr (showCoppice_reg _ _ (by decide))]
    exact setF_flag _ _ _ _ (by decide)
  · refine (rd_congr (f := F.TASKS_DONE p) (hw 0x24 (by decide))).trans ?_
    exact wr_rd _ _ _ _ _ (by decide)

theorem pairSplit_runs (s : State) (p : PIx) (t0 : Nat) (ha : s.alive = true) (hp : s.pairHere p = true) (hdec : s.cop.decided = some t0)
    (hst : s.pst p = pSpare) (htest : s.flag (F.PAIR_STATUS_TESTING p) = false) :
    Runs (.pairSplit p) s fun t => t.pst p = pSplit ∧ t.flag F.MOD_STATE_COPPICE = true ∧ t.rd (F.TASKS_DONE p) = 0 := by
  refine ⟨_, rfl, ?_⟩
  have hreg := pairSplit_reg ha hp hdec hst htest
  have kept : ∀ a, gatedReg a = false → plcReg a = false → a ≠ 0x1810 → (s.done (pairSplit p s)).reg a = (s.splitShown p).reg a := fun a hg ha hs =>
    (done_reg _ _ _ hg).trans (hreg a ha hs)
  have window : ∀ o, o < 0x80 → (s.done (pairSplit p s)).reg (eng p o) = (s.splitShown p).reg (eng p o) := fun o ho =>
    kept _ (gatedReg_eng p o ho) (plcReg_eng p o) (by simp only [eng]; omega)
  obtain ⟨split, coppice, tasks⟩ := splitShown_reads s p
  exact ⟨(pst_congr (window 0 (by decide))).trans split, (flag_congr (kept 4 (by decide) (by decide) (by decide))).trans coppice,
    (rd_congr (f := F.TASKS_DONE p) (window 0x24 (by decide))).trans tasks⟩

end Sys2Proof.Machine

namespace Sys2Proof.Machine

/-! ## A rejoin starts at a host write (R150, R159) -/

/-- The pairs of a list that are split begin to rejoin. -/
def State.pairsRejoin (s : State) (l : List PIx) : State :=
  l.foldl (fun t p => if t.pairHere p && (t.pst p == pSplit || (t.eng p).upEcc) then t.modEng p (fun e => { e with job := .rejoin 1, jobAt := t.now }) else t) s

theorem pairsRejoin_reg (s : State) (l : List PIx) (a : Nat) : (s.pairsRejoin l).reg a = s.reg a :=
  foldl_reg _ _ _ (fun _ _ _ => ite_keeps (fun u => u.reg a) _ _ _ _ (modEng_reg _ _ _ _) rfl) s

theorem pairsRejoin_cop (s : State) (l : List PIx) : (s.pairsRejoin l).cop = s.cop := by
  unfold State.pairsRejoin
  refine foldl_keeps State.cop _ _ (fun t p _ => ?_) s
  split <;> rfl

/-- The state of a module whose rejoin begins now, for a trigger of R150. -/
def State.rejoining (s : State) (trigger : Nat) : State :=
  ({ s with cop := { s.cop with decided := none, rejoinAt := some s.now, trigger := trigger, failed := 0 } } : State).setF F.COPPICE_STATUS_REJOINING true

theorem rejoinStart_of_split {s : State} {trigger : Nat} (hc : s.flag F.MOD_STATE_COPPICE = true) (hr : s.flag F.COPPICE_STATUS_REJOINING = false)
    (ho : s.outputsOff = false) : s.rejoinStart trigger = (s.rejoining trigger).pairsRejoin allP := by
  unfold State.rejoinStart
  rw [if_neg (by rw [hr, ho]; decide), if_pos hc]
  rfl

theorem outputsOff_wr (s : State) (f : Fld) (v : Nat) (h : F.PWR_STATUS_KEEP_ENTRY.addr ≠ f.addr) : (s.wr f v).outputsOff = s.outputsOff := by
  unfold State.outputsOff
  rw [flag_wr_ne s f F.PWR_STATUS_KEEP_ENTRY v (Or.inl h), flag_wr_ne s f F.PWR_STATUS_SHUTDOWN v (Or.inl h)]

theorem coppiceRejoin_starts {s : State} (ha : s.alive = true) (hc : s.flag F.MOD_STATE_COPPICE = true)
    (hr : s.flag F.COPPICE_STATUS_REJOINING = false) (ho : s.outputsOff = false) :
    coppiceRejoin s = ((s.setF F.COPPICE_CTL_REJOIN true).rejoining 6).pairsRejoin allP := by
  unfold coppiceRejoin
  rw [onM_of_alive ha, if_pos (by rw [hc]; rfl)]
  refine rejoinStart_of_split ?_ ?_ ?_
  · rw [State.setF, flag_wr_ne _ _ _ _ (by decide), hc]
  · rw [State.setF, flag_wr_ne _ _ _ _ (by decide), hr]
  · rw [State.setF, outputsOff_wr _ _ _ (by decide), ho]

theorem coppiceRejoin_runs (s : State) (ha : s.alive = true) (hc : s.flag F.MOD_STATE_COPPICE = true)
    (hr : s.flag F.COPPICE_STATUS_REJOINING = false) (ho : s.outputsOff = false) :
    Runs (.coppiceRejoin) s fun t => t.flag F.COPPICE_STATUS_REJOINING = true ∧ t.flag F.COPPICE_CTL_REJOIN = true ∧ t.cop.rejoinAt = some s.now ∧
      t.cop.trigger = 6 := by
  refine ⟨_, rfl, ?_⟩
  rw [coppiceRejoin_starts ha hc hr ho]
  dsimp only
  rw [done_flag_lo _ _ _ _ _ (by decide) (by decide) (by decide), done_flag_lo _ _ _ _ _ (by decide) (by decide) (by decide), done_cop, pairsRejoin_cop,
    flag_congr (pairsRejoin_reg _ _ _), flag_congr (pairsRejoin_reg _ _ _)]
  refine ⟨setF_flag _ _ _ _ (by decide), ?_, rfl, rfl⟩
  unfold State.rejoining
  rw [flag_congr (reg_setF_other _ _ _ _ (by decide)), flag_congr (reg_with_cop _ _ _)]
  exact setF_flag _ _ _ _ (by decide)

theorem coppiceRejoin_idle_runs (s : State) (ha : s.alive = true) (hc : s.flag F.MOD_STATE_COPPICE = false)
    (hr : s.flag F.COPPICE_STATUS_REJOINING = false) :
    Runs (.coppiceRejoin) s fun t => t.flag F.COPPICE_CTL_REJOIN = false ∧ (s.Inv → s.sameBut t [F.COPPICE_CTL_REJOIN]) := by
  have e : coppiceRejoin s = s.setF F.COPPICE_CTL_REJOIN false := (onM_of_alive ha _).trans (if_neg (by rw [hc, hr]; decide))
  refine ⟨_, rfl, ?_⟩
  rw [e]
  refine ⟨?_, fun hi => done_sameBut _ _ _ hi (setF_hidden _ _ _ _) (writes_setF (writes_refl s _) _ _ (by simp) (by simp)) ?_⟩
  · rw [done_flag_lo _ _ _ _ _ (by decide) (by decide) (by decide)]
    exact setF_flag _ _ _ _ (by decide)
  · intro f hf
    rw [List.mem_singleton.mp hf]
    decide

end Sys2Proof.Machine

namespace Sys2Proof.Machine

/-! ## The steps of a rejoin (R151) -/

/-- The next step of the rejoin of pair p. -/
def State.toStep (s : State) (p : PIx) (k : Nat) : State := s.modEng p (fun e => { e with job := .rejoin k })

section
variable {s : State} {p : PIx} (ha : s.alive = true) (hp : s.pairHere p = true)
include ha hp

/-- Steps 1 and 2: the tasks have stopped, and the pair is REJOINING. -/
theorem rejoinStep_stopped (ok : Bool) (hj : (s.eng p).job = .rejoin 1) (hu : (s.eng p).upEcc = false) :
    rejoinStepComplete p ok s =
      ((((s.wr (F.TASKS_TASK_U p) 0).wr (F.TASKS_TASK_R p) 0).wr (F.PAIR_STATUS_STATE p) pRejoining).toStep p 3).showCoppice := by
  unfold rejoinStepComplete
  rw [onP_of_here ha hp, hj]
  exact if_neg (by rw [wr_eng, wr_eng, hu]; decide)

/-- Step 3: the pair is scrubbed. -/
theorem rejoinStep_scrubbed (ok : Bool) (hj : (s.eng p).job = .rejoin 3) : rejoinStepComplete p ok s = s.toStep p 4 := by
  unfold rejoinStepComplete
  rw [onP_of_here ha hp, hj]
  rfl

/-- Step 4 of a pair whose doorway has too few raw frames to replay: it is BOUND (R152). -/
theorem rejoinStep_copied {d : DIx} (hj : (s.eng p).job = .rejoin 4) (hd : s.pairDwy p = some d) (hraws : (s.head d).raws.length < 2) :
    rejoinStepComplete p true s =
      ((s.setPair p pBound d.val).modEng p (fun e => { e with job := .none, replay := 0, doneT := none })).verdictStale d := by
  unfold rejoinStepComplete
  rw [onP_of_here ha hp, hj]
  dsimp only
  rw [hd]
  exact (if_neg (by decide)).trans (if_pos hraws)

end

theorem modTopi_eng (s : State) (d : DIx) (f : TopiH → TopiH) (p : PIx) : (s.modTopi d f).eng p = s.eng p := rfl

theorem verdictStale_eng (s : State) (d : DIx) (p : PIx) : (s.verdictStale d).eng p = s.eng p := by
  unfold State.verdictStale State.verdictOut
  rw [modTopi_eng, wr_eng, modTopi_eng, wr_eng, wr_eng, wr_eng]

theorem showCoppice_eng (s : State) (p : PIx) : s.showCoppice.eng p = s.eng p := by
  unfold State.showCoppice State.setF
  rw [wr_eng, wr_eng]

theorem rejoinStep_stopped_runs (s : State) (p : PIx) (ok : Bool) (ha : s.alive = true) (hp : s.pairHere p = true) (hj : (s.eng p).job = .rejoin 1)
    (hu : (s.eng p).upEcc = false) : Runs (.rejoinStepComplete p ok) s fun t => t.pst p = pRejoining ∧ (t.eng p).job = .rejoin 3 := by
  refine ⟨_, rfl, ?_⟩
  rw [rejoinStep_stopped ha hp ok hj hu]
  dsimp only
  rw [done_pst, done_eng, showCoppice_eng, State.toStep, eng_modEng_same, pst_congr (showCoppice_reg _ _ (by simp only [eng]; omega)),
    pst_congr (modEng_reg _ _ _ _), wr_state_pst]
  exact ⟨rfl, rfl⟩

theorem rejoinStep_scrubbed_runs (s : State) (p : PIx) (ok : Bool) (ha : s.alive = true) (hp : s.pairHere p = true) (hj : (s.eng p).job = .rejoin 3) :
    Runs (.rejoinStepComplete p ok) s fun t => (s.Inv → (s.modEng p (fun e => { e with job := .rejoin 4 })).hiddenAs t ∧ s.fieldsBut t []) := by
  refine ⟨_, rfl, fun hi => ?_⟩
  rw [rejoinStep_scrubbed ha hp ok hj]
  exact done_frame s _ _ [] hi rfl ⟨rfl, rfl, rfl, rfl, fun _ => rfl⟩ (writes_congr (writes_refl s []) (fun _ => modEng_reg _ _ _ _))
    (fun _ h => absurd h List.not_mem_nil)

theorem rejoinStep_copied_runs (s : State) (p : PIx) (d : DIx) (ha : s.alive = true) (hp : s.pairHere p = true) (hj : (s.eng p).job = .rejoin 4)
    (hd : s.pairDwy p = some d) (hraws : (s.head d).raws.length < 2) :
    Runs (.rejoinStepComplete p true) s fun t => t.pst p = pBound ∧ (t.eng p).job = .none := by
  refine ⟨_, rfl, ?_⟩
  rw [rejoinStep_copied ha hp hj hd hraws]
  dsimp only
  rw [done_pst, done_eng, verdictStale_eng, eng_modEng_same, pst_congr (verdictStale_reg_low _ _ _ (by simp only [eng]; omega)),
    pst_congr (modEng_reg _ _ _ _), setPair_pst]
  exact ⟨rfl, rfl⟩

end Sys2Proof.Machine

namespace Sys2Proof.Machine

/-! ## What no operation on engine pairs can reach -/

theorem showPool_keeps {β : Type} (P : State → β) (h : ∀ t a v, P (State.setReg t a v) = P t) (s : State) (p : Nat) : P (s.showPool p) = P s := by
  unfold State.showPool State.wr
  rw [h, h, h, h]

/-- Showing the placement writes registers alone. -/
theorem showPlc_keeps {β : Type} (P : State → β) (h : ∀ t a v, P (State.setReg t a v) = P t) (s : State) : P s.showPlc = P s := by
  unfold State.showPlc
  extract_lets bs insts s1 s2 s3 placed s4
  have e1 : P s1 = P s := foldl_keeps P _ _ (fun t d _ => foldl_keeps P _ _ (fun u p _ => h _ _ _) t) s
  have e2 : P s2 = P s1 := foldl_keeps P _ _ (fun t d _ => h _ _ _) s1
  have e4 : P s4 = P s2 := (h _ _ _).trans ((h _ _ _).trans (h _ _ _))
  rw [foldl_keeps P _ _ (fun t p _ => showPool_keeps P h t p), e4, e2, e1]

/-- A change of the placement is shown and recorded, and changes nothing else. -/
theorem placementChanged_keeps {β : Type} (P : State → β) (h : ∀ t a v, P (State.setReg t a v) = P t)
    (hr : ∀ (t : State) (r : RecH), P { t with recd := r } = P t) (s : State) (c p d o n : Nat) : P (s.placementChanged c p d o n) = P s := by
  unfold State.placementChanged State.inc State.wrSat State.wr
  simp only [stage_keeps P h hr, h, showPlc_keeps P h]

/-- A fold that carries a doorway number along keeps what each of its steps keeps. -/
theorem foldl_fst_keeps {α β : Type} (P : State → β) (f : State × Nat → α → State × Nat) (hf : ∀ x e, P (f x e).1 = P x.1) (l : List α)
    (x : State × Nat) : P (l.foldl f x).1 = P x.1 := by
  induction l generalizing x with
  | nil => rfl
  | cons e l ih => rw [List.foldl_cons, ih, hf]

/-- A function of the state that is blind also to the engine pairs, the placement, the faults and coppice operation. -/
structure PairBlind {β : Type} (P : State → β) : Prop where
  blind : Blind P
  modEng : ∀ (t : State) (p : PIx) (f : EngH → EngH), P (t.modEng p f) = P t
  plc : ∀ (t : State) (x : PlcH), P { t with plc := x } = P t
  flt : ∀ (t : State) (x : FltH), P { t with flt := x } = P t
  cop : ∀ (t : State) (x : CopH), P { t with cop := x } = P t

namespace PairBlind
variable {β : Type} {P : State → β} (h : PairBlind P)
include h

theorem setReg (s : State) (a : Nat) (v : Word) : P (s.setReg a v) = P s := h.blind.setReg s a v
theorem wr (s : State) (f : Fld) (v : Nat) : P (s.wr f v) = P s := h.blind.setReg _ _ _
theorem stage (s : State) (c d : Nat) (ws : List Nat) : P (s.stage c d ws) = P s := h.blind.stage s c d ws
theorem modTopi (s : State) (d : DIx) (f : TopiH → TopiH) : P (s.modTopi d f) = P s := h.blind.modDwy s d _
theorem placementChanged (s : State) (c p d o n : Nat) : P (s.placementChanged c p d o n) = P s :=
  placementChanged_keeps P h.setReg h.blind.recd s c p d o n
theorem openWin (s : State) (k n : Nat) : P (s.openWin k n) = P s := openWin_keeps P h.setReg h.flt s k n
theorem closeWin (s : State) (k n : Nat) : P (s.closeWin k n) = P s := closeWin_keeps P h.setReg h.flt s k n
theorem setPair (s : State) (p : PIx) (st n : Nat) : P (s.setPair p st n) = P s := (h.wr _ _ _).trans (h.wr _ _ _)
theorem dropFrame (s : State) (p : PIx) : P (s.dropFrame p) = P s := h.modEng _ _ _

theorem setFm (s : State) (p r st : Nat) : P (s.setFm p r st) = P s := by
  have e := h.plc s { s.plc with fm := Al.set (fun _ => 0) s.plc.fm (64 * p + r) st }
  have w : ∀ (t : State) (f : Fld) (b : Bool), P (t.setBit f r b) = P t := fun t f b => h.wr _ _ _
  unfold State.setFm
  rw [showPool_keeps P h.setReg]
  split
  case h_3 => exact ite_keeps P _ _ _ _ ((w _ _ _).trans e) ((h.wr _ _ _).trans e)
  case h_4 => exact (w _ _ _).trans ((w _ _ _).trans e)
  case h_6 => exact e
  all_goals exact (w _ _ _).trans e

theorem verdictOut (s : State) (d : DIx) (c : Nat) : P (s.verdictOut d c) = P s := by
  unfold State.verdictOut
  rw [h.modTopi, h.wr, h.wr, h.wr]

theorem fence (s : State) (d : DIx) (n : Nat) : P (s.fence d n) = P s := by
  unfold State.fence
  refine ite_keeps P _ _ _ _ rfl ?_
  extract_lets t1 t2 t3 t4
  have e1 : P t1 = P s := h.wr _ _ _
  have e2 : P t2 = P s := ite_keeps P _ _ _ _ e1 ((h.blind.modDwy _ _ _).trans ((h.stage _ _ _ _).trans ((h.wr _ _ _).trans e1)))
  have e3 : P t3 = P t2 := when_keeps P _ _ _ (h.blind.modDwy _ _ _)
  rw [h.blind.evalOutputs, h.blind.setF]
  exact (h.blind.lockDrop _ _).trans ((h.blind.torqueOff _ _).trans (e3.trans e2))

theorem fault (s : State) (d : DIx) (c : Nat) : P (s.fault d c) = P s := by
  have e : P (s.inc F.FLT_EVENTS) = P s := h.wr _ _ _
  unfold State.fault State.secondFault
  split
  · rw [h.fence, h.stage, e]
  · exact e

theorem noSpare (s : State) (d : DIx) (o c : Nat) : P (s.noSpare d o c) = P s := (h.fence _ _ _).trans (h.stage _ _ _ _)

theorem vacate (s : State) (p : PIx) (b : Bool) : P (s.vacate p b) = P s := by
  unfold State.vacate
  rw [h.modEng, h.setFm, h.setPair, h.dropFrame]

theorem rebind (s : State) (d : DIx) (p n c : Nat) : P (s.rebind d p n c) = P s := by
  unfold State.rebind
  rw [h.placementChanged, h.plc]

theorem swapPicks (s : State) (p x y : Nat) : P (s.swapPicks p x y) = P s := by
  unfold State.swapPicks
  extract_lets at_ other ra rb binds moves picks c t1 q r t2
  have e : P t2 = P s := by
    simp only [t2]
    rw [when_keeps P, h.plc]
    rw [h.wr, h.wr, h.modEng, h.modEng]
  rw [h.placementChanged, h.placementChanged, e]

theorem picked (s : State) (d : DIx) (p n : Nat) : P (s.picked d p n) = P s := by
  unfold State.picked
  extract_lets ms was t
  rw [foldl_fst_keeps P _ (fun x e => by split; exact h.swapPicks _ _ _ _; rfl)]
  exact h.plc _ _

theorem toSpare (s : State) (d : DIx) (o : Nat) : P (s.toSpare d o) = P s := by
  unfold State.toSpare
  split
  · rw [h.verdictOut, when_keeps P _ _ _ (h.picked _ _ _ _), h.modEng, h.setPair, h.rebind]
  · rw [h.noSpare, h.closeWin, h.rebind]

theorem quit (s : State) (d : DIx) (p : PIx) : P (s.quit d p) = P s := by
  unfold State.quit State.migrate
  split
  · rw [h.modEng, h.setPair, h.dropFrame]
  · rw [h.toSpare, h.vacate, h.openWin]

theorem platResult (s : State) (d : DIx) (t : Nat) (r : Option (Option (Int × Int))) : P (s.platResult d t r) = P s := by
  unfold State.platResult State.showPlat State.showStill
  rw [h.blind.setF, when_keeps P _ _ _ ((h.blind.wrS _ _ _).trans (h.blind.wrS _ _ _)), h.blind.setF, h.wr, h.blind.setF, h.blind.setF, h.modTopi]

theorem mismatchShow (s : State) (p : PIx) (k st ti : Nat) : P (s.mismatchShow p k st ti) = P s :=
  (h.wr _ _ _).trans ((h.wr _ _ _).trans ((h.wr _ _ _).trans ((h.wr _ _ _).trans (h.wr _ _ _))))

theorem mismatchActs (s : State) (p : PIx) (u r : Word) : P (s.mismatchActs p u r) = P s := by
  unfold State.mismatchActs
  split
  · exact h.vacate _ _ _
  · rw [h.quit, when_keeps P _ _ _ (h.noSpare _ _ _ _), h.platResult, h.verdictOut, h.fault, h.stage]

theorem rejoinFail (s : State) (p : PIx) (st ti : Nat) (u r : Word) : P (s.rejoinFail p st ti u r) = P s := by
  unfold State.rejoinFail State.pairMismatch
  rw [h.mismatchActs, h.mismatchShow, h.modEng, h.cop]

theorem rejoinSuspect (s : State) (p : PIx) : P (s.rejoinSuspect p) = P s := by
  have e := (h.cop (s.modEng p (fun e => { e with upEcc := false, job := .none })) { s.cop with failed := s.cop.failed + 1 }).trans (h.modEng _ _ _)
  unfold State.rejoinSuspect
  extract_lets
  split
  · exact (h.quit _ _ _).trans e
  · exact (h.vacate _ _ _).trans e

end PairBlind

theorem pairBlind_now : PairBlind State.now :=
  ⟨blind_now, fun _ _ _ => rfl, fun _ _ => rfl, fun _ _ => rfl, fun _ _ => rfl⟩

end Sys2Proof.Machine

namespace Sys2Proof.Machine

/-! ## A rejoin ends (R151 step 7, R152) -/

/-- The pairs that have not come to the end of their rejoin fail it, and those that were made SUSPECT migrate. -/
def State.rejoinFails (s : State) : State :=
  allP.foldl (fun u p =>
    if u.pairHere p && (u.pst p == pSplit || u.pst p == pRejoining) && !u.flag (F.PAIR_STATUS_TESTING p) then u.rejoinFail p 0 0x1FF 0 0
    else u.when (u.eng p).upEcc (fun t => t.rejoinSuspect p)) s

/-- A pair under test is SPARE again. -/
def State.rejoinTested (s : State) : State :=
  allP.foldl (fun u p => if u.pairHere p && u.pst p == pRejoining then u.setPair p pSpare 0x1F else u) s

/-- The end of a rejoin of length `us` in MOD_STATE and in the registers of coppice operation. -/
def State.rejoinShown (s : State) (us : Nat) : State :=
  let u := ((s.setF F.MOD_STATE_COPPICE false).setF F.COPPICE_STATUS_REJOINING false).showCoppice
  (((u.wrSat F.REJOIN_LAST_TIME us).wr F.REJOIN_LAST_TRIGGER s.cop.trigger).wrSat F.REJOIN_LAST_FAILED s.cop.failed).setF F.COPPICE_CTL_REJOIN false

/-- The record of a rejoin, and the moment of its end. -/
def State.rejoinEnded (s : State) (c : CopH) (us : Nat) : State :=
  let u := s.stage 0x0302 sysRec [c.trigger, us, c.failed]
  { u with cop := { u.cop with rejoinAt := none, endAt := some u.now } }

/-- An image that turned the operation off takes effect, and the change of the placement is shown (R161, R382). -/
def State.rejoinPlaced (s : State) : State := (s.applyRange 0x1800 0x1804).placementChanged 4 0 0x1F noRes noRes

theorem rejoinComplete_eq {s : State} {t0 : Nat} (ha : s.alive = true) (hr : s.cop.rejoinAt = some t0) (hs : s.pairsIn pSplit = 0)
    (hj : s.pairsIn pRejoining = 0) :
    rejoinComplete s =
      ((s.rejoinFails.rejoinTested.rejoinShown ((s.rejoinFails.rejoinTested.now - t0) / 160)).rejoinEnded s.rejoinFails.rejoinTested.cop
        ((s.rejoinFails.rejoinTested.now - t0) / 160)).rejoinPlaced := by
  unfold rejoinComplete
  rw [onM_of_alive ha, hr]
  extract_lets u v
  have ended : v = s.rejoinFails.rejoinTested := rfl
  dsimp only
  rw [if_neg (by simp [hs, hj]), ← ended]
  rfl

theorem rejoinFails_now (s : State) : s.rejoinFails.now = s.now := by
  unfold State.rejoinFails
  refine foldl_keeps State.now _ _ (fun u p _ => ?_) s
  split
  · exact pairBlind_now.rejoinFail _ _ _ _ _ _
  · exact when_keeps State.now _ _ _ (pairBlind_now.rejoinSuspect _ _)

theorem rejoinTested_now (s : State) : s.rejoinTested.now = s.now := by
  unfold State.rejoinTested
  refine foldl_keeps State.now _ _ (fun u p _ => ?_) s
  split
  · exact pairBlind_now.setPair _ _ _ _
  · rfl

theorem rejoinShown_now (s : State) (us : Nat) : (s.rejoinShown us).now = s.now := by
  unfold State.rejoinShown State.showCoppice
  rw [blind_now.setF, blind_now.wrSat, blind_now.wr, blind_now.wrSat, blind_now.setF, blind_now.wr, blind_now.setF, blind_now.setF]

theorem rejoinShown_reads (s : State) (us : Nat) :
    (s.rejoinShown us).flag F.MOD_STATE_COPPICE = false ∧ (s.rejoinShown us).flag F.COPPICE_STATUS_REJOINING = false ∧
    (s.rejoinShown us).flag F.COPPICE_CTL_REJOIN = false := by
  unfold State.rejoinShown
  extract_lets u
  have kept : ∀ a, a ≠ 0x180C → a ≠ 0x1808 →
      ((((u.wrSat F.REJOIN_LAST_TIME us).wr F.REJOIN_LAST_TRIGGER s.cop.trigger).wrSat F.REJOIN_LAST_FAILED s.cop.failed).setF F.COPPICE_CTL_REJOIN false).reg a =
        u.reg a := fun a hl hc => by
    rw [reg_setF_other _ _ _ _ hc, reg_wrSat_other _ _ _ _ hl, reg_wr_other _ _ _ _ hl, reg_wrSat_other _ _ _ _ hl]
  refine ⟨?_, ?_, setF_flag _ _ _ _ (by decide)⟩
  · rw [flag_congr (kept _ (by decide) (by decide)), flag_congr (showCoppice_reg _ _ (by decide)), flag_congr (reg_setF_other _ _ _ _ (by decide))]
    exact setF_flag _ _ _ _ (by decide)
  · rw [flag_congr (kept _ (by decide) (by decide))]
    simp only [u]
    unfold State.showCoppice
    rw [State.setF, wr_flag_bits _ _ _ _ _ _ _ (by decide) (by decide), wr_flag_bits _ _ _ _ _ _ _ (by decide) (by decide)]
    exact setF_flag _ _ _ _ (by decide)

theorem rejoinEnded_reg (s : State) (c : CopH) (us a : Nat) (h : recReg a = false) : (s.rejoinEnded c us).reg a = s.reg a := by
  unfold State.rejoinEnded
  exact (reg_with_cop _ _ _).trans (stage_reg _ _ _ _ _ h)

theorem rejoinEnded_cop (s : State) (c : CopH) (us : Nat) : (s.rejoinEnded c us).cop.rejoinAt = none ∧ (s.rejoinEnded c us).cop.endAt = some s.now :=
  ⟨rfl, congrArg some (stage_now _ _ _ _)⟩

theorem rejoinPlaced_reg (s : State) (a : Nat) (h : plcReg a = false) (h2 : 0x1804 ≤ a ∨ a < 0x1800) : s.rejoinPlaced.reg a = s.reg a := by
  unfold State.rejoinPlaced
  rw [placementChanged_reg h, applyRange_reg _ _ _ _ h2.symm]

theorem blind_cop : Blind State.cop :=
  ⟨fun _ _ _ => rfl, fun _ _ => rfl, fun _ _ _ => rfl, fun _ _ _ => rfl, fun _ _ => rfl, fun _ _ => rfl⟩

theorem rejoinPlaced_cop (s : State) : s.rejoinPlaced.cop = s.cop := by
  unfold State.rejoinPlaced
  rw [placementChanged_keeps State.cop blind_cop.setReg blind_cop.recd, blind_cop.applyRange]

theorem rejoinComplete_runs (s : State) (t0 : Nat) (ha : s.alive = true) (hr : s.cop.rejoinAt = some t0) (hs : s.pairsIn pSplit = 0)
    (hj : s.pairsIn pRejoining = 0) :
    Runs (.rejoinComplete) s fun t => t.flag F.MOD_STATE_COPPICE = false ∧ t.flag F.COPPICE_STATUS_REJOINING = false ∧
      t.flag F.COPPICE_CTL_REJOIN = false ∧ t.cop.rejoinAt = none ∧ t.cop.endAt = some s.now := by
  refine ⟨_, rfl, ?_⟩
  rw [rejoinComplete_eq ha hr hs hj]
  have hnow : s.rejoinFails.rejoinTested.now = s.now := (rejoinTested_now _).trans (rejoinFails_now s)
  generalize s.rejoinFails.rejoinTested = u at *
  generalize (u.now - t0) / 160 = us
  have kept : ∀ a, gatedReg a = false → plcReg a = false → (0x1804 ≤ a ∨ a < 0x1800) →
      (s.done ((u.rejoinShown us).rejoinEnded u.cop us).rejoinPlaced).reg a = (u.rejoinShown us).reg a := fun a hg hp hc =>
    (done_reg _ _ _ hg).trans ((rejoinPlaced_reg _ _ hp hc).trans (rejoinEnded_reg _ _ _ _ (plcReg_recReg hp)))
  obtain ⟨coppice, rejoining, request⟩ := rejoinShown_reads u us
  obtain ⟨started, ended⟩ := rejoinEnded_cop (u.rejoinShown us) u.cop us
  dsimp only
  rw [done_cop, rejoinPlaced_cop, started, ended, rejoinShown_now, hnow]
  exact ⟨(flag_congr (kept _ (by decide) (by decide) (by decide))).trans coppice, (flag_congr (kept _ (by decide) (by decide) (by decide))).trans rejoining,
    (flag_congr (kept _ (by decide) (by decide) (by decide))).trans request, rfl, rfl⟩

/-- Settles O13, clause by clause. -/
theorem pairsSplitAndRejoin : Obligations.PairsSplitAndRejoin :=
  ⟨localMemoryEccError_runs, pairSplit_runs, coppiceRejoin_runs, coppiceRejoin_idle_runs, rejoinStep_stopped_runs, rejoinStep_scrubbed_runs,
    rejoinStep_copied_runs, rejoinComplete_runs⟩

end Sys2Proof.Machine

/-!
PROOFS. Train lines: what a change of their levels shows in TL_STATE, TRN_STATUS and SIDE_MAP, and what it leaves (R261–R267).
-/
namespace Sys2Proof.Machine

/-! ## Which registers the doorways write -/

/-- The channels and the lock of a doorway write in its window alone. -/
theorem chanReg_low (d : DIx) {a : Nat} (h : a < 0x10000) : chanReg d a = false := by
  simp only [chanReg, Bool.or_eq_false_iff, beq_eq_false_iff_ne, ne_eq, List.any_eq_false, beq_iff_eq]
  exact ⟨by simp only [dw]; omega, fun k _ => by simp only [ch]; omega⟩

/-- The registers of the train lines and of their configuration, below those of the loops. -/
def lineReg (a : Nat) : Bool := decide (0x6000 ≤ a) && decide (a < 0x6010)

theorem lineReg_bounds {a : Nat} (h : lineReg a = true) : 0x6000 ≤ a ∧ a < 0x6010 := by simpa [lineReg] using h

theorem lineReg_recReg {a : Nat} (h : lineReg a = true) : recReg a = false := by
  obtain ⟨h1, h2⟩ := lineReg_bounds h
  simp only [recReg, Bool.or_eq_false_iff, beq_eq_false_iff_ne, ne_eq]
  omega

/-- No fence request writes a register of the train lines. -/
theorem lineReg_fenceReg (d : DIx) {a : Nat} (h : lineReg a = true) : fenceReg d a = false := by
  have hrec := lineReg_recReg h
  obtain ⟨h1, h2⟩ := lineReg_bounds h
  have hd := d.isLt
  have hdw : ∀ n, a ≠ dw d n := fun n => by simp only [dw]; omega
  have hax : ∀ (x : AIx) n, a ≠ ax d x n := fun x n => by simp only [ax]; omega
  have hout : outReg a = false := by
    simp only [outReg, hrec, Bool.or_eq_false_iff, beq_eq_false_iff_ne, ne_eq]
    exact ⟨⟨by omega, by omega⟩, trivial⟩
  simp only [fenceReg, torqueReg, hrec, hout, chanReg_low d (show a < 0x10000 by omega), Bool.or_false, Bool.or_eq_false_iff, beq_eq_false_iff_ne, ne_eq,
    List.any_eq_false, beq_iff_eq, Bool.or_eq_true, not_or]
  exact ⟨⟨by omega, hdw _⟩, ⟨⟨hdw _, hdw _⟩, hdw _⟩, fun x _ => ⟨⟨hax x _, hax x _⟩, hax x _⟩⟩

theorem lineReg_gatedReg {a : Nat} (h : lineReg a = true) : gatedReg a = false := by
  obtain ⟨h1, h2⟩ := lineReg_bounds h
  exact gatedReg_low a (by omega) (by omega) (by omega)

theorem lineReg_invReg {a : Nat} (h : lineReg a = true) : invReg a = false := by
  obtain ⟨h1, h2⟩ := lineReg_bounds h
  exact invReg_low a (by omega) (by omega) (by omega) (by omega) (by omega) (by omega)

/-! ## Zero speed (R262) -/

/-- The channels have been off together for long enough that both on again clear a discrepancy. -/
def State.zsArmed (s : State) : Bool := s.trn.zsArm || s.ran s.trn.zsBothOff 100

/-- The latch of a discrepancy after a refresh: it goes with both channels on, once armed. -/
def State.zsDiscNext (s : State) : Bool := s.flag F.TRN_STATUS_ZS_DISC && !(s.tl 0 && s.tl 1 && s.zsArmed)

/-- ZS_DISC and ZS_VALID after a refresh. -/
def State.zsShown (s : State) : State :=
  (s.setF F.TRN_STATUS_ZS_DISC s.zsDiscNext).setF F.TRN_STATUS_ZS_VALID (s.tl 0 && s.tl 1 && !s.zsDiscNext)

theorem zsShown_disc (s : State) : s.zsShown.flag F.TRN_STATUS_ZS_DISC = s.zsDiscNext := by
  unfold State.zsShown
  rw [State.setF, wr_flag_bits _ _ _ _ _ _ _ (by decide) (by decide)]
  exact setF_flag _ _ _ _ (by decide)

theorem zsShown_valid (s : State) : s.zsShown.zeroSpeed = (s.tl 0 && s.tl 1 && !s.zsDiscNext) := setF_flag _ _ _ _ (by decide)

theorem showStill_reg (s : State) (d : DIx) {a : Nat} (h : a < 0x10000) : (s.showStill d).reg a = s.reg a :=
  reg_setF_other _ _ _ _ (by simp only [dw]; omega)

theorem dropPermits_reg (s : State) {a : Nat} (h : a < 0x10000) : s.dropPermits.reg a = s.reg a := by
  refine foldl_keeps (State.reg · a) _ _ (fun t d _ => ite_keeps (State.reg · a) _ _ _ _ ?_ rfl) s
  exact (evalChans_reg _ _ _ (chanReg_low d h)).trans (reg_setF_other _ _ _ _ (by simp only [dw]; omega))

/-- Below the doorway windows a refresh of zero speed shows in ZS_DISC and ZS_VALID alone. -/
theorem zsUpdate_reg (s : State) {a : Nat} (h : a < 0x10000) : s.zsUpdate.reg a = s.zsShown.reg a := by
  unfold State.zsUpdate
  extract_lets p q off arm disc valid was known t src u v
  have hu : u.reg a = s.zsShown.reg a := reg_with_trn _ _ _
  have hv : v.reg a = u.reg a :=
    when_keeps (State.reg · a) _ _ _ (foldl_keeps (State.reg · a) _ _ (fun x d _ => showStill_reg x d h) _)
  exact (ite_keeps (State.reg · a) _ _ _ _ (dropPermits_reg v h) rfl).trans (hv.trans hu)

/-- Since when DEPOT has been active, and the time now. -/
def depotClock (s : State) : Option Nat × Nat := (s.trn.depotSince, s.now)

theorem blind_depotClock : Blind depotClock :=
  ⟨fun _ _ _ => rfl, fun _ _ => rfl, fun _ _ _ => rfl, fun _ _ _ => rfl, fun _ _ => rfl, fun _ _ => rfl⟩

theorem dropPermits_depotClock (s : State) : depotClock s.dropPermits = depotClock s :=
  foldl_keeps depotClock _ _ (fun _ _ _ => ite_keeps depotClock _ _ _ _ ((blind_depotClock.evalChans _ _).trans (blind_depotClock.setF _ _ _)) rfl) s

theorem zsUpdate_depotClock (s : State) : depotClock s.zsUpdate = depotClock s := by
  unfold State.zsUpdate
  extract_lets p q off arm disc valid was known t src u v
  have hu : depotClock u = depotClock s := rfl
  have hv : depotClock v = depotClock u :=
    when_keeps depotClock _ _ _ (foldl_keeps depotClock (fun x d => x.showStill d) _ (fun _ _ _ => blind_depotClock.setF _ _ _) _)
  exact (ite_keeps depotClock _ _ _ _ (dropPermits_depotClock v) rfl).trans (hv.trans hu)

/-! ## The map of the sides (R264, R267) -/

/-- A refresh of the map shows in SIDE_MAP alone. -/
theorem mapUpdate_reg (s : State) {a : Nat} (h : a ≠ 0x6008) : s.mapUpdate.reg a = s.reg a := by
  unfold State.mapUpdate
  extract_lets t m mis u known
  have ht : t.reg a = s.reg a := reg_wr_other _ _ _ _ h
  refine (reg_with_trn _ _ _).trans ((ite_keeps (State.reg · a) _ _ _ _ rfl ?_).trans ht)
  exact (reg_with_trn _ _ _).trans ((reg_setF_other _ _ _ _ h).trans (reg_wr_other _ _ _ _ h))

theorem mapUpdate_depotClock (s : State) : depotClock s.mapUpdate = depotClock s := by
  unfold State.mapUpdate
  extract_lets t m mis u known
  exact ite_keeps depotClock (t.rd F.SIDE_MAP_MAP = m) _ _ _ rfl rfl

/-- A refresh of the releases shows in TRN_STATUS alone. -/
theorem sideRelUpdate_reg (s : State) {a : Nat} (h : a ≠ 0x6004) : s.sideRelUpdate.reg a = s.reg a := by
  unfold State.sideRelUpdate
  rw [reg_setF_other _ _ _ _ h, reg_setF_other _ _ _ _ h, reg_setF_other _ _ _ _ h, reg_setF_other _ _ _ _ h]

/-- A refresh of the releases leaves ZS_VALID, ZS_DISC and DEPOT. -/
theorem sideRelUpdate_rd (s : State) {g : Fld} (h : g.addr ≠ 0x6004 ∨ g.lo + g.w ≤ 3) : s.sideRelUpdate.rd g = s.rd g := by
  have w : ∀ (t : State) (f : Fld) (b : Bool), f.addr = 0x6004 → f.lo + f.w ≤ 32 → 3 ≤ f.lo → (t.setF f b).rd g = t.rd g := fun t f b ha hw hlo =>
    rd_wr_ne _ _ _ _ (h.imp (fun h => ha ▸ h) fun h => ⟨hw, Or.inl (by omega)⟩)
  unfold State.sideRelUpdate
  rw [w _ _ _ rfl (by decide) (by decide), w _ _ _ rfl (by decide) (by decide), w _ _ _ rfl (by decide) (by decide),
    w _ _ _ rfl (by decide) (by decide)]

theorem sideRelUpdate_writes {s t : State} {l : List Fld} (h : s.writes t l)
    (hl : [F.TRN_STATUS_NET_REL_LEFT, F.TRN_STATUS_NET_REL_RIGHT, F.TRN_STATUS_SIDE1_REL, F.TRN_STATUS_SIDE2_REL] ⊆ l) : s.writes t.sideRelUpdate l :=
  writes_setF (writes_setF (writes_setF (writes_setF h _ _ (hl (by simp)) (by decide)) _ _ (hl (by simp)) (by decide)) _ _ (hl (by simp)) (by decide))
    _ _ (hl (by simp)) (by decide)

theorem sideRelUpdate_hidden (s : State) (r : List (Nat × Word)) : ({ s.sideRelUpdate with regs := r } : State) = { s with regs := r } := by
  unfold State.sideRelUpdate
  rw [setF_hidden, setF_hidden, setF_hidden, setF_hidden]

theorem sideRelUpdate_trn (s : State) : s.sideRelUpdate.trn = s.trn := by
  unfold State.sideRelUpdate
  rw [setF_trn, setF_trn, setF_trn, setF_trn]

/-- The release of the left side, as the line and the safe data give it. -/
def State.leftRel (s : State) : Bool := s.netRel (s.tl 2) s.trn.sdtL

/-- The release of the right side. -/
def State.rightRel (s : State) : Bool := s.netRel (s.tl 3) s.trn.sdtR

/-- The train's sides take releases: zero speed is valid and the map is stable. -/
def State.sidesHeld (s : State) : Bool :=
  s.zeroSpeed && s.flag F.SIDE_MAP_STABLE && (s.rd F.SIDE_MAP_MAP == 1 || s.rd F.SIDE_MAP_MAP == 2)

/-- What a refresh of the releases shows (R267). -/
theorem sideRelUpdate_reads (s : State) :
    s.sideRelUpdate.flag F.TRN_STATUS_NET_REL_LEFT = s.leftRel ∧ s.sideRelUpdate.flag F.TRN_STATUS_NET_REL_RIGHT = s.rightRel ∧
    s.sideRelUpdate.flag F.TRN_STATUS_SIDE1_REL = (s.sidesHeld && (if s.rd F.SIDE_MAP_MAP = 1 then s.leftRel else s.rightRel)) ∧
    s.sideRelUpdate.flag F.TRN_STATUS_SIDE2_REL = (s.sidesHeld && (if s.rd F.SIDE_MAP_MAP = 1 then s.rightRel else s.leftRel)) := by
  unfold State.sideRelUpdate
  refine ⟨?_, ?_, ?_, setF_flag _ _ _ _ (by decide)⟩
  · refine (wr_flag_bits _ _ _ _ _ _ _ (by decide) (by decide)).trans ((wr_flag_bits _ _ _ _ _ _ _ (by decide) (by decide)).trans ?_)
    exact (wr_flag_bits _ _ _ _ _ _ _ (by decide) (by decide)).trans (setF_flag _ _ _ _ (by decide))
  · refine (wr_flag_bits _ _ _ _ _ _ _ (by decide) (by decide)).trans ((wr_flag_bits _ _ _ _ _ _ _ (by decide) (by decide)).trans ?_)
    exact setF_flag _ _ _ _ (by decide)
  · exact (wr_flag_bits _ _ _ _ _ _ _ (by decide) (by decide)).trans (setF_flag _ _ _ _ (by decide))

/-! ## Maintenance access (R297) -/

/-- Losing maintenance access fences doorways, which leaves the registers of the train lines. -/
theorem maintCheck_reg (s : State) {a : Nat} (h : lineReg a = true) : s.maintCheck.reg a = s.reg a :=
  foldl_keeps (State.reg · a) _ _ (fun _ d _ => when_keeps (State.reg · a) _ _ _ (fence_reg _ _ _ _ (lineReg_fenceReg d h))) s

theorem maintCheck_keeps {β : Type} {P : State → β} (h : PairBlind P) (s : State) : P s.maintCheck = P s :=
  foldl_keeps P _ _ (fun _ _ _ => when_keeps P _ _ _ (h.fence _ _ _)) s

theorem pairBlind_trn : PairBlind State.trn :=
  ⟨⟨fun _ _ _ => rfl, fun _ _ => rfl, fun _ _ _ => rfl, fun _ _ _ => rfl, fun _ _ => rfl, fun _ _ => rfl⟩,
    fun _ _ _ => rfl, fun _ _ => rfl, fun _ _ => rfl, fun _ _ => rfl⟩

/-- The releases that the lines and the safe data give are read from TL_STATE and TRN_CFG. -/
theorem leftRel_congr {s t : State} (hl : t.reg 0x6000 = s.reg 0x6000) (hc : t.reg 0x600C = s.reg 0x600C) (ht : t.trn = s.trn) : t.leftRel = s.leftRel := by
  unfold State.leftRel State.netRel State.tl
  rw [ht, rd_congr (s := t) (t := s) (f := F.TL_STATE) hl, rd_congr (s := t) (t := s) (f := F.TRN_CFG_REL_SRC) hc]

end Sys2Proof.Machine

/-!
PROOFS. A change of the train lines, and depot mode (O50, and the train lines of O21).
-/
namespace Sys2Proof.Machine

/-! ## What a change of the lines is made of -/

/-- The lines read as given, and zero speed and the map follow. -/
def State.linesTaken (s : State) (levels : Nat) : State :=
  (s.wr F.TL_STATE (s.rd F.TL_STATE / 4096 * 4096 + levels % 4096)).zsUpdate.mapUpdate

/-- Depot mode ends where DEPOT is inactive (R263). -/
def State.depotShown (s : State) : State := s.when (!s.tl 6) (fun t => t.setF F.TRN_STATUS_DEPOT false)

theorem tlBegin_reg (s : State) (j a : Nat) : (s.tlBegin j).reg a = s.reg a := ite_keeps (State.reg · a) _ _ _ _ rfl (reg_with_trn _ _ _)

theorem tlBegin_depotClock (s : State) (j : Nat) : depotClock (s.tlBegin j) = depotClock s := ite_keeps depotClock _ _ _ _ rfl rfl

/-! ### The lines as taken -/

theorem linesTaken_reg (s : State) (levels : Nat) {a : Nat} (h : a < 0x10000) (hm : a ≠ 0x6008) :
    (s.linesTaken levels).reg a = (s.wr F.TL_STATE (s.rd F.TL_STATE / 4096 * 4096 + levels % 4096)).zsShown.reg a :=
  (mapUpdate_reg _ hm).trans (zsUpdate_reg _ h)

theorem zsShown_reg (s : State) {a : Nat} (h : a ≠ 0x6004) : s.zsShown.reg a = s.reg a :=
  (reg_setF_other _ _ _ _ h).trans (reg_setF_other _ _ _ _ h)

theorem zsShown_depot (s : State) : s.zsShown.flag F.TRN_STATUS_DEPOT = s.flag F.TRN_STATUS_DEPOT :=
  (wr_flag_bits _ _ _ _ _ _ _ (by decide) (by decide)).trans (wr_flag_bits _ _ _ _ _ _ _ (by decide) (by decide))

theorem tl_congr {s t : State} (h : t.reg 0x6000 = s.reg 0x6000) (n : Nat) : t.tl n = s.tl n := by
  unfold State.tl; rw [rd_congr (s := t) (t := s) (f := F.TL_STATE) h]

/-- Zero speed is valid with both channels on and no discrepancy latched (R262). -/
theorem zsShown_zeroSpeed (s : State) : s.zsShown.zeroSpeed = (s.zsShown.tl 0 && s.zsShown.tl 1 && !s.zsShown.flag F.TRN_STATUS_ZS_DISC) := by
  rw [zsShown_valid, zsShown_disc, tl_congr (zsShown_reg s (by decide)), tl_congr (zsShown_reg s (by decide))]

theorem linesTaken_levels (s : State) (levels : Nat) : (s.linesTaken levels).rd F.TL_STATE % 4096 = levels % 4096 := by
  have hlt := rd_lt s F.TL_STATE
  rw [rd_congr (f := F.TL_STATE) ((linesTaken_reg s levels (by decide) (by decide)).trans (zsShown_reg _ (by decide))), wr_rd _ _ _ _ _ (by decide)]
  simp only at hlt
  omega

theorem linesTaken_zeroSpeed (s : State) (levels : Nat) : (s.linesTaken levels).zeroSpeed =
    ((s.linesTaken levels).tl 0 && (s.linesTaken levels).tl 1 && !(s.linesTaken levels).flag F.TRN_STATUS_ZS_DISC) := by
  have hl := linesTaken_reg s levels (a := 0x6000) (by decide) (by decide)
  have hs : ∀ f : Fld, f.addr = 0x6004 → (s.linesTaken levels).flag f = (s.wr F.TL_STATE _).zsShown.flag f :=
    fun f hf => flag_congr (linesTaken_reg s levels (by omega) (by omega))
  rw [tl_congr hl, tl_congr hl, State.zeroSpeed, hs _ rfl, hs _ rfl]
  exact zsShown_zeroSpeed _

theorem linesTaken_depot (s : State) (levels : Nat) : (s.linesTaken levels).flag F.TRN_STATUS_DEPOT = s.flag F.TRN_STATUS_DEPOT := by
  rw [flag_congr (linesTaken_reg s levels (by decide) (by decide)), zsShown_depot]
  exact flag_congr (reg_wr_other _ _ _ _ (by decide))

theorem linesTaken_depotClock (s : State) (levels : Nat) : depotClock (s.linesTaken levels) = depotClock s :=
  (mapUpdate_depotClock _).trans ((zsUpdate_depotClock _).trans (blind_depotClock.wr _ _ _))

theorem linesTaken_tl (s : State) (levels : BitVec 12) (n : Nat) : (s.linesTaken levels.toNat).tl n = levels.getLsbD n := by
  have hlt := levels.isLt
  show bitOf ((s.linesTaken levels.toNat).rd F.TL_STATE % 4096) n = _
  rw [linesTaken_levels, Nat.mod_eq_of_lt hlt, BitVec.getLsbD, Nat.testBit_eq_decide_div_mod_eq]
  rfl

/-! ### Depot mode follows its line -/

theorem depotShown_rd (s : State) {g : Fld} (h : g.addr ≠ 0x6004 ∨ g.lo + g.w ≤ 2) : s.depotShown.rd g = s.rd g :=
  when_keeps (State.rd · g) _ _ _ (rd_wr_ne _ _ _ _ (h.imp id fun h => ⟨by decide, Or.inl h⟩))

theorem depotShown_depot (s : State) : s.depotShown.flag F.TRN_STATUS_DEPOT = (s.flag F.TRN_STATUS_DEPOT && s.tl 6) := by
  unfold State.depotShown State.when
  cases s.tl 6
  · rw [Bool.and_false]
    exact setF_flag _ _ _ _ (by decide)
  · rw [Bool.and_true]
    rfl

theorem depotClock_reset (s : State) (k : TrnH) (x y e : Option Nat) (b : Bool) :
    depotClock { s with trn := { k with rstOff := x, rstOn := y, rstReady := b, rstEdge := e } } = (k.depotSince, s.now) := rfl

theorem depotClock_since (s : State) (k : TrnH) (x : Option Nat) : depotClock { s with trn := { k with depotSince := x } } = (x, s.now) := rfl

/-- Before the releases and maintenance access follow, a change of the lines shows in the lines as taken and in DEPOT, whose second runs on from
where it began. -/
theorem trainUpdate_lines (s : State) (levels : Nat) : ∃ v : State, s.trainUpdate levels = v.sideRelUpdate.maintCheck ∧
    (∀ a, a < 0x10000 → v.reg a = (s.linesTaken levels).depotShown.reg a) ∧
    depotClock v = ((s.linesTaken levels).keep ((s.linesTaken levels).tl 6) (s.linesTaken levels).trn.depotSince, (s.linesTaken levels).now) := by
  unfold State.trainUpdate
  extract_lets tls t u dep src v w r0 r src2 x y
  have hu : u = s.linesTaken levels := rfl
  have hv : ∀ a, v.reg a = u.reg a := reg_with_trn _ _
  have hw : ∀ a, w.reg a = u.depotShown.reg a := fun a => by
    simp only [w, dep, State.depotShown, when_reg, hv, State.setF, reg_wr]
  have hy : ∀ a, a < 0x10000 → y.reg a = x.reg a := fun a h => ite_keeps (State.reg · a) _ _ _ _ rfl
    (foldl_keeps (State.reg · a) _ _ (fun t d _ => when_keeps (State.reg · a) _ _ _ (reg_setF_other _ _ _ _ (by simp only [dw]; omega))) _)
  have cv : depotClock v = (u.keep dep u.trn.depotSince, u.now) := (depotClock_since u src _).trans (by
    unfold State.keep
    generalize u.trn.depotSince = o
    cases o <;> rfl)
  have cw : depotClock w = depotClock v := when_keeps depotClock _ _ _ (blind_depotClock.setF _ _ _)
  have cx : depotClock x = depotClock w := (depotClock_reset w src2 _ _ _ _).trans (congrArg (fun k : TrnH => (k.depotSince, w.now)) (rfl : src2 = w.trn))
  have cy : depotClock y = depotClock x := ite_keeps depotClock _ _ _ _ rfl
    (foldl_keeps depotClock _ _ (fun t d _ => when_keeps depotClock _ _ _ (blind_depotClock.setF _ _ _)) _)
  refine ⟨y, rfl, fun a h => ?_, ?_⟩
  · rw [hy a h, ← hu, ← hw]
    exact reg_with_trn _ _ _
  · rw [cy, cx, cw, cv, ← hu]

/-! ### The whole change -/

/-- Of the registers of the lines, all but DEPOT and the releases read as the lines' taking leaves them. -/
theorem trainUpdate_rd (s : State) (levels : Nat) {g : Fld} (hg : lineReg g.addr = true) (h : g.addr ≠ 0x6004 ∨ g.lo + g.w ≤ 2) :
    (s.trainUpdate levels).rd g = (s.linesTaken levels).rd g := by
  obtain ⟨v, e, hreg, -⟩ := trainUpdate_lines s levels
  rw [e, rd_congr (maintCheck_reg _ hg), sideRelUpdate_rd _ (h.imp id fun h => by omega),
    rd_congr (hreg _ (by have := lineReg_bounds hg; omega)), depotShown_rd _ h]

theorem trainUpdate_depot (s : State) (levels : BitVec 12) :
    (s.trainUpdate levels.toNat).flag F.TRN_STATUS_DEPOT = (s.flag F.TRN_STATUS_DEPOT && levels.getLsbD 6) := by
  obtain ⟨v, e, hreg, -⟩ := trainUpdate_lines s levels.toNat
  have released : v.sideRelUpdate.flag F.TRN_STATUS_DEPOT = v.flag F.TRN_STATUS_DEPOT :=
    congrArg (· != 0) (sideRelUpdate_rd v (Or.inr (by decide)))
  rw [e, flag_congr (maintCheck_reg _ (by decide)), released, flag_congr (hreg _ (by decide)), depotShown_depot, linesTaken_depot, linesTaken_tl]

theorem trainUpdate_depotSince (s : State) (levels : BitVec 12) :
    (s.trainUpdate levels.toNat).trn.depotSince = s.keep (levels.getLsbD 6) s.trn.depotSince := by
  obtain ⟨v, e, -, clock⟩ := trainUpdate_lines s levels.toNat
  obtain ⟨since, now⟩ := Prod.mk.inj (linesTaken_depotClock s levels.toNat)
  obtain ⟨followed, -⟩ := Prod.mk.inj clock
  rw [e, maintCheck_keeps pairBlind_trn, sideRelUpdate_trn, followed, linesTaken_tl]
  unfold State.keep
  rw [since, now]

theorem trainUpdate_leftRel (s : State) (levels : Nat) :
    (s.trainUpdate levels).flag F.TRN_STATUS_NET_REL_LEFT = (s.trainUpdate levels).leftRel := by
  obtain ⟨v, e, -, -⟩ := trainUpdate_lines s levels
  obtain ⟨left, -⟩ := sideRelUpdate_reads v
  have shown : v.sideRelUpdate.maintCheck.leftRel = v.leftRel := leftRel_congr ((maintCheck_reg _ (by decide)).trans (sideRelUpdate_reg v (by decide)))
    ((maintCheck_reg _ (by decide)).trans (sideRelUpdate_reg v (by decide))) ((maintCheck_keeps pairBlind_trn _).trans (sideRelUpdate_trn v))
  rw [e, flag_congr (maintCheck_reg _ (by decide)), left, shown]

end Sys2Proof.Machine

/-!
PROOFS. What a change of the train lines leaves after the command, and the second of depot mode (O50).
-/
namespace Sys2Proof.Machine

/-! ## A change of the train lines as a command (R261, R263) -/

theorem trainLineChange_of_alive {s : State} (h : s.alive = true) (levels : BitVec 12) :
    trainLineChange levels s = ((s.tlBegin 0).tlBegin 1).trainUpdate levels.toNat := onM_of_alive h _

theorem tlBegins_depotClock (s : State) : depotClock ((s.tlBegin 0).tlBegin 1) = depotClock s := (tlBegin_depotClock _ _).trans (tlBegin_depotClock _ _)

/-- The second of depot mode after a change of the lines: it runs on, or starts, while DEPOT is active. -/
theorem done_trainLineChange_depotSince {s : State} (h : s.alive = true) (levels : BitVec 12) :
    (s.done (trainLineChange levels s)).trn.depotSince = s.keep (levels.getLsbD 6) s.trn.depotSince := by
  obtain ⟨since, now⟩ := Prod.mk.inj (tlBegins_depotClock s)
  rw [done_trn, trainLineChange_of_alive h, trainUpdate_depotSince]
  unfold State.keep
  rw [since, now]

/-- Depot mode ends with DEPOT, and does not begin with it. -/
theorem done_trainLineChange_depot {s : State} (h : s.alive = true) (levels : BitVec 12) :
    (s.done (trainLineChange levels s)).flag F.TRN_STATUS_DEPOT = (s.flag F.TRN_STATUS_DEPOT && levels.getLsbD 6) := by
  rw [done_flag _ _ _ (by decide), trainLineChange_of_alive h, trainUpdate_depot, flag_congr ((tlBegin_reg _ _ _).trans (tlBegin_reg s _ _))]

theorem done_trainLineChange_rd {s : State} (h : s.alive = true) (levels : BitVec 12) {g : Fld} (hg : lineReg g.addr = true)
    (hs : g.addr ≠ 0x6004 ∨ g.lo + g.w ≤ 2) :
    (s.done (trainLineChange levels s)).rd g = (((s.tlBegin 0).tlBegin 1).linesTaken levels.toNat).rd g := by
  rw [done_rd _ _ _ (lineReg_gatedReg hg), trainLineChange_of_alive h, trainUpdate_rd _ _ hg hs]

theorem done_trainLineChange_tl {s : State} (h : s.alive = true) (levels : BitVec 12) (n : Nat) :
    (s.done (trainLineChange levels s)).tl n = levels.getLsbD n := by
  rw [← linesTaken_tl ((s.tlBegin 0).tlBegin 1) levels n, State.tl, done_trainLineChange_rd h levels (by decide) (Or.inl (by decide))]
  rfl

theorem done_leftRel (s t : State) : (s.done t).leftRel = t.leftRel :=
  leftRel_congr (done_reg _ _ _ (by decide)) (done_reg _ _ _ (by decide)) (done_trn _ _)

/-- The lines show, zero speed is valid while both channels are on and no discrepancy is latched, the left release follows its line (R261, R262, R267). -/
theorem trainLineChange_runs (s : State) (levels : BitVec 12) (h : s.alive = true) :
    Runs (.trainLineChange levels) s fun t => t.rd F.TL_STATE % 4096 = levels.toNat ∧
      t.zeroSpeed = (t.tl 0 && t.tl 1 && !t.flag F.TRN_STATUS_ZS_DISC) ∧
      t.flag F.TRN_STATUS_NET_REL_LEFT = t.netRel (t.tl 2) t.trn.sdtL ∧
      (t.tl 6 = false → t.flag F.TRN_STATUS_DEPOT = false) := by
  refine ⟨s.done (trainLineChange levels s), rfl, ?_, ?_, ?_, fun h6 => ?_⟩
  · rw [done_trainLineChange_rd h levels (by decide) (Or.inl (by decide)), linesTaken_levels, Nat.mod_eq_of_lt levels.isLt]
  · have speed := linesTaken_zeroSpeed ((s.tlBegin 0).tlBegin 1) levels.toNat
    have shown : ∀ g : Fld, g.addr = 0x6004 → g.lo + g.w ≤ 2 →
        (s.done (trainLineChange levels s)).flag g = (((s.tlBegin 0).tlBegin 1).linesTaken levels.toNat).flag g :=
      fun g hg hs => congrArg (· != 0) (done_trainLineChange_rd h levels (hg ▸ by decide) (Or.inr hs))
    rw [linesTaken_tl, linesTaken_tl] at speed
    rw [State.zeroSpeed, shown _ rfl (by decide), shown _ rfl (by decide), done_trainLineChange_tl h, done_trainLineChange_tl h]
    exact speed
  · refine Eq.trans ?_ (done_leftRel s (trainLineChange levels s)).symm
    rw [done_flag _ _ _ (by decide), trainLineChange_of_alive h]
    exact trainUpdate_leftRel _ _
  · rw [done_trainLineChange_tl h] at h6
    rw [done_trainLineChange_depot h, h6, Bool.and_false]

/-! ## The second of depot mode (R263) -/

/-- The first sample with DEPOT active starts the second. -/
theorem trainLineChange_starts_depot (s : State) (levels : BitVec 12) (h : s.alive = true) (hd : levels.getLsbD 6 = true) (hn : s.trn.depotSince = none) :
    Runs (.trainLineChange levels) s fun t => t.trn.depotSince = some s.now ∧ t.flag F.TRN_STATUS_DEPOT = s.flag F.TRN_STATUS_DEPOT := by
  refine ⟨_, rfl, (done_trainLineChange_depotSince h levels).trans ?_, (done_trainLineChange_depot h levels).trans ?_⟩
  · rw [hd, hn]; rfl
  · rw [hd, Bool.and_true]

/-- Further ones leave it running. -/
theorem trainLineChange_keeps_depot (s : State) (levels : BitVec 12) (a : Nat) (h : s.alive = true) (hd : levels.getLsbD 6 = true)
    (ha : s.trn.depotSince = some a) :
    Runs (.trainLineChange levels) s fun t => t.trn.depotSince = some a ∧ t.flag F.TRN_STATUS_DEPOT = s.flag F.TRN_STATUS_DEPOT := by
  refine ⟨_, rfl, (done_trainLineChange_depotSince h levels).trans ?_, (done_trainLineChange_depot h levels).trans ?_⟩
  · rw [hd, ha]; rfl
  · rw [hd, Bool.and_true]

/-- An inactive one ends both. -/
theorem trainLineChange_ends_depot (s : State) (levels : BitVec 12) (h : s.alive = true) (hd : levels.getLsbD 6 = false) :
    Runs (.trainLineChange levels) s fun t => t.trn.depotSince = none ∧ t.flag F.TRN_STATUS_DEPOT = false := by
  refine ⟨_, rfl, (done_trainLineChange_depotSince h levels).trans ?_, (done_trainLineChange_depot h levels).trans ?_⟩
  · rw [hd]; rfl
  · rw [hd, Bool.and_false]

/-- A flag of the train lines that a timer sets or clears shows, and nothing else has changed. -/
theorem lineFlag_shown (s : State) (a lo : Nat) (b : Bool) (ha : lineReg a = true) (hlo : lo + 1 ≤ 32) :
    (s.done (s.setF ⟨a, lo, 1⟩ b)).flag ⟨a, lo, 1⟩ = b ∧ (s.Inv → s.sameBut (s.done (s.setF ⟨a, lo, 1⟩ b)) [⟨a, lo, 1⟩]) := by
  refine ⟨(done_flag _ _ _ (lineReg_gatedReg ha)).trans (setF_flag _ _ _ _ hlo), fun hi => ?_⟩
  refine done_sameBut s _ _ hi (setF_hidden s _ b s.regs) (writes_setF (writes_refl s _) _ _ List.mem_cons_self hlo) fun f hf => ?_
  rw [List.mem_singleton.mp hf]
  exact lineReg_invReg ha

theorem depotModeActive_of_alive {s : State} (h : s.alive = true) :
    depotModeActive s = s.when (s.ran s.trn.depotSince 1000) (fun t => t.setF F.TRN_STATUS_DEPOT true) := onM_of_alive h _

/-- Once the second is over, depot mode is active. -/
theorem depotModeActive_runs (s : State) (h : s.alive = true) (hr : s.ran s.trn.depotSince 1000 = true) :
    Runs .depotModeActive s fun t => t.flag F.TRN_STATUS_DEPOT = true ∧ (s.Inv → s.sameBut t [F.TRN_STATUS_DEPOT]) := by
  refine ⟨s.done (depotModeActive s), rfl, ?_⟩
  rw [depotModeActive_of_alive h, hr]
  exact lineFlag_shown s 0x6004 2 true (by decide) (by decide)

/-- Not before: a second that is not over, or none, changes nothing. -/
theorem depotModeActive_early (s : State) (h : s.alive = true) (hr : s.ran s.trn.depotSince 1000 = false) :
    Runs .depotModeActive s fun t => s.Inv → s.sameBut t [] := by
  refine ⟨s.done (depotModeActive s), rfl, fun hi => ?_⟩
  rw [depotModeActive_of_alive h, hr]
  exact done_same s hi

theorem ran_of_past {s : State} {t : Option Nat} {a n : Nat} (ht : t = some a) (h : a + msT n ≤ s.now) : s.ran t n = true := by
  rw [ht]; exact decide_eq_true h

theorem ran_of_not_past {s : State} {t : Option Nat} {n : Nat} (h : ∀ a ∈ t, s.now < a + msT n) : s.ran t n = false := by
  cases t with
  | none => rfl
  | some a => exact decide_eq_false (Nat.not_le.mpr (h a rfl))

/-- Settles O50, clause by clause. -/
theorem depotModeNeedsASecond : Obligations.DepotModeNeedsASecond :=
  ⟨trainLineChange_starts_depot, trainLineChange_keeps_depot, trainLineChange_ends_depot,
    fun s _ h ha ht => depotModeActive_runs s h (ran_of_past ha ht), fun s h hn => depotModeActive_early s h (ran_of_not_past hn)⟩

end Sys2Proof.Machine

/-!
PROOFS. Zero speed, the map of the sides and the lock of a doorway (O21).
-/
namespace Sys2Proof.Machine

/-! ## Channels of zero speed that differ (R262) -/

/-- A discrepancy that is latched stays while the channels are not both on. -/
theorem zsDiscNext_of_latched {s : State} (hd : s.flag F.TRN_STATUS_ZS_DISC = true) (hn : (s.tl 0 && s.tl 1) = false) : s.zsDiscNext = true := by
  unfold State.zsDiscNext
  rw [hd, hn]
  rfl

theorem zsUpdate_disc (s : State) : s.zsUpdate.flag F.TRN_STATUS_ZS_DISC = s.zsDiscNext :=
  (flag_congr (zsUpdate_reg s (by decide))).trans (zsShown_disc s)

theorem zsUpdate_zeroSpeed (s : State) : s.zsUpdate.zeroSpeed = (s.tl 0 && s.tl 1 && !s.zsDiscNext) :=
  (flag_congr (zsUpdate_reg s (by decide))).trans (zsShown_valid s)

/-- The state in which a discrepancy is latched and counted as a fault, before zero speed follows. -/
def State.zsLatched (s : State) : State :=
  let s := (s.setF F.TRN_STATUS_ZS_DISC true).faultM
  { s with trn := { s.trn with zsArm := false } }

theorem zsLatched_tl (s : State) (n : Nat) : s.zsLatched.tl n = s.tl n :=
  tl_congr ((reg_with_trn _ _ _).trans ((faultM_reg _ _ (by decide)).trans (reg_setF_other _ _ _ _ (by decide)))) n

theorem zsLatched_disc (s : State) : s.zsLatched.flag F.TRN_STATUS_ZS_DISC = true :=
  (flag_congr ((reg_with_trn _ _ _).trans (faultM_reg _ _ (by decide)))).trans (setF_flag _ _ _ _ (by decide))

theorem zeroSpeedDiscrepancy_of_due {s : State} (h : s.alive = true) (hr : s.ran s.trn.zsDiff 500 = true) (hd : s.flag F.TRN_STATUS_ZS_DISC = false) :
    ∃ ws, zeroSpeedDiscrepancy s = s.zsLatched.zsUpdate.sideRelUpdate.stage 0x3105 sysRec ws := by
  unfold zeroSpeedDiscrepancy
  rw [onM_of_alive h, if_pos (by rw [hr, hd]; rfl)]
  exact ⟨_, rfl⟩

/-- Channels that differ for 500 ms latch a discrepancy: zero speed is not valid, and the sides have no release. -/
theorem zeroSpeedDiscrepancy_runs (s : State) (h : s.alive = true) (hr : s.ran s.trn.zsDiff 500 = true) (hd : s.flag F.TRN_STATUS_ZS_DISC = false)
    (hne : s.tl 0 ≠ s.tl 1) :
    Runs .zeroSpeedDiscrepancy s fun t => t.flag F.TRN_STATUS_ZS_DISC = true ∧ t.zeroSpeed = false ∧
      t.flag F.TRN_STATUS_SIDE1_REL = false ∧ t.flag F.TRN_STATUS_SIDE2_REL = false := by
  obtain ⟨ws, e⟩ := zeroSpeedDiscrepancy_of_due h hr hd
  have off : (s.zsLatched.tl 0 && s.zsLatched.tl 1) = false := by
    rw [zsLatched_tl, zsLatched_tl]
    revert hne
    cases s.tl 0 <;> cases s.tl 1 <;> decide
  have latched := zsDiscNext_of_latched (zsLatched_disc s) off
  have disc := (zsUpdate_disc s.zsLatched).trans latched
  have invalid : s.zsLatched.zsUpdate.zeroSpeed = false := by rw [zsUpdate_zeroSpeed, off, Bool.false_and]
  refine ⟨s.done (zeroSpeedDiscrepancy s), rfl, ?_⟩
  rw [e]
  generalize s.zsLatched.zsUpdate = u at disc invalid
  have held : u.sidesHeld = false := by unfold State.sidesHeld; rw [invalid]; rfl
  have shown : ∀ f : Fld, f.addr = 0x6004 → (s.done (u.sideRelUpdate.stage 0x3105 sysRec ws)).flag f = u.sideRelUpdate.flag f := fun f hf =>
    flag_congr ((done_reg _ _ _ (hf ▸ by decide)).trans (stage_reg _ _ _ _ _ (hf ▸ by decide)))
  have kept : ∀ f : Fld, f.lo + f.w ≤ 3 → u.sideRelUpdate.flag f = u.flag f := fun f hf => congrArg (· != 0) (sideRelUpdate_rd u (Or.inr hf))
  obtain ⟨-, -, side1, side2⟩ := sideRelUpdate_reads u
  refine ⟨(shown _ rfl).trans ((kept _ (by decide)).trans disc), (shown _ rfl).trans ((kept _ (by decide)).trans invalid),
    (shown _ rfl).trans (side1.trans ?_), (shown _ rfl).trans (side2.trans ?_)⟩ <;> rw [held, Bool.false_and]

/-! ## The map of the sides (R265, R266) -/

theorem sideMapStable_of_due {s : State} (h : s.alive = true) (hm : s.rd F.SIDE_MAP_MAP ≠ 0) (ht : s.trn.mapSince + msT 1000 ≤ s.now) :
    sideMapStable s = (s.setF F.SIDE_MAP_STABLE true).sideRelUpdate := by
  unfold sideMapStable
  rw [onM_of_alive h, if_pos ⟨hm, decide_eq_true ht⟩]

theorem sideMapStable_runs (s : State) (h : s.alive = true) (hm : s.rd F.SIDE_MAP_MAP ≠ 0) (ht : s.trn.mapSince + msT 1000 ≤ s.now) :
    Runs .sideMapStable s fun t => t.flag F.SIDE_MAP_STABLE = true ∧
      t.flag F.TRN_STATUS_SIDE1_REL = (s.zeroSpeed && (if s.rd F.SIDE_MAP_MAP = 1 then t.flag F.TRN_STATUS_NET_REL_LEFT
        else if s.rd F.SIDE_MAP_MAP = 2 then t.flag F.TRN_STATUS_NET_REL_RIGHT else false)) ∧
      (s.Inv → s.sameBut t [F.SIDE_MAP_STABLE, F.TRN_STATUS_NET_REL_LEFT, F.TRN_STATUS_NET_REL_RIGHT, F.TRN_STATUS_SIDE1_REL, F.TRN_STATUS_SIDE2_REL]) := by
  refine ⟨s.done (sideMapStable s), rfl, ?_⟩
  rw [sideMapStable_of_due h hm ht]
  have stable : (s.setF F.SIDE_MAP_STABLE true).flag F.SIDE_MAP_STABLE = true := setF_flag _ _ _ _ (by decide)
  have map : (s.setF F.SIDE_MAP_STABLE true).rd F.SIDE_MAP_MAP = s.rd F.SIDE_MAP_MAP := wr_rd_bits _ _ _ _ _ _ _ (by decide) (by decide)
  have speed : (s.setF F.SIDE_MAP_STABLE true).zeroSpeed = s.zeroSpeed := flag_congr (reg_setF_other _ _ _ _ (by decide))
  obtain ⟨left, right, side1, -⟩ := sideRelUpdate_reads (s.setF F.SIDE_MAP_STABLE true)
  refine ⟨?_, ?_, fun hi => done_sameBut s _ _ hi ?_ ?_ ?_⟩
  · rw [done_flag _ _ _ (by decide), flag_congr (sideRelUpdate_reg _ (by decide)), stable]
  · rw [done_flag _ _ _ (by decide), done_flag _ _ _ (by decide), done_flag _ _ _ (by decide), side1, left, right, map, State.sidesHeld, speed, stable, map]
    by_cases h1 : s.rd F.SIDE_MAP_MAP = 1
    · simp [h1]
    · by_cases h2 : s.rd F.SIDE_MAP_MAP = 2 <;> simp [h1, h2]
  · exact (sideRelUpdate_hidden _ _).trans (setF_hidden _ _ _ _)
  · exact sideRelUpdate_writes (writes_setF (writes_refl s _) _ _ List.mem_cons_self (by decide)) (by simp)
  · intro f hf
    have ha : f.addr = 0x6008 ∨ f.addr = 0x6004 := by
      simp only [List.mem_cons, List.not_mem_nil, or_false] at hf
      rcases hf with rfl | rfl | rfl | rfl | rfl
      · exact Or.inl rfl
      all_goals exact Or.inr rfl
    rcases ha with e | e <;> rw [e] <;> exact lineReg_invReg (by decide)

theorem sideMapMismatch_runs (s : State) (h : s.alive = true) (hr : s.ran s.trn.misSince 2000 = true) :
    Runs .sideMapMismatch s fun t => t.flag F.SIDE_MAP_MISMATCH = true := by
  refine ⟨s.done (sideMapMismatch s), rfl, (done_flag _ _ _ (by decide)).trans ?_⟩
  unfold sideMapMismatch
  rw [onM_of_alive h, hr, Bool.true_and]
  cases hf : s.flag F.SIDE_MAP_MISMATCH with
  | true => exact hf
  | false => exact (stage_flag _ _ _ _ _ (by decide)).trans (setF_flag _ _ _ _ (by decide))

theorem sideMapMismatchClear_runs (s : State) (h : s.alive = true) (hr : s.ran s.trn.okSince 1000 = true) :
    Runs .sideMapMismatchClear s fun t => t.flag F.SIDE_MAP_MISMATCH = false ∧ (s.Inv → s.sameBut t [F.SIDE_MAP_MISMATCH]) := by
  refine ⟨s.done (sideMapMismatchClear s), rfl, ?_⟩
  have e : sideMapMismatchClear s = s.setF F.SIDE_MAP_MISMATCH false := by
    unfold sideMapMismatchClear
    rw [onM_of_alive h, hr]
    rfl
  rw [e]
  exact lineFlag_shown s 0x6008 7 false (by decide) (by decide)

end Sys2Proof.Machine

/-!
PROOFS. The lock of a doorway and its proving switches (O21).
-/
namespace Sys2Proof.Machine

/-! ## Registers of the lock that a fence request leaves -/

/-- Removing torque writes no register of the lock and the proving switches. -/
theorem torqueReg_lock (d : DIx) (o : Nat) (h : 0x700 ≤ o) : torqueReg d (dw d o) = false := by
  simp only [torqueReg, recReg_window (a := dw d o) (by simp only [dw]; omega), Bool.or_false, Bool.or_eq_false_iff, beq_eq_false_iff_ne, ne_eq,
    List.any_eq_false, beq_iff_eq, Bool.or_eq_true, not_or]
  refine ⟨⟨⟨?_, ?_⟩, ?_⟩, fun x _ => ?_⟩
  iterate 3 simp only [dw]; omega
  have := x.isLt
  refine ⟨⟨?_, ?_⟩, ?_⟩ <;> simp only [dw, ax] <;> omega

theorem outReg_window {a : Nat} (h : 0x10000 ≤ a) : outReg a = false := by
  simp only [outReg, recReg_window h, Bool.or_false, Bool.or_eq_false_iff, beq_eq_false_iff_ne, ne_eq]
  omega

/-- A fence request leaves the proving switches and what else follows LOCK_STATUS, up to the load channels. -/
theorem fenceReg_prove (d : DIx) (o : Nat) (h : 0x704 ≤ o) (h2 : o < 0xB00) : fenceReg d (dw d o) = false := by
  have hch : chanReg d (dw d o) = false := by
    simp only [chanReg, Bool.or_eq_false_iff, beq_eq_false_iff_ne, ne_eq, List.any_eq_false, beq_iff_eq]
    exact ⟨by simp only [dw]; omega, fun k _ => by simp only [dw, ch]; omega⟩
  simp only [fenceReg, hch, torqueReg_lock d o (by omega), outReg_window (a := dw d o) (by simp only [dw]; omega), Bool.or_false, Bool.or_eq_false_iff,
    beq_eq_false_iff_ne, ne_eq]
  exact ⟨by have := d.isLt; simp only [dw]; omega, by simp only [dw]; omega⟩

/-- A field of LOCK_STATUS beside the command, the permit and ON. -/
def lockLatch (d : DIx) (g : Fld) : Prop := g.addr = dw d 0x700 ∧ 3 ≤ g.lo

section
variable {d : DIx} {g : Fld} (hg : lockLatch d g)
include hg

theorem wr_lockLatch (s : State) (f : Fld) (v : Nat) (hf : f.addr ≠ dw d 0x700 ∨ f.lo + f.w ≤ 3) : (s.wr f v).rd g = s.rd g := by
  obtain ⟨ha, hlo⟩ := hg
  rw [rd_wr_ne]
  rcases hf with h | h
  · exact Or.inl (ha ▸ Ne.symm h)
  · exact Or.inr ⟨by omega, Or.inr (by omega)⟩

theorem setF_lockLatch (s : State) (f : Fld) (b : Bool) (hf : f.addr ≠ dw d 0x700 ∨ f.lo + f.w ≤ 3) : (s.setF f b).rd g = s.rd g :=
  wr_lockLatch hg s f _ hf

theorem setCh_lockLatch (s : State) (k : KIx) (n : Nat) : (s.setCh d k n).rd g = s.rd g := by
  have status : ∀ lo w, (⟨ch d k 0x8, lo, w⟩ : Fld).addr ≠ dw d 0x700 := fun _ _ => by simp only [dw, ch]; omega
  unfold State.setCh
  extract_lets was t1 t2 t3
  have e1 : t1.rd g = s.rd g := wr_lockLatch hg _ _ _ (Or.inl (status 0 3))
  have e2 : t2.rd g = t1.rd g := ite_keeps (State.rd · g) _ _ _ _ (modCh_rd _ _ _ _ _) rfl
  have e3 : t3.rd g = t2.rd g := when_keeps (State.rd · g) _ _ _ (setF_lockLatch hg _ _ _ (Or.inl (status _ _)))
  refine (when_keeps (State.rd · g) _ _ _ ?_).trans (e3.trans (e2.trans e1))
  exact (modLock_rd _ _ _ _).trans (setF_lockLatch hg _ _ _ (Or.inr (by simp)))

theorem evalCh_lockLatch (s : State) (k : KIx) : (s.evalCh d k).rd g = s.rd g := by
  have w : ∀ (t : State) (c : Bool) (n : Nat), (t.when c (fun u => u.setCh d k n)).rd g = t.rd g :=
    fun t c n => when_keeps (State.rd · g) t c _ (setCh_lockLatch hg _ _ _)
  unfold State.evalCh
  extract_lets cmd t st armed
  have e : t.rd g = s.rd g := setF_lockLatch hg _ _ _ (Or.inl (by simp only [dw, ch]; omega))
  refine ite_keeps (State.rd · g) _ _ _ _ e ?_
  refine ite_keeps (State.rd · g) _ _ _ _ ((w _ _ _).trans e) ?_
  refine ite_keeps (State.rd · g) _ _ _ _ ((setCh_lockLatch hg _ _ _).trans e) ?_
  refine ite_keeps (State.rd · g) _ _ _ _ e ?_
  refine ite_keeps (State.rd · g) _ _ _ _ ((w _ _ _).trans e) ?_
  exact ite_keeps (State.rd · g) _ _ _ _ ((w _ _ _).trans e) ((w _ _ _).trans e)

theorem lockDrop_lockLatch (s : State) : (s.lockDrop d).rd g = s.rd g := by
  unfold State.lockDrop
  refine ite_keeps (State.rd · g) _ _ _ _ ?_ rfl
  extract_lets was t
  refine (foldl_keeps (State.rd · g) _ _ (fun u k _ => evalCh_lockLatch hg u k) _).trans ?_
  refine (when_keeps (State.rd · g) _ _ _ (by rw [modCyc_rd, modSeq_rd])).trans ?_
  exact (setF_lockLatch hg _ _ _ (Or.inr (by simp))).trans (setF_lockLatch hg _ _ _ (Or.inr (by simp)))

theorem stage_lockLatch (s : State) (c e : Nat) (ws : List Nat) : (s.stage c e ws).rd g = s.rd g :=
  stage_rd _ _ _ _ _ (recReg_window (by rw [hg.1]; simp only [dw]; omega))

/-- A fence request drops the lock's command and permit, and leaves what has latched. -/
theorem fence_lockLatch (s : State) (n : Nat) : (s.fence d n).rd g = s.rd g := by
  have ha : g.addr = dw d 0x700 := hg.1
  have low : ∀ f : Fld, f.addr = 0x3100 + d.val * 4 → f.addr ≠ dw d 0x700 := fun f hf => by have := d.isLt; rw [hf]; simp only [dw]; omega
  unfold State.fence
  refine ite_keeps (State.rd · g) _ _ _ _ rfl ?_
  extract_lets t1 t2 t3 t4
  have e1 : t1.rd g = s.rd g := wr_lockLatch hg _ _ _ (Or.inl (low _ rfl))
  have e2 : t2.rd g = t1.rd g := ite_keeps (State.rd · g) _ _ _ _ rfl
    ((modDwy_rd _ _ _ _).trans ((stage_lockLatch hg _ _ _ _).trans (wr_lockLatch hg _ _ _ (Or.inl (low _ rfl)))))
  have e3 : t3.rd g = t2.rd g := when_keeps (State.rd · g) _ _ _ (modDwy_rd _ _ _ _)
  have e4 : t4.rd g = t3.rd g := (lockDrop_lockLatch hg _).trans (rd_congr (torqueOff_reg _ _ _ (ha ▸ torqueReg_lock d 0x700 (by decide))))
  rw [rd_congr (evalOutputs_reg _ _ (outReg_window (by rw [ha]; simp only [dw]; omega))), setF_lockLatch hg _ _ _ (Or.inl (by simp only [dw]; omega)),
    e4, e3, e2, e1]

theorem fault_lockLatch (s : State) (c : Nat) : (s.fault d c).rd g = s.rd g := by
  have e : (s.inc F.FLT_EVENTS).rd g = s.rd g := wr_lockLatch hg _ _ _ (Or.inl (by simp only [dw]; omega))
  unfold State.fault State.secondFault
  split
  · rw [fence_lockLatch hg, stage_lockLatch hg, e]
  · exact e

end

/-! ## The lock's current (R255) -/

theorem done_lockH (s t : State) (d : DIx) : (s.done t).lockH d = t.lockH d := by
  unfold State.lockH; rw [done_dwy]

/-- LOCK_CUR as a current out of its window leaves it, with its record, and the timer that has run out. -/
theorem lockCur_shown (s : State) (d : DIx) (ws : List Nat) (f : LockH → LockH) :
    (s.done (((s.setF (F.LOCK_STATUS_LOCK_CUR d) true).stage 0x3104 d.val ws).modLock d f)).flag (F.LOCK_STATUS_LOCK_CUR d) = true ∧
    ∃ l, (s.done (((s.setF (F.LOCK_STATUS_LOCK_CUR d) true).stage 0x3104 d.val ws).modLock d f)).lockH d = f l := by
  refine ⟨?_, _, (done_lockH _ _ _).trans (modLock_same _ _ _)⟩
  rw [done_flag_dw _ _ _ _ _ _ (by decide) (by decide), modLock_flag, stage_flag _ _ _ _ _ (recReg_window (by simp only [dw]; omega))]
  exact setF_flag _ _ _ _ (by decide)

theorem lockCurrent_low_runs (s : State) (d : DIx) (h : s.on d = true) (hl : s.ran (s.lockH d).lowSince 20 = true) :
    Runs (.lockCurrent d) s fun t => t.flag (F.LOCK_STATUS_LOCK_CUR d) = true ∧ (t.lockH d).lowSince = none := by
  refine ⟨s.done (lockCurrent d s), rfl, ?_⟩
  have e : lockCurrent d s = ((s.setF (F.LOCK_STATUS_LOCK_CUR d) true).stage 0x3104 d.val [1, s.rd (F.LOCK_STATUS_I_LOCK d)]).modLock d
      (fun l => { l with lowSince := none }) := by
    unfold lockCurrent
    rw [onD_of_on h, if_pos hl]
  obtain ⟨shown, l, hlock⟩ := lockCur_shown s d [1, s.rd (F.LOCK_STATUS_I_LOCK d)] (fun l => { l with lowSince := none })
  rw [e]
  exact ⟨shown, congrArg LockH.lowSince hlock⟩

theorem lockCurrent_high_runs (s : State) (d : DIx) (h : s.on d = true) (hl : s.ran (s.lockH d).lowSince 20 = false)
    (hh : s.ran (s.lockH d).highSince 20 = true) :
    Runs (.lockCurrent d) s fun t => t.flag (F.LOCK_STATUS_LOCK_CUR d) = true ∧ (t.lockH d).highSince = none := by
  refine ⟨s.done (lockCurrent d s), rfl, ?_⟩
  have e : lockCurrent d s = ((s.setF (F.LOCK_STATUS_LOCK_CUR d) true).stage 0x3104 d.val [2, s.rd (F.LOCK_STATUS_I_LOCK d)]).modLock d
      (fun l => { l with highSince := none }) := by
    unfold lockCurrent
    rw [onD_of_on h, if_neg (by rw [hl]; decide), if_pos hh]
  obtain ⟨shown, l, hlock⟩ := lockCur_shown s d [2, s.rd (F.LOCK_STATUS_I_LOCK d)] (fun l => { l with highSince := none })
  rw [e]
  exact ⟨shown, congrArg LockH.highSince hlock⟩

theorem declared_of_on {s : State} {d : DIx} (h : s.on d = true) : s.declared d = true := (Bool.and_eq_true_iff.mp h).2

theorem pairBlind_declared (d : DIx) : PairBlind (fun t => t.declared d) :=
  ⟨⟨fun _ _ _ => rfl, fun _ _ => rfl, fun _ _ _ => rfl, fun _ _ _ => rfl, fun _ _ => rfl, fun _ _ => rfl⟩,
    fun _ _ _ => rfl, fun _ _ => rfl, fun _ _ => rfl, fun _ _ => rfl⟩

/-- A current on a channel commanded off latches STUCK_ON and fences with source 6. -/
theorem lockStuckOn_runs (s : State) (d : DIx) (h : s.on d = true) (hr : s.ran (s.lockH d).stuckSince 10 = true)
    (hn : s.flag (F.LOCK_STATUS_STUCK_ON d) = false) :
    Runs (.lockStuckOn d) s fun t => t.flag (F.LOCK_STATUS_STUCK_ON d) = true ∧ bitOf (t.fenceSet d) 5 = true := by
  have hlatch : lockLatch d (F.LOCK_STATUS_STUCK_ON d) := ⟨rfl, by simp⟩
  obtain ⟨ws, e⟩ : ∃ ws, lockStuckOn d s = (((s.setF (F.LOCK_STATUS_STUCK_ON d) true).fault d 0x3107).fence d 6).stage 0x3107 d.val ws := by
    unfold lockStuckOn
    rw [onD_of_on h, if_pos (by rw [hr, hn]; rfl)]
    exact ⟨_, rfl⟩
  refine ⟨s.done (lockStuckOn d s), rfl, ?_, ?_⟩
  · rw [e, done_flag_dw _ _ _ _ _ _ (by decide) (by decide), State.flag, stage_lockLatch hlatch, fence_lockLatch hlatch, fault_lockLatch hlatch]
    exact setF_flag _ _ _ _ (by decide)
  · have hd := d.isLt
    have hset : (s.done (lockStuckOn d s)).fenceSet d = (((s.setF (F.LOCK_STATUS_STUCK_ON d) true).fault d 0x3107).fence d 6).fenceSet d := by
      rw [e]
      refine (done_rd _ _ _ (gatedReg_low _ ?_ ?_ ?_)).trans (stage_rd _ _ _ _ _ ?_)
      iterate 3 simp only; omega
      simp only [recReg, Bool.or_eq_false_iff, beq_eq_false_iff_ne, ne_eq]
      omega
    have hdecl := ((pairBlind_declared d).fault (s.setF (F.LOCK_STATUS_STUCK_ON d) true) d 0x3107).trans ((pairBlind_declared d).blind.setF s _ _)
    rw [hset]
    exact fence_set _ d 5 (hdecl.trans (declared_of_on h)) (by decide)

/-! ## Plausibility of the proving switches (R258) -/

theorem implausible_rule_lt (s : State) (d : DIx) (i : Nat) : (nth (s.implausible d) i (0, false)).1 < 8 := by
  have key : ∀ l : List (Nat × Bool), (∀ p ∈ l, p.1 < 8) → (nth l i (0, false)).1 < 8 := by
    intro l hl
    unfold nth
    cases hi : l[i]? with
    | none => decide
    | some p => exact hl p (List.mem_of_getElem? hi)
  refine key _ ?_
  unfold State.implausible
  split
  · simp
  · simp

/-- A violation of a rule of plausibility shows with its number. -/
theorem plausErr_reads (s : State) (d : DIx) (i : Nat) :
    (s.plausErr d i).flag (F.PROVE_STATUS_PLAUS_ERR d) = true ∧ (s.plausErr d i).rd (F.PROVE_STATUS_PLAUS_RULE d) = (nth (s.implausible d) i (0, false)).1 := by
  unfold State.plausErr
  extract_lets rule a u v
  have kept : ∀ ws, ((v.fault d 0x3106).stage 0x3106 d.val ws).reg (dw d 0x714) = v.reg (dw d 0x714) := fun ws =>
    (stage_reg _ _ _ _ _ (recReg_window (by simp only [dw]; omega))).trans
      (fault_reg _ _ _ _ (by simp only [dw]; omega) (fenceReg_prove d 0x714 (by decide) (by decide)))
  refine ⟨(flag_congr (kept _)).trans ?_, (rd_congr (kept _)).trans ?_⟩
  · exact (wr_flag_bits _ _ _ _ _ _ _ (by decide) (by decide)).trans (setF_flag _ _ _ _ (by decide))
  · exact (wr_rd _ _ _ _ _ (by decide)).trans (Nat.mod_eq_of_lt (implausible_rule_lt s d i))

theorem switchPlausibility_runs (s : State) (d : DIx) (i : Nat) (h : s.on d = true)
    (hi : (List.range 8).filter (fun i => (nth (s.implausible d) i (0, false)).2 && s.ran (nth (s.lockH d).plausSince i none) 50 &&
      !nth (s.lockH d).plausTold i false) = [i]) :
    Runs (.switchPlausibility d) s fun t => t.flag (F.PROVE_STATUS_PLAUS_ERR d) = true ∧
      t.rd (F.PROVE_STATUS_PLAUS_RULE d) = (nth (s.implausible d) i (0, false)).1 := by
  have e : switchPlausibility d s = s.plausErr d i := by
    unfold switchPlausibility
    rw [onD_of_on h]
    dsimp only
    rw [hi]
    rfl
  obtain ⟨err, rule⟩ := plausErr_reads s d i
  refine ⟨s.done (switchPlausibility d s), rfl, ?_⟩
  rw [e]
  exact ⟨(done_flag_dw _ _ _ _ _ _ (by decide) (by decide)).trans err, (done_rd_dw _ _ _ _ _ _ (by decide) (by decide)).trans rule⟩

/-! ## Isolation switches that differ (R283) -/

theorem isolationDiscrepancy_runs (s : State) (d : DIx) (h : s.on d = true) (hr : s.ran (s.lockH d).isoDiff 500 = true)
    (hn : s.flag (F.PROVE_STATUS_ISO_DISC d) = false) :
    Runs (.isolationDiscrepancy d) s fun t => t.flag (F.PROVE_STATUS_ISO_DISC d) = true ∧ t.flag (F.PROVE_STATUS_ISO d) = false := by
  obtain ⟨ws, e⟩ : ∃ ws, isolationDiscrepancy d s =
      (((s.setF (F.PROVE_STATUS_ISO_DISC d) true).setF (F.PROVE_STATUS_ISO d) false).fault d 0x310B).stage 0x310B d.val ws := by
    unfold isolationDiscrepancy
    rw [onD_of_on h, if_pos (by rw [hr, hn]; rfl)]
    exact ⟨_, rfl⟩
  refine ⟨s.done (isolationDiscrepancy d s), rfl, ?_⟩
  have kept : (s.done (isolationDiscrepancy d s)).reg (dw d 0x714) =
      ((s.setF (F.PROVE_STATUS_ISO_DISC d) true).setF (F.PROVE_STATUS_ISO d) false).reg (dw d 0x714) := by
    rw [e, done_reg _ _ _ (gatedReg_dw d _ (by decide) (by decide)), stage_reg _ _ _ _ _ (recReg_window (by simp only [dw]; omega)),
      fault_reg _ _ _ _ (by simp only [dw]; omega) (fenceReg_prove d 0x714 (by decide) (by decide))]
  refine ⟨(flag_congr kept).trans ?_, (flag_congr kept).trans (setF_flag _ _ _ _ (by decide))⟩
  exact (wr_flag_bits _ _ _ _ _ _ _ (by decide) (by decide)).trans (setF_flag _ _ _ _ (by decide))

/-- Settles O21, clause by clause. -/
theorem locksAndTrainLines : Obligations.LocksAndTrainLines :=
  ⟨lockCurrent_low_runs, lockCurrent_high_runs, lockStuckOn_runs, switchPlausibility_runs, isolationDiscrepancy_runs, trainLineChange_runs,
    zeroSpeedDiscrepancy_runs, depotModeActive_runs, sideMapStable_runs, sideMapMismatch_runs, sideMapMismatchClear_runs⟩

end Sys2Proof.Machine

/-!
PROOFS. The test of the loop and SO outputs (O22).
-/
namespace Sys2Proof.Machine

/-! ## A test of a switch without a count to write to -/

/-- A module that holds authority, 1 ms after BOOT, so that the pulse of switch 0 is over and not checked; its list of stuck-on counts has no entry. -/
def uncountedSwitches : State :=
  ({ State.reset with rail := true, now := msT 1, trn := { State.reset.trn with stuck := [] } } : State).wr F.RP_STATUS_ROLE 3

/-- The slot that conducts leaves the count as it reads without an entry: `setNth` writes no entry that is not there. -/
theorem uncountedSwitches_stuck :
    nth (uncountedSwitches.done (loopTestPulse 0 true uncountedSwitches)).trn.stuck 0 0 = 0 := by decide +kernel

/-- Refutes O22: the clause on a first slot that conducts asks for a count of 1 in every state, and a list of counts without an entry
for switch 0 keeps none. The statement does not ask for the twelve entries that the list has from reset on. -/
theorem not_outputsAreTested : ¬ Obligations.OutputsAreTested := by
  unfold Obligations.OutputsAreTested
  rintro ⟨hpulse, -, -, -⟩
  obtain ⟨t, ht, -, hcount, -⟩ := hpulse uncountedSwitches true (by decide +kernel) (by decide +kernel) (by decide +kernel) (by decide +kernel)
    (Or.inr (by decide +kernel))
  have run : exec (.loopTestPulse 0 true) uncountedSwitches = .next (uncountedSwitches.done (loopTestPulse 0 true uncountedSwitches)) := rfl
  rw [run, Host.Outcome.next.injEq] at ht
  rw [← ht, uncountedSwitches_stuck] at hcount
  exact absurd hcount (by decide)

end Sys2Proof.Machine

/-!
PROOFS. The emergency handle (O23).
-/
namespace Sys2Proof.Machine

/-- What a command is said to leave holds of the state that it answers. -/
theorem runs_next {c : Instr} {s t : State} {P : State → Prop} (hc : exec c s = .next t) (h : Runs c s P) : P t := by
  obtain ⟨u, hu, hP⟩ := h
  rw [hc, Host.Outcome.next.injEq] at hu
  exact hu ▸ hP

/-! ## A handle that keeps its former settings (R306) -/

/-- A module whose doorway 0 holds a latched HANDLE_DISC: its handle was operated as new settings came into force, so that it is still evaluated
under its former inputs and filter; both channels have been open together and are restored. -/
def handleUnderOldSettings : State :=
  let s : State := { State.reset with rail := true, img := { State.reset.img with running := some false, decl := 1 } }
  let s := (s.setF (F.PD_STATUS_H1 0) true).setF (F.PD_STATUS_H2 0) true
  let s := (s.setF (F.PD_STATUS_HANDLE_OP 0) true).setF (F.PD_STATUS_HANDLE_DISC 0) true
  State.reset.done (s.modProt 0 (fun p => { p with handleEdge := true, handleOld := some (2, 3, 50) }))

theorem handleUnderOldSettings_inv : handleUnderOldSettings.Inv := done_inv _ _

theorem handleUnderOldSettings_keeps : (handleUnderOldSettings.prot 0).handleOld = some (2, 3, 50) := by decide +kernel

/-- The handle is restored, so from the command on it is evaluated under its new settings (R306). -/
theorem handleDiscrepancyClear_takes_new_settings :
    ((handleUnderOldSettings.done (handleDiscrepancyClear 0 handleUnderOldSettings)).prot 0).handleOld = none := by decide +kernel

theorem hiddenAs_prot {u t : State} (h : u.hiddenAs t) (d : DIx) : t.prot d = u.prot d := by
  have e := congrArg (State.prot · d) (show ({ t with regs := u.regs } : State) = u from h)
  exact e

/-- Refutes O23: the clause on HANDLE_DISCREPANCY_CLEAR asks that nothing changes behind the registers. The command that restores an operated handle
also ends its evaluation under the former settings (R306): where new settings came into force meanwhile, it forgets the former inputs and filter. -/
theorem not_handleOpensTheLoops : ¬ Obligations.HandleOpensTheLoops := by
  unfold Obligations.HandleOpensTheLoops
  rintro ⟨-, -, -, -, -, hclear⟩
  obtain ⟨-, -, hframe⟩ := runs_next rfl (hclear handleUnderOldSettings 0 (by decide +kernel) (by decide +kernel) (by decide +kernel) (by decide +kernel)
    (by decide +kernel) (by decide +kernel))
  obtain ⟨hidden, -⟩ := hframe handleUnderOldSettings_inv
  have forgotten := handleDiscrepancyClear_takes_new_settings
  rw [hiddenAs_prot hidden, handleUnderOldSettings_keeps] at forgotten
  exact absurd forgotten (by decide)

end Sys2Proof.Machine

/-!
PROOFS. The maintenance guard and two-hand control (O24).
-/
namespace Sys2Proof.Machine

/-! ## A guard that opens while the gate is closed (R296, R422) -/

/-- A module that reads its AUTH line unclaimed while DEN_A of doorway 0 reads high, which no command leaves (R422). The doorway is HELD at standstill
in the depot, its guard reads open, and axis 0 runs a host move under the two-hand condition. -/
def enabledWithoutClaim : State :=
  let s : State := { State.reset with rail := true, img := { State.reset.img with running := some false, decl := 1 } }
  let s := ((s.wr (F.SEQ_STATE 0) SeqState.held.code).setF F.TRN_STATUS_DEPOT true).setF F.TRN_STATUS_ZS_VALID true
  let s := (s.setF (F.PD_CFG_GUARD_EN 0) true).setF (F.PD_STATUS_TH_OK 0) true
  let s := (s.setF (F.AX_STATUS_MOVING 0 0) true).modAx 0 0 (fun x => { x with host := true })
  s.setF (F.DEN_STATUS_DEN_A 0) true

theorem enabledWithoutClaim_denA : enabledWithoutClaim.flag (F.DEN_STATUS_DEN_A 0) = true := by decide +kernel

/-- The gate has the last word after the command, and takes the drive enable low. -/
theorem guardOpen_gated : (enabledWithoutClaim.done (guardOpen 0 enabledWithoutClaim)).flag (F.DEN_STATUS_DEN_A 0) = false := by decide +kernel

/-- Refutes O24: the clause on a guard that opens during a host move under the two-hand condition asks that the drive enables stay as they are in
every state, also in one without the invariant of the outputs: with the AUTH line unclaimed, the gate of R422 that closes every command takes a high
enable low. The statement does not ask for the invariant there. -/
theorem not_guardAndTwoHands : ¬ Obligations.GuardAndTwoHands := by
  unfold Obligations.GuardAndTwoHands
  rintro ⟨-, hheld, -⟩
  obtain ⟨-, -, hden, -⟩ := runs_next rfl (hheld enabledWithoutClaim 0 (by decide +kernel) (by decide +kernel) (by decide +kernel) (by decide +kernel)
    (by decide +kernel) (by decide +kernel))
  rw [guardOpen_gated, enabledWithoutClaim_denA] at hden
  exact absurd hden (by decide)

end Sys2Proof.Machine

/-!
PROOFS. What faults and fences leave of the protective devices behind the registers.
-/
namespace Sys2Proof.Machine

/-! ## What a fault leaves of the protective devices' hidden state -/

section
variable (d : DIx)

/-- A change of a doorway's hidden state beside its protective devices keeps them. -/
theorem modDwy_prot (s : State) (e : DIx) (f : Dwy → Dwy) (h : ∀ x, (f x).prot = x.prot) : (s.modDwy e f).prot d = s.prot d := by
  unfold State.prot
  by_cases he : d = e
  · subst he; rw [modDwy_dwy_same, h]
  · rw [modDwy_dwy_other _ _ _ _ he]

theorem setReg_prot (s : State) (a : Nat) (v : Word) : (s.setReg a v).prot d = s.prot d := Eq.trans rfl rfl
theorem recd_prot (s : State) (r : RecH) : ({ s with recd := r } : State).prot d = s.prot d := Eq.trans rfl rfl
@[simp] theorem wr_prot (s : State) (f : Fld) (v : Nat) : (s.wr f v).prot d = s.prot d := Eq.trans rfl rfl
@[simp] theorem setF_prot (s : State) (f : Fld) (b : Bool) : (s.setF f b).prot d = s.prot d := Eq.trans rfl rfl
@[simp] theorem wrS_prot (s : State) (f : Fld) (v : Int) : (s.wrS f v).prot d = s.prot d := Eq.trans rfl rfl
@[simp] theorem wrSat_prot (s : State) (f : Fld) (v : Nat) : (s.wrSat f v).prot d = s.prot d := Eq.trans rfl rfl
@[simp] theorem inc_prot (s : State) (f : Fld) : (s.inc f).prot d = s.prot d := Eq.trans rfl rfl
@[simp] theorem setBit_prot (s : State) (f : Fld) (i : Nat) (b : Bool) : (s.setBit f i b).prot d = s.prot d := Eq.trans rfl rfl
@[simp] theorem modAx_prot (s : State) (e : DIx) (x : AIx) (f : AxH → AxH) : (s.modAx e x f).prot d = s.prot d := modDwy_prot d s e _ fun _ => rfl
@[simp] theorem modCh_prot (s : State) (e : DIx) (k : KIx) (f : ChH → ChH) : (s.modCh e k f).prot d = s.prot d := modDwy_prot d s e _ fun _ => rfl
@[simp] theorem modDrv_prot (s : State) (e : DIx) (f : DrvH → DrvH) : (s.modDrv e f).prot d = s.prot d := modDwy_prot d s e _ fun _ => rfl
@[simp] theorem modObst_prot (s : State) (e : DIx) (f : ObstH → ObstH) : (s.modObst e f).prot d = s.prot d := modDwy_prot d s e _ fun _ => rfl
@[simp] theorem modSeq_prot (s : State) (e : DIx) (f : SeqH → SeqH) : (s.modSeq e f).prot d = s.prot d := modDwy_prot d s e _ fun _ => rfl
@[simp] theorem modCyc_prot (s : State) (e : DIx) (f : CycH → CycH) : (s.modCyc e f).prot d = s.prot d := modDwy_prot d s e _ fun _ => rfl
@[simp] theorem modLock_prot (s : State) (e : DIx) (f : LockH → LockH) : (s.modLock e f).prot d = s.prot d := modDwy_prot d s e _ fun _ => rfl
@[simp] theorem stage_prot (s : State) (c e : Nat) (ws : List Nat) : (s.stage c e ws).prot d = s.prot d :=
  stage_keeps (State.prot · d) (setReg_prot d) (recd_prot d) s c e ws
@[simp] theorem evalOutputs_prot (s : State) : s.evalOutputs.prot d = s.prot d := evalOutputs_keeps (State.prot · d) (setReg_prot d) (recd_prot d) s
@[simp] theorem evalChans_prot (s : State) (e : DIx) : (s.evalChans e).prot d = s.prot d :=
  evalChans_keeps (State.prot · d) (setReg_prot d) (fun t _ _ _ => modCh_prot d t _ _ _) (fun t _ _ => modLock_prot d t _ _) s e
@[simp] theorem done_prot (s t : State) : (s.done t).prot d = t.prot d := by unfold State.prot; rw [done_dwy]

@[simp] theorem haltAxis_prot (s : State) (e : DIx) (x : AIx) : (s.haltAxis e x).prot d = s.prot d := by
  unfold State.haltAxis; simp

@[simp] theorem denOff_prot (s : State) (e : DIx) : (s.denOff e).prot d = s.prot d := by
  unfold State.denOff
  refine ite_keeps (State.prot · d) _ _ _ _ rfl ?_
  extract_lets t1 t2
  rw [foldl_keeps (State.prot · d) _ _ (fun t x _ => by simp)]
  simp [t2, t1]

@[simp] theorem sto_prot (s : State) (e : DIx) (p f : Nat) : (s.sto e p f).prot d = s.prot d := by
  unfold State.sto
  extract_lets o v0 t1 t2 t3 t4 t5
  have e4 : t4.prot d = s.prot d := by simp [t4, t3, t2, t1]
  have e5 : t5.prot d = t4.prot d := by
    simp only [t5]
    split
    · rfl
    · exact stage_prot _ _ _ _ _
  exact (when_keeps (State.prot · d) _ _ _ (stage_prot _ _ _ _ _)).trans (e5.trans e4)

@[simp] theorem torqueOff_prot (s : State) (e : DIx) : (s.torqueOff e).prot d = s.prot d :=
  ite_keeps (State.prot · d) _ _ _ _ (sto_prot _ _ _ _ _) (denOff_prot _ _ _)

@[simp] theorem lockDrop_prot (s : State) (e : DIx) : (s.lockDrop e).prot d = s.prot d := by
  unfold State.lockDrop
  refine ite_keeps (State.prot · d) _ _ _ _ ?_ rfl
  extract_lets was t
  refine (evalChans_prot _ _ _).trans ((when_keeps (State.prot · d) _ _ _ ?_).trans ?_)
  · simp
  · simp [t]

@[simp] theorem fence_prot (s : State) (e : DIx) (n : Nat) : (s.fence e n).prot d = s.prot d := by
  unfold State.fence
  refine ite_keeps (State.prot · d) _ _ _ _ rfl ?_
  extract_lets t1 t2 t3 t4
  have e1 : t1.prot d = s.prot d := setBit_prot _ _ _ _ _
  have e2 : t2.prot d = s.prot d := ite_keeps (State.prot · d) _ _ _ _ e1 (by
    rw [modDwy_prot, stage_prot, wr_prot, e1]
    exact fun _ => rfl)
  have e3 : t3.prot d = t2.prot d := when_keeps (State.prot · d) _ _ _ (modDwy_prot d t2 e _ fun _ => rfl)
  rw [evalOutputs_prot, setF_prot, lockDrop_prot, torqueOff_prot, e3, e2]

@[simp] theorem fault_prot (s : State) (e : DIx) (c : Nat) : (s.fault e c).prot d = s.prot d := by
  unfold State.fault State.secondFault
  split
  · rw [fence_prot, stage_prot, inc_prot]
  · exact inc_prot _ _ _

end

end Sys2Proof.Machine

/-!
PROOFS. The light curtain (O25).
-/
namespace Sys2Proof.Machine

/-! ## LC_OFF (R301) -/

theorem chanReg_protective (d : DIx) (o : Nat) (h : 0x704 ≤ o) (h2 : o < 0xB00) : chanReg d (dw d o) = false := by
  have hf := fenceReg_prove d o h h2
  simp only [fenceReg, Bool.or_eq_false_iff] at hf
  obtain ⟨⟨⟨-, hchan⟩, -⟩, -⟩ := hf
  exact hchan

/-- A refresh of LC_OFF leaves every other field. -/
theorem lcUpdate_rd (s : State) (d : DIx) {g : Fld} (h : (F.PD_STATUS_LC_OFF d).apart g) : (s.lcUpdate d).rd g = s.rd g :=
  rd_wr_ne _ _ _ _ (h.imp_right fun h => ⟨by simp, h⟩)

theorem lcUpdate_flag (s : State) (d : DIx) {g : Fld} (h : (F.PD_STATUS_LC_OFF d).apart g) : (s.lcUpdate d).flag g = s.flag g :=
  congrArg (· != 0) (lcUpdate_rd s d h)

@[simp] theorem lcUpdate_prot (s : State) (d e : DIx) : (s.lcUpdate d).prot e = s.prot e := setF_prot _ _ _ _

/-- LC_OFF of a Type 4 curtain. -/
theorem lcUpdate_off_type4 (s : State) (d : DIx) (h : s.flag (F.LC_CFG_LC_TYPE d) = false) : (s.lcUpdate d).flag (F.PD_STATUS_LC_OFF d) =
    (!s.flag (F.PD_STATUS_OSSD1 d) || !s.flag (F.PD_STATUS_OSSD2 d) || s.flag (F.PD_STATUS_LC_FAULT d)) := by
  refine (setF_flag _ _ _ _ (by decide)).trans ?_
  rw [h, if_neg Bool.false_ne_true]

/-- LC_OFF of a Type 2 curtain. -/
theorem lcUpdate_off_type2 (s : State) (d : DIx) (h : s.flag (F.LC_CFG_LC_TYPE d) = true) : (s.lcUpdate d).flag (F.PD_STATUS_LC_OFF d) =
    (!s.flag (F.PD_STATUS_OSSD1 d) || s.flag (F.PD_STATUS_LC_TESTING d) || s.flag (F.PD_STATUS_LC_FAULT d)) := by
  refine (setF_flag _ _ _ _ (by decide)).trans ?_
  rw [h, if_pos rfl]

/-- A curtain of either type with a fault is off. -/
theorem lcUpdate_off_of_fault (s : State) (d : DIx) (h : s.flag (F.PD_STATUS_LC_FAULT d) = true) :
    (s.lcUpdate d).flag (F.PD_STATUS_LC_OFF d) = true := by
  cases ht : s.flag (F.LC_CFG_LC_TYPE d)
  · rw [lcUpdate_off_type4 s d ht, h, Bool.or_true]
  · rw [lcUpdate_off_type2 s d ht, h, Bool.or_true]

/-! ## A fault of the curtain comes and goes (R301, R302) -/

/-- A field that only a test of the curtain writes: PD_CTL, LC_TESTING and LC_TEST_OK. -/
def ofTest (d : DIx) (g : Fld) : Prop := g.addr = dw d 0x818 ∨ (g.addr = dw d 0x800 ∧ 20 ≤ g.lo)

theorem ofTest_addr {d : DIx} {g : Fld} (hg : ofTest d g) : ∃ o, 0x704 ≤ o ∧ o < 0xB00 ∧ g.addr = dw d o := by
  rcases hg with h | ⟨h, -⟩
  · exact ⟨_, by decide, by decide, h⟩
  · exact ⟨_, by decide, by decide, h⟩

/-- LC_FAULT and LC_OFF share no bit with the fields of a test. -/
theorem ofTest_apart {d : DIx} {g f : Fld} (hg : ofTest d g) (hf : f.addr = dw d 0x800) (hlo : f.lo + f.w ≤ 20) : f.apart g := by
  rcases hg with h | ⟨-, h⟩
  · exact Or.inl (by rw [h, hf]; simp only [dw]; omega)
  · exact Or.inr (Or.inr (by omega))

/-- A register of the doorway's window does not show standing faults. -/
theorem showStanding_reg (s : State) (d : DIx) {a : Nat} (h : 0x10000 ≤ a) : (s.showStanding d).reg a = s.reg a :=
  reg_setF_other _ _ _ _ (by have := d.isLt; simp only; omega)

/-- LC_FAULT as a curtain fault or its clearing shows it, before LC_OFF follows. -/
def State.lcFaultShown (s : State) (d : DIx) (b : Bool) : State := (s.setF (F.PD_STATUS_LC_FAULT d) b).showStanding d

theorem lcFaultShown_fault (s : State) (d : DIx) (b : Bool) : (s.lcFaultShown d b).flag (F.PD_STATUS_LC_FAULT d) = b :=
  (flag_congr (showStanding_reg _ _ (by simp only [dw]; omega))).trans (setF_flag _ _ _ _ (by decide))

theorem lcFaultShown_rd (s : State) {d : DIx} (b : Bool) {g : Fld} (hg : ofTest d g) : (s.lcFaultShown d b).rd g = s.rd g := by
  obtain ⟨o, -, -, ha⟩ := ofTest_addr hg
  refine (rd_congr (showStanding_reg _ _ (by rw [ha]; simp only [dw]; omega))).trans ?_
  exact rd_wr_ne _ _ _ _ ((ofTest_apart hg (f := F.PD_STATUS_LC_FAULT d) rfl (by simp)).imp_right fun h => ⟨by simp, h⟩)

@[simp] theorem lcFaultShown_prot (s : State) (d : DIx) (b : Bool) (e : DIx) : (s.lcFaultShown d b).prot e = s.prot e :=
  (setF_prot _ _ _ _).trans (setF_prot _ _ _ _)

theorem lcFaultClear_fault (s : State) (d : DIx) : (s.lcFaultClear d).flag (F.PD_STATUS_LC_FAULT d) = false :=
  (lcUpdate_flag _ _ (Or.inr (by simp))).trans (lcFaultShown_fault s d false)

theorem lcFaultClear_rd (s : State) {d : DIx} {g : Fld} (hg : ofTest d g) : (s.lcFaultClear d).rd g = s.rd g :=
  (lcUpdate_rd _ _ (ofTest_apart hg rfl (by simp))).trans (lcFaultShown_rd s false hg)

@[simp] theorem lcFaultClear_prot (s : State) (d e : DIx) : (s.lcFaultClear d).prot e = s.prot e :=
  (lcUpdate_prot _ _ _).trans (lcFaultShown_prot _ _ _ _)

/-- A curtain fault: it is counted, LC_FAULT shows, LC_OFF follows, and it is recorded. -/
theorem lcFaultSet_eq (s : State) (d : DIx) (kind : Nat) : ∃ ws, s.lcFaultSet d kind =
    ((((s.fault d 0x4905).lcFaultShown d true).lcUpdate d).modProt d (fun p => { p with lcSeenOff := false })).stage 0x4905 d.val ws := ⟨_, rfl⟩

theorem lcFaultSet_reg (s : State) (d : DIx) (kind : Nat) {a : Nat} (h : 0x10000 ≤ a) :
    (s.lcFaultSet d kind).reg a = (((s.fault d 0x4905).lcFaultShown d true).lcUpdate d).reg a := by
  obtain ⟨ws, e⟩ := lcFaultSet_eq s d kind
  rw [e, stage_reg _ _ _ _ _ (recReg_window h), modProt_reg]

/-- A curtain fault shows in LC_FAULT and counts as curtain off. -/
theorem lcFaultSet_reads (s : State) (d : DIx) (kind : Nat) :
    (s.lcFaultSet d kind).flag (F.PD_STATUS_LC_FAULT d) = true ∧ (s.lcFaultSet d kind).flag (F.PD_STATUS_LC_OFF d) = true := by
  have kept := lcFaultSet_reg s d kind (a := dw d 0x800) (by simp only [dw]; omega)
  have shown := lcFaultShown_fault (s.fault d 0x4905) d true
  exact ⟨(flag_congr kept).trans ((lcUpdate_flag _ _ (Or.inr (by simp))).trans shown), (flag_congr kept).trans (lcUpdate_off_of_fault _ _ shown)⟩

theorem lcFaultSet_rd (s : State) {d : DIx} (kind : Nat) {g : Fld} (hg : ofTest d g) : (s.lcFaultSet d kind).rd g = s.rd g := by
  obtain ⟨o, h1, h2, ha⟩ := ofTest_addr hg
  have win : 0x10000 ≤ g.addr := by rw [ha]; simp only [dw]; omega
  rw [rd_congr (lcFaultSet_reg s d kind win), lcUpdate_rd _ _ (ofTest_apart hg rfl (by simp)), lcFaultShown_rd _ _ hg]
  exact rd_congr (fault_reg _ _ _ _ (by rw [ha]; simp only [dw]; omega) (ha ▸ fenceReg_prove d o h1 h2))

theorem lcFaultSet_prot (s : State) (d : DIx) (kind : Nat) : (s.lcFaultSet d kind).prot d = { s.prot d with lcSeenOff := false } := by
  obtain ⟨ws, e⟩ := lcFaultSet_eq s d kind
  rw [e, stage_prot, modProt_same, lcUpdate_prot, lcFaultShown_prot, fault_prot]

/-! ## The test of a Type 2 curtain (R302) -/

/-- What the end of a test shows, before LC_OFF and the test channel follow. -/
def State.lcTestShown (s : State) (d : DIx) (ok : Bool) : State :=
  ((s.setF (F.PD_STATUS_LC_TESTING d) false).setF (F.PD_STATUS_LC_TEST_OK d) ok).setF (F.PD_CTL_LC_TEST d) false

theorem lcTestShown_reads (s : State) (d : DIx) (ok : Bool) :
    (s.lcTestShown d ok).flag (F.PD_STATUS_LC_TESTING d) = false ∧ (s.lcTestShown d ok).flag (F.PD_STATUS_LC_TEST_OK d) = ok ∧
    (s.lcTestShown d ok).flag (F.PD_CTL_LC_TEST d) = false := by
  refine ⟨?_, ?_, setF_flag _ _ _ _ (by decide)⟩
  · exact (wr_flag_dw _ _ _ _ _ _ _ _ _ (by decide)).trans ((wr_flag_bits _ _ _ _ _ _ _ (by decide) (by decide)).trans (setF_flag _ _ _ _ (by decide)))
  · exact (wr_flag_dw _ _ _ _ _ _ _ _ _ (by decide)).trans (setF_flag _ _ _ _ (by decide))

theorem runTime_setF (s : State) (f : Fld) (b : Bool) (h : 0x10000 ≤ f.addr) : (s.setF f b).runTime = s.runTime := by
  have e : (s.setF f b).inRun = s.inRun := by
    unfold State.inRun State.modState State.setF
    rw [rd_wr_addr _ _ _ _ (by simp only; omega)]
  unfold State.runTime
  rw [e]
  exact Eq.trans rfl rfl

theorem lcTestShown_runTime (s : State) (d : DIx) (ok : Bool) : (s.lcTestShown d ok).runTime = s.runTime := by
  have win : ∀ o, 0x10000 ≤ dw d o := fun o => by simp only [dw]; omega
  unfold State.lcTestShown
  rw [runTime_setF _ _ _ (win _), runTime_setF _ _ _ (win _), runTime_setF _ _ _ (win _)]

/-- The curtain's timers after a test that has ended; `pass` is the run time of one that has passed. -/
def ProtH.lcTestOver (p : ProtH) (pass : Option Nat) : ProtH :=
  { p with lcKind := 0, lcTestAt := none, lcOffSince := none, lcPassAt := pass.or p.lcPassAt }

theorem lcTestEnd_eq (s : State) (d : DIx) (ok : Bool) : s.lcTestEnd d ok =
    (((s.lcTestShown d ok).modProt d (ProtH.lcTestOver · (if ok then some s.runTime else none))).lcUpdate d).evalChans d := by
  have run := lcTestShown_runTime s d ok
  rw [← run]
  cases ok <;> rfl

/-- The end of a test leaves of its fields what it shows: LC_OFF and the test channel that follow write none of them. -/
theorem lcTestEnd_rd (s : State) {d : DIx} (ok : Bool) {g : Fld} (hg : ofTest d g) : (s.lcTestEnd d ok).rd g = (s.lcTestShown d ok).rd g := by
  obtain ⟨o, h1, h2, ha⟩ := ofTest_addr hg
  rw [lcTestEnd_eq, rd_congr (evalChans_reg _ _ _ (ha ▸ chanReg_protective d o h1 h2)), lcUpdate_rd _ _ (ofTest_apart hg rfl (by simp)), modProt_rd]

theorem lcTestEnd_prot (s : State) (d : DIx) (ok : Bool) :
    (s.lcTestEnd d ok).prot d = (s.prot d).lcTestOver (if ok then some s.runTime else none) := by
  have shown : (s.lcTestShown d ok).prot d = s.prot d := by unfold State.lcTestShown; simp
  rw [lcTestEnd_eq, evalChans_prot, lcUpdate_prot, modProt_same, shown]

theorem ofTest_testing (d : DIx) : ofTest d (F.PD_STATUS_LC_TESTING d) := Or.inr ⟨rfl, Nat.le_refl 20⟩
theorem ofTest_testOk (d : DIx) : ofTest d (F.PD_STATUS_LC_TEST_OK d) := Or.inr ⟨rfl, Nat.le_succ 20⟩
theorem ofTest_request (d : DIx) : ofTest d (F.PD_CTL_LC_TEST d) := Or.inl rfl

theorem flag_of_rd {s t : State} {g : Fld} (h : t.rd g = s.rd g) : t.flag g = s.flag g := congrArg (· != 0) h

/-- A state whose test fields read as the end of a test left them: the test has ended, passed or not. -/
theorem testEnded_reads {s t : State} {d : DIx} {ok : Bool} (h : ∀ g, ofTest d g → t.rd g = (s.lcTestEnd d ok).rd g) :
    t.flag (F.PD_STATUS_LC_TESTING d) = false ∧ t.flag (F.PD_STATUS_LC_TEST_OK d) = ok ∧ t.flag (F.PD_CTL_LC_TEST d) = false := by
  have e : ∀ g, ofTest d g → t.flag g = (s.lcTestShown d ok).flag g := fun g hg => flag_of_rd ((h g hg).trans (lcTestEnd_rd s ok hg))
  obtain ⟨testing, testOk, request⟩ := lcTestShown_reads s d ok
  exact ⟨(e _ (ofTest_testing d)).trans testing, (e _ (ofTest_testOk d)).trans testOk, (e _ (ofTest_request d)).trans request⟩

theorem done_rd_ofTest (s t : State) {d : DIx} {g : Fld} (hg : ofTest d g) : (s.done t).rd g = t.rd g := by
  obtain ⟨o, h1, h2, ha⟩ := ofTest_addr hg
  exact done_rd _ _ _ (ha ▸ gatedReg_dw d o (by omega) (by omega))

/-! ## The commands -/

theorem ossdChange_type4_runs (s : State) (d : DIx) (h : s.on d = true) (hl : s.hasLc d = true) (ht : s.flag (F.LC_CFG_LC_TYPE d) = false)
    (hf : s.flag (F.PD_STATUS_LC_FAULT d) = false) :
    Runs (.ossdChange d) s fun t => t.flag (F.PD_STATUS_LC_OFF d) = !(s.flag (F.PD_STATUS_OSSD1 d) && s.flag (F.PD_STATUS_OSSD2 d)) ∧
      (s.Inv → s.sameBut t [F.PD_STATUS_LC_OFF d]) := by
  have e : ossdChange d s = s.lcUpdate d := by
    unfold ossdChange
    rw [onD_of_on h, if_neg (by rw [hl]; decide)]
    dsimp only
    rw [lcUpdate_flag _ _ (Or.inl (by simp only [dw]; omega)), lcUpdate_flag _ _ (Or.inr (by simp)), ht, hf]
    rfl
  refine ⟨_, rfl, ?_, fun hi => ?_⟩
  · rw [e, done_flag_dw _ _ _ _ _ _ (by decide) (by decide), lcUpdate_off_type4 s d ht, hf, Bool.or_false, Bool.not_and]
  · rw [e]
    refine done_sameBut _ _ _ hi (setF_hidden _ _ _ _) (writes_setF (writes_refl s _) _ _ (List.mem_singleton_self _) (by simp)) fun f hm => ?_
    rw [List.mem_singleton.mp hm]
    exact invReg_dw d 0x800 (by decide) (by decide) (by decide)

/-- Step 4 of a test: the OSSD is on again, the test has passed and LC_FAULT clears. -/
theorem ossdChange_pass_runs (s : State) (d : DIx) (h : s.on d = true) (hl : s.hasLc d = true) (ht : s.flag (F.LC_CFG_LC_TYPE d) = true)
    (hk : (s.prot d).lcKind = 2) (ho : s.flag (F.PD_STATUS_OSSD1 d) = true) :
    Runs (.ossdChange d) s fun t => t.flag (F.PD_STATUS_LC_TESTING d) = false ∧ t.flag (F.PD_STATUS_LC_TEST_OK d) = true ∧
      t.flag (F.PD_STATUS_LC_FAULT d) = false ∧ t.flag (F.PD_CTL_LC_TEST d) = false ∧ (t.prot d).lcPassAt = some s.runTime ∧ (t.prot d).lcKind = 0 := by
  have e : ossdChange d s = ((s.lcUpdate d).lcTestEnd d true).lcFaultClear d := by
    unfold ossdChange
    rw [onD_of_on h, if_neg (by rw [hl]; decide)]
    dsimp only
    rw [lcUpdate_flag _ _ (Or.inl (by simp only [dw]; omega)), ht, if_pos rfl, lcUpdate_prot, hk]
    exact if_pos ho
  have run : (s.lcUpdate d).runTime = s.runTime := runTime_setF _ _ _ (by simp only [dw]; omega)
  have kept : ∀ g, ofTest d g → (s.done (ossdChange d s)).rd g = ((s.lcUpdate d).lcTestEnd d true).rd g :=
    fun g hg => by rw [done_rd_ofTest _ _ hg, e, lcFaultClear_rd _ hg]
  have hprot : (s.done (ossdChange d s)).prot d = ((s.lcUpdate d).lcTestEnd d true).prot d := by rw [done_prot, e, lcFaultClear_prot]
  obtain ⟨testing, testOk, request⟩ := testEnded_reads kept
  refine ⟨_, rfl, testing, testOk, ?_, request, ?_, ?_⟩
  · rw [done_flag_dw _ _ _ _ _ _ (by decide) (by decide), e, lcFaultClear_fault]
  · rw [hprot, lcTestEnd_prot, run]; rfl
  · rw [hprot, lcTestEnd_prot]; rfl

/-- A command that sets a curtain fault: LC_FAULT shows and the curtain is off. -/
theorem done_lcFaultSet_reads (s u : State) (d : DIx) (kind : Nat) :
    (s.done (u.lcFaultSet d kind)).flag (F.PD_STATUS_LC_FAULT d) = true ∧ (s.done (u.lcFaultSet d kind)).flag (F.PD_STATUS_LC_OFF d) = true := by
  rw [done_flag_dw _ _ _ _ _ _ (by decide) (by decide), done_flag_dw _ _ _ _ _ _ (by decide) (by decide)]
  exact lcFaultSet_reads u d kind

theorem lcDiscrepancy_runs (s : State) (d : DIx) (t0 : Nat) (h : s.on d = true) (hl : s.hasLc d = true) (ht : s.flag (F.LC_CFG_LC_TYPE d) = false)
    (hd : (s.prot d).lcDiff = some t0) (hp : t0 + s.lcDisc d < s.now) (hf : s.flag (F.PD_STATUS_LC_FAULT d) = false) :
    Runs (.lcDiscrepancy d) s fun t => t.flag (F.PD_STATUS_LC_FAULT d) = true ∧ t.flag (F.PD_STATUS_LC_OFF d) = true := by
  have e : lcDiscrepancy d s = s.lcFaultSet d 1 := by
    unfold lcDiscrepancy
    rw [onD_of_on h, hd]
    exact if_pos (by rw [hl, ht, decide_eq_true hp, hf]; rfl)
  exact ⟨_, rfl, e ▸ done_lcFaultSet_reads s s d 1⟩

theorem lcTestOverdue_runs (s : State) (d : DIx) (h : s.on d = true) (hl : s.hasLc d = true) (ht : s.flag (F.LC_CFG_LC_TYPE d) = true)
    (hr : s.inRun = true) (hlate : s.lcLate d = true) (hf : s.flag (F.PD_STATUS_LC_FAULT d) = false) :
    Runs (.lcTestOverdue d) s fun t => t.flag (F.PD_STATUS_LC_FAULT d) = true ∧ t.flag (F.PD_STATUS_LC_OFF d) = true := by
  have e : lcTestOverdue d s = s.lcFaultSet d 4 := (onD_of_on h _).trans (if_pos (by rw [hl, ht, hr, hlate, hf]; rfl))
  exact ⟨_, rfl, e ▸ done_lcFaultSet_reads s s d 4⟩

/-- A test that fails at step 2 or step 4 ends, and is a fault of its kind. -/
theorem lcTestFailed_runs (s : State) (d : DIx) (kind : Nat) (e : lcTestResponseTimeout d s = (s.lcTestEnd d false).lcFaultSet d kind) :
    Runs (.lcTestResponseTimeout d) s fun t => t.flag (F.PD_STATUS_LC_FAULT d) = true ∧ t.flag (F.PD_STATUS_LC_OFF d) = true ∧
      t.flag (F.PD_STATUS_LC_TESTING d) = false ∧ t.flag (F.PD_STATUS_LC_TEST_OK d) = false ∧ t.flag (F.PD_CTL_LC_TEST d) = false ∧
      (t.prot d).lcKind = 0 := by
  have kept : ∀ g, ofTest d g → (s.done (lcTestResponseTimeout d s)).rd g = (s.lcTestEnd d false).rd g :=
    fun g hg => by rw [done_rd_ofTest _ _ hg, e, lcFaultSet_rd _ _ hg]
  obtain ⟨fault, off⟩ := done_lcFaultSet_reads s (s.lcTestEnd d false) d kind
  obtain ⟨testing, testOk, request⟩ := testEnded_reads kept
  refine ⟨_, rfl, e ▸ fault, e ▸ off, testing, testOk, request, ?_⟩
  rw [done_prot, e, lcFaultSet_prot, lcTestEnd_prot]
  rfl

/-- Step 2: the OSSD has not gone off within LC_TEST_RESP. -/
theorem lcTestResponseTimeout_of_noResponse {s : State} {d : DIx} (h : s.on d = true) (hk : (s.prot d).lcKind = 1)
    (hr : s.ran (s.prot d).lcTestAt (s.rd (F.LC_CFG_LC_TEST_RESP d)) = true) :
    lcTestResponseTimeout d s = (s.lcTestEnd d false).lcFaultSet d 2 := by
  unfold lcTestResponseTimeout
  rw [onD_of_on h]
  dsimp only
  rw [hk]
  exact if_pos hr

/-- Step 4: the OSSD has not come back within 200 ms. -/
theorem lcTestResponseTimeout_of_noRecovery {s : State} {d : DIx} (h : s.on d = true) (hk : (s.prot d).lcKind = 2)
    (hr : s.ran (s.prot d).lcOffSince 200 = true) :
    lcTestResponseTimeout d s = (s.lcTestEnd d false).lcFaultSet d 3 := by
  unfold lcTestResponseTimeout
  rw [onD_of_on h]
  dsimp only
  rw [hk]
  exact if_pos hr

/-- Step 1 of a test shows LC_TESTING and holds the curtain off. -/
def State.lcTestBegun (s : State) (d : DIx) : State :=
  (s.setF (F.PD_STATUS_LC_TESTING d) true).modProt d (fun p => { p with lcKind := 1, lcTestAt := some s.now })

theorem lcTestBegun_testing (s : State) (d : DIx) : (s.lcTestBegun d).flag (F.PD_STATUS_LC_TESTING d) = true :=
  (modProt_flag _ _ _ _).trans (setF_flag _ _ _ _ (by decide))

theorem lcTestStart_eq {s : State} {d : DIx} (hl : s.hasLc d = true) (ht : s.flag (F.LC_CFG_LC_TYPE d) = true)
    (hn : s.flag (F.PD_STATUS_LC_TESTING d) = false) : s.lcTestStart d = ((s.lcTestBegun d).lcUpdate d).evalChans d :=
  if_pos (by rw [hl, ht, hn]; rfl)

theorem lcTest_runs (s : State) (d : DIx) (h : s.on d = true) (hl : s.hasLc d = true) (ht : s.flag (F.LC_CFG_LC_TYPE d) = true)
    (hn : s.flag (F.PD_STATUS_LC_TESTING d) = false) :
    Runs (.lcTest d) s fun t => t.flag (F.PD_CTL_LC_TEST d) = true ∧ t.flag (F.PD_STATUS_LC_TESTING d) = true ∧
      t.flag (F.PD_STATUS_LC_OFF d) = true ∧ (t.prot d).lcKind = 1 ∧ (t.prot d).lcTestAt = some s.now := by
  have e : lcTest d s = (s.lcTestStart d).setF (F.PD_CTL_LC_TEST d) ((s.lcTestStart d).flag (F.PD_STATUS_LC_TESTING d)) := onD_of_on h _
  have kept : (s.lcTestStart d).reg (dw d 0x800) = ((s.lcTestBegun d).lcUpdate d).reg (dw d 0x800) := by
    rw [lcTestStart_eq hl ht hn, evalChans_reg _ _ _ (chanReg_protective d _ (by decide) (by decide))]
  have testing : (s.lcTestStart d).flag (F.PD_STATUS_LC_TESTING d) = true :=
    (flag_congr kept).trans ((lcUpdate_flag _ _ (Or.inr (by simp))).trans (lcTestBegun_testing s d))
  have type2 : (s.lcTestBegun d).flag (F.LC_CFG_LC_TYPE d) = true :=
    (modProt_flag _ _ _ _).trans ((wr_flag_dw _ _ _ _ _ _ _ _ _ (by decide)).trans ht)
  have off : (s.lcTestStart d).flag (F.PD_STATUS_LC_OFF d) = true := by
    rw [flag_congr kept, lcUpdate_off_type2 _ _ type2, lcTestBegun_testing, Bool.or_true, Bool.true_or]
  have hprot : (s.done (lcTest d s)).prot d = { s.prot d with lcKind := 1, lcTestAt := some s.now } := by
    rw [done_prot, e, setF_prot, lcTestStart_eq hl ht hn, evalChans_prot, lcUpdate_prot]
    exact (modProt_same _ _ _).trans (by rw [setF_prot])
  have shown : ∀ lo, (s.done (lcTest d s)).flag ⟨dw d 0x800, lo, 1⟩ = (s.lcTestStart d).flag ⟨dw d 0x800, lo, 1⟩ := fun lo => by
    rw [done_flag_dw _ _ _ _ _ _ (by decide) (by decide), e]
    exact wr_flag_dw _ _ _ _ _ _ _ _ _ (by decide)
  refine ⟨_, rfl, ?_, (shown _).trans testing, (shown _).trans off, by rw [hprot], by rw [hprot]⟩
  rw [done_flag_dw _ _ _ _ _ _ (by decide) (by decide), e, testing]
  exact setF_flag _ _ _ _ (by decide)

/-- Settles O25, clause by clause. -/
theorem curtainIsTested : Obligations.CurtainIsTested :=
  ⟨ossdChange_type4_runs, ossdChange_pass_runs, lcDiscrepancy_runs, lcTest_runs,
    fun s d h hk hr => lcTestFailed_runs s d 2 (lcTestResponseTimeout_of_noResponse h hk hr),
    fun s d h hk hr => lcTestFailed_runs s d 3 (lcTestResponseTimeout_of_noRecovery h hk hr), lcTestOverdue_runs⟩

end Sys2Proof.Machine
